-- ==== Sys2Proof/Word.lean ====
section
/-! DEFINITION. The word types of the Kizetor: register words, message words, samples,
coefficients and the numbers that name masters, nodes and tags. -/

namespace Sys2Proof

/-- A 32-bit register, message or memory word. -/
abbrev Word := BitVec 32
/-- One byte of memory, of an image or of a datagram. -/
abbrev Byte := BitVec 8
/-- A Q1.23 sample (R123) or a 24-bit lane of a core (R143). -/
abbrev Sample := BitVec 24
/-- A 56-bit accumulator lane of a core (R143). -/
abbrev Acc := BitVec 56
/-- A 6-bit master ID (R100). -/
abbrev Master := BitVec 6

end Sys2Proof
end

