-- ==== Sys2Proof/Syntax.lean ====
section
/-! DEFINITION. The commands of the Kizetor: one constructor of `Instr` for each row of
spec/opcode_table.json. The table gives its rows no operand bits; the operands below are what the
rule of each row names (the writer and the value of a register write, the payload of a Silwen
command, the pin, port, channel or frame of an event, what an event measures outside the chip). -/

namespace Sys2Proof

/-- Who sends a Silwen command: a host master (R100) or a remote node (R447). -/
inductive Sender where
  | master (m : Master)
  | node (n : BitVec 16)
deriving DecidableEq, Repr

/-- A Silwen command message as the firmware takes it (R110): who sent it, its tag, and its
payload words w1 to wL. -/
structure Cmd where
  sender : Sender
  tag : BitVec 8
  words : List Word
deriving DecidableEq, Repr

/-- The two memory slots of a bundle (R158). -/
inductive MSlot where
  | m0
  | m1
deriving DecidableEq, Repr

/-- Where an operation of a core runs: the core (0–47) and whether it is the last operation of its
bundle. Operations of one bundle are given one after another; only the last carries `last`. -/
structure At where
  core : Fin 48
  last : Bool
deriving DecidableEq, Repr

/-- The fields of a vector multiply (format VM of R159). -/
structure VM where
  aa : Fin 8
  dx : Fin 32
  dy : Fin 32
  bcast : Bool
  k : Fin 8
deriving DecidableEq, Repr

/-- The fields of a lane operation (format VA of R159). -/
structure VA where
  dd : Fin 32
  dx : Fin 32
  dy : Fin 32
  f : Fin 8
deriving DecidableEq, Repr

/-- The fields of an accumulator operation (format VX of R159); `s` is the 3-bit shift field,
read as two's complement (−4 to +3). -/
structure VX where
  aa : Fin 8
  ab : Fin 8
  dd : Fin 32
  s : BitVec 3
deriving DecidableEq, Repr

/-- The address part of a memory-slot operation (R151, R161): the slot, the pointer and the mode. -/
structure Mem where
  slot : MSlot
  pp : Fin 16
  md : Fin 4
deriving DecidableEq, Repr

/-- What a PTP frame says, as far as the rules read it (R289–R298). -/
inductive PtpKind where
  | sync | followUp | delayReq | delayResp | pdelayReq | pdelayResp | announce | signaling | management
deriving DecidableEq, Repr

/-- What a received or sent frame carries, as far as the switch classifies it (R262–R270). -/
inductive Payload where
  /-- MAC control with the opcode and, for a PAUSE, the pause time (R268, R270). -/
  | macControl (opcode : BitVec 16) (quanta : BitVec 16)
  /-- PTP, over Ethernet or IPv4 UDP 319/320, with its correctionField in 2⁻¹⁶ ns (R295). -/
  | ptp (kind : PtpKind) (udp : Bool) (domain : BitVec 8) (corr : Int)
  /-- IPv4 UDP: addresses, destination port, DSCP, RTP payload type and timestamp, and the samples,
  one list of channel values for each sample group. -/
  | rtp (srcIp dstIp : Word) (port : BitVec 16) (dscp : BitVec 6) (optionsOrFragment : Bool)
      (pt : BitVec 7) (ts : Word) (seq : BitVec 16) (samples : List (List Sample))
  /-- ARP, ICMP or IGMP for the Kizetor, or IPv4 UDP to or from a port (R262). -/
  | control (udpPort : Option (BitVec 16))
  /-- An IGMP query: whether its querier speaks IGMPv2, and the group asked for, 0 for all (R261). -/
  | igmpQuery (v2 : Bool) (group : Word)
  /-- Another IPv4 frame with its DSCP. -/
  | ipv4 (dscp : BitVec 6)
  /-- Any other frame (IPv6 included). -/
  | other (ethertype : BitVec 16)
deriving DecidableEq, Repr

/-- An IEEE 802.1Q tag (R267). -/
structure VlanTag where
  tpid : BitVec 16
  pcp : BitVec 3
  dei : Bool
  vid : BitVec 12
deriving DecidableEq, Repr

/-- A frame at a network port: addresses, length in bytes, FCS and checksum results, tag, payload, and
on a T1S port whether the pair is reversed and not yet corrected (R286). -/
structure Frame where
  src : BitVec 48
  dst : BitVec 48
  len : Nat
  fcsOk : Bool
  ipCsumOk : Bool
  udpCsumZeroOrOk : Bool
  tag : Option VlanTag
  payload : Payload
  reversed : Bool := false
deriving DecidableEq, Repr

/-- The words a pass of the scrubber meets beside what it corrects in the bank: those found bad, and those of the
cores' local memories corrected since the pass before (R142, R403). -/
structure ScrubWords where
  bad : List (BitVec 40)
  fixed : List (BitVec 40)
deriving DecidableEq, Repr

/-- The levels of FS and DIN at the two edges of one bit clock (R236). -/
structure PinClk where
  fsRise : Bool
  dinRise : Bool
  fsFall : Bool
  dinFall : Bool
deriving DecidableEq, Repr

/-- One TDM frame at a port's pins (R236–R253), taken at its active FS edge: the level of FS before, the pins at
each bit clock from there on, to one past the next active edge where slot 0 begins late, the length of the frame in
units of 2⁻³² ns, and for the buffers between an asynchronous port and its converters whether a reader found no
frame or a writer no space (R252). -/
structure TdmFrame where
  fsBefore : Bool
  clocks : List PinClk
  len : Nat
  inUnder : Bool
  inOver : Bool
  outUnder : Bool
  outOver : Bool
deriving DecidableEq, Repr

/-- What the supervision of one amplifier channel measured over one interval (R324, R337–R344): whether it was disturbed;
at PF the line voltage in units of 2⁻²³ of feedback full scale, and the line current across Rsense-O in µV, in phase
with it and in quadrature; the earth node at PF in µV at its input; of a loop-through tone the voltage at end B
and the current at end A in the same units; and the lowest and highest switching frequency in kHz. -/
structure LineMeas where
  ch : Fin 32
  disturbed : Bool
  v : Nat
  iRe : Int
  iIm : Int
  earth : Nat
  toneV : Nat
  toneI : Nat
  flo : BitVec 12
  fhi : BitVec 12
deriving DecidableEq, Repr

/-- What the supervision of one rail group measured over one interval (R340): the DC voltage of its earth node and
VDDA_33, in mV. -/
structure GroupMeas where
  g : Fin 4
  v : Nat
  vdda : Nat
deriving DecidableEq, Repr

/-- One measured reference candidate (R300): whether it is present, and its frequency offset in
units of 0.1 ppm. -/
structure CandMeas where
  present : Bool
  fofs : Int
deriving DecidableEq, Repr

/-- The measured values a round tick brings from the analogue inputs (R330–R332): for each
channel the product of line voltage and current over the round in mW, for each rail group VRAIL_SNS in mV. -/
structure RoundMeas where
  power : List Nat
  vrail : List Nat
deriving DecidableEq, Repr

/-- The result of one sweep point on one channel (R345, R346): |Z| in 0.01 Ω and its phase in 0.1°. -/
structure PointMeas where
  ch : Fin 32
  invalid : Bool
  zmag : BitVec 24
  zph : BitVec 12
deriving DecidableEq, Repr

/-- One input of a synchronised pair as its record carries it (R356): source index and samples. -/
structure InputRec where
  src : Nat
  samples : List Sample
deriving DecidableEq, Repr

/-- What a DECIDE record says of one input selector (R24–R29, R356): FOSTAT's PLOST, BLOST, HELD, HOLDING and SEL,
FOCNT, and the fade under way: the sample it starts at before the record's Stile, its length, and the position it
starts from, num/den. -/
structure SelRec where
  strip : Fin 1024
  plost : Bool
  blost : Bool
  held : Bool
  holding : Bool
  sel : Fin 4
  count : BitVec 16
  run : Option (Nat × Nat × Nat × Nat)
deriving DecidableEq, Repr

/-- The pair of an output converter in a DECIDE record (R250). -/
structure PairRec where
  conv : Fin 32
  ratio : Word
  pos : Int
deriving DecidableEq, Repr

/-- The contents of a DECIDE record that a standby applies (R356): sources flagged lost, the decisions of the
input selectors, stream states and port states by number, the pairs of the output converters, a time step's MTI,
and the patch requests started: entry, sample it starts at before the record's Stile. -/
structure DecideRec where
  ok : Bool
  lostSources : List Nat
  selector : List SelRec
  streams : List (Nat × Nat)
  ports : List (Nat × Nat)
  pairs : List PairRec
  stepMti : Option Nat
  patches : List (Nat × Nat)
deriving DecidableEq, Repr

/-- The units of R413 by their code in a fault record (R419). -/
inductive UnitKind where
  | core | cluster | summing | patch | tdm | amp | net | tandem | engine
deriving DecidableEq, Repr

/-- The contents of an END record (R203, R356, R361, R362): the handles missed and those released through event slots,
the reactions at L2 and L3 that change an output (R417), the digest, the blocks of the state chunk with their
addresses, the module states of the chunk by their keys, the place of its first byte in the image, and the size of the
image in bytes. -/
structure EndRec where
  ok : Bool
  misses : List Nat
  released : List Nat
  reactions : List (UnitKind × Nat × Nat)
  digest : BitVec 64
  chunk : List (BitVec 40 × List Byte)
  states : List (Nat × List Int)
  pos : Nat
  image : Nat
deriving DecidableEq, Repr

/-- How an entry of a Hamper ramps: not at all, on a named Trail, or over a duration in units of
0.01 ms with a shape, for which the firmware allocates a Trail (R62, R77, R450). -/
inductive Ramp where
  | none
  | trail (t : Nat)
  | dur (units : Nat) (shape : Nat)
deriving DecidableEq, Repr

/-- One entry of a Hamper (R62), with the FIR words taken with it (R224) and whether it comes from a
STREAM_REMOVE, which frees the handle (R457); `raw` marks an expert-level entry (R62, R462), `dflt` one
whose ramp is its command's default (R78). -/
structure Entry where
  tgt : Nat
  obj : Nat
  fld : Nat
  ramp : Ramp
  val : Word
  aux : Word := 0
  coefs : List Word := []
  remove : Bool := false
  raw : Bool := false
  dflt : Bool := false
deriving DecidableEq, Repr

/-- What a copied item of R357 carries. -/
inductive CopyItem where
  /-- A Hamper with its planned Stile, and the sender, tag and command code that wait for it. -/
  | hamper (hid : BitVec 16) (stile : Nat) (entries : List Entry)
      (owner : Option (Sender × BitVec 8 × BitVec 16))
  /-- A command that changes configuration, with its bulk data. -/
  | command (code : BitVec 16) (c : Cmd) (data : List Byte)
  | poke (addr : BitVec 40) (data : List Word)
  | clusterWord (ch : Fin 32) (w : Fin 64) (v : Word)
  | tags (sender : Sender) (tags : List (BitVec 8 × BitVec 16))
deriving DecidableEq, Repr

/-- A DMA descriptor (R394): ranges by internal address, and whether a read met poison. -/
structure DmaDesc where
  src : BitVec 40
  dst : BitVec 40
  len : Nat
deriving DecidableEq, Repr

/-- The outcome of a T1S transmission attempt (R285). -/
inductive T1sResult where
  | sent (collisions : Nat)
  | excessive
  | late (collisions : Nat)
deriving DecidableEq, Repr

/-- The dataset of an Announce (R298): the grandmaster's identity, none where it is this Kizetor itself, with its
priorities, clock quality and time source, and stepsRemoved. -/
structure GmData where
  identity : Option (BitVec 64)
  prio1 : BitVec 8
  clockClass : BitVec 8
  accuracy : BitVec 8
  variance : BitVec 16
  prio2 : BitVec 8
  steps : Nat
  timeSource : BitVec 8
deriving DecidableEq, Repr

/-- The state of a PTP port as the BMCA decides it (R290). -/
inductive PtpPort where
  | disabled | listening | slave | master | passive
deriving DecidableEq, Repr

/-- THE COMMANDS: one constructor for each row of spec/opcode_table.json, in the table's order. -/
inductive Instr where
  -- resets and boot (R435–R445)
  | porst (bootSel : BitVec 2)
  | sysrst (bootSel : BitVec 2)
  | tempMeasure (tj : BitVec 16)
  | bootImageVerify (flash : List Byte)
  | pcieDownloadPost (len : Word)
  | spiDownloadMessage (words : List Word)
  | firmwareStart
  | engineStartBoot
  | tamperWipe
  | tamperWipeDone
  -- Silwen: system, power, time (R455, R456)
  | hello (c : Cmd)
  | getInfo (c : Cmd)
  | resetEngine (c : Cmd)
  | setNode (c : Cmd)
  | getLatency (c : Cmd)
  | setPace (c : Cmd)
  | sleep (c : Cmd)
  | getPower (c : Cmd)
  | setBankPower (c : Cmd)
  | getTime (c : Cmd)
  | setClockMode (c : Cmd)
  | setRefPriority (c : Cmd)
  | realign (c : Cmd)
  | setEngineRate (c : Cmd)
  | setRound (c : Cmd)
  | captureCfgConfigure (c : Cmd)
  | captureCfgRead (c : Cmd)
  -- Silwen: network (R457)
  | netPortCfg (c : Cmd)
  | streamRxAdd (c : Cmd)
  | streamTxAdd (c : Cmd)
  | streamRemove (c : Cmd)
  | ptpCfg (c : Cmd)
  | t1sCfg (c : Cmd)
  -- Silwen: routing, summing, modules (R459, R460)
  | route (c : Cmd)
  | routeBackup (c : Cmd)
  | getRoute (c : Cmd)
  | setSend (c : Cmd)
  | setMatrix (c : Cmd)
  | setBusHeadroom (c : Cmd)
  | setParam (c : Cmd)
  | getParam (c : Cmd)
  | loadModule (c : Cmd)
  | place (c : Cmd)
  -- Silwen: Hampers and scenes (R461)
  | hamperOpen (c : Cmd)
  | hamperAdd (c : Cmd)
  | hamperClose (c : Cmd)
  | hamperCancel (c : Cmd)
  | sceneRecall (c : Cmd)
  | armAlarm (c : Cmd)
  | hamperRaw (c : Cmd)
  -- Silwen: ports, amplifiers, tandem (R465)
  | tdmCfg (c : Cmd)
  | tdmSlotmask (c : Cmd)
  | asrcCfg (c : Cmd)
  | ampCfg (c : Cmd)
  | ampPair (c : Cmd)
  | lineBaseline (c : Cmd)
  | quietSweep (c : Cmd)
  | railCfg (c : Cmd)
  | tandemCfg (c : Cmd)
  | handover (c : Cmd)
  | tandemStatus (c : Cmd)
  -- Silwen: supervision, memory, messages (R466)
  | ramblerCfg (c : Cmd)
  | msgStoreCreate (c : Cmd)
  | msgStoreAppend (c : Cmd)
  | msgStoreDelete (c : Cmd)
  | msgStoreQuery (c : Cmd)
  | playMessage (c : Cmd)
  | eventRouteSet (c : Cmd)
  | eventRouteClear (c : Cmd)
  | faultLogRead (c : Cmd)
  | counterDumpCfg (c : Cmd)
  | nightTestCfg (c : Cmd)
  -- Silwen: security and expert access (R467)
  | lifecycleAdvance (c : Cmd)
  | lifecycleSlotDigest (c : Cmd)
  | lifecycleRevokeSlot (c : Cmd)
  | lifecycleSetMac (c : Cmd)
  | credentialNonce (c : Cmd)
  | credentialPresent (c : Cmd)
  | credentialDrop (c : Cmd)
  | expertEnable (c : Cmd)
  | peek (c : Cmd)
  | poke (c : Cmd)
  | bulkSegment (sender : Sender) (tag : BitVec 8) (seg : BitVec 16) (words : List Word)
  | bulkTimeout (sender : Sender) (tag : BitVec 8)
  | remoteDatagram (node : BitVec 16) (seq : BitVec 64) (code : BitVec 16) (tag : BitVec 8)
      (words : List Word) (mac : BitVec 128)
  | nonceExpiry (m : Sender)
  | credentialLockoutEnd (m : Sender)
  -- mailboxes (R95–R121)
  | mbxBufWrite (m : Master) (n : Fin 32) (w : Fin 64) (v : Word)
  | mbxPost (m : Master) (n : Fin 32)
  | mbxTake (m : Master) (n : Fin 32)
  | mbxAck (m : Master) (n : Fin 32) (v : Word)
  | mbxClr (m : Master) (n : Fin 32)
  | mbxSreset (m : Master) (v : Word)
  | mbxLock (m : Master)
  | masterReset (m : Master)
  | controlCoreRestart (cc : Fin 4)
  | ccWatchdogExpiry (cc : Fin 4)
  | outboundPost (m : Master)
  | spiWrite (addr : BitVec 24) (data : List Byte)
  | spiRead (addr : BitVec 24) (n : Nat)
  | registerWrite (m : Master) (addr : BitVec 40) (v : Word)
  -- the time unit (R33–R59)
  | timeSnap
  | timeStepRequest (v : Word)
  | timeModeWrite (v : Word)
  | timeRateWrite (v : Word)
  | timeRoundWrite (v : Word)
  | timeCapw0Read
  | timeCapFlush
  | gpEdgeCapture (pin : Fin 16) (rising : Bool) (sub : Fin 3)
  | timeCounterTick (n : Nat)
  | roundTick (meas : RoundMeas)
  -- the patch unit and Hampers (R24–R31, R68–R93)
  | selectorFadeEnd (j : Fin 1024)
  | selectorRestoreHoldEnd (j : Fin 1024)
  | hamperLoadStart (hid : BitVec 16)
  | hamperCommit (hid : BitVec 16)
  | alarmQualify (n : Fin 4) (level : Bool)
  | alarmHamperCommit (n : Fin 4)
  | trailEnd (t : BitVec 8)
  | muxCrossfadeEnd (sink : BitVec 13)
  | stageTransitionEnd (isMatrix : Bool)
  | stageRefillEnd (isMatrix : Bool)
  | patchRampEnd (e : BitVec 12)
  | patchRampGo (m : Master) (e : BitVec 12) (v : Word)
  | paramInterpEnd (inst : BitVec 12) (field : BitVec 16)
  | engineRateRamp
  | engineRestart
  | rateChangeComplete
  | sinkSourceValid (sink : BitVec 13)
  -- the dispatcher and the summing engine (R134, R183–R207)
  | itemStart
  | itemComplete (h : BitVec 10)
  | joinComplete (h : BitVec 10)
  | sumBlockComplete (isMatrix : Bool)
  | roundDeadline
  | barrierClose
  | dispTswap
  | dispArm (h : BitVec 10)
  | dispDisarm (h : BitVec 10)
  | dispEventSlot (e : BitVec 8)
  -- cores (R138–R182)
  | coreRestart (k : Fin 48)
  | coreDbgreq (k : Fin 48)
  | coreUrgentRaise (k : Fin 48) (ucode : BitVec 8)
  | interruptEntry (k : Fin 48)
  | handlerTimeout (k : Fin 48)
  | illegalBundle (k : Fin 48) (bundle : BitVec 64)
  | mul (a : At) (f : VM)
  | mac (a : At) (f : VM)
  | msu (a : At) (f : VM)
  | mulx (a : At) (f : VM)
  | macx (a : At) (f : VM)
  | msux (a : At) (f : VM)
  | add (a : At) (f : VA)
  | sub (a : At) (f : VA)
  | min (a : At) (f : VA)
  | max (a : At) (f : VA)
  | and (a : At) (f : VA)
  | or (a : At) (f : VA)
  | xor (a : At) (f : VA)
  | abs (a : At) (f : VA)
  | neg (a : At) (f : VA)
  | shl (a : At) (f : VA)
  | shr (a : At) (f : VA)
  | sld (a : At) (f : VA)
  | cmp (a : At) (f : VA)
  | sel (a : At) (f : VA)
  | bcast (a : At) (f : VA)
  | rda (a : At) (f : VX)
  | rdad (a : At) (f : VX)
  | lda (a : At) (f : VX)
  | ldad (a : At) (f : VX)
  | adda (a : At) (f : VX)
  | suba (a : At) (f : VX)
  | mova (a : At) (f : VX)
  | clra (a : At) (f : VX)
  | sha (a : At) (f : VX)
  | nega (a : At) (f : VX)
  | ldv (a : At) (x : Mem) (dd : Fin 32)
  | ldb (a : At) (x : Mem) (dd : Fin 32)
  | ldl (a : At) (x : Mem) (dd : Fin 32) (k : Fin 8)
  | ldvd (a : At) (x : Mem) (dd : Fin 32)
  | stv (a : At) (x : Mem) (dd : Fin 32)
  | stl (a : At) (x : Mem) (dd : Fin 32) (k : Fin 8)
  | stvd (a : At) (x : Mem) (dd : Fin 32)
  | sta (a : At) (x : Mem) (aa : Fin 8) (s : BitVec 3)
  | stad (a : At) (x : Mem) (aa : Fin 8) (s : BitVec 3)
  | star (a : At) (x : Mem) (aa : Fin 8)
  | ldar (a : At) (x : Mem) (aa : Fin 8)
  | ldw (a : At) (x : Mem) (pq : Fin 16)
  | stw (a : At) (x : Mem) (pq : Fin 16)
  | movd (a : At) (slot : MSlot) (dd dx : Fin 32)
  | movp (a : At) (slot : MSlot) (pd px : Fin 16)
  | addp (a : At) (slot : MSlot) (pd : Fin 16) (imm : BitVec 10)
  | addpp (a : At) (slot : MSlot) (pd px py : Fin 16)
  | movi (a : At) (slot : MSlot) (pd : Fin 16) (imm : BitVec 10)
  | getl (a : At) (slot : MSlot) (pd : Fin 16) (dx : Fin 32) (k : Fin 8)
  | putl (a : At) (slot : MSlot) (dd : Fin 32) (k : Fin 8) (px : Fin 16)
  | movs (a : At) (slot : MSlot) (pq : Fin 16) (dir : Fin 4) (sys : BitVec 7)
  | br (a : At) (cond : Fin 16) (off : BitVec 11)
  | brz (a : At) (pp : Fin 16) (off : BitVec 11)
  | brnz (a : At) (pp : Fin 16) (off : BitVec 11)
  | call (a : At) (off : BitVec 11)
  | jr (a : At) (pp : Fin 16)
  | loop (a : At) (pc : Fin 16) (endOff : BitVec 11)
  | fence (a : At)
  | done (a : At)
  | reti (a : At)
  | brk (a : At)
  | lexit (a : At) (n : Fin 8)
  | setrnd (a : At) (r : Fin 8)
  | clrsat (a : At)
  | lmovi (a : At) (pd : Fin 16) (imm : BitVec 28)
  | lmovu (a : At) (pd : Fin 16) (imm : BitVec 28)
  | loopi (a : At) (count : BitVec 16) (endOff : BitVec 12)
  | ljmp (a : At) (target : BitVec 14)
  | lcall (a : At) (target : BitVec 14)
  -- TDM ports and rate converters (R236–R256)
  | tdmEnable (p : Fin 32) (en : Bool)
  | tdmMaskgo (p : Fin 32)
  | tdmMaskMove (p : Fin 32)
  | tdmFrame (p : Fin 32) (f : TdmFrame)
  | tdmSyncLock (p : Fin 32)
  | asrcLock (p : Fin 32) (out : Bool)
  | asrcRelock (c : Fin 64)
  | tdmClockLost (p : Fin 32)
  | tdmCaptureStart (p : Fin 32)
  -- network (R257–R288)
  | netEnable (v : Word)
  | netFrameRx (port : Fin 4) (f : Frame)
  | netFrameTx (port : Fin 4) (residence : Nat)
  | pauseExpiry (x : Fin 2)
  | pauseWatchdog (x : Fin 2)
  | pauseHoldoffEnd (x : Fin 2)
  | loopProbe
  | addressAgeOut (mac : BitVec 48)
  | netLinkDown (port : Fin 4)
  | netLinkUp (port : Fin 4) (speed : BitVec 4)
  | streamLegDown (s : BitVec 8) (legB : Bool)
  | t1sFrameTx (q : Fin 2) (r : T1sResult)
  | t1sCarrierLost (q : Fin 2)
  -- PTP and references (R289–R317)
  | bmcaRun (inst : Fin 3) (a b : PtpPort) (parent : Option GmData)
  | pdelayExchange (x : Fin 2) (delay : Nat)
  | refMeasure (cands : List CandMeas)
  | candidateLoss (c : Fin 7)
  | refSwitchMeasured (delta : Int)
  | refSwitchEnd (settled : Bool)
  | realignWrite (v : Word)
  | realignDone
  -- amplifier channels and supervision (R318–R348)
  | ampStart (ch : Fin 32)
  | ampPolarityCheck (ch : Fin 32) (reversed : Bool)
  | ampOscEnable (ch : Fin 32)
  | ampStartCheck (ch : Fin 32) (toggled : Bool)
  | ampStopRampEnd (ch : Fin 32)
  | ampFbopen (ch : Fin 32)
  | ampLooperr (ch : Fin 32)
  | ampCurrentLimit (ch : Fin 32) (consecutive : Bool)
  | ampProbe (ch : Fin 32)
  | ampProbeEnd (ch : Fin 32) (limited : Bool) (z : BitVec 24)
  | ampReturnEnd (ch : Fin 32)
  | supvInterval (lines : List LineMeas) (groups : List GroupMeas)
  | quietSweepStart
  | supvSweepGo
  | sweepPointEnd (points : List PointMeas)
  | quietSweepEnd
  | playbackEnd (player : Fin 64)
  | generatorSweepEnd (g : Fin 32)
  -- the tandem pair (R349–R372)
  | roleInChange (level : Bool)
  | takeover
  | tandemDecideRecord (r : DecideRec)
  | tandemInputRecord (ok : Bool) (inputs : List InputRec)
  | tandemAlarmRecord (ok : Bool) (edges : List (Fin 4 × Nat))
  | tandemEndRecord (r : EndRec)
  | tandemRecordDeadline
  | tandemCopyItem (i : CopyItem)
  | handoverBegin
  | handoverCheck (peerChanged : Bool)
  | handoverSwitch
  | tandemLaneLoss (lane : Fin 4)
  | tandemLaneReturn (lane : Fin 4) (reversed inverted : Bool)
  | tandemLinkDownTimeout
  | resyncCopyDone (protocolOk : Bool)
  | tandemEnable
  | failSilent
  -- power (R373–R390)
  | paceTransitionEnd
  | sleepRampStart
  | sleepReleaseStop
  | sleepDrainDone
  | sleepBlockStop
  | sleepEntered
  | wakeAddress (addr : BitVec 7)
  | alarmWake (n : Fin 4) (rising : Bool)
  | retentionWake (xinCount : Nat)
  -- memory and fabric (R391–R411)
  | bankZeroDone (b : Fin 14)
  | bankPowerWrite (m : Master) (v : Word)
  | scrubLine (t : Fin 15) (corrected : Nat) (words : ScrubWords)
  | ddrPatrolScrub (corrected : Nat) (bad : List (BitVec 40))
  | ramblerRegion (failed : Bool)
  | ramblerPassEnd
  | ramblerEnable (v : Word)
  | decodeError (m : Master) (addr : BitVec 40)
  | poisonRead (m : Master) (addr : BitVec 40)
  -- faults, events, counters, the night test (R412–R434)
  | faultDetect (cause : BitVec 8) (u : UnitKind) (inst : BitVec 16) (detail : Word)
  | faultHandlingEnd (u : UnitKind) (inst : BitVec 16)
  | faultOutStretchEnd
  | evtSwset (m : Master) (v : Word)
  | evtPendClear (host : Bool) (w : Fin 8) (v : Word)
  | gpEventEdge (p : Fin 32)
  | counterSweep
  | cntRead (id : BitVec 12)
  | counterDumpLatch
  | counterDumpDone
  | nightTestStart
  | nightTestDrillReturn
  | nightTestEnd
  | peerStateReport (roleIn : Bool) (state : BitVec 4)
  | probeFailureCountClear (ch : Fin 32)
  | tamperInRelease
  | lifecycleReset
  | suppliesValid
  | dmaDescriptor (ch : Fin 4) (d : DmaDesc)
  | priorityMixerCrossfadeEnd (o : BitVec 8)
  | syncInterval (inst : Fin 3) (kind : PtpKind)
deriving DecidableEq, Repr

end Sys2Proof
end

