-- ==== Sys2Proof/Decode.lean ====
section
/-! DEFINITION. The decoder of spec/opcode_table.json. The table gives its rows no bits: no word spells a
command. -/

namespace Sys2Proof

/-- The command a word spells by the table's bits: none, since every row's list of fields is empty (DESIGN CHOICE, assumption 1). -/
def decodeTableWord (_nbits _w : Nat) : Option Instr := none

end Sys2Proof
end

