-- ==== Sys2Proof/Config.lean ====
section
/-! DEFINITION. What an implementation fixes and what the spec leaves open: free values. Each is a
constant without a body, applied to the state's counter of free values and to the operands it
depends on, so nothing can be proved about which value it is. -/

namespace Sys2Proof

/-- The filter designs of R499: a Butterworth high-pass or low-pass of an order, and the bands of a
parametric equaliser with A = 10^(G/40). -/
inductive Design where
  /-- HPF, LPF and crossover of TYPE 0; TYPE 1, Linkwitz-Riley, is the square of one of half its order. -/
  | butterworth (high : Bool) (order : Nat)
  /-- (s² + s·A/Q + 1) / (s² + s/(A·Q) + 1) -/
  | bell
  /-- A·(s² + s·√A/Q + A) / (A·s² + s·√A/Q + 1) -/
  | lowShelf
  /-- A·(A·s² + s·√A/Q + 1) / (s² + s·√A/Q + A) -/
  | highShelf
  /-- (s² + 1) / (s² + s/Q + 1) -/
  | notch
deriving DecidableEq, Repr

/-- What one sample of a filter or detector leaves: its state and its output. -/
structure Stepped where
  st : List Int
  out : Int
deriving DecidableEq, Repr, Inhabited

end Sys2Proof

namespace Sys2Proof.Config

/-- One of the integers between two neighbours, where the spec states no rounding: low, high (DESIGN CHOICE, assumption 88). -/
opaque picked : Int → Int → Int
/-- The amplitude of a level in 0.01 dB, in units of 2⁻²³, no rounding being stated (DESIGN CHOICE, assumption 89). -/
opaque dbAmp : Int → Nat
/-- One sample of a first-order response in dB: gain, target, time constant in µs, engine rate in Hz (DESIGN CHOICE, assumption 89). -/
opaque smoothed : Int → Int → Nat → Nat → Int
/-- The ratio of a compressor on its way to or from ∞ (R90 gives no law to an infinite value): from, to, num, den (DESIGN CHOICE, assumption 89). -/
opaque ratioMid : Word → Word → Nat → Nat → Nat
/-- One sample of a level detector: its kind (0 peak, 1 RMS over 10 ms, 2 RMS of 1 s, 3 of a gate, 4 of a
ducker), the engine rate, its state and the sample; the new state and the level in 0.01 dB (DESIGN CHOICE, assumption 89). -/
opaque detector : Nat → Nat → List Int → Int → Stepped
/-- One sample of a filter of R499, mapped to the engine rate by the bilinear transform prewarped at F within
±0.05 dB of its design, its word lengths those of the module image: design, F in 0.1 Hz, gain in 0.01 dB, Q × 1000,
the engine rate, its state and the sample; the new state and the output (DESIGN CHOICE, assumption 89). -/
opaque filter : Design → Nat → Int → Nat → Nat → List Int → Int → Stepped
/-- One sample of the pilot notch of an amplifier channel, 60 dB within ±50 Hz of PF in 10 Hz (R319): PF, the engine
rate, its state and the sample; the new state and the output (DESIGN CHOICE, assumption 20). -/
opaque pilotNotch : Nat → Nat → List Int → Int → Stepped
/-- The size in bytes of the state image, a list of regions that the firmware builds; the address of its block of
256 bytes; the key of the module state that lies in a block, and the bytes of such a state (R362) (DESIGN CHOICE,
assumption 26). -/
opaque imageBytes : Nat
opaque imageAddr : Nat → BitVec 40
opaque imageState : Nat → Option Nat
opaque stateBytes : Nat → List Int → List Byte
/-- The phase of a line impedance in 0.1°, from the current in phase with the voltage and in quadrature (R337) (DESIGN
CHOICE, assumption 20). -/
opaque phaseOf : Int → Int → Int
/-- The gain of a limiter on its way down within its look-ahead: gain, the gain needed, look-ahead (DESIGN CHOICE, assumption 89). -/
opaque lookGain : Int → Int → Nat → Int
/-- The sine of a phase in units of 2⁻²³: num/den of a cycle (DESIGN CHOICE, assumption 89). -/
opaque sine : Nat → Nat → Int
/-- The phase of a logarithmic sweep, in cycles × 2³²: F, F2 in 0.1 Hz, SWT in µs, the engine rate, the sample (DESIGN CHOICE, assumption 89). -/
opaque sweepPhase : Nat → Nat → Nat → Nat → Nat → Nat
/-- Noise at an RMS level of 1, in units of 2⁻²³: pink or white, SEED, MTI (R229: the function is the image's) (DESIGN CHOICE, assumption 89). -/
opaque noise : Bool → Word → Nat → Int
/-- The level of an amplitude in 0.01 dB (no rounding stated) (DESIGN CHOICE, assumption 89). -/
opaque dbOf : Int → Int
/-- The cluster whose bank holds the parameter block of an instance, and offsets in it of the instance's buffer,
block, state and record, in units of 64 bytes (R231, R233 give no address): instance, which (DEDUCED, assumption 59). -/
opaque blockPlace : Nat → Nat → Nat
/-- A sample of the upsampling filter of R226: the message's samples, the factor, the position (DESIGN CHOICE, assumption 89). -/
opaque upsample : List Int → Nat → Nat → Int
/-- A sample of the fixed 2:1 converter of a T1S stream (R287): up or down, the samples it holds and the position among
those it gives (DESIGN CHOICE, assumption 82). -/
opaque halfband : Bool → List Int → Nat → Int
/-- A sample that no rule gives: counter, slot, position (DESIGN CHOICE, assumption 82). -/
opaque moduleSample : Nat → Nat → Nat → Sample
/-- The interpolation of a rate converter (R248, R251), in units of 2⁻⁸ of a sample's last place: the samples it
holds, the position among them in units of 2⁻³² and the step per output sample in Q4.28 (DESIGN CHOICE, assumption 93). -/
opaque convert : List Int → Int → Nat → Int
/-- The tracking loop of a converter (R248): bandwidth in 0.1 Hz, ratio in Q4.28, position error in 2⁻³² frame; the new
ratio, and below what it adds to the position (DESIGN CHOICE, assumption 93). -/
opaque trackRatio : Nat → Nat → Int → Nat
opaque trackShift : Nat → Nat → Int → Int
/-- Whether a value half-way between two is rounded up where no rule gives the tie (R273) (DESIGN CHOICE, assumption 82). -/
opaque tieUp : Nat → Bool
/-- A true random 128-bit nonce (R446) and other random words: counter (DESIGN CHOICE, assumption 32). -/
opaque randomWord : Nat → Word
/-- The SHA-384 digest of a list of bytes, as 12 words (DESIGN CHOICE, assumption 32). -/
opaque sha384 : List Byte → List Word
/-- Whether an ECDSA signature verifies: public key, digest, signature (DESIGN CHOICE, assumption 32). -/
opaque ecdsaOk : List Byte → List Word → List Byte → Bool
/-- HMAC-SHA-384 of a list of bytes under a key, as 12 words (R444–R447) (DESIGN CHOICE, assumption 32). -/
opaque hmac384 : List Word → List Byte → List Word
/-- A declaration in the header of an OEM image, whose layout the spec does not give (R232): the image
and which one (0 entry, 1 NPARAM, 2 state size, 3 reads predecessor, 4–8 c and 9–13 r by NCODE) (DESIGN CHOICE, assumption 87). -/
opaque moduleHeader : List Byte → Nat → Nat
/-- The digest of the provisioning key in the ROM (R438), as 12 words (DESIGN CHOICE, assumption 32). -/
opaque romKeyDigest : List Word
/-- The Silwen protocol level HELLO reports, whose value the spec does not state (R455) (DEDUCED, assumption 46). -/
opaque silwenLevel : Nat
/-- Core cycles a shared access stalls (R168, timing) (DESIGN CHOICE, assumption 66). -/
opaque stallCycles : Nat → Nat
/-- A word whose contents the spec leaves undefined: counter (DESIGN CHOICE, assumption 4; DESIGN CHOICE, assumption 86). -/
opaque undefWord : Nat → Word
/-- A number the spec leaves open: counter (DESIGN CHOICE, assumption 4). -/
opaque undefNat : Nat → Nat

end Sys2Proof.Config
end

