-- ==== Sys2Proof/Machine/Flags.lean ====
section
/-! DEFINITION. The arithmetic of samples, coefficients and cores: rounding modes, saturation with
its flags, extraction (R123–R128, R146–R150), and the exact arithmetic of the summing engine. -/

namespace Sys2Proof.Machine

/-- `v / 2^k` rounded to nearest, ties to even (R126, R149). -/
def roundEven (v : Int) (k : Nat) : Int :=
  let q := v / (2 ^ k : Int)
  let r := v % (2 ^ k : Int)
  if 2 * r < 2 ^ k then q else if (2 ^ k : Int) < 2 * r then q + 1
  else if q % 2 = 0 then q else q + 1

/-- `v / 2^k` rounded under a rounding mode of R149 (0 convergent, 1 truncate, 2 half-up). -/
def roundMode (rnd : Nat) (v : Int) (k : Nat) : Int :=
  if k = 0 then v
  else if rnd = 1 then v / (2 ^ k : Int)
  else if rnd = 2 then (v + 2 ^ (k - 1)) / (2 ^ k : Int)
  else roundEven v k

/-- `v × 2^e` for a signed exponent, rounded to an integer under a rounding mode (R148). -/
def scaleRound (rnd : Nat) (v : Int) (e : Int) : Int :=
  match e with
  | .ofNat n => v * 2 ^ n
  | .negSucc n => roundMode rnd v (n + 1)

/-- A value limited to the signed range of `w` bits, and whether it was limited. -/
def satTo (w : Nat) (v : Int) : Int × Bool :=
  if v < -(2 ^ (w - 1)) then (-(2 ^ (w - 1)), true)
  else if (2 ^ (w - 1) : Int) - 1 < v then ((2 ^ (w - 1) : Int) - 1, true)
  else (v, false)

/-- The flags of the lanes, lane 0 in bit 0. -/
def laneFlags (fs : List Bool) : BitVec 8 :=
  BitVec.ofNat 8 ((fs.zipIdx).foldl (fun a p => if p.1 then a + 2 ^ p.2 else a) 0)

/-- The largest coefficient magnitude of R123 (+24.00 dB). -/
def coefMax : Int := 8309405

/-- A coefficient limited under R123. -/
def coefLimit (c : Int) : Int :=
  if coefMax < c then coefMax else if c < -coefMax then -coefMax else c

/-- The coefficient a 24-bit field holds, limited under R123. -/
def coefOf (c : BitVec 24) : Int := coefLimit c.toInt

/-- One saturating addition into the summing engine's 56-bit accumulator, counted where it saturates (R125). -/
def sumAdd (acc : Int × Nat) (p : Int) : Int × Nat :=
  let r := satTo 56 (acc.1 + p)
  (r.1, if r.2 then acc.2 + 1 else acc.2)

/-- A column's accumulator after rows added in the order given, and the additions that saturated (R125). -/
def columnAdd (acc : Int × Nat) (rows : List (Int × Int)) : Int × Nat :=
  rows.foldl (fun a r => sumAdd a (r.1 * r.2)) acc

/-- The position rq of R128 for sample `i` of a transition over `d` samples: (2i+1)·2²³/d rounded to
nearest, ties to even. -/
def transitionPos (i d : Nat) : Int :=
  let num : Nat := (2 * i + 1) * 2 ^ 23
  let q := num / d
  let r := num % d
  if 2 * r < d then (q : Int) else if d < 2 * r then (q + 1 : Nat) else if q % 2 = 0 then (q : Int) else (q + 1 : Nat)

/-- The sum of a stage in transition (R128): the new sum once the Trail has ended. -/
def transitionSum (aOld aNew : Int) (i d : Nat) : Int :=
  if d ≤ i then aNew else aOld + roundEven (transitionPos i d * (aNew - aOld)) 24

/-- The stage output of a column with final sum `s` and headroom `h`, and whether it saturated
(R126): the sum is held at weight 2⁻⁴² and leaves at 2⁻²³. -/
def stageOut (s : Int) (h : Nat) : Sample × Bool :=
  let r := satTo 24 (roundEven s (19 + h))
  (BitVec.ofInt 24 r.1, r.2)

/-- Twice the sample position of R79 over twice its duration: the position r = (2i+1)/(2D) as a pair,
and 1 from sample D on. -/
def trailPos (i d : Nat) : Nat × Nat := if d ≤ i then (1, 1) else (2 * i + 1, 2 * d)

/-- Division of integers rounded to nearest, ties to even. -/
def divEven (a : Int) (b : Nat) : Int :=
  let q := a / (b : Int)
  let r := a % (b : Int)
  if 2 * r < b then q else if (b : Int) < 2 * r then q + 1 else if q % 2 = 0 then q else q + 1

/-- A gain at position num/den of a linear ramp, rounded to nearest with ties to even (R79, R129). -/
def linearGain (g0 g1 : Int) (num den : Nat) : Int :=
  divEven (g0 * den + (num : Int) * (g1 - g0)) den

/-- CRC-64 of ECMA-182 over one byte: polynomial 0x42F0_E1EB_A9EA_3693, no reflection (R361). -/
def crc64Byte (c : BitVec 64) (b : BitVec 8) : BitVec 64 :=
  (List.range 8).foldl (fun c _ => if c.msb then (c <<< 1) ^^^ 0x42F0E1EBA9EA3693#64 else c <<< 1) (c ^^^ (b.zeroExtend 64 <<< 56))

/-- The digest of R361: initial value 0, no final XOR. -/
def crc64 (bs : List (BitVec 8)) : BitVec 64 := bs.foldl crc64Byte 0

/-- A 16-bit count that stops at 65,535 (R497). -/
def satInc16 (n : Nat) : Nat := if n < 65535 then n + 1 else 65535
/-- A count that stops at 2³² − 1 (R497). -/
def satInc32 (n : Nat) : Nat := if n < 4294967295 then n + 1 else 4294967295

end Sys2Proof.Machine
end

