-- ==== Sys2Proof/Machine/KMap.lean ====
section
/-! DEFINITION. Sparse tables keyed by a number, in one canonical form: keys strictly rising, and no
entry for a key that holds the table's default. Registers, crosspoints, parameters and the other
large arrays of the spec are held this way, so that equal contents are equal data. -/

namespace Sys2Proof.Machine

/-- A sparse table from numbers to values. -/
abbrev KMap (α : Type) := List (Nat × α)

/-- The entry at key `k`. -/
def kget {α : Type} : KMap α → Nat → Option α
  | [], _ => none
  | (j, v) :: m, k => if j = k then some v else kget m k

/-- The entry at key `k`, or the default. -/
def kgetD {α : Type} (m : KMap α) (k : Nat) (d : α) : α := (kget m k).getD d

/-- The table without an entry at key `k`. -/
def kdel {α : Type} : KMap α → Nat → KMap α
  | [], _ => []
  | (j, v) :: m, k => if j = k then kdel m k else (j, v) :: kdel m k

/-- The table with `v` at key `k`. -/
def kset {α : Type} : KMap α → Nat → α → KMap α
  | [], k, v => [(k, v)]
  | (j, w) :: m, k, v =>
    if k < j then (k, v) :: (j, w) :: m else if j = k then (k, v) :: m else (j, w) :: kset m k v

/-- The table with `v` at key `k`, where an absent entry means `d`. -/
def ksetD {α : Type} [DecidableEq α] (m : KMap α) (k : Nat) (v d : α) : KMap α :=
  if v = d then kdel m k else kset m k v

/-- The table with the entry at `k` rewritten, where there is one. -/
def kmod {α : Type} (m : KMap α) (k : Nat) (f : α → α) : KMap α :=
  match kget m k with
  | some v => kset m k (f v)
  | none => m

/-- The table with `some` value or without an entry. -/
def kput {α : Type} (m : KMap α) (k : Nat) (v : Option α) : KMap α :=
  match v with
  | some w => kset m k w
  | none => kdel m k

/-- Whether the keys of a table rise strictly above `b`. -/
def kRisesFrom {α : Type} : Nat → KMap α → Bool
  | _, [] => true
  | b, (j, _) :: m => decide (b ≤ j) && kRisesFrom (j + 1) m

/-- Whether a table is in canonical form as to its keys. -/
def kSorted {α : Type} (m : KMap α) : Bool := kRisesFrom 0 m

end Sys2Proof.Machine
end

