-- ==== Sys2Proof/Machine/TypesCore.lean ====
section
/-! DEFINITION. The state of a processing core: its register files (R143), system registers (R144),
writes still in flight (R166, R167), control flow (R155–R157), interrupts (R175–R180). -/

namespace Sys2Proof.Machine

/-- A register write of a core (R143, R144). `accE` is the value the accumulate chain of R166 sees;
`ptrStores` are kept apart. -/
inductive CoreWrite where
  | d (r : Nat) (lanes : List Sample)
  | dLane (r k : Nat) (v : Sample)
  | acc (a : Nat) (lanes : List Acc)
  | accE (a : Nat) (lanes : List Acc)
  | p (r : Nat) (v : Word)
  | sys (n : Nat) (v : Word)
  | cf (v : BitVec 8)
  | satOr (v : BitVec 8)
  | satClr
  | rnd (v : BitVec 2)
deriving DecidableEq, Repr

/-- A write in flight: the bundle at which it is first seen, the rank of its slot (0 V, 1 M0, 2 M1),
the bundle that produced it, and the write. -/
structure Pend where
  due : Nat
  rank : Nat
  origin : Nat
  w : CoreWrite
deriving DecidableEq, Repr

/-- A store of the bundle in progress: slot rank, whether it goes to a block register, the internal
address and the bytes. -/
structure CoreStore where
  rank : Nat
  isReg : Bool
  addr : Nat
  bytes : List Byte
deriving DecidableEq, Repr

/-- The cause a core stops on (CLU_FAULTk): the bit of the register. -/
inductive CoreCause where
  | ill | addr | eccD | eccI | tmo
deriving DecidableEq, Repr

/-- What the bundle in progress does to control flow at its end. -/
inductive CoreCtl where
  | none
  | branch (target : Word)
  | reti
  | done
  | loop (count : Nat) (le : Word)
  | lexit (n : Nat)
  | brk
deriving DecidableEq, Repr

/-- What follows when the delay slots, or the set-up slots of a loop of count 0 (`skip`), have run out. -/
inductive After where
  | jump (target : Word)
  | skip (target : Word)
  | reti
  | done
deriving DecidableEq, Repr

/-- The three interrupts of R175. -/
inductive IrqSrc where
  | debug | abort | urgent
deriving DecidableEq, Repr

/-- One processing core. -/
structure CoreSt where
  d : KMap (List Sample) := []
  acc : KMap (List Acc) := []
  accE : KMap (List Acc) := []
  p : KMap Word := []
  /-- system registers by the numbers of R144 (loop, circular, STATUS and interrupt registers) -/
  sys : KMap Word := []
  pc : Word := 0
  bn : Nat := 0
  pend : List Pend := []
  stores : List CoreStore := []
  ctl : CoreCtl := .none
  fault : Option (CoreCause × Word) := none
  /-- delay or set-up slots still to run, and what follows a delay slot -/
  after : Option (Nat × After) := none
  setup : Nat := 0
  /-- whether operations of the bundle at `pc` have already been given -/
  inBundle : Bool := false
  running : Bool := false
  ended : Bool := false
  faulted : Bool := false
  item : Nat := 0
  handler : Option IrqSrc := none
  pendUrgent : Option (BitVec 8) := none
  pendAbort : Bool := false
  pendDebug : Option (BitVec 4) := none
  /-- the handlers a nested entry interrupted, innermost first, which its RETI returns to (R178, R179) -/
  outer : List IrqSrc := []
  /-- the time of the raising of ABORT and of the entry of the URGENT handler, in units of 2⁻³² ns (R179) -/
  abortAt : Nat := 0
  urgentAt : Nat := 0
  /-- whether an operation of the item has been given, bundle by bundle -/
  begun : Bool := false
  /-- removed from the dispatcher's choice by fault handling (R190, R413) -/
  removed : Bool := false
deriving DecidableEq, Repr

end Sys2Proof.Machine
end

