-- ==== Sys2Proof/Machine/Operands.lean ====
section
/-! DEFINITION. The operand forms of the spec: the address modes and circular buffers of a core
(R151–R153), the map of core addresses (R139), the slots of a bundle and their formats
(R158–R165), and the fields of a Silwen payload (R449, R450). -/

namespace Sys2Proof.Machine

/-! ### Fields of words -/

/-- Bits `hi` to `lo` of a word as a number. -/
def bits (w : Word) (hi lo : Nat) : Nat := w.toNat / 2 ^ lo % 2 ^ (hi + 1 - lo)

/-- Bit `i` of a word. -/
def bit (w : Word) (i : Nat) : Bool := w.toNat / 2 ^ i % 2 == 1

/-- A word from a number. -/
def word (n : Nat) : Word := BitVec.ofNat 32 n

/-- One as a flag. -/
def flag (b : Bool) : Nat := if b then 1 else 0

/-- The four bytes of a word, least significant first. -/
def wordBytes (w : Word) : List Byte :=
  [w.extractLsb' 0 8, w.extractLsb' 8 8, w.extractLsb' 16 8, w.extractLsb' 24 8]

/-- The number a list of bytes holds, least significant first. -/
def bytesNat : List Byte → Nat
  | [] => 0
  | b :: bs => b.toNat + 256 * bytesNat bs

/-- `n` bytes of a number, least significant first. -/
def natBytes : Nat → Nat → List Byte
  | 0, _ => []
  | n + 1, v => BitVec.ofNat 8 v :: natBytes n (v / 256)

/-- The words of a list of bytes, four bytes each, least significant first; a short last word is
filled with zeros. -/
def bytesWords (bs : List Byte) : List Word :=
  (List.range ((bs.length + 3) / 4)).map fun i => word (bytesNat ((bs.drop (4 * i)).take 4))

/-- The 64-bit value of two words, low word first (R449). -/
def wide (lo hi : Word) : Nat := lo.toNat + 2 ^ 32 * hi.toNat

/-- The low and the high word of a 64-bit value. -/
def loWord (n : Nat) : Word := word n
def hiWord (n : Nat) : Word := word (n / 2 ^ 32)

/-! ### Core addresses -/

/-- What a core address reaches (R139). -/
inductive CoreTarget where
  | localMem (off : Nat)
  | shared (addr : Nat)
  | reg (addr : Nat)
  | bad
deriving DecidableEq, Repr

/-- The map of R139 for core `n` with DWIN `dwin` and `ddr` bytes of LPDDR5 fitted. -/
def coreMap (n dwin ddr : Nat) (a : Word) : CoreTarget :=
  let x := a.toNat
  if x < 0x80000 then .localMem (0x20000000 + n * 0x100000 + 0x40000 + x)
  else if 0x10000000 ≤ x ∧ x < 0x1E000000 then .shared (x - 0x10000000)
  else if 0x20000000 ≤ x ∧ x < 0x30000000 then
    let off := dwin * 0x10000000 + (x - 0x20000000)
    if off < ddr then .shared (0x100000000 + off) else .bad
  else if 0x40000000 ≤ x ∧ x < 0x41000000 then .reg x
  else .bad

/-- The wrap of R153: one correction into [base, base + len), none when the length is 0. -/
def wrapAddr (base len : Nat) (a : Int) : Word :=
  if len = 0 then BitVec.ofInt 32 a
  else if (base : Int) + len ≤ a then BitVec.ofInt 32 (a - len)
  else if a < base then BitVec.ofInt 32 (a + len)
  else BitVec.ofInt 32 a

/-- The update of a pointer by mode `md` (R151). -/
def ptrUpdate (md : Nat) (size : Nat) (m : Int) : Int :=
  if md = 1 then m else if md = 2 then size else if md = 3 then -(size : Int) else 0

/-- The eight element addresses of a vector access of `step` bytes an element, each wrapped by
itself and stripped of its low bits (R152, R153). -/
def elemAddrs (base len : Nat) (p : Word) (step count : Nat) : List Word :=
  (List.range count).map fun (i : Nat) =>
    let a := wrapAddr base len ((p.toNat + i * step : Nat) : Int)
    word (a.toNat / step * step)

/-! ### Bundles -/

/-- Bits `hi` to `lo` of a slot. -/
def sl (w : BitVec 64) (hi lo : Nat) : Nat := w.toNat / 2 ^ lo % 2 ^ (hi + 1 - lo)

/-- A field as a number below `n`. -/
def fin (n : Nat) [NeZero n] (v : Nat) : Fin n := Fin.ofNat n v

/-- An operation waiting for the place where it runs. -/
abbrev Op := At → Instr

/-- The V slot (R159, R160): `none` where it is illegal, `some none` for NOP. -/
def decodeV (v : Nat) : Option (Option Op) :=
  let f (hi lo : Nat) : Nat := v / 2 ^ lo % 2 ^ (hi + 1 - lo)
  let op := f 23 18
  let vm : VM := ⟨fin 8 (f 17 15), fin 32 (f 14 10), fin 32 (f 9 5), f 4 4 == 1, fin 8 (f 3 1)⟩
  let va : VA := ⟨fin 32 (f 17 13), fin 32 (f 12 8), fin 32 (f 7 3), fin 8 (f 2 0)⟩
  let vx : VX := ⟨fin 8 (f 17 15), fin 8 (f 14 12), fin 32 (f 11 7), BitVec.ofNat 3 (f 6 4)⟩
  let m (o : At → VM → Instr) : Option (Option Op) := if f 0 0 = 0 then some (some fun a => o a vm) else none
  let l (o : At → VA → Instr) : Option (Option Op) := some (some fun a => o a va)
  let x (o : At → VX → Instr) : Option (Option Op) := if f 3 0 = 0 then some (some fun a => o a vx) else none
  if op = 0x00 then (if v = 0 then some none else none)
  else if op = 0x01 then m .mul else if op = 0x02 then m .mac else if op = 0x03 then m .msu
  else if op = 0x04 then m .mulx else if op = 0x05 then m .macx else if op = 0x06 then m .msux
  else if op = 0x10 then l .add else if op = 0x11 then l .sub else if op = 0x12 then l .min
  else if op = 0x13 then l .max else if op = 0x14 then l .and else if op = 0x15 then l .or
  else if op = 0x16 then l .xor else if op = 0x17 then l .abs else if op = 0x18 then l .neg
  else if op = 0x19 then l .shl else if op = 0x1A then l .shr else if op = 0x1B then l .sld
  else if op = 0x1C then (if f 2 0 < 6 then l .cmp else none)
  else if op = 0x1D then l .sel else if op = 0x1E then l .bcast
  else if op = 0x20 then x .rda else if op = 0x21 then x .rdad else if op = 0x22 then x .lda
  else if op = 0x23 then x .ldad else if op = 0x24 then x .adda else if op = 0x25 then x .suba
  else if op = 0x26 then x .mova else if op = 0x27 then x .clra else if op = 0x28 then x .sha
  else if op = 0x29 then x .nega else none

/-- A memory slot other than a long operation (R161–R163): `none` where it is illegal. -/
def decodeM (slot : MSlot) (v : Nat) : Option (Option Op) :=
  let f (hi lo : Nat) : Nat := v / 2 ^ lo % 2 ^ (hi + 1 - lo)
  let op := f 19 15
  let mem : Mem := ⟨slot, fin 16 (f 9 6), fin 4 (f 5 4)⟩
  let dd := fin 32 (f 14 10)
  let k := fin 8 (f 3 1)
  let ok (c : Bool) (o : Op) : Option (Option Op) := if c then some (some o) else none
  let ma (o : Op) := ok (f 0 0 == 0) o
  let mb (o : Op) := ok (f 14 13 == 0 && f 0 0 == 0) o
  let mc (o : Op) := ok (f 14 14 == 0 && f 3 0 == 0) o
  let aa := fin 8 (f 12 10)
  let s := BitVec.ofNat 3 (f 3 1)
  let p13 := fin 16 (f 13 10)
  let p14 := fin 16 (f 14 11)
  let off := BitVec.ofNat 11 (f 10 0)
  let c1 (o : Op) : Option (Option Op) := if slot = .m1 then some (some o) else none
  if op = 0x00 then (if v = 0 then some none else none)
  else if op = 0x01 then ma fun a => .ldv a mem dd
  else if op = 0x02 then ma fun a => .ldb a mem dd
  else if op = 0x03 then ma fun a => .ldl a mem dd k
  else if op = 0x04 then ma fun a => .ldvd a mem dd
  else if op = 0x05 then ma fun a => .stv a mem dd
  else if op = 0x06 then ma fun a => .stl a mem dd k
  else if op = 0x07 then ma fun a => .stvd a mem dd
  else if op = 0x08 then mb fun a => .sta a mem aa s
  else if op = 0x09 then mb fun a => .stad a mem aa s
  else if op = 0x0A then mb fun a => .star a mem aa
  else if op = 0x0B then mb fun a => .ldar a mem aa
  else if op = 0x0C then mc fun a => .ldw a mem p13
  else if op = 0x0D then mc fun a => .stw a mem p13
  else if op = 0x0E then ok (f 4 0 == 0) fun a => .movd a slot dd (fin 32 (f 9 5))
  else if op = 0x0F then ok (f 14 14 == 0 && f 5 0 == 0) fun a => .movp a slot p13 (fin 16 (f 9 6))
  else if op = 0x10 then ok (f 14 14 == 0) fun a => .addp a slot p13 (BitVec.ofNat 10 (f 9 0))
  else if op = 0x11 then ok (f 14 14 == 0 && f 1 0 == 0) fun a => .addpp a slot p13 (fin 16 (f 9 6)) (fin 16 (f 5 2))
  else if op = 0x12 then ok (f 14 14 == 0) fun a => .movi a slot p13 (BitVec.ofNat 10 (f 9 0))
  else if op = 0x13 then ok (f 14 14 == 0 && f 4 4 == 0 && f 0 0 == 0) fun a => .getl a slot p13 (fin 32 (f 9 5)) k
  else if op = 0x14 then ok (f 5 4 == 0 && f 0 0 == 0) fun a => .putl a slot dd k (fin 16 (f 9 6))
  else if op = 0x15 then ok (f 14 14 == 0 && f 7 7 == 0 && f 9 8 != 3) fun a => .movs a slot p13 (fin 4 (f 9 8)) (BitVec.ofNat 7 (f 6 0))
  else if op = 0x18 then (if f 14 11 < 6 then c1 fun a => .br a (fin 16 (f 14 11)) off else none)
  else if op = 0x19 then c1 fun a => .brz a p14 off
  else if op = 0x1A then c1 fun a => .brnz a p14 off
  else if op = 0x1B then (if f 14 11 = 0 then c1 fun a => .call a off else none)
  else if op = 0x1C then (if f 10 0 = 0 then c1 fun a => .jr a p14 else none)
  else if op = 0x1D then c1 fun a => .loop a p14 off
  else if op = 0x1E then
    if f 9 3 ≠ 0 then none
    else if f 14 10 = 0 then c1 fun a => .fence a
    else if f 14 10 = 1 then c1 fun a => .done a
    else if f 14 10 = 2 then c1 fun a => .reti a
    else if f 14 10 = 3 then c1 fun a => .brk a
    else if f 14 10 = 4 then c1 fun a => .lexit a (fin 8 (f 2 0))
    else if f 14 10 = 5 then c1 fun a => .setrnd a (fin 8 (f 2 0))
    else if f 14 10 = 6 then c1 fun a => .clrsat a
    else none
  else none

/-- A long operation (R164) of slots M0 and M1. -/
def decodeLong (m0 m1 : Nat) : Option Op :=
  let f1 (hi lo : Nat) : Nat := m1 / 2 ^ lo % 2 ^ (hi + 1 - lo)
  let f0 (hi lo : Nat) : Nat := m0 / 2 ^ lo % 2 ^ (hi + 1 - lo)
  let imm : BitVec 28 := BitVec.ofNat 28 (f1 7 0 * 2 ^ 20 + m0)
  let l := f1 14 12
  if l = 0 then some fun a => .lmovi a (fin 16 (f1 11 8)) imm
  else if l = 1 then some fun a => .lmovu a (fin 16 (f1 11 8)) imm
  else if l = 2 then (if f0 19 16 = 0 then some fun a => .loopi a (BitVec.ofNat 16 (f0 15 0)) (BitVec.ofNat 12 (f1 11 0)) else none)
  else if l = 3 then (if f1 11 0 = 0 ∧ f0 19 14 = 0 then some fun a => .ljmp a (BitVec.ofNat 14 (f0 13 0)) else none)
  else if l = 4 then (if f1 11 0 = 0 ∧ f0 19 14 = 0 then some fun a => .lcall a (BitVec.ofNat 14 (f0 13 0)) else none)
  else none

/-- The operations of a bundle in slot order (R158), `none` where the bundle is illegal (R165) (DESIGN CHOICE, assumption 5). -/
def decodeBundle (b : BitVec 64) : Option (List Op) :=
  match decodeV (sl b 63 40) with
  | none => none
  | some v =>
    if sl b 19 15 = 0x1F then
      match decodeLong (sl b 39 20) (sl b 19 0) with
      | none => none
      | some l => some (v.toList ++ [l])
    else
      match decodeM .m0 (sl b 39 20), decodeM .m1 (sl b 19 0) with
      | some m0, some m1 => some (v.toList ++ m0.toList ++ m1.toList)
      | _, _ => none

/-- The operations of a bundle as the commands that give them to core `k`, one after another. -/
def bundleCommands (k : Fin 48) (ops : List Op) : List Instr :=
  ops.zipIdx.map fun p => p.1 ⟨k, p.2 + 1 == ops.length⟩

/-! ### Silwen payload fields -/

/-- Payload word `i` (from 1); zero past the end. -/
def cw (c : Cmd) (i : Nat) : Word := c.words.getD (i - 1) 0

/-- A signed 16-bit field. -/
def s16 (n : Nat) : Int := if n % 65536 < 32768 then (n % 65536 : Nat) else (n % 65536 : Nat) - 65536

/-- The signed value of a 32-bit word. -/
def s32 (w : Word) : Int := w.toInt

/-- Clamped into a range (R10). -/
def clampInt (lo hi v : Int) : Int := if v < lo then lo else if hi < v then hi else v
/-- Clamped into a range (R10). -/
def clampNat (lo hi v : Nat) : Nat := if v < lo then lo else if hi < v then hi else v

end Sys2Proof.Machine
end

