-- ==== Sys2Proof/Machine/Regs.lean ====
section
/-! DEFINITION. The register maps of the spec: the address of every register, the place of every
field, its access code (R8), its class (R9), the value an out-of-range write is applied as, and the
reset value of every register. `R.<REGISTER>` is an internal address (R391), with the indices of
the register's heading as arguments; `F.<REGISTER>_<FIELD>` is a field of it. -/

namespace Sys2Proof.Machine

/-- A field of a register: the register's address and the field's highest and lowest bit. -/
structure FieldRef where
  addr : Nat
  hi : Nat
  lo : Nat
deriving DecidableEq, Repr

/-- The access codes of R8. -/
inductive Access where
  | ro | rw | wo | w1c | w1s | rwl
deriving DecidableEq, Repr

/-- The classes of R9; `none` for a field that takes no configuration. -/
inductive FieldClass where
  | live | staged | idle | none
deriving DecidableEq, Repr

/-- What a written value is applied as: unchanged, the nearer limit of a range, a fixed value above
a bound, the step threshold of TIME_CTL, or the shapes of PATCH_PTRMP (0 and 2 only). -/
inductive Limit where
  | any
  | range (lo hi : Nat)
  | above (bound value : Nat)
  | sthr
  | dbOnly
deriving DecidableEq, Repr

/-- The value a written field value is applied as. -/
def Limit.apply : Limit → Nat → Nat
  | .any, v => v
  | .range lo hi, v => if v < lo then lo else if hi < v then hi else v
  | .above b w, v => if b < v then w else v
  | .sthr, v => if 999 < v ∧ v < 1023 then 999 else v
  | .dbOnly, v => if v = 2 then 2 else 0

/-- One field of a register map. -/
structure FieldRow where
  hi : Nat
  lo : Nat
  acc : Access
  cls : FieldClass
  lim : Limit
deriving DecidableEq, Repr

/-- One register of a register map: its first address, the stride and count of each index (largest
stride first), and its fields. -/
structure RegRow where
  base : Nat
  dims : List (Nat × Nat)
  fields : List FieldRow
deriving DecidableEq, Repr

/-- Whether offset `off` falls on a register of an array with these strides and counts. -/
def onGrid : List (Nat × Nat) → Nat → Bool
  | [], off => off == 0
  | (st, n) :: ds, off => (off / st < n) && onGrid ds (off % st)

/-- Whether a register row covers address `a`. -/
def RegRow.covers (r : RegRow) (a : Nat) : Bool :=
  decide (r.base ≤ a) && onGrid r.dims (a - r.base)

/-- The internal address of PATCH_FOCTL (01). -/
def R.PATCH_FOCTL (j : Nat) : Nat := 0x40208000 + 0x4 * j
def F.PATCH_FOCTL_HOLD (j : Nat) : FieldRef := ⟨R.PATCH_FOCTL j, 31, 16⟩
def F.PATCH_FOCTL_FADE (j : Nat) : FieldRef := ⟨R.PATCH_FOCTL j, 15, 8⟩
def F.PATCH_FOCTL_REVERT (j : Nat) : FieldRef := ⟨R.PATCH_FOCTL j, 2, 2⟩
def F.PATCH_FOCTL_MODE (j : Nat) : FieldRef := ⟨R.PATCH_FOCTL j, 1, 0⟩
/-- The internal address of PATCH_FOSTAT (01). -/
def R.PATCH_FOSTAT (j : Nat) : Nat := 0x40209000 + 0x4 * j
def F.PATCH_FOSTAT_FOCNT (j : Nat) : FieldRef := ⟨R.PATCH_FOSTAT j, 31, 16⟩
def F.PATCH_FOSTAT_SWITCHED (j : Nat) : FieldRef := ⟨R.PATCH_FOSTAT j, 6, 6⟩
def F.PATCH_FOSTAT_HOLDING (j : Nat) : FieldRef := ⟨R.PATCH_FOSTAT j, 5, 5⟩
def F.PATCH_FOSTAT_HELD (j : Nat) : FieldRef := ⟨R.PATCH_FOSTAT j, 4, 4⟩
def F.PATCH_FOSTAT_BLOST (j : Nat) : FieldRef := ⟨R.PATCH_FOSTAT j, 3, 3⟩
def F.PATCH_FOSTAT_PLOST (j : Nat) : FieldRef := ⟨R.PATCH_FOSTAT j, 2, 2⟩
def F.PATCH_FOSTAT_SEL (j : Nat) : FieldRef := ⟨R.PATCH_FOSTAT j, 1, 0⟩
/-- The internal address of TIME_CTL (02). -/
def R.TIME_CTL : Nat := 0x40080000
def F.TIME_CTL_STHR : FieldRef := ⟨R.TIME_CTL, 17, 8⟩
def F.TIME_CTL_MPEND : FieldRef := ⟨R.TIME_CTL, 2, 2⟩
def F.TIME_CTL_MODE : FieldRef := ⟨R.TIME_CTL, 1, 0⟩
/-- The internal address of TIME_STAT (02). -/
def R.TIME_STAT : Nat := 0x40080004
def F.TIME_STAT_STEPPED : FieldRef := ⟨R.TIME_STAT, 2, 2⟩
def F.TIME_STAT_STEPREJ : FieldRef := ⟨R.TIME_STAT, 1, 1⟩
def F.TIME_STAT_RATECLAMP : FieldRef := ⟨R.TIME_STAT, 0, 0⟩
/-- The internal address of TIME_SNAP (02). -/
def R.TIME_SNAP : Nat := 0x40080008
def F.TIME_SNAP_GO : FieldRef := ⟨R.TIME_SNAP, 0, 0⟩
/-- The internal address of TIME_SSECH (02). -/
def R.TIME_SSECH : Nat := 0x40080010
def F.TIME_SSECH_VALUE : FieldRef := ⟨R.TIME_SSECH, 15, 0⟩
/-- The internal address of TIME_SSECL (02). -/
def R.TIME_SSECL : Nat := 0x40080014
def F.TIME_SSECL_VALUE : FieldRef := ⟨R.TIME_SSECL, 31, 0⟩
/-- The internal address of TIME_SNS (02). -/
def R.TIME_SNS : Nat := 0x40080018
def F.TIME_SNS_VALUE : FieldRef := ⟨R.TIME_SNS, 29, 0⟩
/-- The internal address of TIME_SFRAC (02). -/
def R.TIME_SFRAC : Nat := 0x4008001C
def F.TIME_SFRAC_VALUE : FieldRef := ⟨R.TIME_SFRAC, 31, 0⟩
/-- The internal address of TIME_SMTIH (02). -/
def R.TIME_SMTIH : Nat := 0x40080020
def F.TIME_SMTIH_VALUE : FieldRef := ⟨R.TIME_SMTIH, 31, 0⟩
/-- The internal address of TIME_SMTIL (02). -/
def R.TIME_SMTIL : Nat := 0x40080024
def F.TIME_SMTIL_VALUE : FieldRef := ⟨R.TIME_SMTIL, 31, 0⟩
/-- The internal address of TIME_LMTIL (02). -/
def R.TIME_LMTIL : Nat := 0x40080028
def F.TIME_LMTIL_MTIL : FieldRef := ⟨R.TIME_LMTIL, 31, 0⟩
/-- The internal address of TIME_RATEADJ (02). -/
def R.TIME_RATEADJ : Nat := 0x40080030
def F.TIME_RATEADJ_RATE : FieldRef := ⟨R.TIME_RATEADJ, 31, 0⟩
/-- The internal address of TIME_STEPSEC (02). -/
def R.TIME_STEPSEC : Nat := 0x40080040
def F.TIME_STEPSEC_SEC : FieldRef := ⟨R.TIME_STEPSEC, 31, 0⟩
/-- The internal address of TIME_STEPNS (02). -/
def R.TIME_STEPNS : Nat := 0x40080044
def F.TIME_STEPNS_NS : FieldRef := ⟨R.TIME_STEPNS, 29, 0⟩
/-- The internal address of TIME_STEPCTL (02). -/
def R.TIME_STEPCTL : Nat := 0x40080048
def F.TIME_STEPCTL_NEG : FieldRef := ⟨R.TIME_STEPCTL, 1, 1⟩
def F.TIME_STEPCTL_GO : FieldRef := ⟨R.TIME_STEPCTL, 0, 0⟩
/-- The internal address of TIME_ROUND (02). -/
def R.TIME_ROUND : Nat := 0x40080050
def F.TIME_ROUND_NHELD : FieldRef := ⟨R.TIME_ROUND, 14, 12⟩
def F.TIME_ROUND_NCODE : FieldRef := ⟨R.TIME_ROUND, 10, 8⟩
def F.TIME_ROUND_FS : FieldRef := ⟨R.TIME_ROUND, 2, 0⟩
/-- The internal address of TIME_CAPCFG (02). -/
def R.TIME_CAPCFG : Nat := 0x40080060
def F.TIME_CAPCFG_EDGES : FieldRef := ⟨R.TIME_CAPCFG, 31, 0⟩
/-- The internal address of TIME_CAPPTP (02). -/
def R.TIME_CAPPTP : Nat := 0x40080064
def F.TIME_CAPPTP_THRESH : FieldRef := ⟨R.TIME_CAPPTP, 14, 8⟩
def F.TIME_CAPPTP_FLUSH : FieldRef := ⟨R.TIME_CAPPTP, 4, 4⟩
def F.TIME_CAPPTP_PTPEN : FieldRef := ⟨R.TIME_CAPPTP, 3, 0⟩
/-- The internal address of TIME_CAPCNT (02). -/
def R.TIME_CAPCNT : Nat := 0x40080068
def F.TIME_CAPCNT_COUNT : FieldRef := ⟨R.TIME_CAPCNT, 6, 0⟩
/-- The internal address of TIME_CAPOVF (02). -/
def R.TIME_CAPOVF : Nat := 0x4008006C
def F.TIME_CAPOVF_COUNT : FieldRef := ⟨R.TIME_CAPOVF, 31, 0⟩
/-- The internal address of TIME_CAPW0 (02). -/
def R.TIME_CAPW0 : Nat := 0x40080070
def F.TIME_CAPW0_WORD : FieldRef := ⟨R.TIME_CAPW0, 31, 0⟩
/-- The internal address of TIME_CAPW1 (02). -/
def R.TIME_CAPW1 : Nat := 0x40080074
def F.TIME_CAPW1_WORD : FieldRef := ⟨R.TIME_CAPW1, 31, 0⟩
/-- The internal address of TIME_CAPW2 (02). -/
def R.TIME_CAPW2 : Nat := 0x40080078
def F.TIME_CAPW2_WORD : FieldRef := ⟨R.TIME_CAPW2, 31, 0⟩
/-- The internal address of TIME_CAPW3 (02). -/
def R.TIME_CAPW3 : Nat := 0x4008007C
def F.TIME_CAPW3_WORD : FieldRef := ⟨R.TIME_CAPW3, 31, 0⟩
/-- The internal address of PATCH_TRDUR (03). -/
def R.PATCH_TRDUR (t : Nat) : Nat := 0x4020A000 + 0x8 * t
def F.PATCH_TRDUR_DUR (t : Nat) : FieldRef := ⟨R.PATCH_TRDUR t, 23, 0⟩
/-- The internal address of PATCH_TRCTL (03). -/
def R.PATCH_TRCTL (t : Nat) : Nat := 0x4020A004 + 0x8 * t
def F.PATCH_TRCTL_SHAPE (t : Nat) : FieldRef := ⟨R.PATCH_TRCTL t, 1, 0⟩
/-- The internal address of PATCH_TRSTAT (03). -/
def R.PATCH_TRSTAT (t : Nat) : Nat := 0x4020A800 + 0x4 * t
def F.PATCH_TRSTAT_RUN (t : Nat) : FieldRef := ⟨R.PATCH_TRSTAT t, 31, 31⟩
def F.PATCH_TRSTAT_REMAIN (t : Nat) : FieldRef := ⟨R.PATCH_TRSTAT t, 23, 0⟩
/-- The internal address of PATCH_PTADR (03). -/
def R.PATCH_PTADR (e : Nat) : Nat := 0x40210000 + 0x10 * e
def F.PATCH_PTADR_STAGE (e : Nat) : FieldRef := ⟨R.PATCH_PTADR e, 31, 31⟩
def F.PATCH_PTADR_XP (e : Nat) : FieldRef := ⟨R.PATCH_PTADR e, 18, 0⟩
/-- The internal address of PATCH_PTGAIN (03). -/
def R.PATCH_PTGAIN (e : Nat) : Nat := 0x40210004 + 0x10 * e
def F.PATCH_PTGAIN_TARGET (e : Nat) : FieldRef := ⟨R.PATCH_PTGAIN e, 23, 0⟩
/-- The internal address of PATCH_PTRMP (03). -/
def R.PATCH_PTRMP (e : Nat) : Nat := 0x40210008 + 0x10 * e
def F.PATCH_PTRMP_GO (e : Nat) : FieldRef := ⟨R.PATCH_PTRMP e, 31, 31⟩
def F.PATCH_PTRMP_SHAPE (e : Nat) : FieldRef := ⟨R.PATCH_PTRMP e, 25, 24⟩
def F.PATCH_PTRMP_DUR (e : Nat) : FieldRef := ⟨R.PATCH_PTRMP e, 23, 0⟩
/-- The internal address of PATCH_PTSTAT (03). -/
def R.PATCH_PTSTAT (e : Nat) : Nat := 0x4021000C + 0x10 * e
def F.PATCH_PTSTAT_RUN (e : Nat) : FieldRef := ⟨R.PATCH_PTSTAT e, 31, 31⟩
def F.PATCH_PTSTAT_CANCEL (e : Nat) : FieldRef := ⟨R.PATCH_PTSTAT e, 30, 30⟩
def F.PATCH_PTSTAT_REMAIN (e : Nat) : FieldRef := ⟨R.PATCH_PTSTAT e, 23, 0⟩
/-- The internal address of MBX_BUF (04). -/
def R.MBX_BUF (n : Nat) (w : Nat) : Nat := 0x40030000 + 0x400 * n + 0x4 * w
def F.MBX_BUF_WORD (n : Nat) (w : Nat) : FieldRef := ⟨R.MBX_BUF n w, 31, 0⟩
/-- The internal address of MBX_POST (04). -/
def R.MBX_POST (n : Nat) : Nat := 0x40030100 + 0x400 * n
def F.MBX_POST_GO (n : Nat) : FieldRef := ⟨R.MBX_POST n, 0, 0⟩
/-- The internal address of MBX_STAT (04). -/
def R.MBX_STAT (n : Nat) : Nat := 0x40030104 + 0x400 * n
def F.MBX_STAT_BINDERR (n : Nat) : FieldRef := ⟨R.MBX_STAT n, 5, 5⟩
def F.MBX_STAT_SEQERR (n : Nat) : FieldRef := ⟨R.MBX_STAT n, 4, 4⟩
def F.MBX_STAT_ABORTED (n : Nat) : FieldRef := ⟨R.MBX_STAT n, 3, 3⟩
def F.MBX_STAT_ORPHAN (n : Nat) : FieldRef := ⟨R.MBX_STAT n, 2, 2⟩
def F.MBX_STAT_STATE (n : Nat) : FieldRef := ⟨R.MBX_STAT n, 1, 0⟩
/-- The internal address of MBX_TAKE (04). -/
def R.MBX_TAKE (n : Nat) : Nat := 0x40030108 + 0x400 * n
def F.MBX_TAKE_GO (n : Nat) : FieldRef := ⟨R.MBX_TAKE n, 0, 0⟩
/-- The internal address of MBX_ACK (04). -/
def R.MBX_ACK (n : Nat) : Nat := 0x4003010C + 0x400 * n
def F.MBX_ACK_VALUE (n : Nat) : FieldRef := ⟨R.MBX_ACK n, 31, 16⟩
def F.MBX_ACK_CODE (n : Nat) : FieldRef := ⟨R.MBX_ACK n, 15, 0⟩
/-- The internal address of MBX_STAMP (04). -/
def R.MBX_STAMP (n : Nat) : Nat := 0x40030110 + 0x400 * n
def F.MBX_STAMP_SEQ (n : Nat) : FieldRef := ⟨R.MBX_STAMP n, 31, 16⟩
def F.MBX_STAMP_EPOCH (n : Nat) : FieldRef := ⟨R.MBX_STAMP n, 15, 8⟩
def F.MBX_STAMP_SENDER (n : Nat) : FieldRef := ⟨R.MBX_STAMP n, 5, 0⟩
/-- The internal address of MBX_IEN (04). -/
def R.MBX_IEN (n : Nat) : Nat := 0x40030114 + 0x400 * n
def F.MBX_IEN_TXIE (n : Nat) : FieldRef := ⟨R.MBX_IEN n, 1, 1⟩
def F.MBX_IEN_RXIE (n : Nat) : FieldRef := ⟨R.MBX_IEN n, 0, 0⟩
/-- The internal address of MBX_CLR (04). -/
def R.MBX_CLR (n : Nat) : Nat := 0x40030118 + 0x400 * n
def F.MBX_CLR_GO (n : Nat) : FieldRef := ⟨R.MBX_CLR n, 0, 0⟩
/-- The internal address of MBX_MODE (04). -/
def R.MBX_MODE : Nat := 0x40038000
def F.MBX_MODE_MODE : FieldRef := ⟨R.MBX_MODE, 1, 0⟩
/-- The internal address of MBX_LOCK (04). -/
def R.MBX_LOCK : Nat := 0x40038004
def F.MBX_LOCK_LOCK : FieldRef := ⟨R.MBX_LOCK, 0, 0⟩
/-- The internal address of MBX_SRESET (04). -/
def R.MBX_SRESET : Nat := 0x40038008
def F.MBX_SRESET_MASTER : FieldRef := ⟨R.MBX_SRESET, 5, 0⟩
/-- The internal address of MBX_POSTED (04). -/
def R.MBX_POSTED : Nat := 0x40038010
def F.MBX_POSTED_CH : FieldRef := ⟨R.MBX_POSTED, 31, 0⟩
/-- The internal address of MBX_ACKED (04). -/
def R.MBX_ACKED : Nat := 0x40038014
def F.MBX_ACKED_CH : FieldRef := ⟨R.MBX_ACKED, 31, 0⟩
/-- The internal address of MBX_BIND (04). -/
def R.MBX_BIND (n : Nat) : Nat := 0x40038100 + 0x4 * n
def F.MBX_BIND_RECEIVER (n : Nat) : FieldRef := ⟨R.MBX_BIND n, 13, 8⟩
def F.MBX_BIND_SENDER (n : Nat) : FieldRef := ⟨R.MBX_BIND n, 5, 0⟩
/-- The internal address of SUM_SETS (05). -/
def R.SUM_SETS : Nat := 0x40100000
def F.SUM_SETS_ACTMAT : FieldRef := ⟨R.SUM_SETS, 1, 1⟩
def F.SUM_SETS_ACTSEND : FieldRef := ⟨R.SUM_SETS, 0, 0⟩
/-- The internal address of SUM_STAT (05). -/
def R.SUM_STAT : Nat := 0x40100004
def F.SUM_STAT_OUTSAT : FieldRef := ⟨R.SUM_STAT, 3, 3⟩
def F.SUM_STAT_ACCSAT : FieldRef := ⟨R.SUM_STAT, 2, 2⟩
def F.SUM_STAT_TRM : FieldRef := ⟨R.SUM_STAT, 1, 1⟩
def F.SUM_STAT_TRS : FieldRef := ⟨R.SUM_STAT, 0, 0⟩
/-- The internal address of SUM_TRAIL (05). -/
def R.SUM_TRAIL : Nat := 0x40100008
def F.SUM_TRAIL_MTRL : FieldRef := ⟨R.SUM_TRAIL, 15, 8⟩
def F.SUM_TRAIL_STRL : FieldRef := ⟨R.SUM_TRAIL, 7, 0⟩
/-- The internal address of SUM_EXTS (05). -/
def R.SUM_EXTS : Nat := 0x40100010
def F.SUM_EXTS_NBUS : FieldRef := ⟨R.SUM_EXTS, 25, 16⟩
def F.SUM_EXTS_NSTRIP : FieldRef := ⟨R.SUM_EXTS, 10, 0⟩
/-- The internal address of SUM_EXTM (05). -/
def R.SUM_EXTM : Nat := 0x40100014
def F.SUM_EXTM_NOUT : FieldRef := ⟨R.SUM_EXTM, 8, 0⟩
/-- The internal address of SUM_LOAD (05). -/
def R.SUM_LOAD : Nat := 0x40100020
def F.SUM_LOAD_BUSYMAX : FieldRef := ⟨R.SUM_LOAD, 25, 16⟩
def F.SUM_LOAD_LOAD : FieldRef := ⟨R.SUM_LOAD, 9, 0⟩
/-- The internal address of SUM_HRB (05). -/
def R.SUM_HRB (b : Nat) : Nat := 0x40101000 + 0x4 * b
def F.SUM_HRB_H (b : Nat) : FieldRef := ⟨R.SUM_HRB b, 2, 0⟩
/-- The internal address of SUM_HRM (05). -/
def R.SUM_HRM (o : Nat) : Nat := 0x40101800 + 0x4 * o
def F.SUM_HRM_H (o : Nat) : FieldRef := ⟨R.SUM_HRM o, 2, 0⟩
/-- The internal address of SUM_BSAT (05). -/
def R.SUM_BSAT (b : Nat) : Nat := 0x40102000 + 0x4 * b
def F.SUM_BSAT_ACC (b : Nat) : FieldRef := ⟨R.SUM_BSAT b, 31, 16⟩
def F.SUM_BSAT_OUT (b : Nat) : FieldRef := ⟨R.SUM_BSAT b, 15, 0⟩
/-- The internal address of SUM_MSAT (05). -/
def R.SUM_MSAT (o : Nat) : Nat := 0x40102800 + 0x4 * o
def F.SUM_MSAT_ACC (o : Nat) : FieldRef := ⟨R.SUM_MSAT o, 31, 16⟩
def F.SUM_MSAT_OUT (o : Nat) : FieldRef := ⟨R.SUM_MSAT o, 15, 0⟩
/-- The internal address of CLU_STAT (06). -/
def R.CLU_STAT (c : Nat) : Nat := 0x40A00000 + 0x10000 * c
def F.CLU_STAT_FAULTED (c : Nat) : FieldRef := ⟨R.CLU_STAT c, 15, 8⟩
def F.CLU_STAT_BUSY (c : Nat) : FieldRef := ⟨R.CLU_STAT c, 7, 0⟩
/-- The internal address of CLU_CORECTL (06). -/
def R.CLU_CORECTL (c : Nat) (k : Nat) : Nat := 0x40A00100 + 0x10000 * c + 0x4 * k
def F.CLU_CORECTL_RESTART (c : Nat) (k : Nat) : FieldRef := ⟨R.CLU_CORECTL c k, 1, 1⟩
def F.CLU_CORECTL_DBGREQ (c : Nat) (k : Nat) : FieldRef := ⟨R.CLU_CORECTL c k, 0, 0⟩
/-- The internal address of CLU_IVEC (06). -/
def R.CLU_IVEC (c : Nat) (k : Nat) : Nat := 0x40A00140 + 0x10000 * c + 0x4 * k
def F.CLU_IVEC_BASE (c : Nat) (k : Nat) : FieldRef := ⟨R.CLU_IVEC c k, 16, 6⟩
/-- The internal address of CLU_ISP (06). -/
def R.CLU_ISP (c : Nat) (k : Nat) : Nat := 0x40A00180 + 0x10000 * c + 0x4 * k
def F.CLU_ISP_ISP (c : Nat) (k : Nat) : FieldRef := ⟨R.CLU_ISP c k, 31, 0⟩
/-- The internal address of CLU_FAULT (06). -/
def R.CLU_FAULT (c : Nat) (k : Nat) : Nat := 0x40A00200 + 0x10000 * c + 0x4 * k
def F.CLU_FAULT_FCNT (c : Nat) (k : Nat) : FieldRef := ⟨R.CLU_FAULT c k, 31, 16⟩
def F.CLU_FAULT_TMO (c : Nat) (k : Nat) : FieldRef := ⟨R.CLU_FAULT c k, 4, 4⟩
def F.CLU_FAULT_ECCI (c : Nat) (k : Nat) : FieldRef := ⟨R.CLU_FAULT c k, 3, 3⟩
def F.CLU_FAULT_ECCD (c : Nat) (k : Nat) : FieldRef := ⟨R.CLU_FAULT c k, 2, 2⟩
def F.CLU_FAULT_ADDR (c : Nat) (k : Nat) : FieldRef := ⟨R.CLU_FAULT c k, 1, 1⟩
def F.CLU_FAULT_ILL (c : Nat) (k : Nat) : FieldRef := ⟨R.CLU_FAULT c k, 0, 0⟩
/-- The internal address of CLU_FPC (06). -/
def R.CLU_FPC (c : Nat) (k : Nat) : Nat := 0x40A00240 + 0x10000 * c + 0x4 * k
def F.CLU_FPC_FPC (c : Nat) (k : Nat) : FieldRef := ⟨R.CLU_FPC c k, 16, 0⟩
/-- The internal address of CLU_FADDR (06). -/
def R.CLU_FADDR (c : Nat) (k : Nat) : Nat := 0x40A00280 + 0x10000 * c + 0x4 * k
def F.CLU_FADDR_FADDR (c : Nat) (k : Nat) : FieldRef := ⟨R.CLU_FADDR c k, 31, 0⟩
/-- The internal address of CLU_SATCNT (06). -/
def R.CLU_SATCNT (c : Nat) (k : Nat) : Nat := 0x40A002C0 + 0x10000 * c + 0x4 * k
def F.CLU_SATCNT_COUNT (c : Nat) (k : Nat) : FieldRef := ⟨R.CLU_SATCNT c k, 31, 0⟩
/-- The internal address of CLU_ISSUE (06). -/
def R.CLU_ISSUE (c : Nat) (k : Nat) : Nat := 0x40A00300 + 0x10000 * c + 0x4 * k
def F.CLU_ISSUE_COUNT (c : Nat) (k : Nat) : FieldRef := ⟨R.CLU_ISSUE c k, 31, 0⟩
/-- The internal address of CLU_STALL (06). -/
def R.CLU_STALL (c : Nat) (k : Nat) : Nat := 0x40A00340 + 0x10000 * c + 0x4 * k
def F.CLU_STALL_COUNT (c : Nat) (k : Nat) : FieldRef := ⟨R.CLU_STALL c k, 31, 0⟩
/-- The internal address of CLU_ECC (06). -/
def R.CLU_ECC (c : Nat) (k : Nat) : Nat := 0x40A00380 + 0x10000 * c + 0x4 * k
def F.CLU_ECC_DCOR (c : Nat) (k : Nat) : FieldRef := ⟨R.CLU_ECC c k, 31, 16⟩
def F.CLU_ECC_ICOR (c : Nat) (k : Nat) : FieldRef := ⟨R.CLU_ECC c k, 15, 0⟩
/-- The internal address of DISP_CTL (07). -/
def R.DISP_CTL : Nat := 0x40070000
def F.DISP_CTL_TSWAP : FieldRef := ⟨R.DISP_CTL, 0, 0⟩
/-- The internal address of DISP_STAT (07). -/
def R.DISP_STAT : Nat := 0x40070004
def F.DISP_STAT_ARMERR : FieldRef := ⟨R.DISP_STAT, 2, 2⟩
def F.DISP_STAT_MISSED : FieldRef := ⟨R.DISP_STAT, 1, 1⟩
def F.DISP_STAT_TSWPEND : FieldRef := ⟨R.DISP_STAT, 0, 0⟩
/-- The internal address of DISP_MARGIN (07). -/
def R.DISP_MARGIN : Nat := 0x40070008
def F.DISP_MARGIN_MARGIN : FieldRef := ⟨R.DISP_MARGIN, 9, 0⟩
/-- The internal address of DISP_ARM (07). -/
def R.DISP_ARM : Nat := 0x40070010
def F.DISP_ARM_DISARM : FieldRef := ⟨R.DISP_ARM, 16, 16⟩
def F.DISP_ARM_HANDLE : FieldRef := ⟨R.DISP_ARM, 9, 0⟩
/-- The internal address of DISP_MISSRND (07). -/
def R.DISP_MISSRND : Nat := 0x40070020
def F.DISP_MISSRND_COUNT : FieldRef := ⟨R.DISP_MISSRND, 31, 0⟩
/-- The internal address of DISP_MISSITEM (07). -/
def R.DISP_MISSITEM : Nat := 0x40070024
def F.DISP_MISSITEM_COUNT : FieldRef := ⟨R.DISP_MISSITEM, 31, 0⟩
/-- The internal address of DISP_LASTMISS (07). -/
def R.DISP_LASTMISS : Nat := 0x40070028
def F.DISP_LASTMISS_RMTIL : FieldRef := ⟨R.DISP_LASTMISS, 31, 0⟩
/-- The internal address of DISP_LASTH (07). -/
def R.DISP_LASTH : Nat := 0x4007002C
def F.DISP_LASTH_DL : FieldRef := ⟨R.DISP_LASTH, 16, 16⟩
def F.DISP_LASTH_HANDLE : FieldRef := ⟨R.DISP_LASTH, 9, 0⟩
/-- The internal address of DISP_ROUNDS (07). -/
def R.DISP_ROUNDS : Nat := 0x40070030
def F.DISP_ROUNDS_COUNT : FieldRef := ⟨R.DISP_ROUNDS, 31, 0⟩
/-- The internal address of DISP_TMASK (07). -/
def R.DISP_TMASK (w : Nat) : Nat := 0x40070100 + 0x4 * w
def F.DISP_TMASK_MASK (w : Nat) : FieldRef := ⟨R.DISP_TMASK w, 31, 0⟩
/-- The internal address of DISP_TNEXT (07). -/
def R.DISP_TNEXT (w : Nat) : Nat := 0x40070180 + 0x4 * w
def F.DISP_TNEXT_MASK (w : Nat) : FieldRef := ⟨R.DISP_TNEXT w, 31, 0⟩
/-- The internal address of DISP_EVSLOT (07). -/
def R.DISP_EVSLOT (n : Nat) : Nat := 0x40070200 + 0x4 * n
def F.DISP_EVSLOT_EN (n : Nat) : FieldRef := ⟨R.DISP_EVSLOT n, 31, 31⟩
def F.DISP_EVSLOT_HANDLE (n : Nat) : FieldRef := ⟨R.DISP_EVSLOT n, 25, 16⟩
def F.DISP_EVSLOT_EVENT (n : Nat) : FieldRef := ⟨R.DISP_EVSLOT n, 7, 0⟩
/-- The internal address of EVT_ALCFG (08). -/
def R.EVT_ALCFG (n : Nat) : Nat := 0x40020800 + 0x4 * n
def F.EVT_ALCFG_QUAL (n : Nat) : FieldRef := ⟨R.EVT_ALCFG n, 13, 4⟩
def F.EVT_ALCFG_EDGE (n : Nat) : FieldRef := ⟨R.EVT_ALCFG n, 2, 1⟩
def F.EVT_ALCFG_EN (n : Nat) : FieldRef := ⟨R.EVT_ALCFG n, 0, 0⟩
/-- The internal address of EVT_ALSTAT (08). -/
def R.EVT_ALSTAT : Nat := 0x40020810
def F.EVT_ALSTAT_FIRED : FieldRef := ⟨R.EVT_ALSTAT, 11, 8⟩
def F.EVT_ALSTAT_ARMED : FieldRef := ⟨R.EVT_ALSTAT, 7, 4⟩
def F.EVT_ALSTAT_LEVEL : FieldRef := ⟨R.EVT_ALSTAT, 3, 0⟩
/-- The internal address of TDM_CFG (09). -/
def R.TDM_CFG (p : Nat) : Nat := 0x40300000 + 0x1000 * p
def F.TDM_CFG_EN (p : Nat) : FieldRef := ⟨R.TDM_CFG p, 31, 31⟩
def F.TDM_CFG_FSPOL (p : Nat) : FieldRef := ⟨R.TDM_CFG p, 13, 13⟩
def F.TDM_CFG_BCLKPOL (p : Nat) : FieldRef := ⟨R.TDM_CFG p, 12, 12⟩
def F.TDM_CFG_DELAY (p : Nat) : FieldRef := ⟨R.TDM_CFG p, 11, 11⟩
def F.TDM_CFG_SW (p : Nat) : FieldRef := ⟨R.TDM_CFG p, 10, 9⟩
def F.TDM_CFG_SLOTS (p : Nat) : FieldRef := ⟨R.TDM_CFG p, 8, 4⟩
def F.TDM_CFG_FMT (p : Nat) : FieldRef := ⟨R.TDM_CFG p, 3, 2⟩
def F.TDM_CFG_MODE (p : Nat) : FieldRef := ⟨R.TDM_CFG p, 1, 0⟩
/-- The internal address of TDM_RXMAP (09). -/
def R.TDM_RXMAP (p : Nat) : Nat := 0x40300004 + 0x1000 * p
def F.TDM_RXMAP_WIDTH (p : Nat) : FieldRef := ⟨R.TDM_RXMAP p, 21, 16⟩
def F.TDM_RXMAP_BASE (p : Nat) : FieldRef := ⟨R.TDM_RXMAP p, 8, 0⟩
/-- The internal address of TDM_TXMAP (09). -/
def R.TDM_TXMAP (p : Nat) : Nat := 0x40300008 + 0x1000 * p
def F.TDM_TXMAP_WIDTH (p : Nat) : FieldRef := ⟨R.TDM_TXMAP p, 21, 16⟩
def F.TDM_TXMAP_BASE (p : Nat) : FieldRef := ⟨R.TDM_TXMAP p, 8, 0⟩
/-- The internal address of TDM_RXMASK (09). -/
def R.TDM_RXMASK (p : Nat) : Nat := 0x40300010 + 0x1000 * p
def F.TDM_RXMASK_MASK (p : Nat) : FieldRef := ⟨R.TDM_RXMASK p, 31, 0⟩
/-- The internal address of TDM_TXMASK (09). -/
def R.TDM_TXMASK (p : Nat) : Nat := 0x40300014 + 0x1000 * p
def F.TDM_TXMASK_MASK (p : Nat) : FieldRef := ⟨R.TDM_TXMASK p, 31, 0⟩
/-- The internal address of TDM_MASKGO (09). -/
def R.TDM_MASKGO (p : Nat) : Nat := 0x40300018 + 0x1000 * p
def F.TDM_MASKGO_GO (p : Nat) : FieldRef := ⟨R.TDM_MASKGO p, 0, 0⟩
/-- The internal address of TDM_STAT (09). -/
def R.TDM_STAT (p : Nat) : Nat := 0x40300020 + 0x1000 * p
def F.TDM_STAT_LOSTEV (p : Nat) : FieldRef := ⟨R.TDM_STAT p, 8, 8⟩
def F.TDM_STAT_MASKPEND (p : Nat) : FieldRef := ⟨R.TDM_STAT p, 7, 7⟩
def F.TDM_STAT_MAPERR (p : Nat) : FieldRef := ⟨R.TDM_STAT p, 6, 6⟩
def F.TDM_STAT_FRMERR (p : Nat) : FieldRef := ⟨R.TDM_STAT p, 5, 5⟩
def F.TDM_STAT_ORUN (p : Nat) : FieldRef := ⟨R.TDM_STAT p, 4, 4⟩
def F.TDM_STAT_URUN (p : Nat) : FieldRef := ⟨R.TDM_STAT p, 3, 3⟩
def F.TDM_STAT_SLIP (p : Nat) : FieldRef := ⟨R.TDM_STAT p, 2, 2⟩
def F.TDM_STAT_STATE (p : Nat) : FieldRef := ⟨R.TDM_STAT p, 1, 0⟩
/-- The internal address of TDM_RATE (09). -/
def R.TDM_RATE (p : Nat) : Nat := 0x40300024 + 0x1000 * p
def F.TDM_RATE_RATE (p : Nat) : FieldRef := ⟨R.TDM_RATE p, 21, 0⟩
/-- The internal address of TDM_RXURUN (09). -/
def R.TDM_RXURUN (p : Nat) : Nat := 0x40300030 + 0x1000 * p
def F.TDM_RXURUN_COUNT (p : Nat) : FieldRef := ⟨R.TDM_RXURUN p, 31, 0⟩
/-- The internal address of TDM_RXORUN (09). -/
def R.TDM_RXORUN (p : Nat) : Nat := 0x40300034 + 0x1000 * p
def F.TDM_RXORUN_COUNT (p : Nat) : FieldRef := ⟨R.TDM_RXORUN p, 31, 0⟩
/-- The internal address of TDM_TXURUN (09). -/
def R.TDM_TXURUN (p : Nat) : Nat := 0x40300038 + 0x1000 * p
def F.TDM_TXURUN_COUNT (p : Nat) : FieldRef := ⟨R.TDM_TXURUN p, 31, 0⟩
/-- The internal address of TDM_TXORUN (09). -/
def R.TDM_TXORUN (p : Nat) : Nat := 0x4030003C + 0x1000 * p
def F.TDM_TXORUN_COUNT (p : Nat) : FieldRef := ⟨R.TDM_TXORUN p, 31, 0⟩
/-- The internal address of TDM_FRMERR (09). -/
def R.TDM_FRMERR (p : Nat) : Nat := 0x40300040 + 0x1000 * p
def F.TDM_FRMERR_COUNT (p : Nat) : FieldRef := ⟨R.TDM_FRMERR p, 31, 0⟩
/-- The internal address of TDM_LOST (09). -/
def R.TDM_LOST (p : Nat) : Nat := 0x40300044 + 0x1000 * p
def F.TDM_LOST_COUNT (p : Nat) : FieldRef := ⟨R.TDM_LOST p, 31, 0⟩
/-- The internal address of TDM_CAPCTL (09). -/
def R.TDM_CAPCTL (p : Nat) : Nat := 0x40300080 + 0x1000 * p
def F.TDM_CAPCTL_FULL (p : Nat) : FieldRef := ⟨R.TDM_CAPCTL p, 8, 8⟩
def F.TDM_CAPCTL_STOP (p : Nat) : FieldRef := ⟨R.TDM_CAPCTL p, 3, 3⟩
def F.TDM_CAPCTL_PACK (p : Nat) : FieldRef := ⟨R.TDM_CAPCTL p, 2, 2⟩
def F.TDM_CAPCTL_DIR (p : Nat) : FieldRef := ⟨R.TDM_CAPCTL p, 1, 1⟩
def F.TDM_CAPCTL_EN (p : Nat) : FieldRef := ⟨R.TDM_CAPCTL p, 0, 0⟩
/-- The internal address of TDM_CAPMASK (09). -/
def R.TDM_CAPMASK (p : Nat) : Nat := 0x40300084 + 0x1000 * p
def F.TDM_CAPMASK_MASK (p : Nat) : FieldRef := ⟨R.TDM_CAPMASK p, 31, 0⟩
/-- The internal address of TDM_CAPBASEL (09). -/
def R.TDM_CAPBASEL (p : Nat) : Nat := 0x40300088 + 0x1000 * p
def F.TDM_CAPBASEL_ADDRL (p : Nat) : FieldRef := ⟨R.TDM_CAPBASEL p, 31, 6⟩
/-- The internal address of TDM_CAPBASEH (09). -/
def R.TDM_CAPBASEH (p : Nat) : Nat := 0x4030008C + 0x1000 * p
def F.TDM_CAPBASEH_ADDRH (p : Nat) : FieldRef := ⟨R.TDM_CAPBASEH p, 7, 0⟩
/-- The internal address of TDM_CAPLEN (09). -/
def R.TDM_CAPLEN (p : Nat) : Nat := 0x40300090 + 0x1000 * p
def F.TDM_CAPLEN_LEN (p : Nat) : FieldRef := ⟨R.TDM_CAPLEN p, 29, 6⟩
/-- The internal address of TDM_CAPWP (09). -/
def R.TDM_CAPWP (p : Nat) : Nat := 0x40300094 + 0x1000 * p
def F.TDM_CAPWP_VALUE (p : Nat) : FieldRef := ⟨R.TDM_CAPWP p, 31, 0⟩
/-- The internal address of TDM_CAPMTI (09). -/
def R.TDM_CAPMTI (p : Nat) : Nat := 0x40300098 + 0x1000 * p
def F.TDM_CAPMTI_VALUE (p : Nat) : FieldRef := ⟨R.TDM_CAPMTI p, 31, 0⟩
/-- The internal address of ASRC_CTL (09). -/
def R.ASRC_CTL (c : Nat) : Nat := 0x40340000 + 0x10 * c
def F.ASRC_CTL_DLY (c : Nat) : FieldRef := ⟨R.ASRC_CTL c, 25, 16⟩
def F.ASRC_CTL_BW (c : Nat) : FieldRef := ⟨R.ASRC_CTL c, 15, 8⟩
def F.ASRC_CTL_HOLD (c : Nat) : FieldRef := ⟨R.ASRC_CTL c, 0, 0⟩
/-- The internal address of ASRC_STAT (09). -/
def R.ASRC_STAT (c : Nat) : Nat := 0x40340004 + 0x10 * c
def F.ASRC_STAT_RELOCK (c : Nat) : FieldRef := ⟨R.ASRC_STAT c, 31, 16⟩
def F.ASRC_STAT_RELOCKEV (c : Nat) : FieldRef := ⟨R.ASRC_STAT c, 1, 1⟩
def F.ASRC_STAT_LOCKED (c : Nat) : FieldRef := ⟨R.ASRC_STAT c, 0, 0⟩
/-- The internal address of ASRC_RATIO (09). -/
def R.ASRC_RATIO (c : Nat) : Nat := 0x40340008 + 0x10 * c
def F.ASRC_RATIO_RATIO (c : Nat) : FieldRef := ⟨R.ASRC_RATIO c, 31, 0⟩
/-- The internal address of NET_CTL (10). -/
def R.NET_CTL : Nat := 0x40400000
def F.NET_CTL_EN : FieldRef := ⟨R.NET_CTL, 31, 31⟩
def F.NET_CTL_MODE : FieldRef := ⟨R.NET_CTL, 1, 0⟩
/-- The internal address of NET_STAT (10). -/
def R.NET_STAT : Nat := 0x40400004
def F.NET_STAT_LOOP : FieldRef := ⟨R.NET_STAT, 2, 2⟩
def F.NET_STAT_FWDBLK : FieldRef := ⟨R.NET_STAT, 1, 1⟩
def F.NET_STAT_CTLPOL : FieldRef := ⟨R.NET_STAT, 0, 0⟩
/-- The internal address of NET_PCFG (10). -/
def R.NET_PCFG (x : Nat) : Nat := 0x40400010 + 0x4 * x
def F.NET_PCFG_PAUSEEN (x : Nat) : FieldRef := ⟨R.NET_PCFG x, 8, 8⟩
def F.NET_PCFG_ANEG (x : Nat) : FieldRef := ⟨R.NET_PCFG x, 4, 4⟩
def F.NET_PCFG_IF (x : Nat) : FieldRef := ⟨R.NET_PCFG x, 2, 0⟩
/-- The internal address of NET_PSTAT (10). -/
def R.NET_PSTAT (x : Nat) : Nat := 0x40400020 + 0x4 * x
def F.NET_PSTAT_SPD (x : Nat) : FieldRef := ⟨R.NET_PSTAT x, 15, 12⟩
def F.NET_PSTAT_HOLDOFF (x : Nat) : FieldRef := ⟨R.NET_PSTAT x, 8, 8⟩
def F.NET_PSTAT_PAUSED (x : Nat) : FieldRef := ⟨R.NET_PSTAT x, 7, 7⟩
def F.NET_PSTAT_SPEEDERR (x : Nat) : FieldRef := ⟨R.NET_PSTAT x, 4, 4⟩
def F.NET_PSTAT_WDOG (x : Nat) : FieldRef := ⟨R.NET_PSTAT x, 3, 3⟩
def F.NET_PSTAT_LINKEV (x : Nat) : FieldRef := ⟨R.NET_PSTAT x, 2, 2⟩
def F.NET_PSTAT_LINK (x : Nat) : FieldRef := ⟨R.NET_PSTAT x, 0, 0⟩
/-- The internal address of NET_PAUSE (10). -/
def R.NET_PAUSE : Nat := 0x40400030
def F.NET_PAUSE_HOLDOFF : FieldRef := ⟨R.NET_PAUSE, 25, 16⟩
def F.NET_PAUSE_LIMIT : FieldRef := ⟨R.NET_PAUSE, 13, 0⟩
/-- The internal address of NET_CLASS (10). -/
def R.NET_CLASS : Nat := 0x40400040
def F.NET_CLASS_CTLPORT : FieldRef := ⟨R.NET_CLASS, 31, 16⟩
def F.NET_CLASS_MPCP : FieldRef := ⟨R.NET_CLASS, 10, 8⟩
def F.NET_CLASS_MDSCP : FieldRef := ⟨R.NET_CLASS, 5, 0⟩
/-- The internal address of NET_POOL (10). -/
def R.NET_POOL : Nat := 0x40400050
def F.NET_POOL_BE : FieldRef := ⟨R.NET_POOL, 31, 24⟩
def F.NET_POOL_CTL : FieldRef := ⟨R.NET_POOL, 23, 16⟩
def F.NET_POOL_MEDIA : FieldRef := ⟨R.NET_POOL, 15, 8⟩
def F.NET_POOL_PTP : FieldRef := ⟨R.NET_POOL, 7, 0⟩
/-- The internal address of NET_DROPPTP (10). -/
def R.NET_DROPPTP : Nat := 0x40400060
def F.NET_DROPPTP_COUNT : FieldRef := ⟨R.NET_DROPPTP, 31, 0⟩
/-- The internal address of NET_DROPMEDIA (10). -/
def R.NET_DROPMEDIA : Nat := 0x40400064
def F.NET_DROPMEDIA_COUNT : FieldRef := ⟨R.NET_DROPMEDIA, 31, 0⟩
/-- The internal address of NET_DROPCTL (10). -/
def R.NET_DROPCTL : Nat := 0x40400068
def F.NET_DROPCTL_COUNT : FieldRef := ⟨R.NET_DROPCTL, 31, 0⟩
/-- The internal address of NET_DROPBE (10). -/
def R.NET_DROPBE : Nat := 0x4040006C
def F.NET_DROPBE_COUNT : FieldRef := ⟨R.NET_DROPBE, 31, 0⟩
/-- The internal address of NET_CSUMERR (10). -/
def R.NET_CSUMERR : Nat := 0x40400070
def F.NET_CSUMERR_COUNT : FieldRef := ⟨R.NET_CSUMERR, 31, 0⟩
/-- The internal address of NET_OVERSIZE (10). -/
def R.NET_OVERSIZE : Nat := 0x40400074
def F.NET_OVERSIZE_COUNT : FieldRef := ⟨R.NET_OVERSIZE, 31, 0⟩
/-- The internal address of NET_FCSERR (10). -/
def R.NET_FCSERR : Nat := 0x40400078
def F.NET_FCSERR_COUNT : FieldRef := ⟨R.NET_FCSERR, 31, 0⟩
/-- The internal address of NET_CTLPOL (10). -/
def R.NET_CTLPOL : Nat := 0x4040007C
def F.NET_CTLPOL_COUNT : FieldRef := ⟨R.NET_CTLPOL, 31, 0⟩
/-- The internal address of NET_PFC (10). -/
def R.NET_PFC : Nat := 0x40400080
def F.NET_PFC_COUNT : FieldRef := ⟨R.NET_PFC, 31, 0⟩
/-- The internal address of NET_PAUSEIGN (10). -/
def R.NET_PAUSEIGN : Nat := 0x40400084
def F.NET_PAUSEIGN_COUNT : FieldRef := ⟨R.NET_PAUSEIGN, 31, 0⟩
/-- The internal address of NET_RXSTAT (10). -/
def R.NET_RXSTAT (s : Nat) : Nat := 0x40401000 + 0x10 * s
def F.NET_RXSTAT_GROUP (s : Nat) : FieldRef := ⟨R.NET_RXSTAT s, 31, 24⟩
def F.NET_RXSTAT_LEGB (s : Nat) : FieldRef := ⟨R.NET_RXSTAT s, 10, 10⟩
def F.NET_RXSTAT_LEGA (s : Nat) : FieldRef := ⟨R.NET_RXSTAT s, 9, 9⟩
def F.NET_RXSTAT_INACT (s : Nat) : FieldRef := ⟨R.NET_RXSTAT s, 8, 8⟩
def F.NET_RXSTAT_STATE (s : Nat) : FieldRef := ⟨R.NET_RXSTAT s, 2, 0⟩
/-- The internal address of NET_RXURUN (10). -/
def R.NET_RXURUN (s : Nat) : Nat := 0x40401004 + 0x10 * s
def F.NET_RXURUN_VALUE (s : Nat) : FieldRef := ⟨R.NET_RXURUN s, 31, 0⟩
/-- The internal address of NET_RXLATE (10). -/
def R.NET_RXLATE (s : Nat) : Nat := 0x40401008 + 0x10 * s
def F.NET_RXLATE_VALUE (s : Nat) : FieldRef := ⟨R.NET_RXLATE s, 31, 0⟩
/-- The internal address of NET_RXMISS (10). -/
def R.NET_RXMISS (s : Nat) : Nat := 0x4040100C + 0x10 * s
def F.NET_RXMISS_VALUE (s : Nat) : FieldRef := ⟨R.NET_RXMISS s, 31, 0⟩
/-- The internal address of NET_TXSTAT (10). -/
def R.NET_TXSTAT (t : Nat) : Nat := 0x40402000 + 0x4 * (t - 256)
def F.NET_TXSTAT_RUN (t : Nat) : FieldRef := ⟨R.NET_TXSTAT t, 31, 31⟩
def F.NET_TXSTAT_INACT (t : Nat) : FieldRef := ⟨R.NET_TXSTAT t, 30, 30⟩
def F.NET_TXSTAT_PKTS (t : Nat) : FieldRef := ⟨R.NET_TXSTAT t, 23, 0⟩
/-- The internal address of T1S_CFG (10). -/
def R.T1S_CFG (q : Nat) : Nat := 0x40480000 + 0x100 * q
def F.T1S_CFG_EN (q : Nat) : FieldRef := ⟨R.T1S_CFG q, 31, 31⟩
/-- The internal address of T1S_STAT (10). -/
def R.T1S_STAT (q : Nat) : Nat := 0x40480004 + 0x100 * q
def F.T1S_STAT_COLLEV (q : Nat) : FieldRef := ⟨R.T1S_STAT q, 2, 2⟩
def F.T1S_STAT_POLREV (q : Nat) : FieldRef := ⟨R.T1S_STAT q, 1, 1⟩
def F.T1S_STAT_ACT (q : Nat) : FieldRef := ⟨R.T1S_STAT q, 0, 0⟩
/-- The internal address of T1S_COLL (10). -/
def R.T1S_COLL (q : Nat) : Nat := 0x40480010 + 0x100 * q
def F.T1S_COLL_COUNT (q : Nat) : FieldRef := ⟨R.T1S_COLL q, 31, 0⟩
/-- The internal address of T1S_EXCOL (10). -/
def R.T1S_EXCOL (q : Nat) : Nat := 0x40480014 + 0x100 * q
def F.T1S_EXCOL_COUNT (q : Nat) : FieldRef := ⟨R.T1S_EXCOL q, 31, 0⟩
/-- The internal address of T1S_LATECOL (10). -/
def R.T1S_LATECOL (q : Nat) : Nat := 0x40480018 + 0x100 * q
def F.T1S_LATECOL_COUNT (q : Nat) : FieldRef := ⟨R.T1S_LATECOL q, 31, 0⟩
/-- The internal address of REFS_CTL (11). -/
def R.REFS_CTL : Nat := 0x40090000
def F.REFS_CTL_REVERT : FieldRef := ⟨R.REFS_CTL, 4, 4⟩
def F.REFS_CTL_FORCE : FieldRef := ⟨R.REFS_CTL, 2, 0⟩
/-- The internal address of REFS_PRIO (11). -/
def R.REFS_PRIO : Nat := 0x40090004
def F.REFS_PRIO_PRI0 : FieldRef := ⟨R.REFS_PRIO, 2, 0⟩
def F.REFS_PRIO_PRI1 : FieldRef := ⟨R.REFS_PRIO, 5, 3⟩
def F.REFS_PRIO_PRI2 : FieldRef := ⟨R.REFS_PRIO, 8, 6⟩
def F.REFS_PRIO_PRI3 : FieldRef := ⟨R.REFS_PRIO, 11, 9⟩
def F.REFS_PRIO_PRI4 : FieldRef := ⟨R.REFS_PRIO, 14, 12⟩
/-- The internal address of REFS_QUAL (11). -/
def R.REFS_QUAL : Nat := 0x40090008
def F.REFS_QUAL_WTR : FieldRef := ⟨R.REFS_QUAL, 25, 17⟩
def F.REFS_QUAL_HYST : FieldRef := ⟨R.REFS_QUAL, 16, 9⟩
def F.REFS_QUAL_WIN : FieldRef := ⟨R.REFS_QUAL, 8, 0⟩
/-- The internal address of REFS_DPLL (11). -/
def R.REFS_DPLL : Nat := 0x4009000C
def F.REFS_DPLL_BWAPP : FieldRef := ⟨R.REFS_DPLL, 22, 16⟩
def F.REFS_DPLL_BW : FieldRef := ⟨R.REFS_DPLL, 6, 0⟩
/-- The internal address of REFS_STAT (11). -/
def R.REFS_STAT : Nat := 0x40090010
def F.REFS_STAT_SWEV : FieldRef := ⟨R.REFS_STAT, 15, 15⟩
def F.REFS_STAT_QUAL : FieldRef := ⟨R.REFS_STAT, 14, 8⟩
def F.REFS_STAT_FORCEOFF : FieldRef := ⟨R.REFS_STAT, 6, 6⟩
def F.REFS_STAT_OFSNOTE : FieldRef := ⟨R.REFS_STAT, 5, 5⟩
def F.REFS_STAT_FREERUN : FieldRef := ⟨R.REFS_STAT, 4, 4⟩
def F.REFS_STAT_SWITCHING : FieldRef := ⟨R.REFS_STAT, 3, 3⟩
def F.REFS_STAT_SEL : FieldRef := ⟨R.REFS_STAT, 2, 0⟩
/-- The internal address of REFS_CSTAT (11). -/
def R.REFS_CSTAT (c : Nat) : Nat := 0x40090020 + 0x4 * c
def F.REFS_CSTAT_FOFS (c : Nat) : FieldRef := ⟨R.REFS_CSTAT c, 31, 16⟩
def F.REFS_CSTAT_WTRREM (c : Nat) : FieldRef := ⟨R.REFS_CSTAT c, 11, 2⟩
def F.REFS_CSTAT_STATE (c : Nat) : FieldRef := ⟨R.REFS_CSTAT c, 1, 0⟩
/-- The internal address of REFS_ABSL (11). -/
def R.REFS_ABSL : Nat := 0x40090040
def F.REFS_ABSL_VALUE : FieldRef := ⟨R.REFS_ABSL, 31, 0⟩
/-- The internal address of REFS_ABSH (11). -/
def R.REFS_ABSH : Nat := 0x40090044
def F.REFS_ABSH_VALUE : FieldRef := ⟨R.REFS_ABSH, 31, 0⟩
/-- The internal address of REFS_REALIGN (11). -/
def R.REFS_REALIGN : Nat := 0x40090048
def F.REFS_REALIGN_GO : FieldRef := ⟨R.REFS_REALIGN, 31, 31⟩
def F.REFS_REALIGN_STEP : FieldRef := ⟨R.REFS_REALIGN, 30, 30⟩
def F.REFS_REALIGN_BUSY : FieldRef := ⟨R.REFS_REALIGN, 29, 29⟩
def F.REFS_REALIGN_TGT : FieldRef := ⟨R.REFS_REALIGN, 18, 16⟩
def F.REFS_REALIGN_RATE : FieldRef := ⟨R.REFS_REALIGN, 12, 0⟩
/-- The internal address of REFS_WCIN (11). -/
def R.REFS_WCIN : Nat := 0x40090050
def F.REFS_WCIN_POL : FieldRef := ⟨R.REFS_WCIN, 1, 1⟩
def F.REFS_WCIN_DIV : FieldRef := ⟨R.REFS_WCIN, 0, 0⟩
/-- The internal address of REFS_C3CFG (11). -/
def R.REFS_C3CFG : Nat := 0x40090054
def F.REFS_C3CFG_SECVALID : FieldRef := ⟨R.REFS_C3CFG, 31, 31⟩
def F.REFS_C3CFG_PPSPOL : FieldRef := ⟨R.REFS_C3CFG, 0, 0⟩
/-- The internal address of REFS_PPSSECL (11). -/
def R.REFS_PPSSECL : Nat := 0x40090058
def F.REFS_PPSSECL_SEC : FieldRef := ⟨R.REFS_PPSSECL, 31, 0⟩
/-- The internal address of REFS_PPSSECH (11). -/
def R.REFS_PPSSECH : Nat := 0x4009005C
def F.REFS_PPSSECH_SEC : FieldRef := ⟨R.REFS_PPSSECH, 15, 0⟩
/-- The internal address of REFS_C4SEL (11). -/
def R.REFS_C4SEL : Nat := 0x40090060
def F.REFS_C4SEL_PORT : FieldRef := ⟨R.REFS_C4SEL, 4, 0⟩
/-- The internal address of REFS_MCLK (11). -/
def R.REFS_MCLK (m : Nat) : Nat := 0x40090070 + 0x4 * m
def F.REFS_MCLK_MULT (m : Nat) : FieldRef := ⟨R.REFS_MCLK m, 2, 0⟩
/-- The internal address of REFS_WCOUT (11). -/
def R.REFS_WCOUT : Nat := 0x40090080
def F.REFS_WCOUT_STBYZ : FieldRef := ⟨R.REFS_WCOUT, 2, 2⟩
def F.REFS_WCOUT_DIV : FieldRef := ⟨R.REFS_WCOUT, 1, 1⟩
def F.REFS_WCOUT_EN : FieldRef := ⟨R.REFS_WCOUT, 0, 0⟩
/-- The internal address of REFS_PPSOUT (11). -/
def R.REFS_PPSOUT : Nat := 0x40090084
def F.REFS_PPSOUT_WIDTH : FieldRef := ⟨R.REFS_PPSOUT, 17, 8⟩
def F.REFS_PPSOUT_POL : FieldRef := ⟨R.REFS_PPSOUT, 1, 1⟩
def F.REFS_PPSOUT_EN : FieldRef := ⟨R.REFS_PPSOUT, 0, 0⟩
/-- The internal address of REFS_WCOFS (11). -/
def R.REFS_WCOFS : Nat := 0x40090088
def F.REFS_WCOFS_VALUE : FieldRef := ⟨R.REFS_WCOFS, 31, 0⟩
/-- The internal address of REFS_PPSOFS (11). -/
def R.REFS_PPSOFS : Nat := 0x4009008C
def F.REFS_PPSOFS_VALUE : FieldRef := ⟨R.REFS_PPSOFS, 31, 0⟩
/-- The internal address of REFS_PTPLAT (11). -/
def R.REFS_PTPLAT (x : Nat) : Nat := 0x40090090 + 0x8 * x
def F.REFS_PTPLAT_TXLAT (x : Nat) : FieldRef := ⟨R.REFS_PTPLAT x, 31, 16⟩
def F.REFS_PTPLAT_RXLAT (x : Nat) : FieldRef := ⟨R.REFS_PTPLAT x, 15, 0⟩
/-- The internal address of REFS_ASYM (11). -/
def R.REFS_ASYM (x : Nat) : Nat := 0x40090094 + 0x8 * x
def F.REFS_ASYM_ASYM (x : Nat) : FieldRef := ⟨R.REFS_ASYM x, 31, 0⟩
/-- The internal address of AMP_CTL (12). -/
def R.AMP_CTL (ch : Nat) : Nat := 0x40500000 + 0x1000 * ch
def F.AMP_CTL_NOTCH (ch : Nat) : FieldRef := ⟨R.AMP_CTL ch, 2, 2⟩
def F.AMP_CTL_PILOTON (ch : Nat) : FieldRef := ⟨R.AMP_CTL ch, 1, 1⟩
def F.AMP_CTL_RUN (ch : Nat) : FieldRef := ⟨R.AMP_CTL ch, 0, 0⟩
/-- The internal address of AMP_LOOP (12). -/
def R.AMP_LOOP (ch : Nat) : Nat := 0x40500004 + 0x1000 * ch
def F.AMP_LOOP_LEADF (ch : Nat) : FieldRef := ⟨R.AMP_LOOP ch, 23, 16⟩
def F.AMP_LOOP_DT (ch : Nat) : FieldRef := ⟨R.AMP_LOOP ch, 11, 4⟩
def F.AMP_LOOP_WIN (ch : Nat) : FieldRef := ⟨R.AMP_LOOP ch, 1, 0⟩
/-- The internal address of AMP_WIN (12). -/
def R.AMP_WIN (ch : Nat) : Nat := 0x40500008 + 0x1000 * ch
def F.AMP_WIN_FMAX (ch : Nat) : FieldRef := ⟨R.AMP_WIN ch, 27, 16⟩
def F.AMP_WIN_FMIN (ch : Nat) : FieldRef := ⟨R.AMP_WIN ch, 11, 0⟩
/-- The internal address of AMP_SCALE (12). -/
def R.AMP_SCALE (ch : Nat) : Nat := 0x4050000C + 0x1000 * ch
def F.AMP_SCALE_RATED (ch : Nat) : FieldRef := ⟨R.AMP_SCALE ch, 31, 16⟩
def F.AMP_SCALE_FSV (ch : Nat) : FieldRef := ⟨R.AMP_SCALE ch, 15, 0⟩
/-- The internal address of AMP_SENSE (12). -/
def R.AMP_SENSE (ch : Nat) : Nat := 0x40500010 + 0x1000 * ch
def F.AMP_SENSE_RSO (ch : Nat) : FieldRef := ⟨R.AMP_SENSE ch, 31, 16⟩
def F.AMP_SENSE_RSIL (ch : Nat) : FieldRef := ⟨R.AMP_SENSE ch, 15, 0⟩
/-- The internal address of AMP_ILIM (12). -/
def R.AMP_ILIM (ch : Nat) : Nat := 0x40500014 + 0x1000 * ch
def F.AMP_ILIM_ILIM (ch : Nat) : FieldRef := ⟨R.AMP_ILIM ch, 11, 0⟩
/-- The internal address of AMP_PLIM (12). -/
def R.AMP_PLIM (ch : Nat) : Nat := 0x40500018 + 0x1000 * ch
def F.AMP_PLIM_PTC (ch : Nat) : FieldRef := ⟨R.AMP_PLIM ch, 22, 16⟩
def F.AMP_PLIM_PLIM (ch : Nat) : FieldRef := ⟨R.AMP_PLIM ch, 10, 0⟩
/-- The internal address of AMP_PILOT (12). -/
def R.AMP_PILOT (ch : Nat) : Nat := 0x4050001C + 0x1000 * ch
def F.AMP_PILOT_PF (ch : Nat) : FieldRef := ⟨R.AMP_PILOT ch, 15, 0⟩
/-- The internal address of AMP_STAT (12). -/
def R.AMP_STAT (ch : Nat) : Nat := 0x40500020 + 0x1000 * ch
def F.AMP_STAT_PLIMACT (ch : Nat) : FieldRef := ⟨R.AMP_STAT ch, 8, 8⟩
def F.AMP_STAT_CLIP (ch : Nat) : FieldRef := ⟨R.AMP_STAT ch, 7, 7⟩
def F.AMP_STAT_LOOPERR (ch : Nat) : FieldRef := ⟨R.AMP_STAT ch, 6, 6⟩
def F.AMP_STAT_SHORTEV (ch : Nat) : FieldRef := ⟨R.AMP_STAT ch, 5, 5⟩
def F.AMP_STAT_FBOPEN (ch : Nat) : FieldRef := ⟨R.AMP_STAT ch, 4, 4⟩
def F.AMP_STAT_FBREV (ch : Nat) : FieldRef := ⟨R.AMP_STAT ch, 3, 3⟩
def F.AMP_STAT_STATE (ch : Nat) : FieldRef := ⟨R.AMP_STAT ch, 2, 0⟩
/-- The internal address of AMP_LINE (12). -/
def R.AMP_LINE (ch : Nat) : Nat := 0x40500024 + 0x1000 * ch
def F.AMP_LINE_ZRATIO (ch : Nat) : FieldRef := ⟨R.AMP_LINE ch, 31, 16⟩
def F.AMP_LINE_VALID (ch : Nat) : FieldRef := ⟨R.AMP_LINE ch, 5, 5⟩
def F.AMP_LINE_CUT (ch : Nat) : FieldRef := ⟨R.AMP_LINE ch, 4, 4⟩
def F.AMP_LINE_EARTH (ch : Nat) : FieldRef := ⟨R.AMP_LINE ch, 3, 3⟩
def F.AMP_LINE_LSTATE (ch : Nat) : FieldRef := ⟨R.AMP_LINE ch, 2, 0⟩
/-- The internal address of AMP_ZMAG (12). -/
def R.AMP_ZMAG (ch : Nat) : Nat := 0x40500028 + 0x1000 * ch
def F.AMP_ZMAG_VALUE (ch : Nat) : FieldRef := ⟨R.AMP_ZMAG ch, 23, 0⟩
/-- The internal address of AMP_ZPH (12). -/
def R.AMP_ZPH (ch : Nat) : Nat := 0x4050002C + 0x1000 * ch
def F.AMP_ZPH_VALUE (ch : Nat) : FieldRef := ⟨R.AMP_ZPH ch, 15, 0⟩
/-- The internal address of AMP_ZBASE (12). -/
def R.AMP_ZBASE (ch : Nat) : Nat := 0x40500030 + 0x1000 * ch
def F.AMP_ZBASE_ZBASE (ch : Nat) : FieldRef := ⟨R.AMP_ZBASE ch, 23, 0⟩
/-- The internal address of AMP_ZLIM (12). -/
def R.AMP_ZLIM (ch : Nat) : Nat := 0x40500034 + 0x1000 * ch
def F.AMP_ZLIM_DEV (ch : Nat) : FieldRef := ⟨R.AMP_ZLIM ch, 23, 16⟩
def F.AMP_ZLIM_ZMIN (ch : Nat) : FieldRef := ⟨R.AMP_ZLIM ch, 15, 0⟩
/-- The internal address of AMP_LEAK (12). -/
def R.AMP_LEAK (ch : Nat) : Nat := 0x40500038 + 0x1000 * ch
def F.AMP_LEAK_RLEAK (ch : Nat) : FieldRef := ⟨R.AMP_LEAK ch, 19, 0⟩
/-- The internal address of AMP_FSW (12). -/
def R.AMP_FSW (ch : Nat) : Nat := 0x4050003C + 0x1000 * ch
def F.AMP_FSW_FHI (ch : Nat) : FieldRef := ⟨R.AMP_FSW ch, 27, 16⟩
def F.AMP_FSW_FLO (ch : Nat) : FieldRef := ⟨R.AMP_FSW ch, 11, 0⟩
/-- The internal address of AMP_GR (12). -/
def R.AMP_GR (ch : Nat) : Nat := 0x40500040 + 0x1000 * ch
def F.AMP_GR_GRR (ch : Nat) : FieldRef := ⟨R.AMP_GR ch, 31, 16⟩
def F.AMP_GR_GRP (ch : Nat) : FieldRef := ⟨R.AMP_GR ch, 15, 0⟩
/-- The internal address of AMP_SHORTS (12). -/
def R.AMP_SHORTS (ch : Nat) : Nat := 0x40500044 + 0x1000 * ch
def F.AMP_SHORTS_COUNT (ch : Nat) : FieldRef := ⟨R.AMP_SHORTS ch, 31, 0⟩
/-- The internal address of AMP_LIMCNT (12). -/
def R.AMP_LIMCNT (ch : Nat) : Nat := 0x40500048 + 0x1000 * ch
def F.AMP_LIMCNT_COUNT (ch : Nat) : FieldRef := ⟨R.AMP_LIMCNT ch, 31, 0⟩
/-- The internal address of AMP_CLIPCNT (12). -/
def R.AMP_CLIPCNT (ch : Nat) : Nat := 0x4050004C + 0x1000 * ch
def F.AMP_CLIPCNT_COUNT (ch : Nat) : FieldRef := ⟨R.AMP_CLIPCNT ch, 31, 0⟩
/-- The internal address of AMP_PROBEF (12). -/
def R.AMP_PROBEF (ch : Nat) : Nat := 0x40500050 + 0x1000 * ch
def F.AMP_PROBEF_TOTAL (ch : Nat) : FieldRef := ⟨R.AMP_PROBEF ch, 31, 16⟩
def F.AMP_PROBEF_CUR (ch : Nat) : FieldRef := ⟨R.AMP_PROBEF ch, 7, 0⟩
/-- The internal address of AMP_PAIR (12). -/
def R.AMP_PAIR (ch : Nat) : Nat := 0x40500060 + 0x1000 * ch
def F.AMP_PAIR_POS (ch : Nat) : FieldRef := ⟨R.AMP_PAIR ch, 25, 16⟩
def F.AMP_PAIR_POSKIND (ch : Nat) : FieldRef := ⟨R.AMP_PAIR ch, 2, 2⟩
def F.AMP_PAIR_CUT (ch : Nat) : FieldRef := ⟨R.AMP_PAIR ch, 1, 1⟩
def F.AMP_PAIR_PAIRED (ch : Nat) : FieldRef := ⟨R.AMP_PAIR ch, 0, 0⟩
/-- The internal address of AMP_PAIRM (12). -/
def R.AMP_PAIRM (ch : Nat) : Nat := 0x40500064 + 0x1000 * ch
def F.AMP_PAIRM_RLOOP (ch : Nat) : FieldRef := ⟨R.AMP_PAIRM ch, 31, 16⟩
def F.AMP_PAIRM_TRIM (ch : Nat) : FieldRef := ⟨R.AMP_PAIRM ch, 7, 0⟩
/-- The internal address of AMP_RLBASE (12). -/
def R.AMP_RLBASE (ch : Nat) : Nat := 0x40500068 + 0x1000 * ch
def F.AMP_RLBASE_RLBASE (ch : Nat) : FieldRef := ⟨R.AMP_RLBASE ch, 15, 0⟩
/-- The internal address of SUPV_RAILCFG (12). -/
def R.SUPV_RAILCFG (g : Nat) : Nat := 0x40580000 + 0x20 * g
def F.SUPV_RAILCFG_RATIO (g : Nat) : FieldRef := ⟨R.SUPV_RAILCFG g, 27, 16⟩
def F.SUPV_RAILCFG_VNOM (g : Nat) : FieldRef := ⟨R.SUPV_RAILCFG g, 11, 0⟩
/-- The internal address of SUPV_RAILSTAT (12). -/
def R.SUPV_RAILSTAT (g : Nat) : Nat := 0x40580004 + 0x20 * g
def F.SUPV_RAILSTAT_UV (g : Nat) : FieldRef := ⟨R.SUPV_RAILSTAT g, 31, 31⟩
def F.SUPV_RAILSTAT_GR (g : Nat) : FieldRef := ⟨R.SUPV_RAILSTAT g, 27, 16⟩
def F.SUPV_RAILSTAT_VMEAS (g : Nat) : FieldRef := ⟨R.SUPV_RAILSTAT g, 11, 0⟩
/-- The internal address of SUPV_EFCFG (12). -/
def R.SUPV_EFCFG (g : Nat) : Nat := 0x40580008 + 0x20 * g
def F.SUPV_EFCFG_RBIAS (g : Nat) : FieldRef := ⟨R.SUPV_EFCFG g, 29, 20⟩
def F.SUPV_EFCFG_RREF (g : Nat) : FieldRef := ⟨R.SUPV_EFCFG g, 17, 8⟩
def F.SUPV_EFCFG_AIN (g : Nat) : FieldRef := ⟨R.SUPV_EFCFG g, 7, 4⟩
def F.SUPV_EFCFG_EN (g : Nat) : FieldRef := ⟨R.SUPV_EFCFG g, 0, 0⟩
/-- The internal address of SUPV_EFSCALE (12). -/
def R.SUPV_EFSCALE (g : Nat) : Nat := 0x4058000C + 0x20 * g
def F.SUPV_EFSCALE_KEF (g : Nat) : FieldRef := ⟨R.SUPV_EFSCALE g, 9, 0⟩
/-- The internal address of SUPV_EFSTAT (12). -/
def R.SUPV_EFSTAT (g : Nat) : Nat := 0x40580010 + 0x20 * g
def F.SUPV_EFSTAT_RETFLT (g : Nat) : FieldRef := ⟨R.SUPV_EFSTAT g, 31, 31⟩
def F.SUPV_EFSTAT_RETLEAK (g : Nat) : FieldRef := ⟨R.SUPV_EFSTAT g, 19, 0⟩
/-- The internal address of SUPV_MCFG (12). -/
def R.SUPV_MCFG : Nat := 0x40580200
def F.SUPV_MCFG_METER : FieldRef := ⟨R.SUPV_MCFG, 8, 8⟩
def F.SUPV_MCFG_MINT : FieldRef := ⟨R.SUPV_MCFG, 5, 0⟩
/-- The internal address of SUPV_SWCTL (12). -/
def R.SUPV_SWCTL : Nat := 0x40580210
def F.SUPV_SWCTL_LATE : FieldRef := ⟨R.SUPV_SWCTL, 3, 3⟩
def F.SUPV_SWCTL_DONE : FieldRef := ⟨R.SUPV_SWCTL, 2, 2⟩
def F.SUPV_SWCTL_BUSY : FieldRef := ⟨R.SUPV_SWCTL, 1, 1⟩
def F.SUPV_SWCTL_GO : FieldRef := ⟨R.SUPV_SWCTL, 0, 0⟩
/-- The internal address of SUPV_SWMASK (12). -/
def R.SUPV_SWMASK : Nat := 0x40580214
def F.SUPV_SWMASK_VALUE : FieldRef := ⟨R.SUPV_SWMASK, 31, 0⟩
/-- The internal address of SUPV_SWMTI (12). -/
def R.SUPV_SWMTI : Nat := 0x40580218
def F.SUPV_SWMTI_VALUE : FieldRef := ⟨R.SUPV_SWMTI, 31, 0⟩
/-- The internal address of SUPV_SWRES (12). -/
def R.SUPV_SWRES (c : Nat) (i : Nat) : Nat := 0x40581000 + 0x40 * c + 0x4 * i
def F.SUPV_SWRES_INVALID (c : Nat) (i : Nat) : FieldRef := ⟨R.SUPV_SWRES c i, 31, 31⟩
def F.SUPV_SWRES_PH (c : Nat) (i : Nat) : FieldRef := ⟨R.SUPV_SWRES c i, 27, 16⟩
def F.SUPV_SWRES_DEV (c : Nat) (i : Nat) : FieldRef := ⟨R.SUPV_SWRES c i, 15, 0⟩
/-- The internal address of SUPV_SWBASE (12). -/
def R.SUPV_SWBASE (c : Nat) (i : Nat) : Nat := 0x40582000 + 0x40 * c + 0x4 * i
def F.SUPV_SWBASE_ZB (c : Nat) (i : Nat) : FieldRef := ⟨R.SUPV_SWBASE c i, 23, 0⟩
/-- The internal address of TND_CTL (13). -/
def R.TND_CTL : Nat := 0x40600000
def F.TND_CTL_EN : FieldRef := ⟨R.TND_CTL, 31, 31⟩
def F.TND_CTL_DUALTX : FieldRef := ⟨R.TND_CTL, 8, 8⟩
def F.TND_CTL_LSWDLY : FieldRef := ⟨R.TND_CTL, 7, 0⟩
/-- The internal address of TND_STAT (13). -/
def R.TND_STAT : Nat := 0x40600004
def F.TND_STAT_COMPAT : FieldRef := ⟨R.TND_STAT, 14, 14⟩
def F.TND_STAT_RECLOST : FieldRef := ⟨R.TND_STAT, 13, 13⟩
def F.TND_STAT_CONFLICT : FieldRef := ⟨R.TND_STAT, 12, 12⟩
def F.TND_STAT_ROLEIN : FieldRef := ⟨R.TND_STAT, 11, 11⟩
def F.TND_STAT_HCODE : FieldRef := ⟨R.TND_STAT, 10, 8⟩
def F.TND_STAT_PEER : FieldRef := ⟨R.TND_STAT, 7, 4⟩
def F.TND_STAT_STATE : FieldRef := ⟨R.TND_STAT, 3, 0⟩
/-- The internal address of TND_LINK (13). -/
def R.TND_LINK : Nat := 0x40600008
def F.TND_LINK_DOWNEV : FieldRef := ⟨R.TND_LINK, 9, 9⟩
def F.TND_LINK_REV : FieldRef := ⟨R.TND_LINK, 8, 8⟩
def F.TND_LINK_POLINV : FieldRef := ⟨R.TND_LINK, 7, 4⟩
def F.TND_LINK_LANES : FieldRef := ⟨R.TND_LINK, 2, 0⟩
/-- The internal address of TND_HOMTIL (13). -/
def R.TND_HOMTIL : Nat := 0x40600010
def F.TND_HOMTIL_MTIL : FieldRef := ⟨R.TND_HOMTIL, 31, 0⟩
/-- The internal address of TND_DIGCNT (13). -/
def R.TND_DIGCNT : Nat := 0x40600020
def F.TND_DIGCNT_COUNT : FieldRef := ⟨R.TND_DIGCNT, 31, 0⟩
/-- The internal address of TND_RECCNT (13). -/
def R.TND_RECCNT : Nat := 0x40600024
def F.TND_RECCNT_COUNT : FieldRef := ⟨R.TND_RECCNT, 31, 0⟩
/-- The internal address of TND_TAKEOVERS (13). -/
def R.TND_TAKEOVERS : Nat := 0x40600028
def F.TND_TAKEOVERS_COUNT : FieldRef := ⟨R.TND_TAKEOVERS, 31, 0⟩
/-- The internal address of TND_LASTTAKE (13). -/
def R.TND_LASTTAKE : Nat := 0x4060002C
def F.TND_LASTTAKE_MTIL : FieldRef := ⟨R.TND_LASTTAKE, 31, 0⟩
/-- The internal address of TND_BGPOS (13). -/
def R.TND_BGPOS : Nat := 0x40600030
def F.TND_BGPOS_CYCPM : FieldRef := ⟨R.TND_BGPOS, 25, 16⟩
def F.TND_BGPOS_CHUNK : FieldRef := ⟨R.TND_BGPOS, 15, 0⟩
/-- The internal address of PWR_STAT (14). -/
def R.PWR_STAT : Nat := 0x40010000
def F.PWR_STAT_THRST : FieldRef := ⟨R.PWR_STAT, 12, 12⟩
def F.PWR_STAT_WCAUSE : FieldRef := ⟨R.PWR_STAT, 11, 10⟩
def F.PWR_STAT_HELD : FieldRef := ⟨R.PWR_STAT, 9, 9⟩
def F.PWR_STAT_BUSY : FieldRef := ⟨R.PWR_STAT, 8, 8⟩
def F.PWR_STAT_TARGET : FieldRef := ⟨R.PWR_STAT, 7, 4⟩
def F.PWR_STAT_STATE : FieldRef := ⟨R.PWR_STAT, 3, 0⟩
/-- The internal address of PWR_VCFG (14). -/
def R.PWR_VCFG : Nat := 0x40010004
def F.PWR_VCFG_VSETTLE : FieldRef := ⟨R.PWR_VCFG, 6, 0⟩
/-- The internal address of PWR_BANKSLP (14). -/
def R.PWR_BANKSLP : Nat := 0x40010008
def F.PWR_BANKSLP_RET : FieldRef := ⟨R.PWR_BANKSLP, 13, 0⟩
/-- The internal address of PWR_WAKECFG (14). -/
def R.PWR_WAKECFG : Nat := 0x4001000C
def F.PWR_WAKECFG_ALMASK : FieldRef := ⟨R.PWR_WAKECFG, 11, 8⟩
def F.PWR_WAKECFG_ADDR : FieldRef := ⟨R.PWR_WAKECFG, 6, 0⟩
/-- The internal address of PWR_SLPSTAT (14). -/
def R.PWR_SLPSTAT : Nat := 0x40010010
def F.PWR_SLPSTAT_BLKID : FieldRef := ⟨R.PWR_SLPSTAT, 15, 8⟩
def F.PWR_SLPSTAT_POINT : FieldRef := ⟨R.PWR_SLPSTAT, 1, 0⟩
/-- The internal address of PWR_TEMP (14). -/
def R.PWR_TEMP : Nat := 0x40010014
def F.PWR_TEMP_WARN : FieldRef := ⟨R.PWR_TEMP, 23, 16⟩
def F.PWR_TEMP_TJ : FieldRef := ⟨R.PWR_TEMP, 15, 0⟩
/-- The internal address of MTX_DECERR (15). -/
def R.MTX_DECERR : Nat := 0x40040000
def F.MTX_DECERR_VALID : FieldRef := ⟨R.MTX_DECERR, 31, 31⟩
def F.MTX_DECERR_MASTER : FieldRef := ⟨R.MTX_DECERR, 21, 16⟩
def F.MTX_DECERR_COUNT : FieldRef := ⟨R.MTX_DECERR, 15, 0⟩
/-- The internal address of MTX_DECADDRL (15). -/
def R.MTX_DECADDRL : Nat := 0x40040004
def F.MTX_DECADDRL_ADDR : FieldRef := ⟨R.MTX_DECADDRL, 31, 0⟩
/-- The internal address of MTX_DECADDRH (15). -/
def R.MTX_DECADDRH : Nat := 0x40040008
def F.MTX_DECADDRH_ADDR : FieldRef := ⟨R.MTX_DECADDRH, 7, 0⟩
/-- The internal address of MTX_PRI (15). -/
def R.MTX_PRI (t : Nat) (w : Nat) : Nat := 0x40040100 + 0x20 * t + 0x4 * w
def F.MTX_PRI_PRI0 (t : Nat) (w : Nat) : FieldRef := ⟨R.MTX_PRI t w, 2, 0⟩
def F.MTX_PRI_PRI1 (t : Nat) (w : Nat) : FieldRef := ⟨R.MTX_PRI t w, 6, 4⟩
def F.MTX_PRI_PRI2 (t : Nat) (w : Nat) : FieldRef := ⟨R.MTX_PRI t w, 10, 8⟩
def F.MTX_PRI_PRI3 (t : Nat) (w : Nat) : FieldRef := ⟨R.MTX_PRI t w, 14, 12⟩
def F.MTX_PRI_PRI4 (t : Nat) (w : Nat) : FieldRef := ⟨R.MTX_PRI t w, 18, 16⟩
def F.MTX_PRI_PRI5 (t : Nat) (w : Nat) : FieldRef := ⟨R.MTX_PRI t w, 22, 20⟩
def F.MTX_PRI_PRI6 (t : Nat) (w : Nat) : FieldRef := ⟨R.MTX_PRI t w, 26, 24⟩
def F.MTX_PRI_PRI7 (t : Nat) (w : Nat) : FieldRef := ⟨R.MTX_PRI t w, 30, 28⟩
/-- The internal address of MEM_BANKPWR (15). -/
def R.MEM_BANKPWR : Nat := 0x40050000
def F.MEM_BANKPWR_PWR0 : FieldRef := ⟨R.MEM_BANKPWR, 1, 0⟩
def F.MEM_BANKPWR_PWR1 : FieldRef := ⟨R.MEM_BANKPWR, 3, 2⟩
def F.MEM_BANKPWR_PWR2 : FieldRef := ⟨R.MEM_BANKPWR, 5, 4⟩
def F.MEM_BANKPWR_PWR3 : FieldRef := ⟨R.MEM_BANKPWR, 7, 6⟩
def F.MEM_BANKPWR_PWR4 : FieldRef := ⟨R.MEM_BANKPWR, 9, 8⟩
def F.MEM_BANKPWR_PWR5 : FieldRef := ⟨R.MEM_BANKPWR, 11, 10⟩
def F.MEM_BANKPWR_PWR6 : FieldRef := ⟨R.MEM_BANKPWR, 13, 12⟩
def F.MEM_BANKPWR_PWR7 : FieldRef := ⟨R.MEM_BANKPWR, 15, 14⟩
def F.MEM_BANKPWR_PWR8 : FieldRef := ⟨R.MEM_BANKPWR, 17, 16⟩
def F.MEM_BANKPWR_PWR9 : FieldRef := ⟨R.MEM_BANKPWR, 19, 18⟩
def F.MEM_BANKPWR_PWR10 : FieldRef := ⟨R.MEM_BANKPWR, 21, 20⟩
def F.MEM_BANKPWR_PWR11 : FieldRef := ⟨R.MEM_BANKPWR, 23, 22⟩
def F.MEM_BANKPWR_PWR12 : FieldRef := ⟨R.MEM_BANKPWR, 25, 24⟩
def F.MEM_BANKPWR_PWR13 : FieldRef := ⟨R.MEM_BANKPWR, 27, 26⟩
/-- The internal address of MEM_BANKSTAT (15). -/
def R.MEM_BANKSTAT : Nat := 0x40050004
def F.MEM_BANKSTAT_STATE0 : FieldRef := ⟨R.MEM_BANKSTAT, 1, 0⟩
def F.MEM_BANKSTAT_STATE1 : FieldRef := ⟨R.MEM_BANKSTAT, 3, 2⟩
def F.MEM_BANKSTAT_STATE2 : FieldRef := ⟨R.MEM_BANKSTAT, 5, 4⟩
def F.MEM_BANKSTAT_STATE3 : FieldRef := ⟨R.MEM_BANKSTAT, 7, 6⟩
def F.MEM_BANKSTAT_STATE4 : FieldRef := ⟨R.MEM_BANKSTAT, 9, 8⟩
def F.MEM_BANKSTAT_STATE5 : FieldRef := ⟨R.MEM_BANKSTAT, 11, 10⟩
def F.MEM_BANKSTAT_STATE6 : FieldRef := ⟨R.MEM_BANKSTAT, 13, 12⟩
def F.MEM_BANKSTAT_STATE7 : FieldRef := ⟨R.MEM_BANKSTAT, 15, 14⟩
def F.MEM_BANKSTAT_STATE8 : FieldRef := ⟨R.MEM_BANKSTAT, 17, 16⟩
def F.MEM_BANKSTAT_STATE9 : FieldRef := ⟨R.MEM_BANKSTAT, 19, 18⟩
def F.MEM_BANKSTAT_STATE10 : FieldRef := ⟨R.MEM_BANKSTAT, 21, 20⟩
def F.MEM_BANKSTAT_STATE11 : FieldRef := ⟨R.MEM_BANKSTAT, 23, 22⟩
def F.MEM_BANKSTAT_STATE12 : FieldRef := ⟨R.MEM_BANKSTAT, 25, 24⟩
def F.MEM_BANKSTAT_STATE13 : FieldRef := ⟨R.MEM_BANKSTAT, 27, 26⟩
/-- The internal address of MEM_BANKEV (15). -/
def R.MEM_BANKEV : Nat := 0x40050008
def F.MEM_BANKEV_OFFACC : FieldRef := ⟨R.MEM_BANKEV, 29, 16⟩
def F.MEM_BANKEV_AWOKE : FieldRef := ⟨R.MEM_BANKEV, 13, 0⟩
/-- The internal address of MEM_SCRUB (15). -/
def R.MEM_SCRUB : Nat := 0x40050010
def F.MEM_SCRUB_EN : FieldRef := ⟨R.MEM_SCRUB, 31, 31⟩
def F.MEM_SCRUB_DDRH : FieldRef := ⟨R.MEM_SCRUB, 23, 16⟩
def F.MEM_SCRUB_LINT : FieldRef := ⟨R.MEM_SCRUB, 9, 0⟩
/-- The internal address of MEM_ECCCNT (15). -/
def R.MEM_ECCCNT (t : Nat) : Nat := 0x40050100 + 0x4 * t
def F.MEM_ECCCNT_COR (t : Nat) : FieldRef := ⟨R.MEM_ECCCNT t, 31, 16⟩
def F.MEM_ECCCNT_UNC (t : Nat) : FieldRef := ⟨R.MEM_ECCCNT t, 15, 0⟩
/-- The internal address of MEM_ECCLOG0 (15). -/
def R.MEM_ECCLOG0 : Nat := 0x40050180
def F.MEM_ECCLOG0_VALID : FieldRef := ⟨R.MEM_ECCLOG0, 31, 31⟩
def F.MEM_ECCLOG0_MASTER : FieldRef := ⟨R.MEM_ECCLOG0, 5, 0⟩
/-- The internal address of MEM_ECCLOG1 (15). -/
def R.MEM_ECCLOG1 : Nat := 0x40050184
def F.MEM_ECCLOG1_ADDR : FieldRef := ⟨R.MEM_ECCLOG1, 31, 0⟩
/-- The internal address of MEM_ECCLOG2 (15). -/
def R.MEM_ECCLOG2 : Nat := 0x40050188
def F.MEM_ECCLOG2_ADDR : FieldRef := ⟨R.MEM_ECCLOG2, 7, 0⟩
/-- The internal address of MEM_RAMCFG (15). -/
def R.MEM_RAMCFG : Nat := 0x40050200
def F.MEM_RAMCFG_EN : FieldRef := ⟨R.MEM_RAMCFG, 31, 31⟩
def F.MEM_RAMCFG_ONEPASS : FieldRef := ⟨R.MEM_RAMCFG, 30, 30⟩
def F.MEM_RAMCFG_REGINT : FieldRef := ⟨R.MEM_RAMCFG, 25, 16⟩
def F.MEM_RAMCFG_BMASK : FieldRef := ⟨R.MEM_RAMCFG, 13, 0⟩
/-- The internal address of MEM_RAMSTAT (15). -/
def R.MEM_RAMSTAT : Nat := 0x40050204
def F.MEM_RAMSTAT_PASSES : FieldRef := ⟨R.MEM_RAMSTAT, 31, 16⟩
def F.MEM_RAMSTAT_BANK : FieldRef := ⟨R.MEM_RAMSTAT, 7, 4⟩
def F.MEM_RAMSTAT_NOSPARE : FieldRef := ⟨R.MEM_RAMSTAT, 2, 2⟩
def F.MEM_RAMSTAT_DONE : FieldRef := ⟨R.MEM_RAMSTAT, 1, 1⟩
def F.MEM_RAMSTAT_BUSY : FieldRef := ⟨R.MEM_RAMSTAT, 0, 0⟩
/-- The internal address of MEM_RAMPOS (15). -/
def R.MEM_RAMPOS : Nat := 0x40050208
def F.MEM_RAMPOS_ROW : FieldRef := ⟨R.MEM_RAMPOS, 15, 0⟩
/-- The internal address of MEM_REPAIR (15). -/
def R.MEM_REPAIR (b : Nat) : Nat := 0x40050240 + 0x4 * b
def F.MEM_REPAIR_FAILED (b : Nat) : FieldRef := ⟨R.MEM_REPAIR b, 31, 16⟩
def F.MEM_REPAIR_USED (b : Nat) : FieldRef := ⟨R.MEM_REPAIR b, 6, 0⟩
/-- The internal address of MEM_SECSTAT (15). -/
def R.MEM_SECSTAT : Nat := 0x40050300
def F.MEM_SECSTAT_VMASTER : FieldRef := ⟨R.MEM_SECSTAT, 10, 5⟩
def F.MEM_SECSTAT_VIOL : FieldRef := ⟨R.MEM_SECSTAT, 3, 3⟩
def F.MEM_SECSTAT_WIPED : FieldRef := ⟨R.MEM_SECSTAT, 2, 2⟩
def F.MEM_SECSTAT_HELD : FieldRef := ⟨R.MEM_SECSTAT, 1, 1⟩
def F.MEM_SECSTAT_WIPING : FieldRef := ⟨R.MEM_SECSTAT, 0, 0⟩
/-- The internal address of MEM_CONF (15). -/
def R.MEM_CONF (t : Nat) (m : Nat) : Nat := 0x40051000 + 0x100 * t + 0x4 * m
def F.MEM_CONF_COUNT (t : Nat) (m : Nat) : FieldRef := ⟨R.MEM_CONF t m, 31, 0⟩
/-- The internal address of DDR_CFG (15). -/
def R.DDR_CFG : Nat := 0x40800000
def F.DDR_CFG_ECCEN : FieldRef := ⟨R.DDR_CFG, 8, 8⟩
def F.DDR_CFG_RATE : FieldRef := ⟨R.DDR_CFG, 5, 4⟩
def F.DDR_CFG_DENS : FieldRef := ⟨R.DDR_CFG, 1, 0⟩
/-- The internal address of DDR_STAT (15). -/
def R.DDR_STAT : Nat := 0x40800004
def F.DDR_STAT_SIZE : FieldRef := ⟨R.DDR_STAT, 8, 2⟩
def F.DDR_STAT_SREF : FieldRef := ⟨R.DDR_STAT, 1, 1⟩
def F.DDR_STAT_TRAINED : FieldRef := ⟨R.DDR_STAT, 0, 0⟩
/-- The internal address of DDR_ECC (15). -/
def R.DDR_ECC : Nat := 0x40800010
def F.DDR_ECC_COR : FieldRef := ⟨R.DDR_ECC, 31, 16⟩
def F.DDR_ECC_UNC : FieldRef := ⟨R.DDR_ECC, 15, 0⟩
/-- The internal address of EVT_ROUTE (16). -/
def R.EVT_ROUTE (e : Nat) : Nat := 0x40020000 + 0x4 * e
def F.EVT_ROUTE_DISP (e : Nat) : FieldRef := ⟨R.EVT_ROUTE e, 9, 9⟩
def F.EVT_ROUTE_CC (e : Nat) : FieldRef := ⟨R.EVT_ROUTE e, 8, 8⟩
def F.EVT_ROUTE_IRQ (e : Nat) : FieldRef := ⟨R.EVT_ROUTE e, 7, 7⟩
def F.EVT_ROUTE_MSIX (e : Nat) : FieldRef := ⟨R.EVT_ROUTE e, 6, 6⟩
def F.EVT_ROUTE_VEC (e : Nat) : FieldRef := ⟨R.EVT_ROUTE e, 5, 0⟩
/-- The internal address of EVT_PEND (16). -/
def R.EVT_PEND (w : Nat) : Nat := 0x40020400 + 0x4 * w
def F.EVT_PEND_PEND (w : Nat) : FieldRef := ⟨R.EVT_PEND w, 31, 0⟩
/-- The internal address of EVT_SWSET (16). -/
def R.EVT_SWSET : Nat := 0x40020420
def F.EVT_SWSET_RAISE : FieldRef := ⟨R.EVT_SWSET, 31, 0⟩
/-- The internal address of EVT_GPEN (16). -/
def R.EVT_GPEN : Nat := 0x40020430
def F.EVT_GPEN_EN : FieldRef := ⟨R.EVT_GPEN, 31, 0⟩
/-- The internal address of EVT_FLTCFG (16). -/
def R.EVT_FLTCFG : Nat := 0x40020440
def F.EVT_FLTCFG_STRETCH : FieldRef := ⟨R.EVT_FLTCFG, 23, 16⟩
def F.EVT_FLTCFG_FOLEVEL : FieldRef := ⟨R.EVT_FLTCFG, 13, 12⟩
def F.EVT_FLTCFG_CLEAN : FieldRef := ⟨R.EVT_FLTCFG, 11, 0⟩
/-- The internal address of EVT_FLTSTAT (16). -/
def R.EVT_FLTSTAT : Nat := 0x40020444
def F.EVT_FLTSTAT_SEQ : FieldRef := ⟨R.EVT_FLTSTAT, 31, 16⟩
def F.EVT_FLTSTAT_OVWR : FieldRef := ⟨R.EVT_FLTSTAT, 15, 8⟩
def F.EVT_FLTSTAT_FOUT : FieldRef := ⟨R.EVT_FLTSTAT, 0, 0⟩
/-- The internal address of MBX_EVPEND (16). -/
def R.MBX_EVPEND (w : Nat) : Nat := 0x40038040 + 0x4 * w
def F.MBX_EVPEND_HPEND (w : Nat) : FieldRef := ⟨R.MBX_EVPEND w, 31, 0⟩
/-- The internal address of CNT_CFG (16). -/
def R.CNT_CFG : Nat := 0x40060000
def F.CNT_CFG_EN : FieldRef := ⟨R.CNT_CFG, 31, 31⟩
def F.CNT_CFG_PERM : FieldRef := ⟨R.CNT_CFG, 21, 16⟩
def F.CNT_CFG_SWEEP : FieldRef := ⟨R.CNT_CFG, 9, 0⟩
/-- The internal address of CNT_RD (16). -/
def R.CNT_RD : Nat := 0x40060010
def F.CNT_RD_GO : FieldRef := ⟨R.CNT_RD, 31, 31⟩
def F.CNT_RD_BUSY : FieldRef := ⟨R.CNT_RD, 30, 30⟩
def F.CNT_RD_ID : FieldRef := ⟨R.CNT_RD, 11, 0⟩
/-- The internal address of CNT_RDLO (16). -/
def R.CNT_RDLO : Nat := 0x40060014
def F.CNT_RDLO_VALUE : FieldRef := ⟨R.CNT_RDLO, 31, 0⟩
/-- The internal address of CNT_RDHI (16). -/
def R.CNT_RDHI : Nat := 0x40060018
def F.CNT_RDHI_VALUE : FieldRef := ⟨R.CNT_RDHI, 31, 0⟩
/-- The internal address of CNT_RDMTI (16). -/
def R.CNT_RDMTI : Nat := 0x4006001C
def F.CNT_RDMTI_VALUE : FieldRef := ⟨R.CNT_RDMTI, 31, 0⟩
/-- The internal address of CNT_DCFG (16). -/
def R.CNT_DCFG : Nat := 0x40060020
def F.CNT_DCFG_EN : FieldRef := ⟨R.CNT_DCFG, 31, 31⟩
def F.CNT_DCFG_P : FieldRef := ⟨R.CNT_DCFG, 15, 0⟩
/-- The internal address of CNT_DBASE (16). -/
def R.CNT_DBASE : Nat := 0x40060024
def F.CNT_DBASE_OFS : FieldRef := ⟨R.CNT_DBASE, 23, 6⟩
/-- The internal address of CNT_DSTAT (16). -/
def R.CNT_DSTAT : Nat := 0x40060028
def F.CNT_DSTAT_SKIP : FieldRef := ⟨R.CNT_DSTAT, 31, 16⟩
def F.CNT_DSTAT_VALID : FieldRef := ⟨R.CNT_DSTAT, 1, 1⟩
def F.CNT_DSTAT_LAST : FieldRef := ⟨R.CNT_DSTAT, 0, 0⟩
/-- The internal address of CNT_DRANGE (16). -/
def R.CNT_DRANGE (i : Nat) : Nat := 0x40060040 + 0x4 * i
def F.CNT_DRANGE_COUNT (i : Nat) : FieldRef := ⟨R.CNT_DRANGE i, 28, 16⟩
def F.CNT_DRANGE_FIRST (i : Nat) : FieldRef := ⟨R.CNT_DRANGE i, 11, 0⟩
/-- The internal address of SYS_ID (17). -/
def R.SYS_ID : Nat := 0x40000000
def F.SYS_ID_PART : FieldRef := ⟨R.SYS_ID, 31, 16⟩
def F.SYS_ID_MAJOR : FieldRef := ⟨R.SYS_ID, 15, 8⟩
def F.SYS_ID_MINOR : FieldRef := ⟨R.SYS_ID, 7, 0⟩
/-- The internal address of SYS_RSTCAUSE (17). -/
def R.SYS_RSTCAUSE : Nat := 0x40000004
def F.SYS_RSTCAUSE_CAUSE : FieldRef := ⟨R.SYS_RSTCAUSE, 2, 0⟩
/-- The internal address of SYS_BOOT (17). -/
def R.SYS_BOOT : Nat := 0x40000008
def F.SYS_BOOT_VERSION : FieldRef := ⟨R.SYS_BOOT, 31, 16⟩
def F.SYS_BOOT_ERR : FieldRef := ⟨R.SYS_BOOT, 11, 8⟩
def F.SYS_BOOT_COPY : FieldRef := ⟨R.SYS_BOOT, 5, 4⟩
def F.SYS_BOOT_KSLOT : FieldRef := ⟨R.SYS_BOOT, 3, 2⟩
def F.SYS_BOOT_SEL : FieldRef := ⟨R.SYS_BOOT, 1, 0⟩
/-- The internal address of SEC_LC (17). -/
def R.SEC_LC : Nat := 0x40900000
def F.SEC_LC_REVOKED : FieldRef := ⟨R.SEC_LC, 7, 4⟩
def F.SEC_LC_STATE : FieldRef := ⟨R.SEC_LC, 1, 0⟩
/-- The internal address of SEC_STAT (17). -/
def R.SEC_STAT : Nat := 0x40900004
def F.SEC_STAT_FLOOR : FieldRef := ⟨R.SEC_STAT, 31, 7⟩
def F.SEC_STAT_TAMPER : FieldRef := ⟨R.SEC_STAT, 2, 2⟩
def F.SEC_STAT_TAMPIN : FieldRef := ⟨R.SEC_STAT, 1, 1⟩
def F.SEC_STAT_KEYS : FieldRef := ⟨R.SEC_STAT, 0, 0⟩
/-- The internal address of SEC_AUTHFAIL (17). -/
def R.SEC_AUTHFAIL : Nat := 0x40900008
def F.SEC_AUTHFAIL_COUNT : FieldRef := ⟨R.SEC_AUTHFAIL, 31, 0⟩

/-- The registers of the PATCH block. -/
def regsPATCH : List RegRow := [
  ⟨0x40208000, [(0x4, 1024)], [⟨31, 16, .rw, .staged, .range 0 6000⟩, ⟨15, 8, .rw, .staged, .range 1 200⟩, ⟨2, 2, .rw, .staged, .any⟩, ⟨1, 0, .rw, .staged, .above 2 0⟩]⟩,
  ⟨0x40209000, [(0x4, 1024)], [⟨31, 16, .ro, .none, .any⟩, ⟨6, 6, .w1c, .none, .any⟩, ⟨5, 5, .ro, .none, .any⟩, ⟨4, 4, .ro, .none, .any⟩, ⟨3, 3, .ro, .none, .any⟩, ⟨2, 2, .ro, .none, .any⟩, ⟨1, 0, .ro, .none, .any⟩]⟩,
  ⟨0x4020A000, [(0x8, 256)], [⟨23, 0, .rw, .staged, .any⟩]⟩,
  ⟨0x4020A004, [(0x8, 256)], [⟨1, 0, .rw, .staged, .above 2 0⟩]⟩,
  ⟨0x4020A800, [(0x4, 256)], [⟨31, 31, .ro, .none, .any⟩, ⟨23, 0, .ro, .none, .any⟩]⟩,
  ⟨0x40210000, [(0x10, 4096)], [⟨31, 31, .rw, .live, .any⟩, ⟨18, 0, .rw, .live, .any⟩]⟩,
  ⟨0x40210004, [(0x10, 4096)], [⟨23, 0, .rw, .live, .any⟩]⟩,
  ⟨0x40210008, [(0x10, 4096)], [⟨31, 31, .w1s, .live, .any⟩, ⟨25, 24, .rw, .live, .dbOnly⟩, ⟨23, 0, .rw, .live, .any⟩]⟩,
  ⟨0x4021000C, [(0x10, 4096)], [⟨31, 31, .ro, .none, .any⟩, ⟨30, 30, .w1c, .none, .any⟩, ⟨23, 0, .ro, .none, .any⟩]⟩]

/-- The registers of the TIME block. -/
def regsTIME : List RegRow := [
  ⟨0x40080000, [], [⟨17, 8, .rw, .live, .sthr⟩, ⟨2, 2, .ro, .none, .any⟩, ⟨1, 0, .rw, .live, .any⟩]⟩,
  ⟨0x40080004, [], [⟨2, 2, .w1c, .none, .any⟩, ⟨1, 1, .w1c, .none, .any⟩, ⟨0, 0, .w1c, .none, .any⟩]⟩,
  ⟨0x40080008, [], [⟨0, 0, .wo, .live, .any⟩]⟩,
  ⟨0x40080010, [], [⟨15, 0, .ro, .none, .any⟩]⟩,
  ⟨0x40080014, [], [⟨31, 0, .ro, .none, .any⟩]⟩,
  ⟨0x40080018, [], [⟨29, 0, .ro, .none, .any⟩]⟩,
  ⟨0x4008001C, [], [⟨31, 0, .ro, .none, .any⟩]⟩,
  ⟨0x40080020, [], [⟨31, 0, .ro, .none, .any⟩]⟩,
  ⟨0x40080024, [], [⟨31, 0, .ro, .none, .any⟩]⟩,
  ⟨0x40080028, [], [⟨31, 0, .ro, .none, .any⟩]⟩,
  ⟨0x40080030, [], [⟨31, 0, .rw, .live, .any⟩]⟩,
  ⟨0x40080040, [], [⟨31, 0, .rw, .live, .any⟩]⟩,
  ⟨0x40080044, [], [⟨29, 0, .rw, .live, .above 999999999 999999999⟩]⟩,
  ⟨0x40080048, [], [⟨1, 1, .rw, .live, .any⟩, ⟨0, 0, .w1s, .live, .any⟩]⟩,
  ⟨0x40080050, [], [⟨14, 12, .ro, .none, .any⟩, ⟨10, 8, .rw, .idle, .above 4 3⟩, ⟨2, 0, .ro, .none, .any⟩]⟩,
  ⟨0x40080060, [], [⟨31, 0, .rw, .live, .any⟩]⟩,
  ⟨0x40080064, [], [⟨14, 8, .rw, .live, .range 1 64⟩, ⟨4, 4, .w1s, .live, .any⟩, ⟨3, 0, .rw, .live, .any⟩]⟩,
  ⟨0x40080068, [], [⟨6, 0, .ro, .none, .any⟩]⟩,
  ⟨0x4008006C, [], [⟨31, 0, .ro, .none, .any⟩]⟩,
  ⟨0x40080070, [], [⟨31, 0, .ro, .none, .any⟩]⟩,
  ⟨0x40080074, [], [⟨31, 0, .ro, .none, .any⟩]⟩,
  ⟨0x40080078, [], [⟨31, 0, .ro, .none, .any⟩]⟩,
  ⟨0x4008007C, [], [⟨31, 0, .ro, .none, .any⟩]⟩]

/-- The registers of the MBX block. -/
def regsMBX : List RegRow := [
  ⟨0x40030000, [(0x400, 32), (0x4, 64)], [⟨31, 0, .rw, .live, .any⟩]⟩,
  ⟨0x40030100, [(0x400, 32)], [⟨0, 0, .w1s, .live, .any⟩]⟩,
  ⟨0x40030104, [(0x400, 32)], [⟨5, 5, .w1c, .none, .any⟩, ⟨4, 4, .w1c, .none, .any⟩, ⟨3, 3, .ro, .none, .any⟩, ⟨2, 2, .ro, .none, .any⟩, ⟨1, 0, .ro, .none, .any⟩]⟩,
  ⟨0x40030108, [(0x400, 32)], [⟨0, 0, .w1s, .live, .any⟩]⟩,
  ⟨0x4003010C, [(0x400, 32)], [⟨31, 16, .rw, .live, .any⟩, ⟨15, 0, .rw, .live, .any⟩]⟩,
  ⟨0x40030110, [(0x400, 32)], [⟨31, 16, .ro, .none, .any⟩, ⟨15, 8, .ro, .none, .any⟩, ⟨5, 0, .ro, .none, .any⟩]⟩,
  ⟨0x40030114, [(0x400, 32)], [⟨1, 1, .rw, .live, .any⟩, ⟨0, 0, .rw, .live, .any⟩]⟩,
  ⟨0x40030118, [(0x400, 32)], [⟨0, 0, .w1s, .live, .any⟩]⟩,
  ⟨0x40038000, [], [⟨1, 0, .rwl, .live, .above 2 2⟩]⟩,
  ⟨0x40038004, [], [⟨0, 0, .w1s, .live, .any⟩]⟩,
  ⟨0x40038008, [], [⟨5, 0, .wo, .live, .any⟩]⟩,
  ⟨0x40038010, [], [⟨31, 0, .ro, .none, .any⟩]⟩,
  ⟨0x40038014, [], [⟨31, 0, .ro, .none, .any⟩]⟩,
  ⟨0x40038100, [(0x4, 32)], [⟨13, 8, .rwl, .live, .any⟩, ⟨5, 0, .rwl, .live, .any⟩]⟩,
  ⟨0x40038040, [(0x4, 8)], [⟨31, 0, .w1c, .none, .any⟩]⟩]

/-- The registers of the SUM block. -/
def regsSUM : List RegRow := [
  ⟨0x40100000, [], [⟨1, 1, .ro, .none, .any⟩, ⟨0, 0, .ro, .none, .any⟩]⟩,
  ⟨0x40100004, [], [⟨3, 3, .w1c, .none, .any⟩, ⟨2, 2, .w1c, .none, .any⟩, ⟨1, 1, .ro, .none, .any⟩, ⟨0, 0, .ro, .none, .any⟩]⟩,
  ⟨0x40100008, [], [⟨15, 8, .ro, .none, .any⟩, ⟨7, 0, .ro, .none, .any⟩]⟩,
  ⟨0x40100010, [], [⟨25, 16, .rw, .live, .range 0 512⟩, ⟨10, 0, .rw, .live, .range 0 1024⟩]⟩,
  ⟨0x40100014, [], [⟨8, 0, .rw, .live, .range 0 256⟩]⟩,
  ⟨0x40100020, [], [⟨25, 16, .rw, .live, .range 0 1000⟩, ⟨9, 0, .ro, .none, .any⟩]⟩,
  ⟨0x40101000, [(0x4, 512)], [⟨2, 0, .rw, .idle, .above 6 6⟩]⟩,
  ⟨0x40101800, [(0x4, 256)], [⟨2, 0, .rw, .idle, .above 6 6⟩]⟩,
  ⟨0x40102000, [(0x4, 512)], [⟨31, 16, .rw, .live, .any⟩, ⟨15, 0, .rw, .live, .any⟩]⟩,
  ⟨0x40102800, [(0x4, 256)], [⟨31, 16, .rw, .live, .any⟩, ⟨15, 0, .rw, .live, .any⟩]⟩]

/-- The registers of the CLU block. -/
def regsCLU : List RegRow := [
  ⟨0x40A00000, [(0x10000, 6)], [⟨15, 8, .ro, .none, .any⟩, ⟨7, 0, .ro, .none, .any⟩]⟩,
  ⟨0x40A00100, [(0x10000, 6), (0x4, 8)], [⟨1, 1, .w1s, .live, .any⟩, ⟨0, 0, .w1s, .live, .any⟩]⟩,
  ⟨0x40A00140, [(0x10000, 6), (0x4, 8)], [⟨16, 6, .rw, .idle, .any⟩]⟩,
  ⟨0x40A00180, [(0x10000, 6), (0x4, 8)], [⟨31, 0, .rw, .idle, .any⟩]⟩,
  ⟨0x40A00200, [(0x10000, 6), (0x4, 8)], [⟨31, 16, .ro, .none, .any⟩, ⟨4, 4, .w1c, .none, .any⟩, ⟨3, 3, .w1c, .none, .any⟩, ⟨2, 2, .w1c, .none, .any⟩, ⟨1, 1, .w1c, .none, .any⟩, ⟨0, 0, .w1c, .none, .any⟩]⟩,
  ⟨0x40A00240, [(0x10000, 6), (0x4, 8)], [⟨16, 0, .ro, .none, .any⟩]⟩,
  ⟨0x40A00280, [(0x10000, 6), (0x4, 8)], [⟨31, 0, .ro, .none, .any⟩]⟩,
  ⟨0x40A002C0, [(0x10000, 6), (0x4, 8)], [⟨31, 0, .rw, .live, .any⟩]⟩,
  ⟨0x40A00300, [(0x10000, 6), (0x4, 8)], [⟨31, 0, .ro, .none, .any⟩]⟩,
  ⟨0x40A00340, [(0x10000, 6), (0x4, 8)], [⟨31, 0, .ro, .none, .any⟩]⟩,
  ⟨0x40A00380, [(0x10000, 6), (0x4, 8)], [⟨31, 16, .rw, .live, .any⟩, ⟨15, 0, .rw, .live, .any⟩]⟩]

/-- The registers of the DISP block. -/
def regsDISP : List RegRow := [
  ⟨0x40070000, [], [⟨0, 0, .w1s, .live, .any⟩]⟩,
  ⟨0x40070004, [], [⟨2, 2, .w1c, .none, .any⟩, ⟨1, 1, .w1c, .none, .any⟩, ⟨0, 0, .ro, .none, .any⟩]⟩,
  ⟨0x40070008, [], [⟨9, 0, .rw, .live, .range 5 1000⟩]⟩,
  ⟨0x40070010, [], [⟨16, 16, .wo, .live, .any⟩, ⟨9, 0, .wo, .live, .any⟩]⟩,
  ⟨0x40070020, [], [⟨31, 0, .ro, .none, .any⟩]⟩,
  ⟨0x40070024, [], [⟨31, 0, .ro, .none, .any⟩]⟩,
  ⟨0x40070028, [], [⟨31, 0, .ro, .none, .any⟩]⟩,
  ⟨0x4007002C, [], [⟨16, 16, .ro, .none, .any⟩, ⟨9, 0, .ro, .none, .any⟩]⟩,
  ⟨0x40070030, [], [⟨31, 0, .ro, .none, .any⟩]⟩,
  ⟨0x40070100, [(0x4, 32)], [⟨31, 0, .ro, .none, .any⟩]⟩,
  ⟨0x40070180, [(0x4, 32)], [⟨31, 0, .rw, .live, .any⟩]⟩,
  ⟨0x40070200, [(0x4, 32)], [⟨31, 31, .rw, .live, .any⟩, ⟨25, 16, .rw, .live, .any⟩, ⟨7, 0, .rw, .live, .any⟩]⟩]

/-- The registers of the EVT block. -/
def regsEVT : List RegRow := [
  ⟨0x40020800, [(0x4, 4)], [⟨13, 4, .rw, .live, .range 0 1000⟩, ⟨2, 1, .rw, .live, .above 2 0⟩, ⟨0, 0, .rw, .live, .any⟩]⟩,
  ⟨0x40020810, [], [⟨11, 8, .w1c, .none, .any⟩, ⟨7, 4, .ro, .none, .any⟩, ⟨3, 0, .ro, .none, .any⟩]⟩,
  ⟨0x40020000, [(0x4, 256)], [⟨9, 9, .rw, .live, .any⟩, ⟨8, 8, .rw, .live, .any⟩, ⟨7, 7, .rw, .live, .any⟩, ⟨6, 6, .rw, .live, .any⟩, ⟨5, 0, .rw, .live, .any⟩]⟩,
  ⟨0x40020400, [(0x4, 8)], [⟨31, 0, .w1c, .none, .any⟩]⟩,
  ⟨0x40020420, [], [⟨31, 0, .w1s, .live, .any⟩]⟩,
  ⟨0x40020430, [], [⟨31, 0, .rw, .live, .any⟩]⟩,
  ⟨0x40020440, [], [⟨23, 16, .rw, .live, .range 1 255⟩, ⟨13, 12, .rw, .live, .above 2 1⟩, ⟨11, 0, .rw, .live, .range 1 4095⟩]⟩,
  ⟨0x40020444, [], [⟨31, 16, .ro, .none, .any⟩, ⟨15, 8, .ro, .none, .any⟩, ⟨0, 0, .ro, .none, .any⟩]⟩]

/-- The registers of the TDM block. -/
def regsTDM : List RegRow := [
  ⟨0x40300000, [(0x1000, 32)], [⟨31, 31, .rw, .live, .any⟩, ⟨13, 13, .rw, .idle, .any⟩, ⟨12, 12, .rw, .idle, .any⟩, ⟨11, 11, .rw, .idle, .any⟩, ⟨10, 9, .rw, .idle, .above 2 2⟩, ⟨8, 4, .rw, .idle, .range 1 31⟩, ⟨3, 2, .rw, .idle, .above 2 2⟩, ⟨1, 0, .rw, .idle, .above 1 1⟩]⟩,
  ⟨0x40300004, [(0x1000, 32)], [⟨21, 16, .rw, .idle, .range 0 32⟩, ⟨8, 0, .rw, .idle, .any⟩]⟩,
  ⟨0x40300008, [(0x1000, 32)], [⟨21, 16, .rw, .idle, .range 0 32⟩, ⟨8, 0, .rw, .idle, .any⟩]⟩,
  ⟨0x40300010, [(0x1000, 32)], [⟨31, 0, .rw, .live, .any⟩]⟩,
  ⟨0x40300014, [(0x1000, 32)], [⟨31, 0, .rw, .live, .any⟩]⟩,
  ⟨0x40300018, [(0x1000, 32)], [⟨0, 0, .w1s, .live, .any⟩]⟩,
  ⟨0x40300020, [(0x1000, 32)], [⟨8, 8, .w1c, .none, .any⟩, ⟨7, 7, .ro, .none, .any⟩, ⟨6, 6, .ro, .none, .any⟩, ⟨5, 5, .w1c, .none, .any⟩, ⟨4, 4, .w1c, .none, .any⟩, ⟨3, 3, .w1c, .none, .any⟩, ⟨2, 2, .w1c, .none, .any⟩, ⟨1, 0, .ro, .none, .any⟩]⟩,
  ⟨0x40300024, [(0x1000, 32)], [⟨21, 0, .ro, .none, .any⟩]⟩,
  ⟨0x40300030, [(0x1000, 32)], [⟨31, 0, .ro, .none, .any⟩]⟩,
  ⟨0x40300034, [(0x1000, 32)], [⟨31, 0, .ro, .none, .any⟩]⟩,
  ⟨0x40300038, [(0x1000, 32)], [⟨31, 0, .ro, .none, .any⟩]⟩,
  ⟨0x4030003C, [(0x1000, 32)], [⟨31, 0, .ro, .none, .any⟩]⟩,
  ⟨0x40300040, [(0x1000, 32)], [⟨31, 0, .ro, .none, .any⟩]⟩,
  ⟨0x40300044, [(0x1000, 32)], [⟨31, 0, .ro, .none, .any⟩]⟩,
  ⟨0x40300080, [(0x1000, 32)], [⟨8, 8, .w1c, .none, .any⟩, ⟨3, 3, .rw, .idle, .any⟩, ⟨2, 2, .rw, .idle, .any⟩, ⟨1, 1, .rw, .idle, .any⟩, ⟨0, 0, .rw, .live, .any⟩]⟩,
  ⟨0x40300084, [(0x1000, 32)], [⟨31, 0, .rw, .idle, .any⟩]⟩,
  ⟨0x40300088, [(0x1000, 32)], [⟨31, 6, .rw, .idle, .any⟩]⟩,
  ⟨0x4030008C, [(0x1000, 32)], [⟨7, 0, .rw, .idle, .any⟩]⟩,
  ⟨0x40300090, [(0x1000, 32)], [⟨29, 6, .rw, .idle, .range 1 0xFFFFFF⟩]⟩,
  ⟨0x40300094, [(0x1000, 32)], [⟨31, 0, .ro, .none, .any⟩]⟩,
  ⟨0x40300098, [(0x1000, 32)], [⟨31, 0, .ro, .none, .any⟩]⟩]

/-- The registers of the ASRC block. -/
def regsASRC : List RegRow := [
  ⟨0x40340000, [(0x10, 64)], [⟨25, 16, .rw, .idle, .range 50 1000⟩, ⟨15, 8, .rw, .live, .range 5 200⟩, ⟨0, 0, .rw, .live, .any⟩]⟩,
  ⟨0x40340004, [(0x10, 64)], [⟨31, 16, .ro, .none, .any⟩, ⟨1, 1, .w1c, .none, .any⟩, ⟨0, 0, .ro, .none, .any⟩]⟩,
  ⟨0x40340008, [(0x10, 64)], [⟨31, 0, .ro, .none, .any⟩]⟩]

/-- The registers of the NET block. -/
def regsNET : List RegRow := [
  ⟨0x40400000, [], [⟨31, 31, .rw, .live, .any⟩, ⟨1, 0, .rw, .idle, .above 1 0⟩]⟩,
  ⟨0x40400004, [], [⟨2, 2, .w1c, .none, .any⟩, ⟨1, 1, .ro, .none, .any⟩, ⟨0, 0, .w1c, .none, .any⟩]⟩,
  ⟨0x40400010, [(0x4, 2)], [⟨8, 8, .rw, .live, .any⟩, ⟨4, 4, .rw, .idle, .any⟩, ⟨2, 0, .rw, .idle, .above 3 0⟩]⟩,
  ⟨0x40400020, [(0x4, 2)], [⟨15, 12, .ro, .none, .any⟩, ⟨8, 8, .ro, .none, .any⟩, ⟨7, 7, .ro, .none, .any⟩, ⟨4, 4, .ro, .none, .any⟩, ⟨3, 3, .w1c, .none, .any⟩, ⟨2, 2, .w1c, .none, .any⟩, ⟨0, 0, .ro, .none, .any⟩]⟩,
  ⟨0x40400030, [], [⟨25, 16, .rw, .live, .range 1 1000⟩, ⟨13, 0, .rw, .live, .range 1 10000⟩]⟩,
  ⟨0x40400040, [], [⟨31, 16, .rw, .live, .any⟩, ⟨10, 8, .rw, .live, .any⟩, ⟨5, 0, .rw, .live, .any⟩]⟩,
  ⟨0x40400050, [], [⟨31, 24, .rw, .idle, .any⟩, ⟨23, 16, .rw, .idle, .any⟩, ⟨15, 8, .rw, .idle, .any⟩, ⟨7, 0, .rw, .idle, .range 1 255⟩]⟩,
  ⟨0x40400060, [], [⟨31, 0, .ro, .none, .any⟩]⟩,
  ⟨0x40400064, [], [⟨31, 0, .ro, .none, .any⟩]⟩,
  ⟨0x40400068, [], [⟨31, 0, .ro, .none, .any⟩]⟩,
  ⟨0x4040006C, [], [⟨31, 0, .ro, .none, .any⟩]⟩,
  ⟨0x40400070, [], [⟨31, 0, .ro, .none, .any⟩]⟩,
  ⟨0x40400074, [], [⟨31, 0, .ro, .none, .any⟩]⟩,
  ⟨0x40400078, [], [⟨31, 0, .ro, .none, .any⟩]⟩,
  ⟨0x4040007C, [], [⟨31, 0, .ro, .none, .any⟩]⟩,
  ⟨0x40400080, [], [⟨31, 0, .ro, .none, .any⟩]⟩,
  ⟨0x40400084, [], [⟨31, 0, .ro, .none, .any⟩]⟩,
  ⟨0x40401000, [(0x10, 256)], [⟨31, 24, .ro, .none, .any⟩, ⟨10, 10, .ro, .none, .any⟩, ⟨9, 9, .ro, .none, .any⟩, ⟨8, 8, .ro, .none, .any⟩, ⟨2, 0, .ro, .none, .any⟩]⟩,
  ⟨0x40401004, [(0x10, 256)], [⟨31, 0, .ro, .none, .any⟩]⟩,
  ⟨0x40401008, [(0x10, 256)], [⟨31, 0, .ro, .none, .any⟩]⟩,
  ⟨0x4040100C, [(0x10, 256)], [⟨31, 0, .ro, .none, .any⟩]⟩,
  ⟨0x40402000, [(0x4, 256)], [⟨31, 31, .ro, .none, .any⟩, ⟨30, 30, .ro, .none, .any⟩, ⟨23, 0, .ro, .none, .any⟩]⟩]

/-- The registers of the T1S block. -/
def regsT1S : List RegRow := [
  ⟨0x40480000, [(0x100, 2)], [⟨31, 31, .rw, .live, .any⟩]⟩,
  ⟨0x40480004, [(0x100, 2)], [⟨2, 2, .w1c, .none, .any⟩, ⟨1, 1, .ro, .none, .any⟩, ⟨0, 0, .ro, .none, .any⟩]⟩,
  ⟨0x40480010, [(0x100, 2)], [⟨31, 0, .ro, .none, .any⟩]⟩,
  ⟨0x40480014, [(0x100, 2)], [⟨31, 0, .ro, .none, .any⟩]⟩,
  ⟨0x40480018, [(0x100, 2)], [⟨31, 0, .ro, .none, .any⟩]⟩]

/-- The registers of the REFS block. -/
def regsREFS : List RegRow := [
  ⟨0x40090000, [], [⟨4, 4, .rw, .live, .any⟩, ⟨2, 0, .rw, .live, .any⟩]⟩,
  ⟨0x40090004, [], [⟨2, 0, .rw, .live, .any⟩, ⟨5, 3, .rw, .live, .any⟩, ⟨8, 6, .rw, .live, .any⟩, ⟨11, 9, .rw, .live, .any⟩, ⟨14, 12, .rw, .live, .any⟩]⟩,
  ⟨0x40090008, [], [⟨25, 17, .rw, .live, .range 1 300⟩, ⟨16, 9, .rw, .live, .any⟩, ⟨8, 0, .rw, .live, .range 1 500⟩]⟩,
  ⟨0x4009000C, [], [⟨22, 16, .ro, .none, .any⟩, ⟨6, 0, .rw, .live, .range 1 100⟩]⟩,
  ⟨0x40090010, [], [⟨15, 15, .w1c, .none, .any⟩, ⟨14, 8, .ro, .none, .any⟩, ⟨6, 6, .ro, .none, .any⟩, ⟨5, 5, .ro, .none, .any⟩, ⟨4, 4, .ro, .none, .any⟩, ⟨3, 3, .ro, .none, .any⟩, ⟨2, 0, .ro, .none, .any⟩]⟩,
  ⟨0x40090020, [(0x4, 7)], [⟨31, 16, .ro, .none, .any⟩, ⟨11, 2, .ro, .none, .any⟩, ⟨1, 0, .ro, .none, .any⟩]⟩,
  ⟨0x40090040, [], [⟨31, 0, .ro, .none, .any⟩]⟩,
  ⟨0x40090044, [], [⟨31, 0, .ro, .none, .any⟩]⟩,
  ⟨0x40090048, [], [⟨31, 31, .w1s, .live, .any⟩, ⟨30, 30, .rw, .live, .any⟩, ⟨29, 29, .ro, .none, .any⟩, ⟨18, 16, .rw, .live, .any⟩, ⟨12, 0, .rw, .live, .range 1 5000⟩]⟩,
  ⟨0x40090050, [], [⟨1, 1, .rw, .live, .any⟩, ⟨0, 0, .rw, .live, .any⟩]⟩,
  ⟨0x40090054, [], [⟨31, 31, .rw, .live, .any⟩, ⟨0, 0, .rw, .live, .any⟩]⟩,
  ⟨0x40090058, [], [⟨31, 0, .rw, .live, .any⟩]⟩,
  ⟨0x4009005C, [], [⟨15, 0, .rw, .live, .any⟩]⟩,
  ⟨0x40090060, [], [⟨4, 0, .rw, .live, .any⟩]⟩,
  ⟨0x40090070, [(0x4, 4)], [⟨2, 0, .rw, .live, .above 4 2⟩]⟩,
  ⟨0x40090080, [], [⟨2, 2, .rw, .live, .any⟩, ⟨1, 1, .rw, .live, .any⟩, ⟨0, 0, .rw, .live, .any⟩]⟩,
  ⟨0x40090084, [], [⟨17, 8, .rw, .live, .range 1 500⟩, ⟨1, 1, .rw, .live, .any⟩, ⟨0, 0, .rw, .live, .any⟩]⟩,
  ⟨0x40090088, [], [⟨31, 0, .ro, .none, .any⟩]⟩,
  ⟨0x4009008C, [], [⟨31, 0, .ro, .none, .any⟩]⟩,
  ⟨0x40090090, [(0x8, 2)], [⟨31, 16, .rw, .live, .any⟩, ⟨15, 0, .rw, .live, .any⟩]⟩,
  ⟨0x40090094, [(0x8, 2)], [⟨31, 0, .rw, .live, .any⟩]⟩]

/-- The registers of the AMP block. -/
def regsAMP : List RegRow := [
  ⟨0x40500000, [(0x1000, 32)], [⟨2, 2, .rw, .live, .any⟩, ⟨1, 1, .rw, .staged, .any⟩, ⟨0, 0, .rw, .staged, .any⟩]⟩,
  ⟨0x40500004, [(0x1000, 32)], [⟨23, 16, .rw, .idle, .range 10 200⟩, ⟨11, 4, .rw, .idle, .range 10 200⟩, ⟨1, 0, .rw, .idle, .above 2 0⟩]⟩,
  ⟨0x40500008, [(0x1000, 32)], [⟨27, 16, .rw, .idle, .any⟩, ⟨11, 0, .rw, .idle, .any⟩]⟩,
  ⟨0x4050000C, [(0x1000, 32)], [⟨31, 16, .rw, .idle, .any⟩, ⟨15, 0, .rw, .idle, .range 1 4000⟩]⟩,
  ⟨0x40500010, [(0x1000, 32)], [⟨31, 16, .rw, .idle, .range 1 1000⟩, ⟨15, 0, .rw, .idle, .range 1 1000⟩]⟩,
  ⟨0x40500014, [(0x1000, 32)], [⟨11, 0, .rw, .live, .any⟩]⟩,
  ⟨0x40500018, [(0x1000, 32)], [⟨22, 16, .rw, .live, .range 1 100⟩, ⟨10, 0, .rw, .live, .range 1 2000⟩]⟩,
  ⟨0x4050001C, [(0x1000, 32)], [⟨15, 0, .rw, .idle, .any⟩]⟩,
  ⟨0x40500020, [(0x1000, 32)], [⟨8, 8, .ro, .none, .any⟩, ⟨7, 7, .w1c, .none, .any⟩, ⟨6, 6, .w1c, .none, .any⟩, ⟨5, 5, .w1c, .none, .any⟩, ⟨4, 4, .w1c, .none, .any⟩, ⟨3, 3, .ro, .none, .any⟩, ⟨2, 0, .ro, .none, .any⟩]⟩,
  ⟨0x40500024, [(0x1000, 32)], [⟨31, 16, .ro, .none, .any⟩, ⟨5, 5, .ro, .none, .any⟩, ⟨4, 4, .ro, .none, .any⟩, ⟨3, 3, .ro, .none, .any⟩, ⟨2, 0, .ro, .none, .any⟩]⟩,
  ⟨0x40500028, [(0x1000, 32)], [⟨23, 0, .ro, .none, .any⟩]⟩,
  ⟨0x4050002C, [(0x1000, 32)], [⟨15, 0, .ro, .none, .any⟩]⟩,
  ⟨0x40500030, [(0x1000, 32)], [⟨23, 0, .rw, .live, .any⟩]⟩,
  ⟨0x40500034, [(0x1000, 32)], [⟨23, 16, .rw, .live, .range 2 40⟩, ⟨15, 0, .rw, .live, .range 1 65535⟩]⟩,
  ⟨0x40500038, [(0x1000, 32)], [⟨19, 0, .ro, .none, .any⟩]⟩,
  ⟨0x4050003C, [(0x1000, 32)], [⟨27, 16, .ro, .none, .any⟩, ⟨11, 0, .ro, .none, .any⟩]⟩,
  ⟨0x40500040, [(0x1000, 32)], [⟨31, 16, .ro, .none, .any⟩, ⟨15, 0, .ro, .none, .any⟩]⟩,
  ⟨0x40500044, [(0x1000, 32)], [⟨31, 0, .ro, .none, .any⟩]⟩,
  ⟨0x40500048, [(0x1000, 32)], [⟨31, 0, .ro, .none, .any⟩]⟩,
  ⟨0x4050004C, [(0x1000, 32)], [⟨31, 0, .ro, .none, .any⟩]⟩,
  ⟨0x40500050, [(0x1000, 32)], [⟨31, 16, .ro, .none, .any⟩, ⟨7, 0, .ro, .none, .any⟩]⟩,
  ⟨0x40500060, [(0x2000, 16)], [⟨25, 16, .ro, .none, .any⟩, ⟨2, 2, .ro, .none, .any⟩, ⟨1, 1, .ro, .none, .any⟩, ⟨0, 0, .rw, .idle, .any⟩]⟩,
  ⟨0x40500064, [(0x2000, 16)], [⟨31, 16, .ro, .none, .any⟩, ⟨7, 0, .ro, .none, .any⟩]⟩,
  ⟨0x40500068, [(0x2000, 16)], [⟨15, 0, .rw, .live, .any⟩]⟩]

/-- The registers of the SUPV block. -/
def regsSUPV : List RegRow := [
  ⟨0x40580000, [(0x20, 4)], [⟨27, 16, .rw, .live, .range 1 4095⟩, ⟨11, 0, .rw, .live, .any⟩]⟩,
  ⟨0x40580004, [(0x20, 4)], [⟨31, 31, .ro, .none, .any⟩, ⟨27, 16, .ro, .none, .any⟩, ⟨11, 0, .ro, .none, .any⟩]⟩,
  ⟨0x40580008, [(0x20, 4)], [⟨29, 20, .rw, .live, .range 10 1000⟩, ⟨17, 8, .rw, .live, .range 10 1000⟩, ⟨7, 4, .rw, .live, .any⟩, ⟨0, 0, .rw, .live, .any⟩]⟩,
  ⟨0x4058000C, [(0x20, 4)], [⟨9, 0, .rw, .live, .range 1 1000⟩]⟩,
  ⟨0x40580010, [(0x20, 4)], [⟨31, 31, .ro, .none, .any⟩, ⟨19, 0, .ro, .none, .any⟩]⟩,
  ⟨0x40580200, [], [⟨8, 8, .rw, .live, .any⟩, ⟨5, 0, .rw, .live, .range 1 60⟩]⟩,
  ⟨0x40580210, [], [⟨3, 3, .w1c, .none, .any⟩, ⟨2, 2, .w1c, .none, .any⟩, ⟨1, 1, .ro, .none, .any⟩, ⟨0, 0, .w1s, .live, .any⟩]⟩,
  ⟨0x40580214, [], [⟨31, 0, .rw, .live, .any⟩]⟩,
  ⟨0x40580218, [], [⟨31, 0, .ro, .none, .any⟩]⟩,
  ⟨0x40581000, [(0x40, 32), (0x4, 16)], [⟨31, 31, .ro, .none, .any⟩, ⟨27, 16, .ro, .none, .any⟩, ⟨15, 0, .ro, .none, .any⟩]⟩,
  ⟨0x40582000, [(0x40, 32), (0x4, 16)], [⟨23, 0, .rw, .live, .any⟩]⟩]

/-- The registers of the TND block. -/
def regsTND : List RegRow := [
  ⟨0x40600000, [], [⟨31, 31, .rw, .live, .any⟩, ⟨8, 8, .rw, .idle, .any⟩, ⟨7, 0, .rw, .live, .range 0 200⟩]⟩,
  ⟨0x40600004, [], [⟨14, 14, .ro, .none, .any⟩, ⟨13, 13, .w1c, .none, .any⟩, ⟨12, 12, .w1c, .none, .any⟩, ⟨11, 11, .ro, .none, .any⟩, ⟨10, 8, .ro, .none, .any⟩, ⟨7, 4, .ro, .none, .any⟩, ⟨3, 0, .ro, .none, .any⟩]⟩,
  ⟨0x40600008, [], [⟨9, 9, .w1c, .none, .any⟩, ⟨8, 8, .ro, .none, .any⟩, ⟨7, 4, .ro, .none, .any⟩, ⟨2, 0, .ro, .none, .any⟩]⟩,
  ⟨0x40600010, [], [⟨31, 0, .ro, .none, .any⟩]⟩,
  ⟨0x40600020, [], [⟨31, 0, .ro, .none, .any⟩]⟩,
  ⟨0x40600024, [], [⟨31, 0, .ro, .none, .any⟩]⟩,
  ⟨0x40600028, [], [⟨31, 0, .ro, .none, .any⟩]⟩,
  ⟨0x4060002C, [], [⟨31, 0, .ro, .none, .any⟩]⟩,
  ⟨0x40600030, [], [⟨25, 16, .ro, .none, .any⟩, ⟨15, 0, .ro, .none, .any⟩]⟩]

/-- The registers of the PWR block. -/
def regsPWR : List RegRow := [
  ⟨0x40010000, [], [⟨12, 12, .w1c, .none, .any⟩, ⟨11, 10, .ro, .none, .any⟩, ⟨9, 9, .ro, .none, .any⟩, ⟨8, 8, .ro, .none, .any⟩, ⟨7, 4, .ro, .none, .any⟩, ⟨3, 0, .ro, .none, .any⟩]⟩,
  ⟨0x40010004, [], [⟨6, 0, .rw, .live, .range 5 100⟩]⟩,
  ⟨0x40010008, [], [⟨13, 0, .rw, .live, .any⟩]⟩,
  ⟨0x4001000C, [], [⟨11, 8, .rw, .live, .any⟩, ⟨6, 0, .rw, .live, .any⟩]⟩,
  ⟨0x40010010, [], [⟨15, 8, .ro, .none, .any⟩, ⟨1, 0, .ro, .none, .any⟩]⟩,
  ⟨0x40010014, [], [⟨23, 16, .rw, .live, .range 60 130⟩, ⟨15, 0, .ro, .none, .any⟩]⟩]

/-- The registers of the MTX block. -/
def regsMTX : List RegRow := [
  ⟨0x40040000, [], [⟨31, 31, .w1c, .none, .any⟩, ⟨21, 16, .ro, .none, .any⟩, ⟨15, 0, .ro, .none, .any⟩]⟩,
  ⟨0x40040004, [], [⟨31, 0, .ro, .none, .any⟩]⟩,
  ⟨0x40040008, [], [⟨7, 0, .ro, .none, .any⟩]⟩,
  ⟨0x40040100, [(0x20, 18), (0x4, 8)], [⟨2, 0, .rw, .live, .any⟩, ⟨6, 4, .rw, .live, .any⟩, ⟨10, 8, .rw, .live, .any⟩, ⟨14, 12, .rw, .live, .any⟩, ⟨18, 16, .rw, .live, .any⟩, ⟨22, 20, .rw, .live, .any⟩, ⟨26, 24, .rw, .live, .any⟩, ⟨30, 28, .rw, .live, .any⟩]⟩]

/-- The registers of the MEM block. -/
def regsMEM : List RegRow := [
  ⟨0x40050000, [], [⟨1, 0, .rw, .live, .above 2 0⟩, ⟨3, 2, .rw, .live, .above 2 0⟩, ⟨5, 4, .rw, .live, .above 2 0⟩, ⟨7, 6, .rw, .live, .above 2 0⟩, ⟨9, 8, .rw, .live, .above 2 0⟩, ⟨11, 10, .ro, .none, .above 2 0⟩, ⟨13, 12, .rw, .live, .above 2 0⟩, ⟨15, 14, .rw, .live, .above 2 0⟩, ⟨17, 16, .rw, .live, .above 2 0⟩, ⟨19, 18, .rw, .live, .above 2 0⟩, ⟨21, 20, .rw, .live, .above 2 0⟩, ⟨23, 22, .rw, .live, .above 2 0⟩, ⟨25, 24, .rw, .live, .above 2 0⟩, ⟨27, 26, .rw, .live, .above 2 0⟩]⟩,
  ⟨0x40050004, [], [⟨1, 0, .ro, .none, .any⟩, ⟨3, 2, .ro, .none, .any⟩, ⟨5, 4, .ro, .none, .any⟩, ⟨7, 6, .ro, .none, .any⟩, ⟨9, 8, .ro, .none, .any⟩, ⟨11, 10, .ro, .none, .any⟩, ⟨13, 12, .ro, .none, .any⟩, ⟨15, 14, .ro, .none, .any⟩, ⟨17, 16, .ro, .none, .any⟩, ⟨19, 18, .ro, .none, .any⟩, ⟨21, 20, .ro, .none, .any⟩, ⟨23, 22, .ro, .none, .any⟩, ⟨25, 24, .ro, .none, .any⟩, ⟨27, 26, .ro, .none, .any⟩]⟩,
  ⟨0x40050008, [], [⟨29, 16, .w1c, .none, .any⟩, ⟨13, 0, .w1c, .none, .any⟩]⟩,
  ⟨0x40050010, [], [⟨31, 31, .rw, .live, .any⟩, ⟨23, 16, .rw, .live, .range 1 255⟩, ⟨9, 0, .rw, .live, .range 1 1000⟩]⟩,
  ⟨0x40050100, [(0x4, 15)], [⟨31, 16, .rw, .live, .any⟩, ⟨15, 0, .rw, .live, .any⟩]⟩,
  ⟨0x40050180, [], [⟨31, 31, .w1c, .none, .any⟩, ⟨5, 0, .ro, .none, .any⟩]⟩,
  ⟨0x40050184, [], [⟨31, 0, .ro, .none, .any⟩]⟩,
  ⟨0x40050188, [], [⟨7, 0, .ro, .none, .any⟩]⟩,
  ⟨0x40050200, [], [⟨31, 31, .rw, .live, .any⟩, ⟨30, 30, .rw, .live, .any⟩, ⟨25, 16, .rw, .live, .range 1 1000⟩, ⟨13, 0, .rw, .live, .any⟩]⟩,
  ⟨0x40050204, [], [⟨31, 16, .ro, .none, .any⟩, ⟨7, 4, .ro, .none, .any⟩, ⟨2, 2, .w1c, .none, .any⟩, ⟨1, 1, .w1c, .none, .any⟩, ⟨0, 0, .ro, .none, .any⟩]⟩,
  ⟨0x40050208, [], [⟨15, 0, .ro, .none, .any⟩]⟩,
  ⟨0x40050240, [(0x4, 14)], [⟨31, 16, .ro, .none, .any⟩, ⟨6, 0, .ro, .none, .any⟩]⟩,
  ⟨0x40050300, [], [⟨10, 5, .ro, .none, .any⟩, ⟨3, 3, .w1c, .none, .any⟩, ⟨2, 2, .w1c, .none, .any⟩, ⟨1, 1, .ro, .none, .any⟩, ⟨0, 0, .ro, .none, .any⟩]⟩,
  ⟨0x40051000, [(0x100, 16), (0x4, 64)], [⟨31, 0, .ro, .none, .any⟩]⟩]

/-- The registers of the DDR block. -/
def regsDDR : List RegRow := [
  ⟨0x40800000, [], [⟨8, 8, .rw, .idle, .any⟩, ⟨5, 4, .rw, .idle, .any⟩, ⟨1, 0, .rw, .idle, .any⟩]⟩,
  ⟨0x40800004, [], [⟨8, 2, .ro, .none, .any⟩, ⟨1, 1, .ro, .none, .any⟩, ⟨0, 0, .ro, .none, .any⟩]⟩,
  ⟨0x40800010, [], [⟨31, 16, .rw, .live, .any⟩, ⟨15, 0, .rw, .live, .any⟩]⟩]

/-- The registers of the CNT block. -/
def regsCNT : List RegRow := [
  ⟨0x40060000, [], [⟨31, 31, .rw, .live, .any⟩, ⟨21, 16, .rw, .live, .any⟩, ⟨9, 0, .rw, .live, .range 10 1000⟩]⟩,
  ⟨0x40060010, [], [⟨31, 31, .w1s, .live, .any⟩, ⟨30, 30, .ro, .none, .any⟩, ⟨11, 0, .rw, .live, .any⟩]⟩,
  ⟨0x40060014, [], [⟨31, 0, .ro, .none, .any⟩]⟩,
  ⟨0x40060018, [], [⟨31, 0, .ro, .none, .any⟩]⟩,
  ⟨0x4006001C, [], [⟨31, 0, .ro, .none, .any⟩]⟩,
  ⟨0x40060020, [], [⟨31, 31, .rw, .live, .any⟩, ⟨15, 0, .rw, .idle, .range 1 65535⟩]⟩,
  ⟨0x40060024, [], [⟨23, 6, .rw, .idle, .any⟩]⟩,
  ⟨0x40060028, [], [⟨31, 16, .ro, .none, .any⟩, ⟨1, 1, .ro, .none, .any⟩, ⟨0, 0, .ro, .none, .any⟩]⟩,
  ⟨0x40060040, [(0x4, 8)], [⟨28, 16, .rw, .idle, .range 0 4096⟩, ⟨11, 0, .rw, .idle, .any⟩]⟩]

/-- The registers of the SYS block. -/
def regsSYS : List RegRow := [
  ⟨0x40000000, [], [⟨31, 16, .ro, .none, .any⟩, ⟨15, 8, .ro, .none, .any⟩, ⟨7, 0, .ro, .none, .any⟩]⟩,
  ⟨0x40000004, [], [⟨2, 0, .ro, .none, .any⟩]⟩,
  ⟨0x40000008, [], [⟨31, 16, .ro, .none, .any⟩, ⟨11, 8, .ro, .none, .any⟩, ⟨5, 4, .ro, .none, .any⟩, ⟨3, 2, .ro, .none, .any⟩, ⟨1, 0, .ro, .none, .any⟩]⟩]

/-- The registers of the SEC block. -/
def regsSEC : List RegRow := [
  ⟨0x40900000, [], [⟨7, 4, .ro, .none, .any⟩, ⟨1, 0, .ro, .none, .any⟩]⟩,
  ⟨0x40900004, [], [⟨31, 7, .ro, .none, .any⟩, ⟨2, 2, .ro, .none, .any⟩, ⟨1, 1, .ro, .none, .any⟩, ⟨0, 0, .ro, .none, .any⟩]⟩,
  ⟨0x40900008, [], [⟨31, 0, .ro, .none, .any⟩]⟩]

/-- The rows of the block an address lies in. -/
def blockRows (a : Nat) : List RegRow :=
  if a < 0x40000000 then [] else if a < 0x40010000 then regsSYS
  else if a < 0x40020000 then regsPWR
  else if a < 0x40030000 then regsEVT
  else if a < 0x40040000 then regsMBX
  else if a < 0x40050000 then regsMTX
  else if a < 0x40060000 then regsMEM
  else if a < 0x40070000 then regsCNT
  else if a < 0x40080000 then regsDISP
  else if a < 0x40090000 then regsTIME
  else if a < 0x40100000 then regsREFS
  else if a < 0x40200000 then regsSUM
  else if a < 0x40300000 then regsPATCH
  else if a < 0x40340000 then regsTDM
  else if a < 0x40400000 then regsASRC
  else if a < 0x40480000 then regsNET
  else if a < 0x40500000 then regsT1S
  else if a < 0x40580000 then regsAMP
  else if a < 0x40600000 then regsSUPV
  else if a < 0x40800000 then regsTND
  else if a < 0x40900000 then regsDDR
  else if a < 0x40A00000 then regsSEC
  else if a < 0x40B00000 then regsCLU
  else []

/-- The register row at an address, where there is one. -/
def regRow? (a : Nat) : Option RegRow := (blockRows a).find? (·.covers a)

/-- The sender and receiver master IDs each mailbox channel is bound to after reset (R103). -/
def bindReset (n : Nat) : Nat :=
  match n with
  | 0 => 0x0801 | 1 => 0x0108 | 2 => 0x0108 | 3 => 0x0801
  | 4 => 0x0902 | 5 => 0x0209 | 6 => 0x0209 | 7 => 0x0902
  | 8 => 0x0A30 | 9 => 0x300A | 10 => 0x300A | 11 => 0x0A30
  | n => if n < 18 then 0x0B00 + (0x10 + (n - 12)) else if n < 24 then 0x100 * (0x10 + (n - 18)) + 0x0B else 0

/-- The reset priority of master `m` at matrix target `t` (R397). -/
def mtxPri (t m : Nat) : Nat :=
  if m = 0x18 then 7
  else if m = 0x24 then 2
  else if m = 0x25 then 1
  else if m = 0x2F then 1
  else if m = 0x19 ∧ t = 0 then 7
  else if m = 0x1C ∧ t = 2 then 7
  else if m = 0x1D ∧ t = 4 then 7
  else if m = 0x1A ∧ t = 1 then 6
  else if m = 0x1B ∧ t = 3 then 6
  else if 0x08 ≤ m ∧ m < 0x0C ∧ t = 5 then 6
  else if m = 0x01 ∧ t = 6 then 6
  else if 0x10 ≤ m ∧ m < 0x16 ∧ t = 7 + (m - 0x10) then 6
  else if 0x20 ≤ m ∧ m < 0x24 ∧ t = 13 then 6
  else 3

/-- The reset value of MTX_PRIt,w: eight priorities, four bits each. -/
def mtxPriReset (t w : Nat) : Nat :=
  (List.range 8).foldl (fun acc i => acc + mtxPri t (8 * w + i) * 16 ^ i) 0

/-- The reset value of the register at an address; zero where the map gives none other. -/
def resetWordNat (a : Nat) : Nat :=
  if a < 0x40000000 then 0 else if a < 0x40010000 then
    if a = 0x40000000 then 0x4B100101 else
    if a = 0x40000004 then 0x00000001 else
    0
  else if a < 0x40020000 then
    if a = 0x40010004 then 0x00000014 else
    if a = 0x40010008 then 0x00003FFF else
    if a = 0x4001000C then 0x0000003A else
    if a = 0x40010014 then 0x00640000 else
    0
  else if a < 0x40030000 then
    if 0x40020800 ≤ a && onGrid [(0x4, 4)] (a - 0x40020800) then 0x000000A0 else
    if 0x400202E0 ≤ a && onGrid [(0x4, 4)] (a - 0x400202E0) then 0x200 else
    if a = 0x40020440 then 0x00641040 else
    0
  else if a < 0x40040000 then
    if a = 0x40038000 then 0x00000002 else
    if 0x40038100 ≤ a && onGrid [(0x4, 32)] (a - 0x40038100) then bindReset ((a - 0x40038100) / 0x4) else
    0
  else if a < 0x40050000 then
    if 0x40040100 ≤ a && onGrid [(0x20, 18), (0x4, 8)] (a - 0x40040100) then mtxPriReset ((a - 0x40040100) / 32) ((a - 0x40040100) % 32 / 4) else
    0
  else if a < 0x40060000 then
    if a = 0x40050010 then 0x8001000A else
    if a = 0x40050200 then 0x000A0000 else
    0
  else if a < 0x40070000 then
    if a = 0x40060000 then 0x80000064 else
    if a = 0x40060020 then 0x000003E8 else
    0
  else if a < 0x40080000 then
    if a = 0x40070008 then 0x0000000A else
    0
  else if a < 0x40090000 then
    if a = 0x40080050 then 0x00003301 else
    if a = 0x40080064 then 0x00000100 else
    0
  else if a < 0x40100000 then
    if a = 0x40090000 then 0x00000017 else
    if a = 0x40090004 then 0x000008D1 else
    if a = 0x40090008 then 0x00140A32 else
    if a = 0x4009000C then 0x000A000A else
    if a = 0x40090010 then 0x00004016 else
    if a = 0x40090038 then 3 else
    if a = 0x40090048 then 0x00000032 else
    if a = 0x40090080 then 0x00000004 else
    if a = 0x40090084 then 0x00006400 else
    0
  else if a < 0x40200000 then
    if 0x40101000 ≤ a && onGrid [(0x4, 512)] (a - 0x40101000) then 0x00000002 else
    if 0x40101800 ≤ a && onGrid [(0x4, 256)] (a - 0x40101800) then 0x00000002 else
    0
  else if a < 0x40300000 then
    if 0x40208000 ≤ a && onGrid [(0x4, 1024)] (a - 0x40208000) then 0x00C82804 else
    0
  else if a < 0x40340000 then
    if 0x40300000 ≤ a && onGrid [(0x1000, 32)] (a - 0x40300000) then 0x00000C79 else
    if 0x40300004 ≤ a && onGrid [(0x1000, 32)] (a - 0x40300004) then 0x00100000 + 16 * ((a - 0x40300004) / 0x1000) else
    if 0x40300008 ≤ a && onGrid [(0x1000, 32)] (a - 0x40300008) then 0x00100000 + 16 * ((a - 0x40300008) / 0x1000) else
    if 0x40300010 ≤ a && onGrid [(0x1000, 32)] (a - 0x40300010) then 0xFFFFFFFF else
    if 0x40300014 ≤ a && onGrid [(0x1000, 32)] (a - 0x40300014) then 0xFFFFFFFF else
    0
  else if a < 0x40400000 then
    if 0x40340000 ≤ a && onGrid [(0x10, 64)] (a - 0x40340000) then 0x00641400 else
    0
  else if a < 0x40480000 then
    if 0x40400010 ≤ a && onGrid [(0x4, 2)] (a - 0x40400010) then 0x00000110 else
    if a = 0x40400030 then 0x000A0032 else
    if a = 0x40400040 then 0xC7A40522 else
    if a = 0x40400050 then 0x40208004 else
    0
  else if a < 0x40500000 then
    0
  else if a < 0x40580000 then
    if 0x40500000 ≤ a && onGrid [(0x1000, 32)] (a - 0x40500000) then 0x00000006 else
    if 0x40500004 ≤ a && onGrid [(0x1000, 32)] (a - 0x40500004) then 0x002D0280 else
    if 0x40500008 ≤ a && onGrid [(0x1000, 32)] (a - 0x40500008) then 0x01F4015E else
    if 0x4050000C ≤ a && onGrid [(0x1000, 32)] (a - 0x4050000C) then 0x03E805DC else
    if 0x40500010 ≤ a && onGrid [(0x1000, 32)] (a - 0x40500010) then 0x0032000A else
    if 0x40500014 ≤ a && onGrid [(0x1000, 32)] (a - 0x40500014) then 0x000000C8 else
    if 0x40500018 ≤ a && onGrid [(0x1000, 32)] (a - 0x40500018) then 0x000A07D0 else
    if 0x4050001C ≤ a && onGrid [(0x1000, 32)] (a - 0x4050001C) then 2000 + 25 * (((a - 0x4050001C) / 0x1000) % 8) else
    if 0x40500034 ≤ a && onGrid [(0x1000, 32)] (a - 0x40500034) then 0x000A00C8 else
    if 0x40500038 ≤ a && onGrid [(0x1000, 32)] (a - 0x40500038) then 0x000FFFFF else
    0
  else if a < 0x40600000 then
    if 0x40580000 ≤ a && onGrid [(0x20, 4)] (a - 0x40580000) then 0x00640000 else
    if 0x40580008 ≤ a && onGrid [(0x20, 4)] (a - 0x40580008) then 0x3E806400 + 16 * ((a - 0x40580008) / 0x20) else
    if 0x4058000C ≤ a && onGrid [(0x20, 4)] (a - 0x4058000C) then 0x00000014 else
    if 0x40580010 ≤ a && onGrid [(0x20, 4)] (a - 0x40580010) then 0x000FFFFF else
    if a = 0x40580200 then 0x00000001 else
    0
  else if a < 0x40800000 then
    if a = 0x40600000 then 0x00000014 else
    if a = 0x40600004 then 0x00000200 else
    0
  else if a < 0x40900000 then
    if a = 0x40800000 then 0x00000100 else
    0
  else if a < 0x40A00000 then
    0
  else if a < 0x40B00000 then
    0
  else 0

/-- The reset value of the register at an address, as a word. -/
def resetWord (a : Nat) : Word := BitVec.ofNat 32 (resetWordNat a)

end Sys2Proof.Machine
end

