-- ==== Sys2Proof/Machine/TypesPath.lean ====
section
/-! DEFINITION. The typed state of the signal path: the time counter and capture queues, the Silwen
outboxes, Hampers, multiplexers, selectors, Trails, transitions, the patch table, module parameters
and the dispatcher. Only what no register map holds stands here; the rest is in the register file. -/

namespace Sys2Proof.Machine

/-- A command whose final notification is outstanding: its sender, tag and code (R116), whether a
takeover handed it on (R364), and how often its sender's tags had been forgotten when it was taken (R108, R109). -/
structure Tok where
  sender : Sender
  tag : BitVec 8
  code : Nat
  inherited : Bool := false
  gen : Nat := 0
deriving DecidableEq, Repr

/-- A reply or notification (R111): its code, tag and words from word 1. -/
structure Msg where
  code : Nat
  tag : BitVec 8
  words : List Word
deriving DecidableEq, Repr

/-- A command that has asked for bulk segments (R110, R454): its code and message, the number of the next segment once one has been taken, the
bytes it needs and those it has. -/
structure BulkRun where
  code : Nat
  cmd : Cmd
  next : Option Nat := none
  need : Nat
  data : List Byte := []
deriving DecidableEq, Repr

/-- What the firmware holds for one sender (R112, R113, R119): the outstanding tags with their
command codes, held replies, final notifications, the queue of state notifications, the drop
counter, the last acknowledgement (code and value), by tag the commands that wait for bulk
segments (R454), and how often the tags have been forgotten (R108, R109). -/
structure Outbox where
  tags : KMap Nat := []
  replies : List Msg := []
  finals : List Msg := []
  queue : List Msg := []
  drops : Nat := 0
  lastAck : Option (Nat × Nat) := none
  bulk : KMap BulkRun := []
  gen : Nat := 0
deriving DecidableEq, Repr

/-- One entry of an edge-capture queue (R56). -/
structure CapEntry where
  w0 : Word
  w1 : Word
  w2 : Word
  w3 : Word
deriving DecidableEq, Repr

/-- The time unit (R33–R59): the counter, a residue below its fraction in units of 2⁻⁴⁰ ns that no
register shows, a held mode, a requested step (seconds, nanoseconds, backwards), the capture queue
with its loss count and step flag, the firmware's own queue, whether the servo may still step
in this acquisition (R39), the tick of the last event stored (its time in 2⁻³² ns, plus 1) with the number
of its events at the end of the queue (R57), and the sum of the steps applied in units of 2⁻³² ns, which no duration
counts (R41). -/
structure TimeSt where
  sec : BitVec 48
  ns : BitVec 30
  frac : BitVec 32
  res : BitVec 8
  modeReq : Option (BitVec 2)
  stepReq : Option (BitVec 32 × BitVec 30 × Bool)
  capQ : List CapEntry
  capLost : Nat
  capStep : Bool
  fwQ : List CapEntry
  acqStep : Bool
  capTick : Nat := 0
  capSame : Nat := 0
  moved : Int := 0
deriving DecidableEq, Repr

/-- A pending restart of the engine (R52–R54, R455): the Stile t0, the new rate code where the rate
changes, CLEAR, whether the pre-stop ramp has begun, and the command's token. -/
structure Restart where
  stile : Nat
  rate : Option Nat
  clear : Bool
  ramping : Bool
  tok : Option Tok
deriving DecidableEq, Repr

/-- The engine (R48–R54): whether it runs, the MTI of the last round-start Stile ticked, the sample
number of that Stile (samples are counted through time steps, R41), rounds still discarded after a
step, a pending restart, and after a restart the token to complete with the number of the sample at
which it restarted. After a start `gate` holds the sinks released so far, each with the sample number
at which its 10 ms ramp began; every other sink stays at zero until its source is valid. -/
structure EngSt where
  running : Bool
  lastTick : Option Nat
  base : Nat
  discard : Nat
  restart : Option Restart
  settling : Option (Nat × Option Tok)
  gate : Option (KMap Nat)
  /-- the sample number and length of a ramp of every sink to digital zero (R53, R381) -/
  down : Option (Nat × Nat)
  /-- the sample number and length of a ramp of every sink up from digital zero (R383) -/
  up : Option (Nat × Nat) := none
deriving DecidableEq, Repr

/-- An open Hamper (R65, R461). -/
structure OpenHamper where
  hid : Nat
  sender : Sender
  entries : List Entry
deriving DecidableEq, Repr

/-- A Hamper taken as a member of a plan (R66): its entries, whether it came at expert level, the
command that completes with it, and whether the firmware made it for a basic command (R453). -/
structure Member where
  hid : Nat
  gid : Nat
  gsize : Nat
  stile : Nat
  entries : List Entry
  sender : Sender
  tok : Option Tok
  internal : Bool
  handle : Nat := 0
deriving DecidableEq, Repr

/-- A planned Hamper or group (R71–R75): members in ascending HID order, the commit MTI, the MTI
taken, the lead time in samples, the planned Stile, LATE, whether its load has started, and the
counts of held and discarded entries. -/
structure Plan where
  members : List Member
  s : Nat
  t : Nat
  lam : Nat
  p : Nat
  late : Bool
  loading : Bool
  held : Nat
  discarded : Nat
deriving DecidableEq, Repr

/-- Hampers, scenes and alarm Hampers (R60–R76, R91–R93, R463). An entry of `alarmEdges` is an input
with the round-start Stile at which its alarm Hamper commits. -/
structure HampSt where
  opened : List OpenHamper
  waiting : List Member
  plans : List Plan
  nextHid : Nat
  alarms : KMap (List Entry)
  alarmEdges : List (Nat × Nat)
  scenes : KMap (List Member)
deriving DecidableEq, Repr

/-- A crossfade that began at a sample number, over a duration in samples, with its shape. -/
structure Fade where
  start : Nat
  dur : Nat
  shape : Nat
deriving DecidableEq, Repr

/-- What a multiplexer gave before a crossfade: a source index, or what an earlier crossfade gave, which an
alarm entry may have frozen: from sample number `till` on it keeps the weights of the sample before (R93). -/
inductive OldSrc where
  | src (i : Nat)
  | faded (old : OldSrc) (new : Nat) (fade : Fade) (till : Option Nat)
deriving DecidableEq, Repr

/-- A crossfading multiplexer (R89): its source; while it crossfades, the old source; and the last
crossfade ended, which samples still in the engine belong to (R50). -/
structure Mux where
  src : Nat
  old : Option (OldSrc × Fade)
  past : Option (OldSrc × Fade) := none
deriving DecidableEq, Repr

/-- An input selector beside its PATCH_FOCTL and PATCH_FOSTAT (R26–R30): the fade with the position
from which it started (num/den, when reversed), the sample number at which the restore hold began, a
deferred MODE, and the earlier fades that samples still in the engine belong to, newest first, each with
whether it went to the backup (R50). -/
structure Selector where
  fade : Option (Fade × Nat × Nat) := none
  holdFrom : Option Nat := none
  deferMode : Option Nat := none
  past : List (Bool × Fade × Nat × Nat) := []
deriving DecidableEq, Repr

/-- A running Trail (R79), and the position num/den it began at (R92). -/
structure TrailRun where
  fade : Fade
  first : Nat × Nat := (0, 1)
deriving DecidableEq, Repr

/-- A stage transition (R82): its run, its Trail, the crosspoints its Hamper named, and whether set B
is the old set. -/
structure Trans where
  fade : Fade
  trail : Nat
  named : List Nat
  oldB : Bool
deriving DecidableEq, Repr

/-- A patch-table entry in use (R83): stage, crosspoint, the gain it started from and its target as
two's-complement coefficients, its run with the sample number at which another run or a transition took its
place, and its token. -/
structure PatchRun where
  isMatrix : Bool
  xp : Nat
  frm : Int
  target : Int
  cut : Option Nat
  fade : Fade
  tok : Option Tok
deriving DecidableEq, Repr

/-- A continuous parameter on its way (R90). A gain field that was interrupted starts from an amplitude in units
of 2⁻²³. -/
structure Move where
  key : Nat
  frm : Word
  dest : Word
  fade : Fade
  amp : Option Int := none
deriving DecidableEq, Repr

/-- The old state of a module instance running in parallel (R90): the old values of its fields and the contents
of its sections; or a running pair that an alarm entry froze at the weights num/den of its shape (R93). -/
inductive ParOld where
  | one (vals : List (Nat × Word)) (dsp : KMap (List Int))
  | pair (old : ParOld) (vals : List (Nat × Word)) (dsp : KMap (List Int)) (shape num den : Nat)
deriving DecidableEq, Repr

/-- A module instance running old and new state in parallel (R90, R93): its run, the old values of the
fields it changed, and once the engine has reached the run's first sample the old state that is faded out. -/
structure ParRun where
  fade : Fade
  old : List (Nat × Word)
  state : Option ParOld := none
deriving DecidableEq, Repr

/-- The patch unit and the stages. -/
structure PathSt where
  mux : KMap Mux
  sel : KMap Selector
  trails : KMap TrailRun
  send : Option Trans
  matrix : Option Trans
  sendRefill : Option Nat
  matrixRefill : Option Nat
  sendPast : Option Trans
  matrixPast : Option Trans
  patches : KMap PatchRun
  patchPast : List PatchRun
  /-- parameters of module instances, keyed instance × 65536 + field -/
  params : KMap Word
  moves : KMap Move
  par : KMap ParRun
  /-- moves and parallel runs that have ended or been overtaken, newest first, which samples still in the
  engine belong to (R50) -/
  movePast : List Move := []
  parPast : List (Nat × ParRun) := []
deriving DecidableEq, Repr

/-- A loaded OEM image (R232). -/
structure OemModule where
  entry : Nat
  nparam : Nat
  c : List Nat
  r : List Nat
  stateBytes : Nat
  readsPred : Bool
  image : List Byte
deriving DecidableEq, Repr

/-- A placed OEM instance (R233, R460). -/
structure OemPlace where
  mod : Nat
  cmask : Nat
  kmask : Nat
  point : Nat
  group : Nat
  preds : List Nat
  succs : List Nat
deriving DecidableEq, Repr

/-- A playback of a message player (R228): the message, loops and gap it started with, the sample
number at which it started, its token with LATE, and the fade-out once stopped. -/
structure Playback where
  msg : Nat
  loops : Nat
  gap : Word
  start : Nat
  tok : Option Tok
  late : Bool
  fadeFrom : Option Nat
deriving DecidableEq, Repr

/-- A generator's run (R229): the sample of its phase zero, the sweep's start with the F, F2 and SWT
it took, and whether a single sweep has ended. -/
structure GenRun where
  phase0 : Nat
  sweep : Option (Nat × Word × Word × Word)
  ended : Bool
deriving DecidableEq, Repr

/-- The outgoing mix of a priority mixer (R220): the mix formed with a list of active levels, or a running
crossfade frozen at the weights num/den it gave the sample before. -/
inductive MixOld where
  | mix (acts : List Nat)
  | frozen (old : MixOld) (acts : List Nat) (num den : Nat)
deriving DecidableEq, Repr

/-- A priority mixer's crossfade (R220): its outgoing mix, its run and the active levels of the new mix. -/
structure MixFade where
  old : MixOld
  fade : Fade
  acts : List Nat := []
deriving DecidableEq, Repr

/-- Ambient-noise compensation of an output strip (R223): the RMS detector, the estimate and the gain of this
round and of the round before in 0.01 dB, and whether the loss of its sense source has been reported. -/
structure AncSt where
  det : List Int := []
  est : Int := 0
  gain : Int := 0
  gainPrev : Int := 0
  lostTold : Bool := false
deriving DecidableEq, Repr

/-- A stored message (R226): its 1× rate code, created length in samples, and bytes held. -/
structure Message where
  rate : Nat
  len : Nat
  data : List Byte
deriving DecidableEq, Repr

/-- Modules, players, generators, priority mixers and the message store. `placed` is the placement the
firmware holds, `active` the placement the active template runs, `oemLast` the module an OEM instance
was last placed with. `playOut` holds the playbacks fading out beside a new one (player, playback; R228),
`mixPast` the crossfades of priority mixers that have ended, newest first, which samples still in the engine
belong to, `lvlRamp` the levels of the priority mixers on a ramp of 0.25 ms (256 × strip + level: sample
number, whether up; R220), `dsp` the contents of the sections of the module instances (filters, detectors,
gains, delay lines and phases, keyed 64 × instance + section; R213–R217, R499), and `mid` the audio of the
instances between the parts of their items (R224, R233). -/
structure ModSt where
  placed : List Nat
  active : List Nat
  oem : KMap OemModule
  oemPlaced : KMap OemPlace
  oemLast : KMap Nat
  fir : KMap (List Word)
  players : KMap Playback
  gens : KMap GenRun
  mixers : KMap MixFade
  anc : KMap AncSt
  msgs : KMap Message
  playOut : List (Nat × Playback) := []
  mixPast : List (Nat × MixFade) := []
  lvlRamp : KMap (Nat × Bool) := []
  dsp : KMap (List Int) := []
  mid : KMap (List Int) := []
deriving DecidableEq, Repr

/-- What a template handle does for the signal path (R134, R189, R233, R235). A group of strips is one
item or, around inserts and FIRs, several parts in series; `last` marks the part that ends it. -/
inductive Role where
  | players (g : Nat)
  | gens (g : Nat)
  | sourceJoin
  | strips (g part : Nat) (last : Bool)
  | sendBlock (q : Nat)
  | buses (g part : Nat) (last : Bool)
  | busJoin
  | matBlock (q : Nat)
  | outs (g part : Nat) (last : Bool)
  | fir (o : Nat)
  | oem (inst : Nat)
  | fan
deriving DecidableEq, Repr

/-- Where a released item stands (R186–R201). -/
inductive ItemState where
  | waiting | ready | running | done | missed
deriving DecidableEq, Repr

/-- A released item of the round (R185, R186): its descriptor as copied at release, its live count,
its state, the order in which it entered the ready list, its core, and whether it joined as a
one-shot or event item (R195). -/
structure Item where
  desc : List Word
  count : Nat
  st : ItemState
  seq : Nat
  core : Nat
  oneshot : Bool
deriving DecidableEq, Repr

/-- The parameter block of a module instance (R231): NEW, D, p and SHAPE of its header, and its two copies,
keyed by field code, where an unlisted parameter holds its default (DEDUCED, assumption 59: the rule gives
neither the address of the block nor the order of the parameters in a copy). -/
structure ParBlock where
  new : Bool
  dur : Word
  stile : Word
  shape : Nat
  copy0 : KMap Word
  copy1 : KMap Word
deriving DecidableEq, Repr

/-- The dispatcher beside its registers (R183–R203): descriptors (word index 16 h + w), the shadow of
the active mask is DISP_TMASK, the items of the round by handle, the ready order, the delay list,
handles to be released by event slots, the round's first MTI with its deadline and barrier, the parameter
blocks of the instances its items run (R231), the MARGIN in force since the last round tick (R205), and the taps that
ramp to zero because every core that may run one of their items is isolated: from which sample number and value (R413). -/
structure DispSt where
  desc : KMap Word
  items : KMap Item
  seq : Nat
  delay : List Nat
  evRel : List Nat
  relEv : List Nat
  rmti : Nat
  inRound : Bool
  deadline : Bool
  barrier : Bool
  missed : KMap Bool
  roles : KMap Role
  nextRoles : KMap Role
  nextDesc : KMap Word
  tokens : KMap Tok
  sendDone : Nat
  matDone : Nat
  blocks : KMap ParBlock
  margin : Nat := 10
  ramped : KMap (Nat × Sample) := []
deriving DecidableEq, Repr

/-- The accumulators of a column at one sample: under the set in force, in a transition under the new set as well,
and the additions that saturated (R125, R128). -/
structure ColAcc where
  one : Int := 0
  two : Int := 0
  sat : Nat := 0
deriving DecidableEq, Repr

/-- Samples by source, tap or stage column: gathered in this round, in process, and of the round
before; bus sums are kept at 8192 + b. NSTRIP, NBUS and NOUT in force since the last round tick
(R133). `hold` is the first sample number of a round in which every multiplexer repeats the value given
here, after a reset of the patch unit (R413). `accs` are the accumulators of the stages' columns between the
jobs of a round (R125, R132). -/
structure SigSt where
  gather : KMap (List Sample)
  cur : KMap (List Sample)
  prev : KMap (List Sample)
  lost : List Nat
  nstrip : Nat
  nbus : Nat
  nout : Nat
  hold : Option (Nat × KMap Int) := none
  accs : KMap (List ColAcc) := []
deriving DecidableEq, Repr

end Sys2Proof.Machine
end

