-- ==== Sys2Proof/Machine/TypesPort.lean ====
section
/-! DEFINITION. The typed state of the ports and of the blocks around the signal path: TDM ports,
network, PTP and references, amplifiers and supervision, the tandem pair, power, memory, counters
and the nightly test. -/

namespace Sys2Proof.Machine

/-- A received frame of a TDM port as its buffer holds it: the input sample it carries (R246), the time of its
active FS edge in units of 0.5 ns (R248), its slots, the RX mask of that frame and whether GO moved it there. -/
structure InFrame where
  num : Nat
  stamp : Nat
  slots : List Sample
  mask : Word
  go : Bool
deriving DecidableEq, Repr

/-- A slot mask a Hamper committed: its Stile as an MTI and as a sample number (R243). -/
structure HampMask where
  mti : Nat
  num : Nat
  mask : Word
deriving DecidableEq, Repr

/-- A rate converter (R248-R250): the pair of the current round, its ratio in Q4.28 and its interpolation position
on the port's frames in units of 2⁻³² frame; the position error; since when that error has stayed within one
frame, in units of 2⁻³² ns; and while it acquires the number of the edge its acquisition began with. -/
structure AsrcSt where
  ratio : Option Nat := none
  pos : Int := 0
  err : Int := 0
  since : Option Nat := none
  acq : Option Nat := some 0
deriving DecidableEq, Repr

/-- A TDM port beside its registers (R236–R256): the masks in force and those a Hamper committed that wait for
their frame; the time of a GO that waits, and whether GO moved the masks for the next frame; the slots withheld
since the start (R240); consecutive good frames and framing errors; the engine time of the first frame in RUNNING
(`State.pos`), the frames since and the alignment in frames against it (R246, R247); whether the engine sees the
port running, and its ramps by sample number, the last of the output; the last frame the engine read, the frames
received, the output frames by the sample period they are due in; the edges' times in units of 0.5 ns, newest
first, and their count; length and bit clocks of the last frame; the time of the last edge in units of 2⁻³² ns;
the two converters; whether capture runs; and what DOUT carried in the last frame: each slot's bits, or none where
it was high-impedance, the bit clocks before slot 0, whether DOUT changes on the falling edge, and the bit clocks. -/
structure TdmSt where
  rxMask : Word := 0xFFFFFFFF#32
  txMask : Word := 0xFFFFFFFF#32
  hampRx : List HampMask := []
  hampTx : List HampMask := []
  goAt : Option Nat := none
  goMoved : Bool := false
  noRx : List Nat := []
  noTx : List Nat := []
  good : Nat := 0
  bad : Nat := 0
  first : Option Nat := none
  count : Nat := 0
  align : Int := 0
  live : Bool := false
  rampUp : Option Nat := none
  rampDown : Option (Nat × Nat) := none
  outDown : Option (Nat × Nat) := none
  last : List Sample := []
  inq : List InFrame := []
  outq : KMap (List Sample) := []
  stamps : List Nat := []
  seen : Nat := 0
  bclk : Option (Nat × Nat) := none
  lastEdge : Option Nat := none
  inConv : AsrcSt := {}
  outConv : AsrcSt := {}
  capOn : Bool := false
  dout : List (Option Word) := []
  doutLead : Nat := 0
  doutFall : Bool := true
  doutLen : Nat := 0
deriving DecidableEq, Repr

/-- The parameters of a stream (R273), applied: PORTS (0 NET_A, 1 NET_B, 2 both, 3 T1S_0, 4 T1S_1),
encoding, packet time, channels, payload type, addresses, base, RTP offset; the rest by direction.
`run` is the RUN committed. LOFS in µs, LOSST in 10 µs, REGAIN in ms. -/
structure StreamCfg where
  ports : Nat
  l16 : Bool
  ptime : Nat
  ch : Nat
  pt : Nat
  dst : Word
  dport : Nat
  dstb : Word
  dportb : Nat
  base : Nat
  off : Word
  src : Word := 0
  group : Nat := 0
  lofs : Nat := 0
  losst : Nat := 0
  regain : Nat := 0
  dscp : Nat := 0
  ttl : Nat := 0
  ssrc : Word := 0
  run : Bool := false
deriving DecidableEq, Repr

/-- A receive stream at work (R278–R281): samples by presented MTI, the legs that brought each packet
position, the first missing sample, the MTI since which every presented sample was on time, the ramps
(up, rejoin with the repeated values, down) by sample number, the last presented values, each leg's last packet, and
the last sample groups a 2:1 converter holds (R287). -/
structure RxSt where
  buf : KMap (List Sample) := []
  got : KMap Nat := []
  u : Option Nat := none
  okFrom : Nat := 0
  upFrom : Option Nat := none
  rejoin : Option (Nat × List Sample) := none
  downFrom : Option Nat := none
  last : List Sample := []
  lastA : Option Nat := none
  lastB : Option Nat := none
  conv : List (List Sample) := []
deriving DecidableEq, Repr

/-- A transmit stream at work (R276, R283): the first packet's sample, the Stile of RUN = 0, and the
samples not yet sent by MTI. -/
structure TxSt where
  firstM : Nat := 0
  stop : Option Nat := none
  buf : KMap (List Sample) := []
deriving DecidableEq, Repr

/-- The RTP packet a transmit stream sends (R276): its handle, leg, addresses, header fields and
samples. -/
structure RtpOut where
  handle : Nat
  legB : Bool
  dst : Word
  dport : Nat
  ts : Word
  seq : Nat
  ssrc : Word
  pt : Nat
  dscp : Nat
  ttl : Nat
  samples : List (List Sample)
deriving DecidableEq, Repr

/-- A frame in an egress queue (R263): its number in the buffer, class (0 PTP, 1 MEDIA, 2 CONTROL,
3 BEST-EFFORT), length, what its PTP message is with the correctionField in 2⁻¹⁶ ns and the ingress
port (2 for NET_C), its RTP packet, the dataset of an Announce (R298), the version and group of an IGMP report
(R261), and the originTimestamp of a Sync in ns, inserted as it leaves (R293). -/
structure QFrame where
  id : Nat
  cls : Nat
  len : Nat
  ptp : Option (PtpKind × Int × Nat) := none
  rtp : Option RtpOut := none
  gm : Option GmData := none
  igmp : Option (Nat × Word) := none
  origin : Option Nat := none
deriving DecidableEq, Repr

/-- A frame held in the packet buffer (R264): class, length, whether borrowed from the shared pool, and
the egresses not yet complete. -/
structure HeldFrame where
  cls : Nat
  len : Nat
  shared : Bool
  left : Nat
deriving DecidableEq, Repr

/-- The PAUSE state of a port (R268, R269), times in units of 2⁻³² ns: the end of the pause, the start
of the continuous pause, the end of the hold-off. -/
structure PauseSt where
  till : Option Nat := none
  since : Option Nat := none
  holdoff : Option Nat := none
deriving DecidableEq, Repr

/-- The network engine beside its registers (R257–R288). `out` is the last frame each port has sent, as
the wire carries it; `fading` the channels of stopped streams on their ramp to zero; `leaving` the transmit streams
stopped whose last packets are still to be sent though their handle is free or runs again (R283); `ctlTag` the
receive descriptor of the last CONTROL frame, its 802.1Q tag where valid (R267). -/
structure NetSt where
  streams : KMap StreamCfg := []
  rx : KMap RxSt := []
  tx : KMap TxSt := []
  groupLoss : KMap Bool := []
  fading : List (Nat × Nat × Sample) := []
  learned : List (Nat × Nat) := []
  queues : KMap (List QFrame) := []
  held : KMap HeldFrame := []
  nextId : Nat := 0
  tokens : Nat := 2621440
  tokenAt : Nat := 0
  pause : KMap PauseSt := []
  ip : List Word := [0, 0]
  prefixLen : List Nat := [0, 0]
  mac : Option (BitVec 48) := none
  out : KMap QFrame := []
  leaving : List (Nat × StreamCfg × TxSt) := []
  ctlTag : Option VlanTag := none
deriving DecidableEq, Repr

/-- A PTP instance (R289–R291): the words of PTP_CFG as applied and the states of its ports. -/
structure PtpInst where
  en : Bool := false
  profile : Nat := 0
  role : Nat := 0
  ethernet : Bool := false
  p2p : Bool := false
  hybrid : Bool := false
  tcP2p : Bool := false
  domain : Nat := 0
  logSync : Int := 0
  logAnnounce : Int := 1
  logDelay : Int := 0
  prio1 : Nat := 128
  prio2 : Nat := 128
  annrx : Nat := 3
  tsrc : Nat := 0x20
  portA : PtpPort := .disabled
  portB : PtpPort := .disabled
  parent : Option GmData := none
deriving DecidableEq, Repr

/-- A REALIGN at work (R307): STEP or SLEW, targets, rate, the time it began in units of 2⁻³² ns, and
its token. -/
structure RealignSt where
  step : Bool
  tgt : Nat
  rate : Nat
  since : Nat
  tok : Option Tok
deriving DecidableEq, Repr

/-- References (R289–R317): PTP instances, mean link delays in 2⁻¹⁶ ns, candidates whose last
measurement lay outside the window, the candidate of a running transition and whether its offset has
been measured, since when (2⁻³² ns), a running REALIGN, and the MTI from which a promoted chip drives its clock outputs. -/
structure RefSt where
  insts : KMap PtpInst := []
  linkDelay : KMap Nat := []
  outside : List Nat := []
  incoming : Option (Nat × Bool) := none
  switchAt : Nat := 0
  realign : Option RealignSt := none
  clkFrom : Nat := 0
deriving DecidableEq, Repr

/-- An amplifier channel beside its registers (R326–R344): the samples from whose emission a start and a
stop act, the step of the start sequence, the sample at which the ramp of the state gain began, the
run of limited cycles with the LIMCNT before it, times in units of 2⁻³² ns of the last entry to SHORT,
of its end and of the last probe, whether a probe runs and the impedance of a failed one; whether the
interval is disturbed, intervals seen NORMAL and loops seen whole in a row, the sums of a baseline
(intervals, |Z|, RLOOP), and whether the next sweep writes the sweep baseline; the time the start sequence began (2⁻³² ns); the averaged power in mW and
the power limiter's gain in 0.01 dB (R330); the state of the pilot notch and the commands of the round (R319), in
units of 2⁻²³ of VFS; and the phases of its sweep baseline by point, in 0.1°. -/
structure AmpSt where
  startDue : Option Nat := none
  stopDue : Option Nat := none
  phase : Nat := 0
  rampFrom : Option Nat := none
  limRun : Nat := 0
  limBase : Word := 0
  shortAt : Nat := 0
  shortEnd : Option Nat := none
  lastProbe : Option Nat := none
  probing : Bool := false
  probeZ : Option Nat := none
  dirty : Bool := false
  normals : Nat := 0
  loopOk : Nat := 0
  base : Option (Nat × Nat × Nat) := none
  baseSweep : Bool := false
  startAt : Nat := 0
  power : Int := 0
  gain : Int := 0
  notch : List Int := []
  cmd : List Int := []
  basePh : KMap Int := []
deriving DecidableEq, Repr

/-- A quiet sweep at work (R345, R346): the channels swept, the point in progress, the sample number of
its start, LATE, its token, the channels disturbed in this point, those whose sweep has ended, and
whether it is the nightly test's own. -/
structure SweepRun where
  chans : List Nat
  point : Nat
  start : Nat
  late : Bool
  tok : Option Tok
  bad : List Nat
  ended : List Nat
  own : Bool := false
deriving DecidableEq, Repr

/-- Amplifier channels and line supervision (R318–R348): scheduled sweeps (MTI, mask or the register's,
token, LATE), the sweep at work, baselines outstanding (channels, token), the rail-sag gain of each group in 0.01 dB
(R331), and the end of the last measurement interval (2⁻³² ns). -/
structure SupvSt where
  amps : KMap AmpSt := []
  sched : List (Nat × Option Word × Option Tok × Bool) := []
  sweep : Option SweepRun := none
  jobs : List (List Nat × Tok) := []
  railGain : KMap Int := []
  lastInterval : Option Nat := none
deriving DecidableEq, Repr

/-- A planned handover (R367, R368): Stile h, its token, whether it has begun, whether this chip's and the
peer's ROLE_IN have been seen to change, and whether DRILL ordered it. -/
structure HandSt where
  h : Nat
  tok : Option Tok
  begun : Bool := false
  mine : Bool := false
  peer : Bool := false
  done : Bool := false
deriving DecidableEq, Repr

/-- The tandem unit beside its registers (R349–R371): a change of EN awaiting its Stile; the peer's
reported role; since when (units of 2⁻³² ns) both roles have been active; a handover; the MTI of the
round whose DECIDE and INPUT records are here, and of the round last ended; whether every chunk and
digest of the cycle so far matched, and whether a cycle has begun; since when the link is down; whether
the background copy is done; the sample number from which the alignment delays fill; the lanes in use;
copied tags by sender key; when the line switches close (units of 2⁻³²
ns); POKEs copied for the next Stile; whether this chip is failed; when ROLE_IN last rose (units of 2⁻³² ns); the
stream and port states of the active's last DECIDE record; and the byte of the state image at which its next chunk
begins (R362). -/
structure TandemSt where
  enDue : Option Bool := none
  peerRole : Bool := false
  bothSince : Option Nat := none
  handover : Option HandSt := none
  decide : Option Nat := none
  input : Option Nat := none
  ended : Option Nat := none
  clean : Bool := false
  downSince : Option Nat := none
  copied : Bool := false
  fillFrom : Nat := 0
  lanes : BitVec 4 := 0
  tags : List (Sender × List (Nat × Nat)) := []
  lswFrom : Nat := 0
  pokes : List (Nat × List Word) := []
  failed : Bool := false
  roleAt : Nat := 0
  streams : List (Nat × Nat) := []
  ports : List (Nat × Nat) := []
  sweep : Nat := 0
deriving DecidableEq, Repr

/-- What the chip gives the tandem link for its peer: its ROLE_IN level and state (R350), the records of R356, each
with the MTI of its round, and an item of R357. -/
inductive LinkMsg where
  | report (roleIn : Bool) (state : Nat)
  | decide (mti : Nat) (r : DecideRec)
  | input (mti : Nat) (ins : List InputRec)
  | alarm (mti : Nat) (edges : List (Fin 4 × Nat))
  | fin (mti : Nat) (r : EndRec)
  | item (i : CopyItem)
deriving DecidableEq, Repr

/-- A Pace transition (R377): target, whether it is slower, the Stile at which its clocks change and its
end in units of 2⁻³² ns, and its token. -/
structure PaceRun where
  dest : Nat
  slower : Bool
  endAt : Nat
  tok : Option Tok
deriving DecidableEq, Repr

/-- A sleep entry (R381–R383): DEEP, its token, Stile s, the step reached (0 before s, 1 ramping, 2 the
release has stopped, 3 drained, 4 blocks stopped), blocks stopped, the channels in RUN or RETURN at s,
and a wake that came before D with its cause. -/
structure SleepRun where
  deep : Bool
  tok : Option Tok
  stile : Nat
  step : Nat := 0
  blocks : Nat := 0
  amps : List Nat := []
deriving DecidableEq, Repr

/-- A request of R378: a Pace, or a sleep (DEEP), each with its token. -/
inductive PowReq where
  | pace (target : Nat) (tok : Option Tok)
  | sleep (deep : Bool) (tok : Option Tok)
deriving DecidableEq, Repr

/-- Power (R373–R390): the request current and not yet begun, the request held, the transition, the
sleep entry; the regulator balls; the channels to start again after a retention sleep, whether a wake has
come, the directions of ALARM_IN copied for it; whether the release of templates is stopped; whether the
temperature stands above WARN. -/
structure PowerSt where
  current : Option PowReq := none
  held : Option PowReq := none
  trans : Option PaceRun := none
  sleep : Option SleepRun := none
  vsel : Nat := 0
  pwrenC : Bool := true
  vmret : Bool := false
  pwrenM : Bool := true
  restart : List Nat := []
  woken : Bool := false
  edges : Nat := 0
  noRelease : Bool := false
  hot : Bool := false
deriving DecidableEq, Repr

/-- Memory beside its registers (R391–R411): addresses of poisoned 64-bit words; banks being zeroed with
the tokens that wait; masters whose port hangs on a decode error; DMA channels stopped with an error; the
Rambler's next region (bank × 65,536 + row) and the rows it found failed without a spare; writes to
instruction memories held while their core runs (R141). -/
structure MemSt where
  poison : List Nat := []
  zeroing : List (List Nat × Option Tok) := []
  hung : List Nat := []
  dmaErr : List Nat := []
  ramNext : Nat := 0
  ramBad : List Nat := []
  imem : List (Nat × List Byte) := []
deriving DecidableEq, Repr

/-- The counter reader beside its registers (R426–R430): the last value read and the high word of each
chained counter, and a dump being copied: its sequence, MTI, half and latched values. -/
structure CntSt where
  prev : KMap Word := []
  high : KMap Nat := []
  seq : Nat := 0
  dump : Option (Nat × Nat × List Nat) := none
  half : Nat := 0
deriving DecidableEq, Repr

/-- The schedule of the nightly test (R431): start, period in hours, steps, channel and bank masks, LATE,
and the key of the sender that configured it. -/
structure NightCfg where
  start : Nat
  period : Nat
  steps : Nat
  chans : Word
  banks : Nat
  late : Bool
  owner : Nat := 0
deriving DecidableEq, Repr

/-- The result of a step of the nightly test (R434). -/
inductive StepRes where
  | pending | running | pass | fail | skipped | aborted
deriving DecidableEq, Repr

/-- A nightly test at work (R432): its configuration; the results of REF, EARTH, SWEEP, RAMBLER and DRILL;
measurements and intervals seen; the sums of RLEAK by channel and of RETLEAK by group with their
counts; the Rambler register saved; spare rows in use at the start, then rows remapped; whether a row
found no spare; the channels swept; the time at which the first handover of DRILL completed in units of
2⁻³² ns; and the handovers of DRILL sent. -/
structure NightRun where
  cfg : NightCfg
  ref : StepRes
  earth : StepRes
  sweep : StepRes
  rambler : StepRes
  drill : StepRes
  nref : Nat := 0
  nint : Nat := 0
  leak : KMap (Nat × Nat) := []
  ret : KMap (Nat × Nat) := []
  saved : Word := 0
  used : Nat := 0
  noSpare : Bool := false
  swept : List Nat := []
  drillAt : Option Nat := none
  drills : Nat := 0
deriving DecidableEq, Repr

/-- The nightly test, and the time of the last alarm Hamper's commit in units of 2⁻³² ns (R433). -/
structure NightSt where
  sched : Option NightCfg := none
  run : Option NightRun := none
  lastAlarm : Option Nat := none
deriving DecidableEq, Repr

end Sys2Proof.Machine
end

