-- ==== Sys2Proof/Machine/TypesSys.lean ====
section
/-! DEFINITION. The typed state of boot, life cycle, credentials and the mailbox unit. -/

namespace Sys2Proof.Machine

/-- Where the start-up of R437–R442 stands: in the ROM, in the ROM waiting for a download, with an image
verified, with the firmware running, or in the ROM of a retired device. -/
inductive BootPhase where
  | rom | waiting | verified | running | retired
deriving DecidableEq, Repr

/-- Start-up: the phase, the image a download has brought and whether it is complete, the FLOOR of the
verified image, whether the first HELLO has been answered, whether the engine has been started since
boot, the firmware epoch (R109), the node ID (R455), and whether the reset of a life-cycle advance is
due (R443). -/
structure BootSt where
  phase : BootPhase
  image : List Byte
  complete : Bool
  floor : Nat
  hello : Bool
  engineStarted : Bool
  fwEpoch : Nat
  nodeId : Nat
  pendingLc : Bool
deriving DecidableEq, Repr

/-- The OTP fields of R440. `lc` is the life-cycle state the fuses give (0–3); the analogue trims, written at
manufacture, are read and written by no command. -/
structure Otp where
  lc : Nat
  digests : KMap (List Word)
  revoked : BitVec 4
  floor : Nat
  oemSecret : List Word
  devId : List Word
  mac : BitVec 48
  devSecret : List Word
  trims : List Word
deriving DecidableEq, Repr

/-- Security (R440–R448): OTP, keys in BKS, nonces, counts of wrong responses, lockouts, roles held,
expert access removed (BLANK, FACTORY) or gained (FIELD) by sender key, replay state, most recently
accepted node last, and whether a wipe since the last reset has closed access (R448). -/
structure SecSt where
  otp : Otp
  keys : Option (List Word × List Word × List Word)
  nonces : KMap (List Word)
  wrong : KMap Nat
  lockouts : List Nat
  alarmRole : List Nat
  expertRole : List Nat
  expertOff : List Nat
  replay : List (Nat × Nat)
  shut : Bool
deriving DecidableEq, Repr

/-- The mailbox unit beside its registers: the epoch of each master (R98, R105), and the words the SPI
target returned in its last read transaction (R121). -/
structure MbxSt where
  epochs : KMap Nat
  spiOut : List Word := []
deriving DecidableEq, Repr

end Sys2Proof.Machine
end

