-- ==== Sys2Proof/Machine/State.lean ====
section
/-! DEFINITION. The state of the Kizetor, the reasons a step can stop, and the state after reset. -/

namespace Sys2Proof.Machine

/-- The pins whose level the rules read, and the strapped boot select (R350, R406, R437, R230). -/
structure Pins where
  bootSel : BitVec 2
  tamperIn : Bool
  roleIn : Bool
  alarmIn : BitVec 4
  gp : BitVec 32
deriving DecidableEq, Repr

/-- What the events have signalled outward: MSI-X vectors sent, oldest first (R424). -/
structure EvSt where
  msix : List Nat
deriving DecidableEq, Repr

/-- A containment unit with a fault in handling (R415): the level in force (1–4), whether the reaction
is complete, rounds run clean since, the detection round whose causes count as one fault, and whether
that fault rose by escalation. -/
structure UnitH where
  level : Nat
  done : Bool
  clean : Nat
  round : Nat
  esc : Bool
deriving DecidableEq, Repr

/-- Fault handling (R412–R420): the log in BK5, oldest record first; the units in handling by unit
code × 65536 + instance; the time in units of 2⁻³² ns from which FAULT_OUT is stretched; whether the engine
is at L4; and the reactions at L2 and L3 that changed an output since the last END record (R417). -/
structure FaultSt where
  log : List (Word × Word × Word × Word)
  units : KMap UnitH
  stretch : Option Nat
  l4 : Bool
  reacted : List (UnitKind × Nat × Nat) := []
deriving DecidableEq, Repr

/-- No meaning raises a fault: every condition the spec calls an error is an effect on the state
(R393, R181, R414). Safe. -/
inductive Fault where
  /-- Raised by no command; kept so that the type is not empty. Safe. -/
  | unused
deriving DecidableEq, Repr

/-- Why a command has no meaning. -/
inductive Refusal where
  /-- Raised by the dispatch of a command whose meaning is not written; safe. -/
  | notModelled (mnemonic : String)
deriving DecidableEq, Repr

/-- THE STATE: the queue of waiting commands; the register file (unlisted registers hold their reset
value) with the class I values held for the next start of their block; memory; and the typed state
of each block. `link` is what the tandem link has been given since the last round-start Stile (R350, R356, R357);
`free` counts the free values taken. -/
structure State where
  pending : List Instr
  regs : KMap Word
  held : KMap Word
  mem : List Host.Cell
  pins : Pins
  time : TimeSt
  eng : EngSt
  box : KMap Outbox
  hamp : HampSt
  path : PathSt
  mods : ModSt
  disp : DispSt
  sig : SigSt
  cores : KMap CoreSt
  ev : EvSt
  flt : FaultSt
  boot : BootSt
  sec : SecSt
  mbx : MbxSt
  tdm : KMap TdmSt
  net : NetSt
  ref : RefSt
  supv : SupvSt
  tnd : TandemSt
  pwr : PowerSt
  memx : MemSt
  cnt : CntSt
  night : NightSt
  link : List LinkMsg
  free : Nat
deriving DecidableEq, Repr

/-- The machine right after reset (DESIGN CHOICE, assumption 10; DESIGN CHOICE, assumption 11; DESIGN CHOICE, assumption 12; DESIGN CHOICE, assumption 13). -/
def State.reset : State where
  pending := []
  regs := []
  held := []
  mem := []
  pins := ⟨0, true, false, 0, 0⟩
  time := ⟨0, 0, 0, 0, none, none, [], 0, false, [], true, 0, 0, 0⟩
  eng := ⟨false, none, 0, 0, none, none, none, none, none⟩
  box := []
  hamp := ⟨[], [], [], 0xF000, [], [], []⟩
  path := ⟨[], [], [], none, none, none, none, none, none, [], [], [], [], [], [], []⟩
  mods := ⟨[], [], [], [], [], [], [], [], [], [], [], [], [], [], [], []⟩
  disp := ⟨[], [], 0, [], [], [], 0, false, false, false, [], [], [], [], [], 0, 0, [], 10, []⟩
  sig := ⟨[], [], [], [], 0, 0, 0, none, []⟩
  cores := []
  ev := ⟨[]⟩
  flt := ⟨[], [], none, false, []⟩
  boot := ⟨.rom, [], false, 0, false, false, 0, 0, false⟩
  sec := ⟨⟨0, [], 0, 0, List.replicate 8 0, List.replicate 4 0, 0, List.replicate 8 0, []⟩, none, [], [], [], [], [], [], [], false⟩
  mbx := { epochs := [] }
  tdm := []
  net := {}
  ref := {}
  supv := {}
  tnd := {}
  pwr := {}
  memx := {}
  cnt := {}
  night := {}
  link := []
  free := 0

end Sys2Proof.Machine
end

