-- ==== Sys2Proof/Machine/Ops.lean ====
section
/-! DEFINITION. The named operations over the state: memory, registers, time and samples, index
spaces, events, notifications, fault records and final notifications. -/

namespace Sys2Proof.Machine

/-- `f` applied when `c` holds. -/
def State.when (s : State) (c : Bool) (f : State → State) : State := if c then f s else s

/-- `f` applied for each element in turn. -/
def State.each {α : Type} (s : State) (l : List α) (f : α → State → State) : State :=
  l.foldl (fun t a => f a t) s

/-! ### Memory -/

/-- Whether a memory is in canonical form: addresses strictly rising, no cell equal to what an
unlisted address reads as. -/
def Memory.wf (m : List Host.Cell) : Bool := kSorted m && m.all (fun c => c.2 != 0)

/-- What an unlisted byte reads as (log 3) (DESIGN CHOICE, assumption 3). -/
def memDefault : Byte := 0

/-- The byte at an internal address (DESIGN CHOICE, assumption 3). -/
def State.byte (s : State) (a : Nat) : Byte := kgetD s.mem a memDefault


/-- A memory with bytes written from an address up. -/
def memWrite (m : List Host.Cell) : Nat → List Byte → List Host.Cell
  | _, [] => m
  | a, v :: vs => memWrite (ksetD m a v memDefault) (a + 1) vs

/-- `n` bytes from an internal address up. -/
def State.bytes (s : State) (a n : Nat) : List Byte := (List.range n).map fun i => s.byte (a + i)

/-- A memory with `n` bytes from `a` on lost or cleared. -/
def memClear (m : List Host.Cell) (a n : Nat) : List Host.Cell :=
  m.filter fun c => decide (c.1 < a) || decide (a + n ≤ c.1)

/-- The state with a range of memory cleared. -/
def State.clearMem (s : State) (a n : Nat) : State := { s with mem := memClear s.mem a n }

/-- A memory with `n` bytes copied from `src` to `dst` (DEDUCED, assumption 34). -/
def memCopy (m : List Host.Cell) (src dst n : Nat) : List Host.Cell :=
  (m.filter fun c => decide (src ≤ c.1) && decide (c.1 < src + n)).foldl
    (fun acc c => ksetD acc (c.1 - src + dst) c.2 memDefault) (memClear m dst n)

/-! ### Registers -/

/-- The word the register file holds at an address. -/
def State.reg (s : State) (a : Nat) : Word := kgetD s.regs a (resetWord a)

/-- The state with a register word written. -/
def State.setReg (s : State) (a : Nat) (w : Word) : State :=
  { s with regs := ksetD s.regs a w (resetWord a) }

/-- Bits `hi` to `lo` of a number. -/
def field (n hi lo : Nat) : Nat := n / 2 ^ lo % 2 ^ (hi + 1 - lo)

/-- A number with its bits `hi` to `lo` replaced. -/
def setField (n hi lo v : Nat) : Nat :=
  n - field n hi lo * 2 ^ lo + v % 2 ^ (hi + 1 - lo) * 2 ^ lo

/-- The value of a register field. -/
def State.get (s : State) (f : FieldRef) : Nat := field (s.reg f.addr).toNat f.hi f.lo

/-- Whether a one-bit field is set. -/
def State.on (s : State) (f : FieldRef) : Bool := s.get f != 0

/-- The state with a register field written. -/
def State.put (s : State) (f : FieldRef) (v : Nat) : State :=
  s.setReg f.addr (word (setField (s.reg f.addr).toNat f.hi f.lo v))

/-- A 32-bit counter that wraps. -/
def State.incWrap (s : State) (a : Nat) : State := s.setReg a (s.reg a + 1)
/-- A 32-bit counter that stops at 2³² − 1. -/
def State.incSat (s : State) (a : Nat) : State := s.setReg a (word (satInc32 (s.reg a).toNat))
/-- A field that counts and stops at its largest value. -/
def State.incField (s : State) (f : FieldRef) : State :=
  if s.get f + 1 < 2 ^ (f.hi + 1 - f.lo) then s.put f (s.get f + 1) else s
/-- A field that counts and wraps at its largest value. -/
def State.incFieldWrap (s : State) (f : FieldRef) : State := s.put f (s.get f + 1)

/-- The value a class I write holds for a register, or its value in force (R9). -/
def State.heldReg (s : State) (a : Nat) : Word := (kget s.held a).getD (s.reg a)

/-- The state with a value held for the next start of its block (DESIGN CHOICE, assumption 103). -/
def State.hold (s : State) (a : Nat) (w : Word) : State := { s with held := kset s.held a w }

/-- The held value of a register applied to its idle-only fields, and no longer held (R9) (DESIGN CHOICE, assumption 103). -/
def State.applyHeld (s : State) (a : Nat) : State :=
  match kget s.held a, regRow? a with
  | some w, some r =>
    let idle := r.fields.filter fun f => f.cls == .idle
    let v := idle.foldl (fun acc f => setField acc f.hi f.lo (field w.toNat f.hi f.lo)) (s.reg a).toNat
    { s.setReg a (word v) with held := kdel s.held a }
  | _, _ => s

/-- One field of a register written by its access code and class (R8, R9): live fields at once with
their limit, idle-only fields held, whether or not their block runs (DESIGN CHOICE, assumption 103),
write-one-to-clear bits cleared; others unchanged. -/
def State.writeField (s : State) (a : Nat) (v : Word) (f : FieldRow) : State :=
  let x := f.lim.apply (bits v f.hi f.lo)
  match f.acc, f.cls with
  | .rw, .staged => s
  | .rw, .idle => s.hold a (word (setField (s.heldReg a).toNat f.hi f.lo x))
  | .rw, _ => s.put ⟨a, f.hi, f.lo⟩ x
  | .w1c, _ =>
    s.put ⟨a, f.hi, f.lo⟩ ((BitVec.ofNat 32 (s.get ⟨a, f.hi, f.lo⟩) &&& ~~~BitVec.ofNat 32 (bits v f.hi f.lo)).toNat)
  | _, _ => s

/-- A register without behaviour of its own written (R8, R9) (DESIGN CHOICE, assumption 83). -/
def State.writeReg (s : State) (a : Nat) (v : Word) : State :=
  match regRow? a with
  | some r => r.fields.foldl (fun s f => s.writeField a v f) s
  | none => s

/-! ### Access to memory (R400, R404) -/

/-- The STATE of the bank an address lies in (MEM_BANKSTAT); 0 outside the banks. -/
def State.bankState (s : State) (a : Nat) : Nat :=
  if a < 0xE000000 then s.get ⟨R.MEM_BANKSTAT, 2 * (a / 0x1000000) + 1, 2 * (a / 0x1000000)⟩ else 0

/-- An access reaches the bank of an address: it wakes from retention, and an access while off is recorded
(R400) (DEDUCED, assumption 33; DEDUCED, assumption 35; DESIGN CHOICE, assumption 81). -/
def State.touch (s : State) (a : Nat) : State :=
  let b := a / 0x1000000
  match s.bankState a with
  | 1 => (s.put ⟨R.MEM_BANKSTAT, 2 * b + 1, 2 * b⟩ 0).put ⟨R.MEM_BANKEV, b, b⟩ 1
  | 2 => s.put ⟨R.MEM_BANKEV, 16 + b, 16 + b⟩ 1
  | _ => s

/-- The state with bytes written from an internal address up: discarded in a bank that is off; words of 64
bits written in full are poisoned no longer (DEDUCED, assumption 34). -/
def State.setBytes (s : State) (a : Nat) (vs : List Byte) : State :=
  let s := s.touch a
  if s.bankState a = 2 then s
  else { s with
    mem := memWrite s.mem a vs
    memx := { s.memx with poison := s.memx.poison.filter fun w => !(decide (a ≤ w) && decide (w + 8 ≤ a + vs.length)) } }

/-- The state with one byte written. -/
def State.setByte (s : State) (a : Nat) (v : Byte) : State := s.setBytes a [v]

/-- The 32-bit word at an internal address. -/
def State.memWord (s : State) (a : Nat) : Word := word (bytesNat (s.bytes a 4))

/-- The state with a 32-bit word written at an internal address. -/
def State.setMemWord (s : State) (a : Nat) (w : Word) : State := s.setBytes a (wordBytes w)

/-- The state with a range of memory copied. -/
def State.copyMem (s : State) (src dst n : Nat) : State :=
  if s.bankState dst = 2 then s else { s with mem := memCopy s.mem src dst n }

/-- The next free value: the state with the counter advanced (DESIGN CHOICE, assumption 4). -/
def State.fresh (s : State) : State := { s with free := s.free + 1 }

/-! ### Time and samples (R1, R42, R48, R78) -/

/-- The engine rate in Hz of a rate code (R1). -/
def rateHz (code : Nat) : Nat :=
  match code with
  | 0 => 44100 | 1 => 48000 | 2 => 88200 | 3 => 96000 | 4 => 176400 | _ => 192000

/-- The rate code in force. -/
def State.rateCode (s : State) : Nat := s.get F.TIME_ROUND_FS
/-- The engine rate in force in Hz. -/
def State.fs (s : State) : Nat := rateHz s.rateCode
/-- The rate class in force: 0 for 1×, 1 for 2×, 2 for 4×. -/
def State.rateClass (s : State) : Nat := s.rateCode / 2
/-- The round length N of an NCODE (R48). -/
def roundLenOf (ncode : Nat) : Nat := if ncode < 5 then 2 ^ ncode else 8
/-- The round length in force. -/
def State.roundLen (s : State) : Nat := roundLenOf (s.get F.TIME_ROUND_NCODE)

/-- Time in units of 2⁻³² ns. -/
def TimeSt.t32 (t : TimeSt) : Nat := (t.sec.toNat * 1000000000 + t.ns.toNat) * 2 ^ 32 + t.frac.toNat

/-- An instant of the counter, and the instant now, on a time that runs on through steps (R41), in units of 2⁻³² ns. -/
def TimeSt.durOf (t : TimeSt) (at' : Nat) : Nat := ((at' : Int) - t.moved).toNat
def TimeSt.dur (t : TimeSt) : Nat := t.durOf t.t32

/-- The MTI of a time in units of 2⁻³² ns (R42). -/
def mtiOf (t32 fs : Nat) : Nat := t32 * fs / (1000000000 * 2 ^ 32)

/-- The Media Time Index (R42). -/
def State.mti (s : State) : Nat := mtiOf s.time.t32 s.fs
/-- Its low 32 bits. -/
def State.mtil (s : State) : Word := word s.mti

/-- The round-start Stile at or before an MTI. -/
def State.roundAt (s : State) (m : Nat) : Nat := m / s.roundLen * s.roundLen
/-- The first round-start Stile at or after an MTI. -/
def State.roundFrom (s : State) (m : Nat) : Nat := (m + s.roundLen - 1) / s.roundLen * s.roundLen

/-- The sample number of an MTI: samples counted through time steps (R41). -/
def State.sampleAt (s : State) (m : Nat) : Nat :=
  match s.eng.lastTick with
  | some k => if k ≤ m then s.eng.base + (m - k) else s.eng.base - (k - m)
  | none => s.eng.base

/-- The sample number now. -/
def State.now (s : State) : Nat := s.sampleAt s.mti

/-- A duration in units of 0.01 ms as samples, rounded up (R78). -/
def State.samplesOf (s : State) (units : Nat) : Nat := (units * s.fs + 99999) / 100000
/-- The 0.25 ms value of R78. -/
def State.minRamp (s : State) : Nat := s.samplesOf 25
/-- The 60 s value of R78. -/
def State.maxRamp (s : State) : Nat := 60 * s.fs

/-- How far a crossfade or ramp has run at a sample number. -/
def Fade.at (f : Fade) (n : Nat) : Nat := n - f.start
/-- Whether a crossfade or ramp has ended at a sample number. -/
def Fade.over (f : Fade) (n : Nat) : Bool := decide (f.start + f.dur ≤ n)
/-- Samples remaining at a sample number. -/
def Fade.remain (f : Fade) (n : Nat) : Nat := f.dur - f.at n

/-! ### Index spaces (R12, R15, R16) -/

/-- Whether a source index is valid in a rate class (R12). -/
def srcValid (cls i : Nat) : Bool :=
  let h (n : Nat) := if cls = 2 then n / 2 else n
  decide (i < h 1024) || (1024 ≤ i && i < 1024 + h 512) || (1536 ≤ i && i < 1632)
    || (2048 ≤ i && i < 2048 + h 1024) || (3072 ≤ i && i < 3072 + h 1024)
    || (4096 ≤ i && i < 4096 + h 512) || (4608 ≤ i && i < 4608 + h 256)
    || (4864 ≤ i && i < 4864 + h 256) || i == 8191

/-- A source index as applied (R13). -/
def applySrc (cls i : Nat) : Nat := if srcValid cls (i % 8192) then i % 8192 else 8191

/-- Whether a sink index lies in a range of R15. -/
def sinkExists (i : Nat) : Bool := decide (i < 1568) || (2048 ≤ i && i < 4608)

/-- Whether a sink index is valid in a rate class (R15). -/
def sinkValid (cls i : Nat) : Bool :=
  let h (n : Nat) := if cls = 2 then n / 2 else n
  decide (i < h 1024) || (1024 ≤ i && i < 1024 + h 512) || (1536 ≤ i && i < 1568)
    || (2048 ≤ i && i < 2048 + h 1024) || (3072 ≤ i && i < 3072 + h 1024)
    || (4096 ≤ i && i < 4096 + h 256) || (4352 ≤ i && i < 4352 + h 256)

/-- The consumer position of a sink (R15); 6 for an external sink. -/
def sinkPos (i : Nat) : Nat := if i < 1568 then 6 else if i < 4096 then 1 else if i < 4352 then 4 else 5

/-- The position of a tap in the stage table; 0 for a source. -/
def tapPos (i : Nat) : Nat :=
  if i < 2048 then 0 else if i < 4096 then 1 else if i < 4608 then 3 else if i < 4864 then 4
  else if i < 5120 then 5 else 0

/-- Whether a sink receives a tap delayed by one round (R18). -/
def roundDelayed (sink tap : Nat) : Bool :=
  tapPos tap != 0 && sinkPos sink != 6 && decide (sinkPos sink ≤ tapPos tap)

/-- What a multiplexer selects after a reset that clears the routing (R17). -/
def muxReset (sink : Nat) : Nat := if 4352 ≤ sink ∧ sink < 4608 then 4608 + (sink - 4352) else 8191

/-- A multiplexer. -/
def State.mux (s : State) (sink : Nat) : Mux := kgetD s.path.mux sink ⟨muxReset sink, none, none⟩

/-- The state with a multiplexer replaced. -/
def State.setMux (s : State) (sink : Nat) (m : Mux) : State :=
  { s with path := { s.path with mux := ksetD s.path.mux sink m ⟨muxReset sink, none, none⟩ } }

/-- An input selector's typed part. -/
def State.sel (s : State) (j : Nat) : Selector := kgetD s.path.sel j {}
/-- The state with a selector's typed part replaced. -/
def State.setSel (s : State) (j : Nat) (v : Selector) : State :=
  { s with path := { s.path with sel := ksetD s.path.sel j v {} } }

/-- Whether a chip of a pair takes the active's decisions: TND_STAT.STATE 4 to 6 (R357–R360) (DEDUCED, assumption 61). -/
def State.follows (s : State) : Bool :=
  s.on F.TND_CTL_EN && decide (4 ≤ s.get F.TND_STAT_STATE ∧ s.get F.TND_STAT_STATE ≤ 6)

/-- Whether the chip is the active of a pair with the link up, which sends what its standby needs (R356, R357). -/
def State.sends (s : State) : Bool :=
  s.on F.TND_CTL_EN && decide (1 ≤ s.get F.TND_STAT_STATE ∧ s.get F.TND_STAT_STATE ≤ 2) && s.get F.TND_LINK_LANES != 0

/-- Messages given to the tandem link by the active of a pair (DEDUCED, assumption 107). -/
def State.send (s : State) (ms : List LinkMsg) : State := if s.sends then { s with link := s.link ++ ms } else s

/-! ### Events (R194, R422–R424) -/

/-- One bit of a register set or cleared. -/
def State.setBit (s : State) (a i : Nat) (b : Bool) : State :=
  s.put ⟨a, i, i⟩ (if b then 1 else 0)

/-- Bit `i` of a register. -/
def State.bitAt (s : State) (a i : Nat) : Bool := s.on ⟨a, i, i⟩

/-- An event passed to the dispatcher: every enabled slot that names it releases its one-shot handle at the next
round tick, unless the handle waits already or its item is still in a round whose barrier is open; an
ALARM_IN event uses no slot, and a follower ignores its own slots (R194, R203). -/
def State.evToDisp (s : State) (e : Nat) : State :=
  if (184 ≤ e ∧ e < 188) ∨ s.follows = true then s
  else s.each (List.range 32) fun n s =>
    let h := s.get (F.DISP_EVSLOT_HANDLE n)
    let inRound := s.disp.inRound && !s.disp.barrier && (kget s.disp.items h).isSome
    if s.on (F.DISP_EVSLOT_EN n) && s.get (F.DISP_EVSLOT_EVENT n) == e
        && bit (kgetD s.disp.desc (16 * h) 0) 30 && !s.disp.evRel.contains h && !inRound then
      { s with disp := { s.disp with evRel := s.disp.evRel ++ [h] } }
    else s

/-- An event passed to the host: its host-pending bit is set and, where the bit was clear and the
event is routed to MSI-X, one message of its vector is sent (R424). -/
def State.evToHost (s : State) (e : Nat) : State :=
  let a := R.MBX_EVPEND (e / 32)
  if s.on (F.EVT_ROUTE_MSIX e) || s.on (F.EVT_ROUTE_IRQ e) then
    let s1 := s.when (s.on (F.EVT_ROUTE_MSIX e) && !s.bitAt a (e % 32)) fun s =>
      { s with ev := { s.ev with msix := s.ev.msix ++ [s.get (F.EVT_ROUTE_VEC e)] } }
    s1.setBit a (e % 32) true
  else s

/-- A pulse event raised (R422). -/
def State.raise (s : State) (e : Nat) : State :=
  let s := s.setBit (R.EVT_PEND (e / 32)) (e % 32) true
  let s := s.evToHost e
  s.when (s.on (F.EVT_ROUTE_DISP e)) fun s => s.evToDisp e

/-- A level event following its condition (R422). -/
def State.level (s : State) (e : Nat) (b : Bool) : State :=
  if b then
    if s.bitAt (R.EVT_PEND (e / 32)) (e % 32) then s else s.raise e
  else (s.setBit (R.EVT_PEND (e / 32)) (e % 32) false).setBit (R.MBX_EVPEND (e / 32)) (e % 32) false

/-- Whether IRQ_N is low: released until the firmware starts the engine, inactive in the sleep states (R384, R424, R436). -/
def State.irqLow (s : State) : Bool :=
  s.boot.engineStarted && decide (s.get F.PWR_STAT_STATE < 4) && (List.range 256).any fun e => s.on (F.EVT_ROUTE_IRQ e) && s.bitAt (R.MBX_EVPEND (e / 32)) (e % 32)

/-! ### Outboxes and notifications (R111–R119) -/

/-- The key of a sender among the outboxes (DEDUCED, assumption 14). -/
def Sender.key : Sender → Nat
  | .master m => m.toNat
  | .node n => 0x10000 + n.toNat

/-- What the firmware holds for a sender (DEDUCED, assumption 14). -/
def State.outbox (s : State) (k : Nat) : Outbox := kgetD s.box k {}

/-- The state with an outbox rewritten. -/
def State.modBox (s : State) (k : Nat) (f : Outbox → Outbox) : State :=
  { s with box := ksetD s.box k (f (s.outbox k)) {} }

/-- Whether a LINE_STATE message reports for the channel another one does (R119). -/
def sameLine (m n : Msg) : Bool :=
  m.code == 0x8004 && n.code == 0x8004 && bits (m.words.getD 1 0) 4 0 == bits (n.words.getD 1 0) 4 0

/-- A state notification queued: a meter-type LINE_STATE replaces one queued for the same channel; a
full queue drops and counts (R119). -/
def Outbox.queueMsg (b : Outbox) (m : Msg) (meter : Bool) : Outbox :=
  if meter && b.queue.any (sameLine m) then
    { b with queue := b.queue.map fun n => if sameLine m n then m else n }
  else if b.queue.length < 256 then { b with queue := b.queue ++ [m] }
  else { b with drops := satInc16 b.drops }

/-- A state notification to both hosts (R119, R468) (DEDUCED, assumption 14). -/
def State.notify (s : State) (code : Nat) (words : List Word) (meter : Bool := false) : State :=
  let m : Msg := ⟨code, 0, s.mtil :: words⟩
  (s.modBox 0x01 (·.queueMsg m meter)).modBox 0x02 (·.queueMsg m meter)

/-- The table of outstanding tags of a sender sent to the standby (R357). -/
def State.sendTags (s : State) (sd : Sender) : State :=
  s.send [.item (.tags sd ((s.outbox (Sender.key sd)).tags.map fun x => (BitVec.ofNat 8 x.1, BitVec.ofNat 16 x.2)))]

/-- A final notification: the tag ends, once, while it is outstanding (R116). -/
def State.final (s : State) (t : Tok) (m : Msg) : State :=
  let k := Sender.key t.sender
  if kget (s.outbox k).tags t.tag.toNat = some t.code ∧ t.gen = (s.outbox k).gen then
    (s.modBox k fun b => { b with tags := kdel b.tags t.tag.toNat, finals := b.finals ++ [m] }).sendTags t.sender
  else s

/-- COMPLETE for a token with a return code and value; a tag handed on at a takeover is marked INHERITED
(R116, R364, R468) (DEDUCED, assumption 55). -/
def State.complete (s : State) (t : Option Tok) (code : Nat) (value : Nat := 0) : State :=
  match t with
  | none => s
  | some t =>
    let inherited := t.inherited || s.tnd.tags.any fun x => x.1 == t.sender && x.2.contains (t.tag.toNat, t.code)
    s.final t ⟨0x8001, t.tag, [s.mtil, word (code + 65536 * value), word (t.code + 65536 * flag inherited)]⟩

/-- Return codes (R115). -/
def rcDone := 0x0000
def rcScheduled := 0x0001
def rcUnknown := 0x0100
def rcMalformed := 0x0101
def rcNotBound := 0x0102
def rcLocked := 0x0103
def rcNoSpace := 0x0104
def rcRefused := 0x0105
def rcAborted := 0x0106
def rcSuperseded := 0x0107

/-! ### Fault records (R419) -/

/-- A record written to the log, with event 54 and a FAULT notification; the oldest of 256 records
is overwritten and counted (R419) (DEDUCED, assumption 15). -/
def State.record (s : State) (cause unit level : Nat) (esc capped : Bool) (inst : Nat) (detail : Word) : State :=
  let s := s.incFieldWrap F.EVT_FLTSTAT_SEQ
  let w0 := word (s.get F.EVT_FLTSTAT_SEQ + cause * 2 ^ 16 + unit * 2 ^ 24 + level * 2 ^ 28
    + flag esc * 2 ^ 30 + flag capped * 2 ^ 31)
  let r := (w0, word (inst % 65536), word (s.roundAt s.mti), detail)
  let s := s.when (s.flt.log.length ≥ 256) fun s =>
    { s.incField F.EVT_FLTSTAT_OVWR with flt := { s.flt with log := s.flt.log.drop 1 } }
  let s := { s with flt := { s.flt with log := s.flt.log ++ [r] } }
  (s.raise 54).notify 0x8003 [r.1, r.2.1, r.2.2.1, r.2.2.2]

/-- A notice of R419 (DEDUCED, assumption 58). -/
def State.notice (s : State) (code inst : Nat) (detail : Word) : State :=
  s.record code 15 0 false false inst detail

/-- The key of a containment unit (R413). -/
def unitKey (unit inst : Nat) : Nat := unit * 65536 + inst

/-- FAULT_OUT follows the reactions in force, the stretch and L4; low in the sleep states (R420). -/
def State.foutSync (s : State) : State :=
  let lv := s.get F.EVT_FLTCFG_FOLEVEL + 2
  let on := s.flt.l4 || (lv == 2 && s.flt.stretch.isSome)
    || s.flt.units.any fun u => !u.2.done && decide (lv ≤ u.2.level)
  s.put F.EVT_FLTSTAT_FOUT (flag (on && decide (s.get F.PWR_STAT_STATE < 4)))

/-- A unit isolated at L3 returned to service (R418), or an L2 restart ended (R415): its reaction is
complete, its clean rounds are counted from here, and FAULT_OUT may be stretched (R420). -/
def State.unitDone (s : State) (unit inst : Nat) : State :=
  match kget s.flt.units (unitKey unit inst) with
  | some u =>
    if u.done then s
    else
      let s := { s with flt := { s.flt with
        units := kset s.flt.units (unitKey unit inst) { u with done := true, clean := 0 }
        stretch := if u.level = 2 then some s.time.dur else s.flt.stretch } }
      s.foutSync
  | none => s

/-- One of the two neighbours of a quotient whose rounding the spec does not state, as a free choice (DESIGN CHOICE, assumption 105). -/
def State.quot (s : State) (num den : Nat) : Nat :=
  num / den + flag (num % den != 0 && Config.tieUp s.free)

end Sys2Proof.Machine
end

