-- ==== Sys2Proof/Machine/CoreRegs.lean ====
section
/-! DEFINITION. The registers of a core and its interrupts (R143–R145, R166, R167, R175, R176): reads of the
values before the bundle, writes in flight, the entry of a handler. -/

namespace Sys2Proof.Machine

/-! ### Registers (R143, R144) -/

/-- Eight lanes of zero (DESIGN CHOICE, assumption 13). -/
def zeroD : List Sample := List.replicate 8 0
def zeroA : List Acc := List.replicate 8 0

/-- The lanes of a D register, of an accumulator and of the accumulate input, and a pointer. -/
def CoreSt.D (c : CoreSt) (r : Nat) : List Sample := kgetD c.d r zeroD
def CoreSt.A (c : CoreSt) (r : Nat) : List Acc := kgetD c.acc r zeroA
def CoreSt.AE (c : CoreSt) (r : Nat) : List Acc := kgetD c.accE r zeroA
def CoreSt.P (c : CoreSt) (r : Nat) : Word := kgetD c.p r 0
/-- A system register as the state holds it. -/
def CoreSt.S (c : CoreSt) (n : Nat) : Word := kgetD c.sys n 0

/-- Lane `i` of a list of lanes. -/
def lane {w : Nat} (l : List (BitVec w)) (i : Nat) : BitVec w := l.getD i 0

/-- A list of lanes from a function of the lane. -/
def lanes {α : Type} (f : Nat → α) : List α := (List.range 8).map f

/-- The double words of the pair that holds register `r`: high part in the even register (R143). -/
def CoreSt.W (c : CoreSt) (r : Nat) : List Int :=
  lanes fun i => (lane (c.D (r / 2 * 2)) i).toInt * 2 ^ 24 + ((lane (c.D (r / 2 * 2 + 1)) i).toNat : Int)

/-- The fields of STATUS (R145). -/
def CoreSt.rnd (c : CoreSt) : Nat := if bits (c.S 0x40) 17 16 = 3 then 0 else bits (c.S 0x40) 17 16
def CoreSt.ih (c : CoreSt) : Bool := bit (c.S 0x40) 18
def CoreSt.cf (c : CoreSt) (i : Nat) : Bool := bit (c.S 0x40) (8 + i)
def CoreSt.depth (c : CoreSt) : Nat := (c.S 0x3C).toNat

/-- The value a MOVS writes into a system register; `none` where the write is ignored (R144, R145). -/
def sysMask (n : Nat) (v : Word) : Option Word :=
  if n < 0x10 then some v
  else if n < 0x20 then some (v &&& 0x0FFFFFFF#32)
  else if n < 0x30 then some v
  else if n < 0x34 then some (v &&& 0xFFFF#32)
  else if n < 0x3C then some v
  else if n = 0x3C then some (word (min 4 v.toNat))
  else if n = 0x40 ∨ n = 0x42 then
    some (if bits v 17 16 = 3 then v &&& 0x4FFFF#32 else v &&& 0x7FFFF#32)
  else if n = 0x41 ∨ n = 0x45 then some v
  else if n = 0x44 then some (v &&& 0xFFFFFFC0#32)
  else if n = 0x46 then some (v &&& 0x3F#32)
  else none

/-- A system register as MOVS reads it on core `k` (R144). -/
def CoreSt.sysRead (c : CoreSt) (k n : Nat) : Word :=
  if n = 0x4B then word k
  else if n < 0x3D ∨ (0x40 ≤ n ∧ n < 0x47) ∨ (0x48 ≤ n ∧ n < 0x4B) then c.S n else 0

/-- A write that becomes visible. -/
def CoreSt.apply (c : CoreSt) (w : CoreWrite) : CoreSt :=
  match w with
  | .d r l => { c with d := ksetD c.d r l zeroD }
  | .dLane r i v => { c with d := ksetD c.d r ((c.D r).set i v) zeroD }
  | .acc a l => { c with acc := ksetD c.acc a l zeroA }
  | .accE a l => { c with accE := ksetD c.accE a l zeroA }
  | .p r v => { c with p := ksetD c.p r v 0 }
  | .sys n v => { c with sys := ksetD c.sys n v 0 }
  | .cf v => { c with sys := ksetD c.sys 0x40 (word (setField (c.S 0x40).toNat 15 8 v.toNat)) 0 }
  | .satOr v => { c with sys := ksetD c.sys 0x40 (c.S 0x40 ||| word v.toNat) 0 }
  | .satClr => { c with sys := ksetD c.sys 0x40 (c.S 0x40 &&& 0xFFFFFF00#32) 0 }
  | .rnd v => { c with sys := ksetD c.sys 0x40 (word (setField (c.S 0x40).toNat 17 16 (if v = 3 then 0 else v.toNat))) 0 }

/-- A write in flight put in its place: by the bundle it is first seen at, then by slot (R167). -/
def pendInsert (p : Pend) : List Pend → List Pend
  | [] => [p]
  | q :: qs => if p.due < q.due ∨ (p.due = q.due ∧ p.rank < q.rank) then p :: q :: qs else q :: pendInsert p qs

/-- A write of the bundle in progress, first seen `l` bundles later (R166). -/
def CoreSt.emit (c : CoreSt) (rank l : Nat) (w : CoreWrite) : CoreSt :=
  { c with pend := pendInsert ⟨c.bn + l, rank, c.bn, w⟩ c.pend }

/-- The flags of saturated lanes set. -/
def CoreSt.sat (c : CoreSt) (rank l : Nat) (fs : List Bool) : CoreSt :=
  if fs.any id then c.emit rank l (.satOr (laneFlags fs)) else c

/-- A fault of the bundle in progress; the first one found is kept. -/
def CoreSt.fails (c : CoreSt) (cause : CoreCause) (a : Word) : CoreSt :=
  if c.fault.isSome then c else { c with fault := some (cause, a) }

/-- Every write in flight applied, oldest first (R176). -/
def CoreSt.drain (c : CoreSt) : CoreSt := { c.pend.foldl (fun c p => c.apply p.w) c with pend := [] }

/-- The writes that the next bundle sees applied. -/
def CoreSt.advance (c : CoreSt) : CoreSt :=
  let n := c.bn + 1
  let c' := (c.pend.filter fun p => decide (p.due ≤ n)).foldl (fun c p => c.apply p.w) c
  { c' with bn := n, pend := c.pend.filter fun p => decide (n < p.due) }

/-! ### Interrupts (R175, R176) -/

/-- The interrupt a core would enter: its source, its vector offset and the cause it leaves in ICAUSE. -/
def CoreSt.irq (c : CoreSt) : Option (IrqSrc × Word × Word) :=
  match c.pendUrgent, c.pendAbort, c.pendDebug with
  | some u, _, _ => some (.urgent, 0x80, word (2 + 256 * u.toNat))
  | none, true, _ => some (.abort, 0x40, 1)
  | none, false, some d => some (.debug, 0, word (16 * d.toNat))
  | none, false, none => none

/-- Whether a core stands at a bundle boundary that admits an interrupt (R176). -/
def CoreSt.open (c : CoreSt) : Bool :=
  c.running && !c.ended && !c.faulted && !c.ih && c.after.isNone && c.setup == 0 && !c.inBundle

/-- The highest pending interrupt entered at a bundle boundary, at the time `now`: every write in flight
completes, and the handler interrupted by it, if any, waits for its RETI (R176, R179). -/
def CoreSt.enter (c : CoreSt) (now : Nat) : CoreSt :=
  match c.irq with
  | none => c
  | some (src, off, cause) =>
    let c := c.drain
    let ws : List CoreWrite := [.sys 0x41 c.pc, .sys 0x42 (c.S 0x40), .sys 0x40 (c.S 0x40 ||| 0x40000#32), .sys 0x43 cause]
    let t := ws.foldl CoreSt.apply c
    { t with
      pc := c.S 0x44 + off, handler := some src, outer := c.handler.toList ++ c.outer
      urgentAt := if src = .urgent then now else c.urgentAt
      pendUrgent := if src = .urgent then none else c.pendUrgent
      pendAbort := if src = .abort then false else c.pendAbort
      pendDebug := if src = .debug then none else c.pendDebug }

/-- The handler a core is in returned from: to the handler it interrupted, or to the item (R179). -/
def CoreSt.leave (c : CoreSt) : CoreSt := { c with handler := c.outer.head?, outer := c.outer.tail }

/-- Whether a core is in an ABORT or URGENT handler, or in a DEBUG handler that interrupted one (R179). -/
def CoreSt.ending (c : CoreSt) : Bool := (c.handler.toList ++ c.outer).any fun h => h != .debug

end Sys2Proof.Machine
end

