-- ==== Sys2Proof/Machine/Params.lean ====
section
/-! DEFINITION. Module instances and their parameters (R208–R229): ranges, defaults and how each
parameter changes. -/

namespace Sys2Proof.Machine

/-- How a parameter moves (R210). -/
inductive Change where
  | sample | log | db | lin | par | start | act | run | plain
deriving DecidableEq, Repr

/-- A row of a parameter table: range and default in the encodings of R211. -/
structure ParamRow where
  lo : Int
  hi : Int
  dflt : Int
  chg : Change
deriving DecidableEq, Repr

/-- Whether a parameter is a level or a threshold, in signed dB (R211). -/
def ParamRow.signed (r : ParamRow) : Bool :=
  r.chg == .db || decide (r.lo < 0) || (r.chg == .sample && decide (1 < r.hi))

/-- The modules of R208. -/
inductive ModKind where
  | strip | bus | out | player | gen | oem
deriving DecidableEq, Repr

/-- The module of an instance number, where the number is not reserved (R208). -/
def modKind (inst : Nat) : Option ModKind :=
  if inst < 1024 then some .strip else if inst < 1536 then some .bus else if inst < 1792 then some .out
  else if inst < 1856 then some .player else if inst < 1888 then some .gen
  else if 2048 ≤ inst ∧ inst < 4096 then some .oem else none

/-- Whether an instance is valid in a rate class (R208). -/
def instValid (cls inst : Nat) : Bool :=
  if cls = 2 then decide (inst < 512) || (1024 ≤ inst && inst < 1280) || (1536 ≤ inst && inst < 1664)
    || (1792 ≤ inst && inst < 1888) || (2048 ≤ inst && inst < 4096)
  else (modKind inst).isSome


/-- An on/off parameter. -/
def rowSwitch (d : Int) : Option ParamRow := some ⟨0, 1, d, .par⟩
/-- A source parameter (R212). -/
def rowSrc : Option ParamRow := some ⟨0, 8191, 8191, .par⟩

/-- A band of a parametric equaliser (R214). -/
def peqRow (p : Nat) : Option ParamRow :=
  match p with
  | 0 => rowSwitch 0
  | 1 => some ⟨0, 3, 0, .par⟩
  | 2 => some ⟨200, 400000, 10000, .log⟩
  | 3 => some ⟨-1800, 1800, 0, .db⟩
  | 4 => some ⟨100, 20000, 707, .log⟩
  | _ => none

/-- The compressor (R214). -/
def compRow (p : Nat) : Option ParamRow :=
  match p with
  | 0 => rowSwitch 0
  | 1 => some ⟨-6000, 0, -2000, .db⟩
  | 2 => some ⟨100, 2000, 400, .lin⟩
  | 3 => some ⟨0, 2400, 600, .db⟩
  | 4 => some ⟨50, 300000, 10000, .lin⟩
  | 5 => some ⟨5000, 4000000, 150000, .lin⟩
  | 6 => some ⟨0, 2400, 0, .sample⟩
  | 7 => rowSrc
  | 8 => rowSwitch 1
  | _ => none

/-- The limiter of bus and output strips (R216). -/
def limRow (p : Nat) : Option ParamRow :=
  match p with
  | 0 => rowSwitch 1
  | 1 => some ⟨-4000, 0, -50, .db⟩
  | 2 => some ⟨5000, 2000000, 100000, .lin⟩
  | 3 => some ⟨0, 2000, 500, .par⟩
  | _ => none

/-- Channel-strip parameters (R214). -/
def stripRow (f : Nat) : Option ParamRow :=
  let p := f % 256
  if 0x1000 ≤ f ∧ f < 0x1800 then peqRow p
  else if f / 256 = 3 then compRow p
  else match f with
  | 0x0000 => some ⟨-2400, 2400, 0, .sample⟩
  | 0x0001 => rowSwitch 0
  | 0x0100 => rowSwitch 0
  | 0x0101 => some ⟨100, 20000, 800, .log⟩
  | 0x0102 => rowSwitch 0
  | 0x0110 => rowSwitch 0
  | 0x0111 => some ⟨5000, 400000, 200000, .log⟩
  | 0x0112 => rowSwitch 0
  | 0x0200 => rowSwitch 0
  | 0x0201 => some ⟨-8000, 0, -5000, .db⟩
  | 0x0202 => some ⟨-8000, 0, -4000, .db⟩
  | 0x0203 => some ⟨20, 50000, 500, .lin⟩
  | 0x0204 => some ⟨0, 2000000, 50000, .lin⟩
  | 0x0205 => some ⟨5000, 4000000, 200000, .lin⟩
  | 0x0206 => rowSrc
  | 0x0400 => rowSwitch 0
  | 0x0401 => rowSrc
  | 0x0402 => some ⟨-6000, 0, -3000, .db⟩
  | 0x0403 => some ⟨-6000, 0, -1200, .db⟩
  | 0x0404 => some ⟨1000, 500000, 20000, .lin⟩
  | 0x0405 => some ⟨0, 5000000, 500000, .lin⟩
  | 0x0406 => some ⟨10000, 10000000, 1000000, .lin⟩
  | 0x0500 => some ⟨0, 10000, 0, .par⟩
  | 0x0600 => some ⟨-14400, 1200, -14400, .sample⟩
  | 0x0700 => some ⟨0, 1, 0, .sample⟩
  | _ => none

/-- Bus-strip parameters (R216). -/
def busRow (f : Nat) : Option ParamRow :=
  let p := f % 256
  if 0x1000 ≤ f ∧ f < 0x1800 then peqRow p
  else if f / 256 = 3 then compRow p
  else if f / 256 = 8 then limRow p
  else match f with
  | 0x0500 => some ⟨0, 100000, 0, .par⟩
  | 0x0600 => some ⟨-14400, 1200, 0, .sample⟩
  | 0x0700 => some ⟨0, 1, 0, .sample⟩
  | _ => none

/-- The largest FIR_LEN of a rate class (R224). -/
def firMax (cls : Nat) : Nat := if cls = 0 then 8192 else if cls = 1 then 4096 else 2048

/-- Output-strip parameters (R218) at an engine rate; ADLY is limited to 262,143 samples (R225). -/
def outRow (code f : Nat) : Option ParamRow :=
  let p := f % 256
  if 0x1000 ≤ f ∧ f < 0x2000 then peqRow p
  else if f / 256 = 8 then limRow p
  else if 0x2100 ≤ f ∧ f < 0x2800 then
    match p with
    | 0 => some ⟨0, 1, 0, .act⟩
    | 1 => rowSrc
    | 2 => some ⟨-14400, 1200, 0, .sample⟩
    | 3 => some ⟨-14400, 0, -14400, .sample⟩
    | 4 => some ⟨1, 2000, 200, .plain⟩
    | _ => none
  else match f with
  | 0x2000 => some ⟨-14400, 1200, 0, .sample⟩
  | 0x2001 => some ⟨0, 1, 0, .sample⟩
  | 0x4000 => rowSwitch 0
  | 0x4001 => some ⟨100, 400000, 1000, .log⟩
  | 0x4002 => rowSwitch 1
  | 0x4003 => some ⟨0, 2, 1, .par⟩
  | 0x4004 => rowSwitch 0
  | 0x4005 => some ⟨100, 400000, 20000, .log⟩
  | 0x4006 => rowSwitch 1
  | 0x4007 => some ⟨0, 2, 1, .par⟩
  | 0x3000 => rowSwitch 0
  | 0x3001 => rowSrc
  | 0x3002 => some ⟨-10000, 0, -6000, .db⟩
  | 0x3003 => some ⟨0, 1000, 500, .lin⟩
  | 0x3004 => some ⟨0, 1200, 600, .db⟩
  | 0x3005 => some ⟨10, 1000, 50, .lin⟩
  | 0x3006 => some ⟨-10000, 0, -4000, .db⟩
  | 0x5000 => rowSwitch 0
  | 0x5001 => some ⟨16, firMax (code / 2), 16, .par⟩
  | 0x5002 => some ⟨0, 4294967295, 0, .par⟩
  | 0x6000 => some ⟨0, 262143 * 1000000 / rateHz code, 0, .par⟩
  | _ => none

/-- Message-player parameters (R227). -/
def playerRow (f : Nat) : Option ParamRow :=
  match f with
  | 0 => some ⟨0, 1023, 0, .start⟩
  | 1 => some ⟨0, 65535, 1, .start⟩
  | 2 => some ⟨0, 60000000, 0, .start⟩
  | 3 => some ⟨-14400, 1200, 0, .sample⟩
  | 4 => some ⟨0, 1, 0, .run⟩
  | _ => none

/-- Generator parameters (R229). -/
def genRow (f : Nat) : Option ParamRow :=
  match f with
  | 0 => some ⟨0, 5, 0, .par⟩
  | 1 => some ⟨100, 864000, 10000, .log⟩
  | 2 => some ⟨-12000, 0, -2000, .sample⟩
  | 3 => some ⟨100, 864000, 200000, .log⟩
  | 4 => some ⟨100000, 60000000, 10000000, .lin⟩
  | 5 => rowSwitch 0
  | 6 => some ⟨0, 4294967295, 1, .par⟩
  | _ => none

/-- The row of a parameter of an instance at an engine rate. -/
def paramRow (code inst f : Nat) : Option ParamRow :=
  match modKind inst with
  | some .strip => stripRow f
  | some .bus => busRow f
  | some .out => outRow code f
  | some .player => playerRow f
  | some .gen => genRow f
  | some .oem => if f < 256 then some ⟨0, 4294967295, 0, .plain⟩ else none
  | none => none

/-- Whether a field is a source index. -/
def isSrcField (inst f : Nat) : Bool :=
  match modKind inst with
  | some .strip => f == 0x0206 || f == 0x0307 || f == 0x0401
  | some .bus => f == 0x0307
  | some .out => f == 0x3001 || (0x2100 ≤ f && f < 0x2800 && f % 256 == 1)
  | _ => false

/-- The value a written parameter is applied as (R10, R13, R214, R224). -/
def applyParam (code inst f : Nat) (v : Word) : Word :=
  match paramRow code inst f with
  | none => v
  | some r =>
    if isSrcField inst f then word (applySrc (code / 2) v.toNat)
    else if r.signed then BitVec.ofInt 32 (clampInt r.lo r.hi v.toInt)
    else if f = 0x0302 ∧ v = 0xFFFF#32 then v
    else if f = 0x5001 ∧ modKind inst = some .out then
      word (clampNat 16 (firMax (code / 2)) ((min v.toNat 65536 + 15) / 16 * 16))
    else word (clampNat r.lo.toNat r.hi.toNat v.toNat)

/-- The key of a parameter in the table. -/
def paramKey (inst f : Nat) : Nat := inst * 65536 + f

/-- The default of a parameter. -/
def paramDefault (inst f : Nat) : Word :=
  match paramRow 0 inst f with
  | some r => BitVec.ofInt 32 r.dflt
  | none => 0

/-- The stored value of a parameter. -/
def State.param (s : State) (inst f : Nat) : Word := kgetD s.path.params (paramKey inst f) (paramDefault inst f)

/-- The state with a parameter stored. -/
def State.setParam (s : State) (inst f : Nat) (v : Word) : State :=
  { s with path := { s.path with params := ksetD s.path.params (paramKey inst f) v (paramDefault inst f) } }

/-- The value a parameter is applied as on this device: without LPDDR5 an alignment delay is 0 (R410). -/
def State.applied (s : State) (inst f : Nat) (v : Word) : Word :=
  if f = 0x6000 ∧ modKind inst = some .out ∧ s.get F.DDR_CFG_DENS = 0 then 0
  else applyParam s.rateCode inst f v

/-- 0.45 × fs in units of 0.1 Hz (R211). -/
def State.nyq (s : State) : Nat := s.fs * 45 / 10

/-- Whether a field is a frequency limited to 0.45 × fs. -/
def isFreqField (inst f : Nat) : Bool :=
  match modKind inst with
  | some .gen => f == 1 || f == 3
  | some .player => false
  | some .oem => false
  | _ => f == 0x0101 || f == 0x0111 || f == 0x4001 || f == 0x4005 || (0x1000 ≤ f && f < 0x2000 && f % 256 == 2)

/-- The value of a field of an instance as the rate in force applies it: a frequency is limited to 0.45 × fs, the F
of a kite tone to its band, FIR_LEN to the table of R224, ADLY to 262,143 samples (R211, R224, R225, R229). -/
def State.activeOf (s : State) (inst f : Nat) (v : Word) : Word :=
  if isFreqField inst f then
    let x := min v.toNat s.nyq
    if modKind inst = some .gen ∧ f = 1 ∧ s.param inst 0 = 5#32 then
      if s.rateClass = 0 then word (clampNat 190000 (min 220000 s.nyq) x) else word (clampNat 200000 300000 x)
    else word x
  else if modKind inst = some .out ∧ (f = 0x5001 ∨ f = 0x6000) then applyParam s.rateCode inst f v
  else v

/-- The active value of a parameter. -/
def State.paramActive (s : State) (inst f : Nat) : Word := s.activeOf inst f (s.param inst f)

/-- The signed value of a level parameter in 0.01 dB. -/
def State.level100 (s : State) (inst f : Nat) : Int := (s.param inst f).toInt

/-- The highest active level of the priority mixer of output strip `o`, 0 when none is (R219). -/
def State.mixH (s : State) (o : Nat) : Nat :=
  ((List.range 8).filter fun l => l ≠ 0 && s.param (1536 + o) (0x2000 + 0x100 * l) == 1#32).foldl max 0

/-- Whether level 7 of output strip `o` is active (R221). -/
def State.level7 (s : State) (o : Nat) : Bool := s.param (1536 + o) 0x2700 == 1#32

/-- Whether an instance is placed (R208). -/
def State.isPlaced (s : State) (inst : Nat) : Bool := s.mods.placed.contains inst

/-- The placed instances that exist in the rate class in force: the others have stopped (R32, R208). -/
def State.inClass (s : State) : List Nat := s.mods.placed.filter (instValid s.rateClass)

end Sys2Proof.Machine
end

