-- ==== Sys2Proof/Machine/Admit.lean ====
section
/-! DEFINITION. The template the firmware builds from placement (R134, R186–R189, R224, R233, R235) and
the admission of a configuration (R133, R135, R136, R205–R207). Handles are given out in the order of
`nodes` (log 21); the fan-out joins follow. -/

namespace Sys2Proof.Machine

/-- One more than the highest placed instance of a range, 0 when none is placed (R133). -/
def extentOf (placed : List Nat) (base n : Nat) : Nat :=
  (placed.filter fun i => decide (base ≤ i ∧ i < base + n)).foldl (fun a i => max a (i - base + 1)) 0

/-- NSTRIP, NBUS and NOUT as placement gives them (R133). -/
def State.placedStrips (s : State) : Nat := extentOf s.mods.placed 0 1024
def State.placedBuses (s : State) : Nat := extentOf s.mods.placed 1024 512
def State.placedOuts (s : State) : Nat := extentOf s.mods.placed 1536 256

/-- The capacity of a range in the rate class in force: half of it at 4× (R2). -/
def State.cap (s : State) (k : Nat) : Nat := if s.rateClass = 2 then k / 2 else k

/-- The extents in force as placement gives them: the lesser of the extent and the capacity of the class (R133). -/
def State.extStrips (s : State) : Nat := min s.placedStrips (s.cap 1024)
def State.extBuses (s : State) : Nat := min s.placedBuses (s.cap 512)
def State.extOuts (s : State) : Nat := min s.placedOuts (s.cap 256)

/-- The groups of eight with a placed instance in a range. -/
def groupsOf (placed : List Nat) (base n : Nat) : List Nat :=
  (List.range (n / 8)).filter fun g => placed.any fun i => decide (base + 8 * g ≤ i ∧ i < base + 8 * g + 8)

/-- The placed output strips of group `g` whose FIR runs as an item of its own (R224). -/
def State.firsOf (s : State) (g : Nat) : List Nat :=
  (List.range 8).map (8 * g + ·) |>.filter fun o =>
    s.isPlaced (1536 + o) && (s.param (1536 + o) 0x5000 == 1#32
      || (kget s.path.par (1536 + o)).any fun r => r.old.any fun p => p.1 == 0x5000 && p.2 == 1#32)

/-- The OEM instances inserted at a point of group `g` of the strips of base instance `base` (R233). -/
def State.insertsAt (s : State) (base g point : Nat) : List Nat :=
  (s.mods.oemPlaced.filter fun p => p.2.point == point && p.2.group == g + base / 8).map (·.1)

/-- The rows of a block of 64 inside an extent (R134). -/
def blockRowsIn (q ext : Nat) : Nat := min 64 (ext - 64 * q)

/-- The chain of parts of a strip group with its inserts (R233, R224). -/
def State.parts (s : State) (base g : Nat) : List Role :=
  let mk (p : Nat) (l : Bool) : Role :=
    if base = 0 then .strips g p l else if base = 1024 then .buses g p l else .outs g p l
  let a := (s.insertsAt base g 1).map Role.oem
  let b := (s.insertsAt base g 2).map Role.oem
  let f := if base = 1536 then (s.firsOf g).map Role.fir else []
  let mids := [a, f, b].filter (· ≠ [])
  (mids.zipIdx.flatMap fun m => mk m.2 false :: m.1) ++ [mk mids.length true]

/-- Whether a role is one of several in parallel between two parts. -/
def isMid : Role → Bool
  | .oem _ => true
  | .fir _ => true
  | _ => false

/-- The edges of a chain of parts: each part precedes the roles after it up to the next part, and
those precede that part. -/
def chainEdges : Role → List Role → List Role → List (Role × Role)
  | _, _, [] => []
  | p, mids, r :: rs =>
    if isMid r then (p, r) :: chainEdges p (r :: mids) rs
    else (if mids = [] then [(p, r)] else mids.map fun m => (m, r)) ++ chainEdges r [] rs

/-- The first and the last part of a group. -/
def headRole (rs : List Role) : Role := rs.headD .fan
def lastRole (rs : List Role) : Role := rs.getLastD .fan

/-- The item an OEM neighbour names: an instance's item, a send block or a matrix block (R460). -/
def State.neighbour (s : State) (first : Bool) (n : Nat) : Option Role :=
  let pick (l : List Role) := if first then headRole l else lastRole l
  if 0x1000 ≤ n ∧ n < 0x1010 then some (.sendBlock (n - 0x1000))
  else if 0x2000 ≤ n ∧ n < 0x2010 then some (.matBlock (n - 0x2000))
  else match modKind n with
  | some .strip => some (pick (s.parts 0 (n / 8)))
  | some .bus => some (pick (s.parts 1024 ((n - 1024) / 8)))
  | some .out => some (pick (s.parts 1536 ((n - 1536) / 8)))
  | some .player => some (.players ((n - 1792) / 8))
  | some .gen => some (.gens ((n - 1856) / 8))
  | some .oem => some (.oem n)
  | none => none

/-- The send blocks and the matrix blocks of the extents in force; a stage without columns has none (R134)
(DESIGN CHOICE, assumption 90). -/
def State.sendBlocks (s : State) : List Nat :=
  if s.extBuses = 0 then [] else List.range ((s.extStrips + 63) / 64)
def State.matBlocks (s : State) : List Nat :=
  if s.extOuts = 0 then []
  else List.range ((s.extBuses + 63) / 64) ++ (if s.rateClass = 2 then [8, 9] else [8, 9, 10, 11])

/-- The roles of the template, before fan-out joins (DEDUCED, assumption 21). -/
def State.nodes (s : State) : List Role :=
  let pl := s.inClass
  (groupsOf pl 1792 64).map .players ++ (groupsOf pl 1856 32).map .gens ++ [.sourceJoin]
  ++ (groupsOf pl 0 1024).flatMap (s.parts 0)
  ++ s.sendBlocks.map .sendBlock
  ++ (groupsOf pl 1024 512).flatMap (s.parts 1024)
  ++ [.busJoin] ++ s.matBlocks.map .matBlock
  ++ (groupsOf pl 1536 256).flatMap (s.parts 1536)
  ++ (s.mods.oemPlaced.filter fun p => p.2.point == 0).map fun p => .oem p.1

/-- The links of the template (R134, R189, R224, R233, R460). -/
def State.edges (s : State) : List (Role × Role) :=
  let pl := s.inClass
  let sg := groupsOf pl 0 1024
  let bg := groupsOf pl 1024 512
  let og := groupsOf pl 1536 256
  let src := (groupsOf pl 1792 64).map Role.players ++ (groupsOf pl 1856 32).map Role.gens
  let chain (base g : Nat) : List (Role × Role) :=
    match s.parts base g with
    | r :: rs => chainEdges r [] rs
    | [] => []
  let free := s.mods.oemPlaced.filter fun p => p.2.point == 0
  let sources := src.map (·, Role.sourceJoin)
    ++ sg.map (fun g => (Role.sourceJoin, headRole (s.parts 0 g)))
    ++ bg.map (fun g => (Role.sourceJoin, headRole (s.parts 1024 g)))
    ++ og.map (fun g => (Role.sourceJoin, headRole (s.parts 1536 g)))
    ++ s.mods.oemPlaced.map (fun p => (Role.sourceJoin, Role.oem p.1))
  let chains := sg.flatMap (chain 0) ++ bg.flatMap (chain 1024) ++ og.flatMap (chain 1536)
  let sends := s.sendBlocks.flatMap fun q =>
    (sg.filter fun g => g / 8 == q).map fun g => (lastRole (s.parts 0 g), Role.sendBlock q)
  let buses := match s.sendBlocks.getLast? with
    | some q => bg.map fun g => (Role.sendBlock q, headRole (s.parts 1024 g))
    | none => []
  let mats := s.matBlocks.flatMap fun q =>
    if q < 8 then (bg.filter fun g => g / 8 == q).map fun g => (lastRole (s.parts 1024 g), Role.matBlock q)
    else [(Role.busJoin, Role.matBlock q)]
  let joins := if bg ≠ [] then bg.map fun g => (lastRole (s.parts 1024 g), Role.busJoin)
    else if sg ≠ [] then sg.map fun g => (lastRole (s.parts 0 g), Role.busJoin)
    else [(Role.sourceJoin, Role.busJoin)]
  let outs := match s.matBlocks.getLast? with
    | some q => og.map fun g => (Role.matBlock q, headRole (s.parts 1536 g))
    | none => []
  let oems := free.flatMap fun p =>
    (p.2.preds.filterMap (s.neighbour false)).map (·, Role.oem p.1)
    ++ (p.2.succs.filterMap (s.neighbour true)).map (Role.oem p.1, ·)
  sources ++ chains ++ sends ++ buses ++ mats ++ joins ++ outs ++ oems

/-! ### Costs (R135, R205, R206, R235): times in units of 1/2,764,800 µs -/

/-- The units of one microsecond. -/
def usUnits : Nat := 7200 * 384

/-- The units of one core cycle and of one fabric cycle at a Pace (R135, R138). -/
def coreCycle (pace : Nat) : Nat := (if pace = 0 then 6 else if pace = 1 then 8 else if pace = 2 then 12 else 24) * 384
def fabCycle (pace : Nat) : Nat := (if pace = 0 then 9 else if pace = 1 then 12 else if pace = 2 then 18 else 36) * 384

/-- The fabric clock of a Pace in MHz (R135). -/
def fabMHz (pace : Nat) : Nat := if pace = 0 then 800 else if pace = 1 then 600 else if pace = 2 then 400 else 200

/-- The declared cost c of a standard item at an NCODE (R235); r = c. -/
def stdCost (ncode : Nat) : Role → Nat
  | .strips _ 0 _ => [1850, 2500, 3800, 6400, 11600].getD ncode 0
  | .buses _ 0 _ => [1500, 2000, 3000, 5000, 9000].getD ncode 0
  | .outs _ 0 _ => [3600, 4800, 7200, 12000, 21600].getD ncode 0
  | .players _ => [500, 600, 800, 1200, 2000].getD ncode 0
  | .gens _ => [500, 600, 800, 1200, 2000].getD ncode 0
  | _ => 0

/-- The cost c of the FIR of one output strip (R235). -/
def firCost (ncode len : Nat) : Nat := if ncode = 4 then 2 * len + 64 else len + 64

/-- The time t of an item (R206). -/
def State.itemTime (s : State) (r : Role) : Nat :=
  let nc := s.get F.TIME_ROUND_NCODE
  let n := s.roundLen
  let blk (rows cols : Nat) : Nat :=
    2 * rows * cols * n * (if n = 1 then 6 else if n = 2 then 3 else 2) * (fabCycle (s.get F.PWR_STAT_STATE) / 384) + 80 * fabCycle (s.get F.PWR_STAT_STATE)
  match r with
  | .fir o => 2 * firCost nc (s.paramActive (1536 + o) 0x5001).toNat * coreCycle (s.get F.PWR_STAT_STATE)
  | .oem i =>
    match (kget s.mods.oemPlaced i).bind fun p => kget s.mods.oem p.mod with
    | some m => (m.c.getD nc 0 + m.r.getD nc 0) * coreCycle (s.get F.PWR_STAT_STATE)
    | none => 0
  | .sendBlock q => blk (blockRowsIn q s.extStrips) s.extBuses
  | .matBlock q =>
    blk (if q < 8 then blockRowsIn q s.extBuses else 64) s.extOuts
  | r => 2 * stdCost nc r * coreCycle (s.get F.PWR_STAT_STATE)


/-- The core an item's affinity names alone, where it names one (R206); the FIR of strip `o` is given
core o mod 48 (log 21). -/
def State.soleCore (s : State) (r : Role) : Option Nat :=
  match r with
  | .fir o => some (o % 48)
  | .oem i =>
    match kget s.mods.oemPlaced i with
    | some p =>
      match ((List.range 48).filter fun k => p.cmask / 2 ^ (k / 8) % 2 = 1 ∧ p.kmask / 2 ^ (k % 8) % 2 = 1) with
      | [k] => some k
      | _ => none
    | none => none
  | _ => none

/-- The longest path of times ending at each role, roles taken in a number of relaxation rounds. -/
def longest (time : Role → Nat) (edges : List (Role × Role)) : Nat → List (Role × Nat) → List (Role × Nat)
  | 0, acc => acc
  | fuel + 1, acc =>
    let look (r : Role) : Nat := ((acc.find? fun p => p.1 == r).map (·.2)).getD 0
    let next := acc.map fun p =>
      (p.1, time p.1 + ((edges.filter fun e => e.2 == p.1).map fun e => look e.1).foldl max 0)
    if next = acc then acc else longest time edges fuel next

/-- The dependencies with each stage's blocks in series (R206). -/
def State.pathEdges (s : State) : List (Role × Role) :=
  let ser (mk : Nat → Role) (qs : List Nat) := (qs.zip (qs.drop 1)).map fun p => (mk p.1, mk p.2)
  s.edges ++ ser .sendBlock s.sendBlocks ++ ser .matBlock s.matBlocks

/-- Signals the fill engine must hold: every hold range of the template, every bus sum and every
matrix output (R205). -/
def State.heldSignals (s : State) : Nat :=
  let pl := s.inClass
  16 * (groupsOf pl 0 1024).length
    + 8 * ((groupsOf pl 1024 512).length + (groupsOf pl 1536 256).length + (groupsOf pl 1792 64).length
      + (groupsOf pl 1856 32).length)
    + s.extBuses + s.extOuts

/-- MARGIN in units of 0.1 µs (R205); twice that and 1.5 µs in a pair (R359). -/
def State.marginFor (s : State) (pair : Bool) : Nat :=
  let cycles := (s.heldSignals * s.roundLen + 15) / 16
  let f := fabMHz (s.get F.PWR_STAT_STATE)
  let m := 5 + (cycles * 10 + f - 1) / f
  if pair then 2 * m + 15 else m

/-- The summing load L of extents in MAC/s (R136) (DEDUCED, assumption 69). -/
def State.loadOf (s : State) (strips buses outs : Nat) : Nat :=
  2 * s.fs * (strips * buses + (buses + s.cap 256) * outs)

/-- The load of the configuration, and of the extents in force, which a POKE may have set (R133, R136, R137) (DEDUCED, assumption 69). -/
def State.sumLoad (s : State) : Nat := s.loadOf s.extStrips s.extBuses s.extOuts
def State.loadInForce (s : State) : Nat :=
  s.loadOf (min s.sig.nstrip (s.cap 1024)) (min s.sig.nbus (s.cap 512)) (min s.sig.nout (s.cap 256))

/-- The summing budget in MAC/s (R135): 0.95 × f_fab × min(192, 64 N). -/
def State.sumBudget (s : State) : Nat :=
  95 * fabMHz (s.get F.PWR_STAT_STATE) * 10000 * min 192 (64 * s.roundLen)

/-- The fan-out joins a role with `n` successors needs (R185) (DEDUCED, assumption 21). -/
def fanJoins (n : Nat) : Nat := if n ≤ 6 then 0 else (n - 2) / 5

/-- The handles a template takes (R188) (DEDUCED, assumption 21). -/
def State.handles (s : State) : Nat :=
  let es := s.edges
  (s.nodes.map fun r => 1 + fanJoins ((es.filter fun e => e.1 == r).length)).sum

/-- Whether the configuration is admitted (R136, R205, R206); a pair loses 5 µs more (R359). -/
def State.admitsAs (s : State) (pair : Bool) : Bool :=
  let ns := s.nodes
  let time := s.itemTime
  let cores := ns.filter fun r => match r with | .sendBlock _ => false | .matBlock _ => false | _ => true
  let w := (cores.map time).sum
  let p := ((longest time s.pathEdges ns.length (ns.map fun r => (r, time r))).map (·.2)).foldl max 0
  let m := s.marginFor pair
  let n := s.roundLen
  let a9 := 9 * (n * 1000000 * usUnits - (m + (if pair then 50 else 0)) * usUnits / 10 * s.fs)
  decide (s.sumLoad ≤ s.sumBudget) && decide (m ≤ 1000) && decide (s.handles ≤ 960)
  && decide (10 * s.fs * (w + 48 * p) ≤ 48 * a9)
  && (List.range 48).all fun k =>
      decide (10 * s.fs * ((cores.filter fun r => s.soleCore r == some k).map time).sum ≤ a9)

/-- Whether the configuration is admitted as the device stands, alone or paired. -/
def State.admits (s : State) : Bool := s.admitsAs (s.on F.TND_CTL_EN)

end Sys2Proof.Machine
end

