-- ==== Sys2Proof/Machine/Curves.lean ====
section
/-! DEFINITION. The curves of R79, R83, R90, R215 and R499: weighted sums of crossfades, gains along a
ramp, the interpolation laws, levels and time constants. What a rule defines exactly is computed
exactly; where only the rounding is open, a free value picks between the two neighbours. -/

namespace Sys2Proof.Machine

/-! ### Quotients and roots -/

/-- The integers `lo` to `hi`, narrowed to one by a free value of the operands. -/
def between (lo hi : Int) : Int :=
  if hi ≤ lo then lo else
    let v := Config.picked lo hi
    if v < lo then lo else if hi < v then hi else v

/-- A quotient whose rounding the spec does not state: one of its two neighbours (DESIGN CHOICE, assumption 88). -/
def nearQuot (num : Int) (den : Nat) : Int := between (num / (den : Int)) (-((-num) / (den : Int)))

/-- The largest number below `acc + 2^k` that satisfies a property which holds up to a point. -/
def bisect (ok : Nat → Bool) : Nat → Nat → Nat
  | 0, acc => acc
  | k + 1, acc => bisect ok k (if ok (acc + 2 ^ k) then acc + 2 ^ k else acc)

/-- The greatest `c` with `c^m · d ≤ n`: the integer part of an `m`-th root. -/
def rootFloor (m n d : Nat) : Nat := bisect (fun c => decide (c ^ m * d ≤ n)) 33 0

/-- The logarithmic interpolation a^(1−r)·b^r at r = num/den (R90), one of the two neighbours of the
exact value (DESIGN CHOICE, assumption 88). -/
def logMid (a b num den : Nat) : Int :=
  let n := a ^ (den - num) * b ^ num
  let lo := rootFloor den n 1
  if lo ^ den = n then lo else between lo (lo + 1 : Nat)

/-! ### Crossfades (R79) -/

/-- The fixed-point unit of the weights of an equal-power crossfade. -/
def weightUnit : Nat := 2 ^ 60

/-- A series Σ ±x^k/k! in the fixed-point unit: `t` the term, `k` its index, `x2` the square of x. -/
def quarterSeries (x2 : Nat) : Nat → Nat → Int → Int
  | 0, _, _ => 0
  | fuel + 1, k, t => t + quarterSeries x2 fuel (k + 2) (-(t * x2 / weightUnit / ((k + 1) * (k + 2) : Nat)))

/-- π/2 · num/den in the fixed-point unit. -/
def quarterAngle (num den : Nat) : Nat := 1811004864519280710 * num / den

/-- cos(π r/2) and sin(π r/2) at r = num/den in the fixed-point unit, within 2⁻⁵⁰ (R79). -/
def quarterCos (num den : Nat) : Int :=
  let x := quarterAngle num den
  quarterSeries (x * x / weightUnit) 14 0 weightUnit
def quarterSin (num den : Nat) : Int :=
  let x := quarterAngle num den
  quarterSeries (x * x / weightUnit) 14 1 x

/-- A crossfade from `a` to `b` at r = num/den of a shape (R79): weights 1 − r and r for shape 0, cos and
sin of π r/2 for the others; the rounding of the sum is open (DESIGN CHOICE, assumption 88). -/
def crossSum (a b : Int) (shape num den : Nat) : Int :=
  if shape = 0 ∨ shape = 3 then nearQuot (a * ((den : Int) - num) + b * num) den
  else
    let v := a * quarterCos num den + b * quarterSin num den
    let e : Int := ((a.natAbs + b.natAbs) * 2 ^ 10 : Nat)
    between ((v - e) / weightUnit) (-((-(v + e)) / weightUnit))

/-- A sample on a linear ramp at num/den of its length. -/
def rampSample (v : Sample) (num den : Nat) : Sample := BitVec.ofInt 24 (nearQuot (v.toInt * num) den)

/-! ### Gains (R79, R83, R129) -/

/-- The fifth power of a coefficient's magnitude as a fraction; an off gain is −144.00 dB, whose fifth
power is 10⁻³⁶ of full scale, 2¹⁹ (R79, R123). -/
def magFifth (g : Int) : Nat × Nat := if g = 0 then ((2 ^ 19) ^ 5, 10 ^ 36) else (g.natAbs ^ 5, 1)

/-- The dB-linear gain between two coefficients at num/den, rounded to nearest with ties to even (R79,
R129): of the fifth powers A and B, the magnitude x has x^(5 den) = A^(den−num)·B^num. -/
def dbLinear (g0 g1 : Int) (num den : Nat) : Int :=
  let a := magFifth g0
  let b := magFifth g1
  let n := a.1 ^ (den - num) * b.1 ^ num
  let d := a.2 ^ (den - num) * b.2 ^ num
  let m := 5 * den
  let reached (c : Nat) : Bool := decide ((2 * c - 1) ^ m * d ≤ 2 ^ m * n)
  let c := bisect reached 23 0
  let c := if c % 2 = 1 ∧ (2 * c - 1) ^ m * d = 2 ^ m * n then c - 1 else c
  if g0 < 0 ∨ g1 < 0 then -(c : Int) else c

/-- A gain between two coefficients at r = num/den of a shape (R79): dB-linear for shape 2 unless the signs
are opposite, else linear in amplitude. -/
def gainMid (g0 g1 : Int) (shape num den : Nat) : Int :=
  if num = den then g1
  else if shape = 2 ∧ ¬ ((g0 < 0 ∧ 0 < g1) ∨ (0 < g0 ∧ g1 < 0)) then dbLinear g0 g1 num den
  else linearGain g0 g1 num den

/-! ### Levels in dB -/

/-- The amplitude of a level in 0.01 dB, in units of 2⁻²³; −144.00 dB and below is off (R211). -/
def ampOf (l : Int) : Int := if l ≤ -14400 then 0 else if l = 0 then 2 ^ 23 else Config.dbAmp l

/-- A value at a gain given as an amplitude in units of 2⁻²³. -/
def scaled (v amp : Int) : Int := if amp = 2 ^ 23 then v else if amp = 0 then 0 else nearQuot (v * amp) (2 ^ 23)

/-- A gain field of a module between two levels at r = num/den of a shape, as an amplitude (R79, R210). -/
def levelMid (l0 l1 : Int) (shape num den : Nat) : Int :=
  if num = den then ampOf l1
  else if shape = 2 then
    let a := max l0 (-14400)
    let b := max l1 (-14400)
    Config.dbAmp (nearQuot (a * ((den : Int) - num) + b * num) den)
  else nearQuot (ampOf l0 * ((den : Int) - num) + ampOf l1 * num) den

/-- 6.02 × h dB as a gain: a factor 2^h (R21, R22). -/
def restored (h : Nat) (v : Int) : Int := v * 2 ^ h

/-- 6.02 × h dB in units of 0.01 dB. -/
def headDb (h : Nat) : Int := 602 * h

/-! ### Dynamics (R215) -/

/-- The static curve of the compressor as a gain in 0.01 dB for a level `x`, threshold `t`, ratio × 100 (none
for ∞) and knee width: y = t + (x − t)/ratio above the threshold, with a quadratic knee centred on it. -/
def compCurve (x t : Int) (ratio : Option Nat) (knee : Nat) : Int :=
  -- slope 1/ratio − 1 as a fraction
  let num : Int := match ratio with | none => -1 | some r => 100 - r
  let den : Nat := match ratio with | none => 1 | some r => r
  let above := x - t
  if 2 * above ≤ -(knee : Int) then 0
  else if (knee : Int) ≤ 2 * above then nearQuot (num * above) den
  else nearQuot (num * (2 * above + knee) * (2 * above + knee)) (den * 8 * knee)

/-- One sample of a first-order response in dB from `g` towards `dest` with a time constant in µs: it
stays between the two (R215, R499). -/
def onePole (g dest : Int) (tau fs : Nat) : Int :=
  if g ≤ dest then clampTo g dest (Config.smoothed g dest tau fs) else clampTo dest g (Config.smoothed g dest tau fs)
where
  clampTo (lo hi v : Int) : Int := if v < lo then lo else if hi < v then hi else v

/-- A gain with hold: while `active` it moves to `on` at the attack and the hold is loaded; afterwards it is
kept until the hold of `left` samples has run out, and then moves to `off` at the release (R215, R499). -/
def holdGain (active : Bool) (g left on off : Int) (hold : Nat) (atk rel fs : Nat) : Int × Int :=
  if active then (onePole g on atk fs, hold)
  else if 0 < left then (g, left - 1)
  else (onePole g off rel fs, 0)

/-- A time in µs as the nearest whole number of samples, the tie open (R214, R216, R225). -/
def nearestSamples (us fs : Nat) : Nat :=
  let q := us * fs / 1000000
  let r := us * fs % 1000000
  if 500000 < r ∨ (r = 500000 ∧ Config.tieUp q = true) then q + 1 else q

end Sys2Proof.Machine
end

