-- ==== Sys2Proof/Machine/Mailbox.lean ====
section
/-! DEFINITION. The mailbox unit (R95–R109, R119, R121): channel registers, binding, stamps, resets of
masters and the posting of outbound messages. -/

namespace Sys2Proof.Machine

/-- The state of a channel: 0 IDLE, 1 POSTED, 2 TAKEN, 3 ACKED (R95). -/
def State.chan (s : State) (n : Nat) : Nat := s.get (F.MBX_STAT_STATE n)

/-- Event 64 + n follows the channel's state under its enables (R99). -/
def State.chanEvent (s : State) (n : Nat) : State :=
  s.level (64 + n) ((s.on (F.MBX_IEN_RXIE n) && s.chan n == 1) || (s.on (F.MBX_IEN_TXIE n) && s.chan n == 3))

/-- The state with a channel moved to a state of R95. -/
def State.setChan (s : State) (n st : Nat) : State := (s.put (F.MBX_STAT_STATE n) st).chanEvent n

/-- Whether a write by master `m` to the sender's or the receiver's side of a channel is applied
(R101). -/
def State.bound (s : State) (m : Master) (n : Nat) (receiver : Bool) : Bool :=
  let b := if receiver then s.get (F.MBX_BIND_RECEIVER n) else s.get (F.MBX_BIND_SENDER n)
  s.get F.MBX_MODE_MODE == 0 || (b != 0 && b == m.toNat)

/-- A write to one side of a channel: refused by its binding (R101), out of place (R96), or applied. One that is both
sets BINDERR alone (DESIGN CHOICE, assumption 100). -/
def State.sideWrite (s : State) (m : Master) (n : Nat) (receiver inPlace : Bool) (f : State → State) : State :=
  if !s.bound m n receiver then s.put (F.MBX_STAT_BINDERR n) 1
  else if !inPlace then s.put (F.MBX_STAT_SEQERR n) 1
  else f s

/-- The epoch of a master (R98, R105). -/
def State.epoch (s : State) (m : Nat) : Nat := kgetD s.mbx.epochs m 0

/-- The command codes of the Silwen reference (R449). -/
def assignedCodes : List Nat :=
  [0x0100, 0x0101, 0x0102, 0x0103, 0x0104, 0x0200, 0x0201, 0x0202, 0x0203, 0x0300, 0x0301, 0x0302, 0x0303, 0x0304, 0x0305,
   0x0306, 0x0400, 0x0401, 0x0402, 0x0403, 0x0404, 0x0405, 0x0500, 0x0501, 0x0502, 0x0600, 0x0601, 0x0602]
  ++ [0x0700, 0x0701, 0x0702, 0x0703, 0x0800, 0x0801, 0x0802, 0x0803, 0x0804, 0x0805, 0x0900, 0x0901, 0x0902, 0x0A00,
   0x0A01, 0x0A02, 0x0A03, 0x0A04, 0x0B00, 0x0B01, 0x0B02, 0x0C00, 0x0C01, 0x0C02, 0x0D00, 0x0D01, 0x0D02, 0x0D03]
  ++ [0x0E00, 0x0E01, 0x0E02, 0x0F00, 0x0F01, 0x0F02]

/-- A message on a command channel whose code is not assigned, taken and acknowledged by the firmware at once: NOT_BOUND,
MALFORMED or UNKNOWN (R102, R110, R113) (DESIGN CHOICE, assumption 101). -/
def postUnknown (n : Nat) (s : State) : State :=
  let h := (s.reg (R.MBX_BUF n 0)).toNat
  if s.boot.phase == .running && decide (s.get F.PWR_STAT_STATE < 4) && (n == 0 || n == 4 || n == 8)
      && !assignedCodes.contains (h % 65536) then
    let code := if s.get F.MBX_MODE_MODE != 1 && s.get (F.MBX_STAMP_SENDER n) != s.get (F.MBX_BIND_SENDER n) then rcNotBound
      else if 62 < h / 65536 % 256 then rcMalformed else rcUnknown
    (s.setReg (R.MBX_ACK n) (word code)).setChan n 3
  else s

/-- The stamp of a POST and the move to POSTED (R98); a retired device's ROM acknowledges the message
with REFUSED (R104) (DEDUCED, assumption 9). -/
def State.postChan (s : State) (m : Nat) (n : Nat) : State :=
  let s := s.incFieldWrap (F.MBX_STAMP_SEQ n)
  let s := (s.put (F.MBX_STAMP_EPOCH n) (s.epoch m)).put (F.MBX_STAMP_SENDER n) m
  let s := s.setChan n 1
  s.when (s.boot.phase == .retired) fun s => (s.setReg (R.MBX_ACK n) (word rcRefused)).setChan n 3

/-- CLR applied: IDLE, with ORPHAN and ABORTED cleared (R95, R105). -/
def State.clrChan (s : State) (n : Nat) : State :=
  ((s.put (F.MBX_STAT_ORPHAN n) 0).put (F.MBX_STAT_ABORTED n) 0).setChan n 0

/-- A write to a buffer word (R96). -/
def mbxBufWrite (m : Master) (n w : Nat) (v : Word) (s : State) : State :=
  s.sideWrite m n false (s.chan n == 0) fun s => s.setReg (R.MBX_BUF n w) v
/-- POST (R95, R98, R113) (DESIGN CHOICE, assumption 101). -/
def mbxPost (m : Master) (n : Nat) (s : State) : State :=
  s.sideWrite m n false (s.chan n == 0) fun s => postUnknown n (s.postChan m.toNat n)
/-- TAKE (R95). -/
def mbxTake (m : Master) (n : Nat) (s : State) : State :=
  s.sideWrite m n true (s.chan n == 1) fun s => s.setChan n 2
/-- ACK (R95): the value and code are kept and the channel enters ACKED. -/
def mbxAck (m : Master) (n : Nat) (v : Word) (s : State) : State :=
  s.sideWrite m n true (s.chan n == 2) fun s => (s.setReg (R.MBX_ACK n) v).setChan n 3
/-- CLR (R95, R97): withdraws a posted message or frees an acknowledged one; nothing in IDLE. -/
def mbxClr (m : Master) (n : Nat) (s : State) : State :=
  s.sideWrite m n false (s.chan n != 2) fun s => s.clrChan n
/-- A write of the interrupt enables (R99). -/
def mbxIen (n : Nat) (v : Word) (s : State) : State :=
  ((s.put (F.MBX_IEN_TXIE n) (bits v 1 1)).put (F.MBX_IEN_RXIE n) (bits v 0 0)).chanEvent n

/-- The lock over MODE and the bindings set (R104). -/
def mbxLockSet (s : State) : State := s.put F.MBX_LOCK_LOCK 1

/-- The command, reply and notification channel of a sender with mailboxes, and the control core that
serves it (R103). -/
def hostChans (m : Nat) : Option (Nat × Nat × Nat × Nat) :=
  if m = 0x01 then some (0, 1, 2, 0x08) else if m = 0x02 then some (4, 5, 6, 0x09)
  else if m = 0x30 then some (8, 9, 10, 0x0A) else none

/-- The firmware's clean-up for a sender that reset: held messages discarded, tags forgotten, so that no completion is
sent for what was scheduled before (R108). -/
def hostCleanup (k : Nat) (s : State) : State := s.modBox k fun b => { gen := b.gen + 1 }

/-- Expert access and credentials lost by a master's reset (R120, R446). -/
def accessReset (k : Nat) (s : State) : State :=
  { s with sec := { s.sec with
      expertOff := s.sec.expertOff.filter (· != k)
      expertRole := s.sec.expertRole.filter (· != k)
      alarmRole := s.sec.alarmRole.filter (· != k) } }

/-- One channel at the reset of master `m` (R105). -/
def chanReset (m n : Nat) (s : State) : State :=
  let s := s.when (s.get (F.MBX_BIND_RECEIVER n) == m && (s.chan n == 1 || s.chan n == 2)) fun s =>
    let s := s.each (List.range 64) fun w s => s.setReg (R.MBX_BUF n w) 0
    ((s.setReg (R.MBX_ACK n) (word rcAborted)).put (F.MBX_STAT_ABORTED n) 1).setChan n 3
  s.when (s.get (F.MBX_BIND_SENDER n) == m && s.chan n != 0) fun s => s.put (F.MBX_STAT_ORPHAN n) 1

/-- The masters of R100. -/
def masterIds : List Nat :=
  [0x01, 0x02, 0x08, 0x09, 0x0A, 0x0B, 0x10, 0x11, 0x12, 0x13, 0x14, 0x15, 0x18, 0x19, 0x1A, 0x1B, 0x1C, 0x1D,
   0x20, 0x21, 0x22, 0x23, 0x24, 0x25, 0x2F, 0x30]

/-- The reset of master `m` (R105): its epoch advances, the channels bound to it act, and the firmware
cleans up behind a host (R108). -/
def masterResetOp (m : Nat) (s : State) : State :=
  let s := { s with mbx := { s.mbx with epochs := ksetD s.mbx.epochs m ((s.epoch m + 1) % 256) 0 } }
  let s := s.each (List.range 32) fun n s => chanReset m n s
  let s := accessReset m s
  let s := { s with memx := { s.memx with
    hung := s.memx.hung.filter (· != m)
    dmaErr := s.memx.dmaErr.filter fun c => 0x20 + c != m } }
  s.when (s.boot.phase == .running && (hostChans m).isSome) fun s => hostCleanup m s

/-- A write of MBX_SRESET: it acts only on the writer's own ID (R105). -/
def mbxSresetOp (m : Master) (v : Word) (s : State) : State :=
  if bits v 5 0 = m.toNat then masterResetOp m.toNat s else s

/-- The events of a word that are level sources (R422). -/
def levelMask (w : Nat) : Word := if w = 2 then 0xFFFFFFFF#32 else if w = 5 then 0x100#32 else 0#32

/-- A write to the MBX block at offset `off` from master `m`: channel registers on the sides of R96, where GO = 0 is
no write of its side (R8) (DESIGN CHOICE, assumption 100);
global registers under the lock of R104; the host-pending bits are write-one-to-clear (R422). -/
def mbxRegWrite (m : Master) (off : Nat) (v : Word) (s : State) : State :=
  if off < 0x8000 then
    let n := off / 0x400
    let r := off % 0x400
    if r < 0x100 then mbxBufWrite m n (r / 4) v s
    else if r = 0x100 then (if bit v 0 then mbxPost m n s else s)
    else if r = 0x104 then
      (s.when (bit v 5) fun s => s.put (F.MBX_STAT_BINDERR n) 0).when (bit v 4) fun s => s.put (F.MBX_STAT_SEQERR n) 0
    else if r = 0x108 then (if bit v 0 then mbxTake m n s else s)
    else if r = 0x10C then mbxAck m n v s
    else if r = 0x114 then mbxIen n v s
    else if r = 0x118 then (if bit v 0 then mbxClr m n s else s)
    else s
  else if off = 0x8000 then
    (if s.on F.MBX_LOCK_LOCK then s else s.put F.MBX_MODE_MODE (Limit.apply (.above 2 2) (bits v 1 0)))
  else if off = 0x8004 then (if bit v 0 then mbxLockSet s else s)
  else if off = 0x8008 then mbxSresetOp m v s
  else if 0x8040 ≤ off ∧ off < 0x8060 then
    s.setReg (0x40030000 + off) (s.reg (0x40030000 + off) &&& ~~~(v &&& ~~~levelMask ((off - 0x8040) / 4)))
  else if 0x8100 ≤ off ∧ off < 0x8180 then
    let n := (off - 0x8100) / 4
    if s.on F.MBX_LOCK_LOCK then s
    else (s.put (F.MBX_BIND_RECEIVER n) (bits v 13 8)).put (F.MBX_BIND_SENDER n) (bits v 5 0)
  else s

/-- The channels in POSTED or in ACKED as one word (MBX_POSTED, MBX_ACKED). -/
def State.chansIn (s : State) (st : Nat) : Word :=
  word ((List.range 32).foldl (fun a n => if s.chan n = st then a + 2 ^ n else a) 0)

/-- A message written into a channel's buffer and posted by the firmware (R110, R111, R106). -/
def fwPost (cc n : Nat) (msg : Msg) (s : State) : State :=
  let s := s.when (s.chan n == 3) fun s => s.clrChan n
  let w0 := word (msg.code % 65536 + 65536 * msg.words.length + 2 ^ 24 * msg.tag.toNat)
  let s := s.each ((w0 :: msg.words).zipIdx) fun p s => s.setReg (R.MBX_BUF n p.2) p.1
  s.postChan cc n

/-- Whether the firmware can post on a channel: IDLE, or ACKED and so cleared first (R106). -/
def State.chanFree (s : State) (n : Nat) : Bool := s.chan n == 0 || s.chan n == 3

/-- The first of the queued notifications leaves: once the queue has fallen to 192 entries with drops counted, OVERFLOW
is queued ahead of the rest (R119). -/
def Outbox.dequeue (b : Outbox) (now : Word) : Outbox :=
  let q := b.queue.drop 1
  if b.drops ≠ 0 ∧ q.length ≤ 192 then { b with queue := ⟨0x8008, 0, [now, word b.drops]⟩ :: q, drops := 0 }
  else { b with queue := q }

/-- A held notification of a host posted on channel `nn`: a final one, else a queued one (R119). -/
def notificationPost (m cc nn : Nat) (s : State) : State :=
  let b := s.outbox m
  if !s.chanFree nn then s
  else match b.finals, b.queue with
  | r :: rs, _ => fwPost cc nn r (s.modBox m fun b => { b with finals := rs })
  | [], r :: _ => fwPost cc nn r (s.modBox m fun b => b.dequeue s.mtil)
  | [], [] => s

/-- The next held message of a host posted: a reply where its channel is free, else a notification (R119). -/
def outboundPostOp (m : Nat) (s : State) : State :=
  match hostChans m with
  | none => s
  | some (_, rn, nn, cc) =>
    if s.boot.phase != .running then s
    else match (s.outbox m).replies with
    | r :: rs =>
      if s.chanFree rn then fwPost cc rn r (s.modBox m fun b => { b with replies := rs }) else notificationPost m cc nn s
    | [] => notificationPost m cc nn s

/-- The scheduled effects of the sender with key `k` that no hardware is armed for yet, discarded (R109): quiet sweeps
and baselines not begun, an engine restart before its ramp, a Pace or sleep that waits, a handover before its
window, the night test's schedule (DEDUCED, assumption 102). -/
def schedulesDiscard (k : Nat) (s : State) : State :=
  let mine (t : Option Tok) : Bool := t.any fun t => Sender.key t.sender == k
  let req (r : PowReq) : Bool := match r with | .pace _ t => mine t | .sleep _ t => mine t
  let sleepy := s.pwr.sleep.any fun r => r.step == 0 && mine r.tok
  { s with
    supv := { s.supv with
      sched := s.supv.sched.filter fun x => !mine x.2.2.1
      jobs := s.supv.jobs.filter fun x => !mine (some x.2) }
    eng := { s.eng with restart := s.eng.restart.filter fun r => r.ramping || !mine r.tok }
    pwr := { s.pwr with
      held := s.pwr.held.filter fun r => !req r
      current := if sleepy then none else s.pwr.current
      sleep := if sleepy then none else s.pwr.sleep }
    tnd := { s.tnd with handover := s.tnd.handover.filter fun h => h.begun || h.done || !mine h.tok }
    night := { s.night with sched := s.night.sched.filter fun c => c.owner != k } }

/-- A restart of a control core (R105, R106, R109): its epoch advances with its channels; every tag
outstanding on the command channel it serves ends without a completion; Hampers of that channel
whose load has not started are discarded; a new firmware instance is reported (DEDUCED, assumption 102). -/
def controlCoreRestartOp (cc : Nat) (s : State) : State :=
  let s := masterResetOp (0x08 + cc) s
  let s := s.each (List.range 32) fun n s =>
    s.when (s.get (F.MBX_BIND_SENDER n) == 0x08 + cc && s.chan n == 3) fun s => s.clrChan n
  let k := if cc = 0 then 0x01 else if cc = 1 then 0x02 else 0x30
  if cc = 3 then s
  else
    let s := schedulesDiscard k (s.modBox k fun b => { b with tags := [], bulk := [], gen := b.gen + 1 })
    let mine (m : Member) : Bool := Sender.key m.sender == k
    let s := { s with hamp := { s.hamp with
      opened := s.hamp.opened.filter fun h => Sender.key h.sender != k
      waiting := s.hamp.waiting.filter fun m => !mine m
      plans := (s.hamp.plans.filter fun p => p.loading || !p.members.any mine) } }
    { s with boot := { s.boot with fwEpoch := (s.boot.fwEpoch + 1) % 256 } }

/-- An access by a master through its port: it waits for good behind a decode error (R393), and reaches
nothing in a sleep state (R384). -/
def State.viaPort (s : State) (m : Master) (f : State → State) : State :=
  if s.memx.hung.contains m.toNat || decide (4 ≤ s.get F.PWR_STAT_STATE) then s else f s

/-- A write to a register of channel `n` through the port of a master: the SPI host reaches only MB4–MB7
(R121). -/
def State.viaChan (s : State) (m : Master) (n : Nat) (f : State → State) : State :=
  if m = 0x02 ∧ (n < 4 ∨ 7 < n) then s else s.viaPort m f

/-- A write to a global register through the port of a master: the SPI host only reads them (R121). -/
def State.viaGlobal (s : State) (m : Master) (f : State → State) : State := if m = 0x02 then s else s.viaPort m f

/-! ### The commands -/

/-- MBX_BUF_WRITE. -/
def execMbxBufWrite (m : Master) (n : Fin 32) (w : Fin 64) (v : Word) (s : State) : Host.Outcome State Fault Refusal :=
  .next (s.viaChan m n (mbxBufWrite m n w v))
/-- MBX_POST. -/
def execMbxPost (m : Master) (n : Fin 32) (s : State) : Host.Outcome State Fault Refusal := .next (s.viaChan m n (mbxPost m n))
/-- MBX_TAKE. -/
def execMbxTake (m : Master) (n : Fin 32) (s : State) : Host.Outcome State Fault Refusal := .next (s.viaChan m n (mbxTake m n))
/-- MBX_ACK. -/
def execMbxAck (m : Master) (n : Fin 32) (v : Word) (s : State) : Host.Outcome State Fault Refusal := .next (s.viaChan m n (mbxAck m n v))
/-- MBX_CLR. -/
def execMbxClr (m : Master) (n : Fin 32) (s : State) : Host.Outcome State Fault Refusal := .next (s.viaChan m n (mbxClr m n))
/-- MBX_SRESET. -/
def execMbxSreset (m : Master) (v : Word) (s : State) : Host.Outcome State Fault Refusal := .next (s.viaGlobal m (mbxSresetOp m v))
/-- MBX_LOCK. -/
def execMbxLock (m : Master) (s : State) : Host.Outcome State Fault Refusal := .next (s.viaGlobal m mbxLockSet)
/-- MASTER_RESET (R105). -/
def execMasterReset (m : Master) (s : State) : Host.Outcome State Fault Refusal := .next (masterResetOp m.toNat s)
/-- CONTROL_CORE_RESTART (R109). -/
def execControlCoreRestart (cc : Fin 4) (s : State) : Host.Outcome State Fault Refusal :=
  .next (if s.boot.phase = .running then (controlCoreRestartOp cc s).notice 0x86 cc.val 0 else s)
/-- CC_WATCHDOG_EXPIRY (R394, R109, R414): the restart with event 62 and notice 0x86. -/
def execCcWatchdogExpiry (cc : Fin 4) (s : State) : Host.Outcome State Fault Refusal :=
  .next (if s.boot.phase = .running then ((controlCoreRestartOp cc s).raise 62).notice 0x86 cc.val 0 else s)
/-- OUTBOUND_POST (R119). -/
def execOutboundPost (m : Master) (s : State) : Host.Outcome State Fault Refusal := .next (outboundPostOp m.toNat s)

end Sys2Proof.Machine
end

