-- ==== Sys2Proof/Machine/Silwen.lean ====
section
/-! DEFINITION. How the firmware takes a Silwen command (R110–R116, R120, R451, R454): the
acknowledgement on the command channel, the payload length, the reply, the tag. Each command's own
effect is a function from its message to a state and a reply. -/

namespace Sys2Proof.Machine

/-- What a command answers: a reply with return code, value and words from word 2, or a request for
that many bytes of bulk data (R454). -/
inductive Rep where
  | reply (code value : Nat) (words : List Word)
  | bulk (bytes : Nat)
deriving DecidableEq, Repr

/-- A reply without words. -/
def Rep.rc (code : Nat) : Rep := .reply code 0 []
/-- DONE with words. -/
def Rep.ok (words : List Word) : Rep := .reply rcDone 0 words

/-- The MTI in two words, low first (R449). -/
def mtiWords (m : Nat) : List Word := [loWord m, hiWord m]

/-- SCHEDULED with a Stile. -/
def Rep.sched (stile : Nat) : Rep := .reply rcScheduled 0 (mtiWords stile)

/-- Whether a sender holds expert access (R120, R448). -/
def State.expert (s : State) (sd : Sender) : Bool :=
  let k := Sender.key sd
  if s.sec.shut then false
  else if s.sec.otp.lc < 2 then !s.sec.expertOff.contains k
  else if s.sec.otp.lc = 2 then s.sec.expertRole.contains k
  else false

/-- Whether a sender holds the alarm credential (R221, R446). -/
def State.alarmCred (s : State) (sd : Sender) : Bool := s.sec.alarmRole.contains (Sender.key sd)

/-- The token of a command. -/
def State.tokOf (s : State) (c : Cmd) (code : Nat) : Tok :=
  { sender := c.sender, tag := c.tag, code := code, gen := (s.outbox (Sender.key c.sender)).gen }

/-- The command channel of a sender. -/
def cmdChan (sd : Sender) : Option Nat :=
  match sd with
  | .master m => (hostChans m.toNat).map (·.1)
  | .node _ => none

/-- The acknowledgement of a command: kept in the outbox and, where its message stands POSTED in the
command channel, written there as the taken and acknowledged message (R95, R113). -/
def ackCmd (c : Cmd) (code value : Nat) (s : State) : State :=
  let s := s.modBox (Sender.key c.sender) fun b => { b with lastAck := some (code, value) }
  match cmdChan c.sender with
  | some n =>
    if s.chan n = 1 then (s.setReg (R.MBX_ACK n) (word (code + 65536 * value))).setChan n 3 else s
  | none => s

/-- What the firmware acknowledges a command with (R102, R107, R113). Of several causes the first of this order is
given: ABORTED, NOT_BOUND, MALFORMED, LOCKED, NO_SPACE, REFUSED (DESIGN CHOICE, assumption 101). -/
def ackCode (c : Cmd) (expertOnly : Bool) (s : State) : Nat :=
  let posted := (cmdChan c.sender).filter fun n => s.chan n == 1
  let b := s.outbox (Sender.key c.sender)
  if posted.any fun n => s.on (F.MBX_STAT_ORPHAN n) then rcAborted
  else if posted.any fun n => s.get F.MBX_MODE_MODE != 1
      && s.get (F.MBX_STAMP_SENDER n) != s.get (F.MBX_BIND_SENDER n) then rcNotBound
  else if 62 < c.words.length then rcMalformed
  else if expertOnly && !s.expert c.sender then rcLocked
  else if 256 ≤ b.tags.length then rcNoSpace
  else if (kget b.tags c.tag.toNat).isSome then rcRefused
  else rcDone

/-- A reply held for its sender; the tag is freed unless the reply is SCHEDULED (R111, R114). -/
def holdReply (c : Cmd) (code : Nat) (r : Rep) (s : State) : State :=
  match r with
  | .bulk n =>
    s.modBox (Sender.key c.sender) fun b => { b with bulk := kset b.bulk c.tag.toNat { code := code, cmd := c, need := n } }
  | .reply rc value words =>
    s.modBox (Sender.key c.sender) fun b =>
      { b with
        tags := if rc = rcScheduled then b.tags else kdel b.tags c.tag.toNat
        replies := b.replies ++ [⟨code, c.tag, word (rc + 65536 * value) :: words⟩] }

/-- Whether the chip is the standby of a pair (R349): TND_STAT.STATE is CONFIG, CATCHUP, SYNCED or
STALE. -/
def State.standby (s : State) : Bool :=
  s.on F.TND_CTL_EN && decide (3 ≤ s.get F.TND_STAT_STATE ∧ s.get F.TND_STAT_STATE ≤ 6)

/-- The commands a standby accepts (R351). -/
def standbyTakes (code : Nat) : Bool :=
  [0x0100, 0x0101, 0x0300, 0x0104, 0x0701, 0x0502, 0x0202, 0x0B00, 0x0B02, 0x0D00, 0x0D01, 0x0D02,
   0x0E01, 0x0E02, 0x0F00].contains code

/-- The Hampers planned or moved since an earlier state, each member with its planned Stile. -/
def State.plansSince (s before : State) : List LinkMsg :=
  let old := before.hamp.plans.map fun q => (q.members.map (·.hid), q.p)
  (s.hamp.plans.filter fun q => !old.contains (q.members.map (·.hid), q.p)).flatMap fun q => q.members.map fun m =>
    .item (.hamper (BitVec.ofNat 16 m.hid) q.p m.entries (m.tok.map fun t => (t.sender, t.tag, BitVec.ofNat 16 t.code)))
/-- Those Hampers sent to the standby (R357). -/
def State.sendPlans (s before : State) : State := s.send (s.plansSince before)

/-- What the active sends before it replies (R357): the Hampers that a command planned or moved; the POKEs it holds for the next Stile; for any other command that changed anything the command itself with its bulk
data (DEDUCED, assumption 107). -/
def State.sendEffect (s : State) (c : Cmd) (code rc : Nat) (data : List Byte) (before : State) : State :=
  let hampers := s.plansSince before
  let pokes := (s.tnd.pokes.drop before.tnd.pokes.length).map fun x => LinkMsg.item (.poke (BitVec.ofNat 40 x.1) x.2)
  let whole := hampers = [] ∧ pokes = [] ∧ standbyTakes code = false ∧ (rc = rcDone ∨ rc = rcScheduled) ∧ s ≠ before
  s.send (hampers ++ pokes ++ if whole then [.item (.command (BitVec.ofNat 16 code) c data)] else [])

/-- A command's answer held for its sender, what it did sent to the standby first (R357). -/
def answerCmd (c : Cmd) (code : Nat) (data : List Byte) (before : State) (r : State × Rep) : State :=
  match r.2 with
  | .reply rc _ _ => holdReply c code r.2 (r.1.sendEffect c code rc data before)
  | .bulk _ => holdReply c code r.2 r.1

/-- Whether the chip is in a sleep state, and whether a SLEEP has been taken and not yet ended (R380) (DEDUCED, assumption 8). -/
def State.asleep (s : State) : Bool := decide (4 ≤ s.get F.PWR_STAT_STATE)
def State.sleeping (s : State) : Bool :=
  s.pwr.sleep.isSome || (match s.pwr.held with | some (.sleep _ _) => true | _ => false)

/-- Whether block `i` of the order of R382 runs: not once a sleep entry has stopped it, nor asleep. -/
def State.blockRuns (s : State) (i : Nat) : Bool := !s.asleep && s.pwr.sleep.all fun r => decide (r.blocks ≤ i)

/-- The commands taken while a sleep entry is under way (R380). -/
def sleepTakes (code : Nat) : Bool := [0x0100, 0x0101, 0x0300, 0x0202, 0x0200].contains code

/-- A queued command executed and answered: a payload shorter than its fields is MALFORMED (R451); a
standby refuses what R351 does not list, and a sleep entry what R380 does not. -/
def runCmd (code minL : Nat) (body : Cmd → State → State × Rep) (c : Cmd) (s : State) : State :=
  if c.words.length < minL then holdReply c code (.rc rcMalformed) s
  else if s.standby && !standbyTakes code then holdReply c code (.rc rcRefused) s
  else if s.sleeping && !sleepTakes code then holdReply c code (.rc rcRefused) s
  else
    answerCmd c code [] s (body c s)

/-- A Silwen command taken by the firmware: nothing happens while no firmware runs (R104, R384, R441) (DEDUCED, assumption 8). -/
def silwen (code minL : Nat) (expertOnly : Bool) (body : Cmd → State → State × Rep) (c : Cmd) (s : State) : State :=
  if s.boot.phase ≠ .running ∨ s.asleep = true then s
  else
    let a := ackCode c expertOnly s
    if a ≠ rcDone then ackCmd c a 0 s
    else
      let s := s.modBox (Sender.key c.sender) fun b => { b with tags := kset b.tags c.tag.toNat code }
      let t := runCmd code minL body c (ackCmd c rcDone (256 - (s.outbox (Sender.key c.sender)).tags.length) s)
      t.when (kget (t.outbox (Sender.key c.sender)).tags c.tag.toNat = some code) fun t => t.sendTags c.sender

/-- A command of a code the chapter does not list: acknowledged UNKNOWN (R113, R449). -/
def silwenUnknown (c : Cmd) (s : State) : State :=
  if s.boot.phase ≠ .running ∨ s.asleep = true then s else ackCmd c rcUnknown 0 s

/-- A body that changes nothing and answers a code. -/
def refuse (code : Nat) (s : State) : State × Rep := (s, .rc code)

end Sys2Proof.Machine
end

