-- ==== Sys2Proof/Machine/Plan.lean ====
section
/-! DEFINITION. Hampers before their commit (R60–R81, R91, R221, R453): format and CRC, validation,
groups, lead time, conflicts and the planned Stile. -/

namespace Sys2Proof.Machine

/-! ### Format -/

/-- One bit step of the reflected CRC-32 of R61. -/
def crcBit (c : BitVec 32) : BitVec 32 :=
  if c.getLsbD 0 then (c >>> 1) ^^^ 0xEDB88320#32 else c >>> 1

/-- One byte of the CRC-32 of R61. -/
def crcByte (c : BitVec 32) (b : Byte) : BitVec 32 :=
  let x := c ^^^ b.setWidth 32
  crcBit (crcBit (crcBit (crcBit (crcBit (crcBit (crcBit (crcBit x)))))))

/-- The CRC-32 of IEEE 802.3 over a list of bytes (R61). -/
def crc32 (bs : List Byte) : Word := (bs.foldl crcByte 0xFFFFFFFF#32) ^^^ 0xFFFFFFFF#32

/-- The CRC-32 over words, each least significant byte first (R61). -/
def crcWords (ws : List Word) : Word := crc32 (ws.flatMap wordBytes)

/-- An entry from its four words (R62). -/
def entryOf (w0 w1 w2 w3 : Word) : Entry :=
  { tgt := bits w0 7 0, obj := bits w0 31 8, fld := bits w1 15 0,
    ramp := if bit w1 24 then .none else .trail (bits w1 23 16), val := w2, aux := w3, raw := true }

/-- The entries of a list of words, four words each. -/
def entriesOf : List Word → List Entry
  | w0 :: w1 :: w2 :: w3 :: ws => entryOf w0 w1 w2 w3 :: entriesOf ws
  | _ => []

/-! ### Validation (R64, R77, R91, R221, R224) -/

/-- Whether a target and field code exist (R63 and the tables of the targets). -/
def fieldKnown (code : Nat) (e : Entry) : Bool :=
  match e.tgt with
  | 0x01 => e.fld == 0 || e.fld == 1
  | 0x02 => e.fld == 0
  | 0x03 => e.fld == 0 || e.fld == 0x10
  | 0x10 => (modKind e.obj).isNone || (paramRow code e.obj e.fld).isSome
  | 0x20 => e.fld == 0 || e.fld == 1
  | 0x21 => decide (e.fld < 3)
  | 0x30 => decide (e.fld < 4)
  | 0x40 => e.fld == 0
  | 0x50 => e.fld == 0 || e.fld == 1
  | _ => false

/-- Whether the object lies in a range of its target (R63). -/
def objExists (e : Entry) : Bool :=
  match e.tgt with
  | 0x01 => decide (e.obj < 524288)
  | 0x02 => decide (e.obj < 262144 ∧ e.obj % 1024 < 768)
  | 0x03 => if e.fld = 0x10 then decide (e.obj < 1024) else sinkExists e.obj
  | 0x10 => (modKind e.obj).isSome
  | 0x20 => decide (e.obj < 32)
  | 0x21 => decide (e.obj < 64)
  | 0x30 => decide (e.obj < 32)
  | 0x40 => decide (e.obj < 512)
  | 0x50 => decide (e.obj < 256)
  | _ => false

/-- Whether an existing object is valid in a rate class. -/
def objValid (cls : Nat) (e : Entry) : Bool :=
  match e.tgt with
  | 0x01 => cls != 2 || (decide (e.obj / 1024 < 256) && decide (e.obj % 1024 < 512))
  | 0x02 => cls != 2 || (decide (e.obj / 1024 < 128)
      && (decide (e.obj % 1024 < 256) || (512 ≤ e.obj % 1024 && e.obj % 1024 < 640)))
  | 0x03 => if e.fld = 0x10 then cls != 2 || decide (e.obj < 512) else sinkValid cls e.obj
  | 0x10 => instValid cls e.obj
  | _ => true

/-- Whether R221 refuses an entry: a level-7 field or LIM_THR of an output strip whose level 7 is
active, or a SELECT of a sink that selects such a strip's output. -/
def State.sealed (s : State) (e : Entry) : Bool :=
  if e.tgt = 0x10 ∧ modKind e.obj = some .out then
    s.level7 (e.obj - 1536) && (e.fld / 256 == 0x27 || e.fld == 0x0801)
  else if e.tgt = 0x03 ∧ e.fld = 0 then
    let src := (s.mux e.obj).src
    decide (4864 ≤ src ∧ src < 5120) && s.level7 (src - 4864)
  else false

/-- What a Hamper is, as far as its checks differ: a scheduled one, or the alarm Hamper of an input. -/
inductive Level where
  | basic | alarm (n : Nat)
deriving DecidableEq, Repr

/-- Whether the Trail an entry names is one its level may name (R77, R91). -/
def trailOk (lvl : Level) (e : Entry) : Bool :=
  let ok (t : Nat) : Bool := match lvl with
    | .basic => !e.raw || decide (192 ≤ t)
    | .alarm n => t == 184 + 2 * n || t == 185 + 2 * n
  if e.tgt = 0x50 then ok e.obj
  else match e.ramp with
    | .trail t => ok t
    | _ => true

/-- The codes that reject an entry (R64). -/
def State.entryCodes (s : State) (sd : Sender) (lvl : Level) (e : Entry) : List Nat :=
  (if fieldKnown s.rateCode e && objExists e then [] else [rcMalformed])
  ++ (if objExists e && !objValid s.rateClass e then [rcRefused] else [])
  ++ (if (e.raw || modKind e.obj == some .oem && e.tgt == 0x10) && !s.expert sd then [rcLocked] else [])
  ++ (match lvl with
      | .alarm _ => if e.tgt = 0x03 ∨ e.tgt = 0x10 ∨ e.tgt = 0x30 then [] else [rcRefused]
      | _ => if s.sealed e && !s.alarmCred sd then [rcLocked] else [])
  ++ (if trailOk lvl e then [] else [rcRefused])
  ++ (if e.raw && e.tgt == 0x10 && e.fld == 0x5002 && modKind e.obj == some .out
        && crcWords e.coefs != e.val then [rcMalformed] else [])

/-- The one return code several conditions give: MALFORMED, else LOCKED, else NO_SPACE, else REFUSED
(R64); none when nothing rejects. -/
def worst (cs : List Nat) : Option Nat :=
  if cs.contains rcMalformed then some rcMalformed
  else if cs.contains rcLocked then some rcLocked
  else if cs.contains rcNoSpace then some rcNoSpace
  else if cs.contains rcRefused then some rcRefused
  else none

/-- The distinct pairs of duration and shape of basic-level entries (R81). -/
def durPairs (es : List Entry) : List (Nat × Nat) :=
  (es.filterMap fun e => match e.ramp with | .dur u sh => some (u, sh) | _ => none).eraseDups

/-! ### Counting and groups (R65, R66) -/

/-- Hampers open or pending (R65) (DEDUCED, assumption 51). -/
def State.hamperCount (s : State) : Nat :=
  s.hamp.opened.length + s.hamp.waiting.length + (s.hamp.plans.map fun p => p.members.length).sum

/-- The HIDs in use (R65). -/
def State.hidInUse (s : State) (h : Nat) : Bool :=
  s.hamp.opened.any (·.hid == h) || s.hamp.waiting.any (·.hid == h)
    || s.hamp.plans.any fun p => p.members.any (·.hid == h)

/-! ### Units and lead time (R63, R71) -/

/-- The conflict unit of an entry as a number (R63). -/
def unitOf (e : Entry) : Nat :=
  match e.tgt with
  | 0x01 => 0x1000000
  | 0x02 => 0x2000000
  | 0x03 => if e.fld = 0x10 then 0x4000000 + e.obj else 0x3000000 + e.obj
  | t => t * 0x1000000 + e.obj

/-- The conflict unit of an entry: the multiplexers of a loop pair form one (R341). -/
def State.unitOf (s : State) (e : Entry) : Nat :=
  if e.tgt = 0x03 ∧ e.fld = 0 ∧ 1536 ≤ e.obj ∧ e.obj < 1568 ∧ s.on (F.AMP_PAIR_PAIRED ((e.obj - 1536) / 2 * 2)) = true then
    Machine.unitOf { e with obj := 1536 + (e.obj - 1536) / 2 * 2 }
  else Machine.unitOf e

/-- The conflict units of a list of entries. -/
def State.unitsOf (s : State) (es : List Entry) : List Nat := (es.map s.unitOf).eraseDups

/-- All entries of a plan, members in ascending HID order (R69). -/
def Plan.entries (p : Plan) : List Entry := p.members.flatMap (·.entries)

/-- τ of R71 in µs and the refill interval in ms, by Pace. -/
def leadTau (pace : Nat) : Nat × Nat := if pace < 2 then (10, 1) else if pace = 2 then (20, 2) else (40, 4)

/-- The Pace in force (R373: PWR_STAT.STATE 0–3). -/
def State.pace (s : State) : Nat := s.get F.PWR_STAT_STATE

/-- The lead time Λ of a Hamper of `n` entries, in samples (R71). -/
def State.lead (s : State) (n : Nat) : Nat :=
  let tl := (n + 1023) / 1024 * (leadTau s.pace).1
  let d := s.roundLen * 1000000
  max 4 (3 + (tl * s.fs + d - 1) / d) * s.roundLen

/-- The refill interval F in samples, whole rounds (R71). -/
def State.refill (s : State) : Nat :=
  let d := s.roundLen * 1000
  ((leadTau s.pace).2 * s.fs + d - 1) / d * s.roundLen

/-- The MTI of a sample number. -/
def State.mtiOfSample (s : State) (n : Nat) : Nat :=
  match s.eng.lastTick with
  | some k => if s.eng.base ≤ n then k + (n - s.eng.base) else k - (s.eng.base - n)
  | none => n

/-! ### Durations -/

/-- Whether an entry moves a gain field (R80). -/
def isGain (code : Nat) (e : Entry) : Bool :=
  match e.tgt with
  | 0x01 => e.fld == 0
  | 0x02 => e.fld == 0
  | 0x10 => (paramRow code e.obj e.fld).any (·.chg == .sample)
  | _ => false

/-- The duration and shape of an entry's ramp at commit, before the gain minimum: a named Trail gives
its definition in force, limited to 60 s; a basic duration is converted at the engine rate (R78). -/
def State.rampOf (s : State) (defs : List Entry) (r : Ramp) : Nat × Nat :=
  match r with
  | .none => (0, 0)
  | .dur u sh => (min (s.samplesOf u) s.maxRamp, if sh = 3 then 0 else sh)
  | .trail t =>
    let last (f : Nat) : Option Nat := ((defs.filter fun e => e.obj == t && e.fld == f).getLast?).map (·.val.toNat)
    let d := ((last 0).map (· % 2 ^ 24)).getD (s.get (F.PATCH_TRDUR_DUR t))
    let sh := ((last 1).map (· % 4)).getD (s.get (F.PATCH_TRCTL_SHAPE t))
    (min d s.maxRamp, if sh = 3 then 0 else sh)

/-- The duration an entry runs for: at least 0.25 ms on a gain field (R80). -/
def State.entryDur (s : State) (defs : List Entry) (e : Entry) : Nat :=
  let d := (s.rampOf defs e.ramp).1
  if isGain s.rateCode e || e.tgt == 1 then max d s.minRamp else d

/-- Entries another entry later in the list does not override (R69). -/
def lastWins : List Entry → List Entry
  | [] => []
  | e :: es => if es.any fun x => x.tgt == e.tgt && x.obj == e.obj && x.fld == e.fld then lastWins es else e :: lastWins es

/-- Whether an entry's ramp takes a Trail generator: not one of no length, nor a gain change shorter than the
0.25 ms of R80, which runs on a ramp local to its unit. -/
def State.takesTrail (s : State) (defs : List Entry) (e : Entry) : Bool :=
  let d := (s.rampOf defs e.ramp).1
  e.tgt != 0x50 && decide (0 < d) && (decide (s.minRamp ≤ d) || !(isGain s.rateCode e || e.tgt == 1))

/-- The entries of a Hamper or group that start a Trail generator: of a stage's entries only the first (R82), of
the others those no later entry overrides (R69, R80). -/
def State.starters (s : State) (es : List Entry) : List Entry :=
  let defs := es.filter fun e => e.tgt == 0x50
  let stage (t : Nat) : List Entry := ((es.filter fun e => e.tgt == t).head?).toList
  (stage 1 ++ stage 2 ++ (lastWins es).filter fun e => e.tgt != 1 && e.tgt != 2).filter (s.takesTrail defs)

/-- The distinct pairs of duration and shape for which the entries need a generator (R81). -/
def State.pairs (s : State) (es : List Entry) : List (Nat × Nat) := durPairs (s.starters es)

/-- The Trails the entries name and start (R77, R82). -/
def State.named (s : State) (es : List Entry) : List Nat :=
  ((s.starters es).filterMap fun e => match e.ramp with | .trail t => some t | _ => none).eraseDups

/-- The codes that reject a list of entries as a Hamper. -/
def State.hamperCodes (s : State) (sd : Sender) (lvl : Level) (es : List Entry) : List Nat :=
  es.flatMap (s.entryCodes sd lvl)
  ++ (match lvl with
      | .alarm _ => (if 1024 < es.length then [rcNoSpace] else [])
          ++ (if 2 < (durPairs es).length then [rcRefused] else [])
      | _ => if 184 < (s.pairs es).length then [rcNoSpace] else [])

/-! ### Planning (R72, R74) -/

/-- Whether a field change makes an instance run in parallel (R90). -/
def isPar (code : Nat) (e : Entry) : Bool :=
  e.tgt == 0x10 && (paramRow code e.obj e.fld).any (·.chg == .par)

/-- The earliest Stile at which a plan may commit after an earlier Hamper that commits at `p1` with
the entries `es1` on a shared unit (R74): on a stage the ramp is that of its first entry (R82), elsewhere those of
the entries no later one overrides (R69). -/
def State.after1 (s : State) (lam2 p1 : Nat) (es1 : List Entry) (u : Nat) : Nat :=
  let mine (es : List Entry) := es.filter fun e => s.unitOf e == u
  let eff := mine (lastWins es1)
  let defs := es1.filter fun e => e.tgt == 0x50
  let dmax (es : List Entry) : Nat := (es.map (s.entryDur defs)).foldl max 0
  if u = 0x1000000 ∨ u = 0x2000000 then
    s.roundFrom (p1 + max ((((mine es1).map (s.entryDur defs)).head?).getD 0) s.minRamp) + s.refill + lam2
  else if 0x3000000 ≤ u ∧ u < 0x4000000 then max (p1 + lam2) (p1 + dmax eff)
  else if eff.any (isPar s.rateCode) then max (p1 + lam2) (p1 + dmax (eff.filter (isPar s.rateCode)))
  else p1 + lam2

/-- The earliest Stile a unit's running crossfade, transition or parallel run allows (R74). -/
def State.runningUntil (s : State) (lam : Nat) (u : Nat) : Nat :=
  let fin (f : Fade) := s.mtiOfSample (f.start + f.dur)
  let stage (t : Option Trans) (r : Option Nat) : Nat :=
    match t, r with
    | some t, _ => s.roundFrom (fin t.fade) + s.refill + lam
    | none, some e => e + lam
    | none, none => 0
  if u = 0x1000000 then stage s.path.send s.path.sendRefill
  else if u = 0x2000000 then stage s.path.matrix s.path.matrixRefill
  else if 0x3000000 ≤ u ∧ u < 0x4000000 then
    match (s.mux (u - 0x3000000)).old with
    | some (_, f) => fin f
    | none => 0
  else if 0x10000000 ≤ u ∧ u < 0x11000000 then
    match kget s.path.par (u - 0x10000000) with
    | some r => fin r.fade
    | none => 0
  else 0

/-- A run of a Trail as planning sees it: the Trail by name, or one of the 184 of the firmware, with its
first Stile and its end (R81). -/
structure TrailUse where
  trail : Option Nat
  first : Nat
  ends : Nat
deriving DecidableEq, Repr

/-- The runs under way. -/
def State.trailsNow (s : State) : List TrailUse :=
  s.path.trails.map fun t =>
    ⟨if t.1 < 184 then none else some t.1, 0, s.mtiOfSample (t.2.fade.start + t.2.fade.dur)⟩

/-- The runs a plan will start at its planned Stile. -/
def State.trailsOf (s : State) (d : Plan) : List TrailUse :=
  let defs := d.entries.filter fun e => e.tgt == 0x50
  ((s.pairs d.entries).map fun x => ⟨none, d.p, d.p + (s.rampOf [] (.dur x.1 x.2)).1⟩)
  ++ (s.named d.entries).map fun t => ⟨some t, d.p, d.p + (s.rampOf defs (.trail t)).1⟩

/-- Whether a run is under way at a Stile. -/
def TrailUse.runsAt (u : TrailUse) (q : Nat) : Bool := decide (u.first ≤ q ∧ q < u.ends)

/-- Whether at a Stile no Trail the entries name runs, and the firmware has as many free as they need (R81) (DEDUCED, assumption 56). -/
def State.trailsFree (s : State) (uses : List TrailUse) (es : List Entry) (q : Nat) : Bool :=
  !((s.named es).any fun t => uses.any fun u => u.trail == some t && u.runsAt q)
  && decide ((uses.filter fun u => u.trail.isNone && u.runsAt q).length + (s.pairs es).length ≤ 184)

/-- The first Stile from `p` on at which the Trails of the entries are free: `p` itself or the end of a run
(R81). -/
def State.trailsFrom (s : State) (uses : List TrailUse) (es : List Entry) (p : Nat) : Nat :=
  if s.trailsFree uses es p then p
  else (((uses.map (·.ends)).filter fun q => p < q && s.trailsFree uses es q).min?).getD p

/-- The earliest Stile the alarm Hampers that are to commit leave to a plan with the units `us` (R92). -/
def State.afterAlarms (s : State) (lam : Nat) (us : List Nat) (p0 : Nat) : Nat :=
  s.hamp.alarmEdges.foldl (fun p a =>
    let es := kgetD s.hamp.alarms a.1 []
    ((s.unitsOf es).filter us.contains).foldl (fun p u => max p (s.after1 lam a.2 es u)) p) p0

/-- The order of conflicts: the commit MTI, 0 taken as t + Λ (R74) (DEDUCED, assumption 76). -/
def Plan.order (p : Plan) : Nat := if p.s = 0 then p.t + p.lam else p.s

/-- The planned Stile of R72, before conflicts, and LATE (DEDUCED, assumption 76). -/
def State.firstStile (s : State) (t lam c : Nat) : Nat × Bool :=
  if c ≠ 0 ∧ t + lam ≤ c then (c, false) else (s.roundFrom (t + lam), decide (c ≠ 0))

/-- A plan placed after the plans already settled and the alarm Hampers to come (R74, R81, R92) (DEDUCED, assumption 56). -/
def State.settle (s : State) (done : List Plan) (pl : Plan) : Plan :=
  let b := s.firstStile pl.t pl.lam pl.s
  let us := s.unitsOf pl.entries
  let p0 := us.foldl (fun p u => max p (s.runningUntil pl.lam u)) b.1
  let p1 := done.foldl (fun p d =>
    ((s.unitsOf d.entries).filter us.contains).foldl (fun p u => max p (s.after1 pl.lam d.p d.entries u)) p) p0
  let p2 := s.afterAlarms pl.lam us p1
  let p3 := s.trailsFrom (s.trailsNow ++ done.flatMap s.trailsOf) pl.entries (max pl.p p2)
  { pl with p := p3, late := pl.late || b.2 || decide (b.1 < p3) }

/-- A plan inserted into a list ordered by R74, equal orders in the order taken. -/
def insertPlan (p : Plan) : List Plan → List Plan
  | [] => [p]
  | q :: qs => if p.order < q.order then p :: q :: qs else q :: insertPlan p qs

/-- Every plan settled anew: those whose load has started stay, the others in the order of R74, none
earlier than it was (R73). A standby keeps the Stiles of the active (R76) (DEDUCED, assumption 56; DEDUCED, assumption 78). -/
def State.replan (s : State) : State :=
  if s.standby then s else
  let fixed := s.hamp.plans.filter (·.loading)
  let rest := (s.hamp.plans.filter fun p => !p.loading).foldl (fun acc p => insertPlan p acc) []
  let done := rest.foldl (fun acc p => acc ++ [s.settle acc p]) fixed
  { s with hamp := { s.hamp with plans := done } }

/-- Members in ascending HID order (R69). -/
def insertMember (m : Member) : List Member → List Member
  | [] => [m]
  | q :: qs => if m.hid < q.hid then m :: q :: qs else q :: insertMember m qs

/-- A final notification for a member of a Hamper or group: COMMITTED for HAMPER_CLOSE, HAMPER_RAW and
SCENE_RECALL, COMPLETE for the others (R116, R453, R468) (DEDUCED, assumption 53). -/
def State.memberFinal (s : State) (m : Member) (code : Nat) (late : Bool) (p held discarded : Nat) : State :=
  match m.tok with
  | none => s
  | some t =>
    if m.internal then s.complete (some t) code (flag late)
    else s.final t ⟨0x8002, t.tag, [s.mtil, word (code + 65536 * flag late), word (m.hid + 65536 * m.gid)]
      ++ mtiWords p ++ [word held, word discarded]⟩

/-- Members discarded: their tags end with a code (DEDUCED, assumption 53). -/
def dropMembers (code : Nat) (ms : List Member) (p : Nat) (s : State) : State :=
  s.each ms fun m s => s.memberFinal m code false p 0 0

/-- A complete Hamper or group planned; answers the state and the planned Stile (R72–R75). -/
def State.submit (s : State) (ms : List Member) (stile : Nat) : State × Nat :=
  let ms := ms.foldl (fun acc m => insertMember m acc) []
  let n := (ms.map fun m => m.entries.length).sum
  let lam := s.lead n
  let pl : Plan := ⟨ms, stile, s.mti, lam, 0, false, false, 0, 0⟩
  let s := { s with hamp := { s.hamp with plans := s.hamp.plans ++ [pl] } }.replan
  let h := (ms.head?).map (·.hid)
  let p := ((s.hamp.plans.find? fun q => (q.members.head?).map (·.hid) == h).map (·.p)).getD 0
  (s, p)

/-- The Stile a member would be planned at were its group complete now (reply of an incomplete group) (DEDUCED, assumption 76). -/
def State.provisional (s : State) (m : Member) : Nat :=
  (s.firstStile s.mti (s.lead m.entries.length) m.stile).1

/-- A member taken: planned at once, or once its group is complete (R66). -/
def State.takeMember (s : State) (m : Member) : State × Nat :=
  if m.gid = 0 then s.submit [m] m.stile
  else
    let grp := s.hamp.waiting.filter (·.gid == m.gid)
    if grp.length + 1 = m.gsize then
      let s := { s with hamp := { s.hamp with waiting := s.hamp.waiting.filter (·.gid != m.gid) } }
      s.submit (grp ++ [m]) m.stile
    else
      let p := s.provisional m
      ({ s with hamp := { s.hamp with waiting := s.hamp.waiting ++ [m] } }, p)

/-- Whether a member contradicts the members of its group already taken, or its group is already
complete and pending (R66) (DEDUCED, assumption 52). -/
def State.groupClash (s : State) (gid gsize stile : Nat) : Bool :=
  gid != 0 && s.hamp.waiting.any fun m => m.gid == gid && (m.gsize != gsize || m.stile != stile)

/-- The next HID of a Hamper the firmware makes (R453) (DESIGN CHOICE, assumption 12). -/
def State.freshHid (s : State) : Nat :=
  ((List.range 65).map fun i => 0xF000 + (s.hamp.nextHid - 0xF000 + i) % 0x1000).find? (fun h => !s.hidInUse h)
    |>.getD s.hamp.nextHid

/-- A basic command submitted as one Hamper (R453): checked as a whole with the codes given (R64), counted (R65),
and answered SCHEDULED with its planned Stile. -/
def State.asHamper (s : State) (c : Cmd) (code : Nat) (es : List Entry) (stile : Nat)
    (handle : Nat := 0) (extra : List Word := []) (codes : List Nat := []) : State × Rep :=
  let codes := s.hamperCodes c.sender .basic es ++ codes
  let full := decide (64 ≤ s.hamperCount)
  match worst (codes ++ if full then [rcNoSpace] else []) with
  | some rc => ((s.when (worst codes).isSome fun s => s.raise 203).when (rc == rcNoSpace && full) fun s => s.raise 205, .rc rc)
  | none =>
    let hid := s.freshHid
    let m : Member :=
      { hid := hid, gid := 0, gsize := 1, stile := stile, entries := es, sender := c.sender
        tok := some (s.tokOf c code), internal := true, handle := handle }
    let s := { s with hamp := { s.hamp with nextHid := 0xF000 + (hid + 1 - 0xF000) % 0x1000 } }
    let r := s.submit [m] stile
    (r.1, .reply rcScheduled 0 (extra ++ mtiWords r.2))

end Sys2Proof.Machine
end

