-- ==== Sys2Proof/Machine/Summing.lean ====
section
/-! DEFINITION. The summing engine (R122–R134): coefficient words in BK0, patch gains, column sums and
stage outputs of a round. -/

namespace Sys2Proof.Machine

/-- The base of a coefficient set in BK0 (R130). -/
def setBase (isMatrix setB : Bool) : Nat :=
  match isMatrix, setB with
  | false, false => 0x000000
  | false, true => 0x200000
  | true, false => 0x400000
  | true, true => 0x500000

/-- The size of a coefficient set (R130). -/
def setSize (isMatrix : Bool) : Nat := if isMatrix then 0x100000 else 0x200000

/-- Whether set B of a stage is active (SUM_SETS). -/
def State.activeB (s : State) (isMatrix : Bool) : Bool :=
  if isMatrix then s.on F.SUM_SETS_ACTMAT else s.on F.SUM_SETS_ACTSEND

/-- The coefficient word of a crosspoint in a set (R131) (DEDUCED, assumption 35). -/
def State.coefWord (s : State) (isMatrix setB : Bool) (xp : Nat) : Word :=
  s.memWord (setBase isMatrix setB + 4 * xp)

/-- The state with a coefficient written in a set, its TAP bit left as it was (R129). -/
def State.setCoef (s : State) (isMatrix setB : Bool) (xp : Nat) (c : Int) : State :=
  let w := s.coefWord isMatrix setB xp
  s.setMemWord (setBase isMatrix setB + 4 * xp) (word (w.toNat / 2 ^ 24 * 2 ^ 24 + (BitVec.ofInt 24 c).toNat))

/-- The coefficient of a word, limited as the stage reads it (R123, R131). -/
def wordCoef (w : Word) : Int := coefOf (w.extractLsb' 0 24)

/-- The running transition of a stage, and the last one ended. -/
def State.trans (s : State) (isMatrix : Bool) : Option Trans := if isMatrix then s.path.matrix else s.path.send
def State.transPast (s : State) (isMatrix : Bool) : Option Trans :=
  if isMatrix then s.path.matrixPast else s.path.sendPast

/-- The gain of a ramp at a sample number, rounded to nearest with ties to even (R79, R83, R129); before its
first sample the gain it starts from. -/
def rampGain (frm target : Int) (f : Fade) (n : Nat) : Int :=
  let i := f.at n
  if n < f.start then frm
  else if f.dur ≤ i then target
  else gainMid frm target f.shape (2 * i + 1) (2 * f.dur)

/-- The patch gain that overrides a crosspoint at a sample number (R83, R87). -/
def State.patchGain (s : State) (isMatrix : Bool) (xp n : Nat) : Option Int :=
  let hit (r : PatchRun) : Bool := r.isMatrix == isMatrix && r.xp == xp && decide (r.fade.start ≤ n)
  let last (r : PatchRun) : Bool := match r.cut with
    | some c => decide (n < c)
    | none => !r.fade.over n
  match (s.path.patches.map (·.2)).find? hit with
  | some r => some (rampGain r.frm r.target r.fade n)
  | none =>
    ((s.path.patchPast.find? fun r => hit r && last r).map fun r => rampGain r.frm r.target r.fade n)

/-- The set a sample number is formed with, and the transition it lies in: the set is the old one in and before
a transition, the new one from its end on (R82, R128). -/
def State.setAt (s : State) (isMatrix : Bool) (n : Nat) : Bool × Option Trans :=
  let within (t : Trans) : Bool × Option Trans :=
    if t.fade.over n then (!t.oldB, none) else (t.oldB, if n < t.fade.start then none else some t)
  let past : Bool × Option Trans := match s.transPast isMatrix with
    | some t => if t.fade.over n then (s.activeB isMatrix, none) else within t
    | none => (s.activeB isMatrix, none)
  match s.trans isMatrix with
  | some t => if n < t.fade.start then past else within t
  | none => past

/-- The gain of a crosspoint at a sample number: the patch gain, or the transition's, or that of the set in
force (R83, R86, R87). -/
def State.gainAt (s : State) (isMatrix : Bool) (xp n : Nat) : Int :=
  match s.patchGain isMatrix xp n with
  | some g => g
  | none =>
    match s.setAt isMatrix n with
    | (b, some t) =>
      rampGain (wordCoef (s.coefWord isMatrix b xp)) (wordCoef (s.coefWord isMatrix (!b) xp)) { t.fade with shape := 0 } n
    | (b, none) => wordCoef (s.coefWord isMatrix b xp)

/-- Sample `i` of a source, tap or bus sum in the round in process. -/
def State.sample (s : State) (idx i : Nat) : Int := ((kgetD s.sig.cur idx []).getD i 0).toInt
/-- Sample `i` of the round before. -/
def State.samplePrev (s : State) (idx i : Nat) : Int := ((kgetD s.sig.prev idx []).getD i 0).toInt

/-- What a sink receives at sample number `n` once released after an engine start: zero until its source
is valid, then a ramp of 10 ms (R53). -/
def State.gated (s : State) (sink n : Nat) (v : Int) : Int :=
  match s.eng.gate with
  | none => v
  | some m =>
    match kget m sink with
    | none => 0
    | some g =>
      let d := s.samplesOf 1000
      if n < g then 0
      else if n < g + d then nearQuot (v * (2 * (n - g) + 1 : Nat)) (2 * d) else v

/-- Sample `i` of what a sink receives from a source index: one round late under R18, silence from an index
that is not valid in the class (R32). -/
def State.taken (s : State) (sink src i : Nat) : Int :=
  if !srcValid s.rateClass src then 0
  else if roundDelayed sink src then s.samplePrev src i else s.sample src i

/-- What a multiplexer's old source gives at sample number `n`: the source, or the weighted pair of a
crossfade, whose weights an alarm entry froze from sample `till` on (R79, R89, R93) (DESIGN CHOICE, assumption 88). -/
def OldSrc.value (get : Nat → Int) (n : Nat) : OldSrc → Int
  | .src i => get i
  | .faded old new f till =>
    if n < f.start then old.value get n
    else
      let k := match till with
        | some p => if p ≤ n then p - 1 else n
        | none => n
      if f.over k then get new
      else (satTo 24 (crossSum (old.value get n) (get new) f.shape (2 * f.at k + 1) (2 * f.dur))).1

/-- An old source as the samples from sample number `b` on need it: crossfades that end before are dropped. -/
def OldSrc.trim (b : Nat) : OldSrc → OldSrc
  | .src i => .src i
  | .faded old new f till =>
    if till.isNone && f.over b then .src new else .faded (old.trim b) new f till

/-- A multiplexer as the old source of a change at sample number `n` (R50, R93). -/
def Mux.asOld (m : Mux) (n : Nat) : OldSrc :=
  match m.old, m.past with
  | some (o, f), _ => .faded o m.src f (if f.over n then none else some n)
  | none, some (o, f) => .faded o m.src f none
  | none, none => .src m.src

/-- What a multiplexer gives at sample number `n`. -/
def Mux.value (m : Mux) (get : Nat → Int) (n : Nat) : Int :=
  match m.old, m.past with
  | some (o, f), _ => (OldSrc.faded o m.src f none).value get n
  | none, some (o, f) => (OldSrc.faded o m.src f none).value get n
  | none, none => get m.src

/-- What a sink receives at sample `i` of the round, sample number `n`, once its gate is open (R53, R79, R89). -/
def State.sinkMixed (s : State) (sink n i : Nat) : Int :=
  s.gated sink n ((s.mux sink).value (fun src => s.taken sink src i) n)

/-- What a sink receives: the value held while the patch unit is reset, else the multiplexer's (R413). -/
def State.sinkSample (s : State) (sink n i : Nat) : Int :=
  match s.sig.hold with
  | some (b, vs) => if b ≤ n ∧ n < b + s.roundLen then kgetD vs sink 0 else s.sinkMixed sink n i
  | none => s.sinkMixed sink n i

/-- The fades of a selector, newest first, each with whether it goes to the backup (R28, R29). -/
def State.selRuns (s : State) (j : Nat) : List (Bool × Fade × Nat × Nat) :=
  ((s.sel j).fade.map fun f => (s.get (F.PATCH_FOSTAT_SEL j) == 3, f)).toList ++ (s.sel j).past

/-- The input of strip `j` at sample `i` of the round, sample number `n`: the multiplexer its selector is on, or the
equal-power crossfade of the two from the position the fade started at (R28, R29). -/
def State.stripInput (s : State) (j n i : Nat) : Int :=
  let prim := s.sinkSample (2048 + j) n i
  let back := s.sinkSample (3072 + j) n i
  let on (toB : Bool) : Int := if toB then back else prim
  match s.selRuns j with
  | [] => on (s.get (F.PATCH_FOSTAT_SEL j) % 2 == 1)
  | r :: rs =>
    match (r :: rs).find? fun x => decide (x.2.1.start ≤ n) with
    | some (toB, f, num, den) =>
      if f.over n then on toB
      else (satTo 24 (crossSum (on !toB) (on toB) 1
        (num * (2 * f.dur) + (den - num) * (2 * f.at n + 1)) (den * (2 * f.dur)))).1
    | none => on (!((r :: rs).getLastD r).1)

/-- The rows of a block of a stage inside the extent: 64 of the send stage's strips, of the matrix stage's buses,
or from block 8 on of its assignable inputs (R122, R133, R134). -/
def State.blockRows (s : State) (isMatrix : Bool) (q : Nat) : List Nat :=
  let rows (n : Nat) : List Nat := (List.range 64).map (64 * q + ·) |>.filter (decide <| · < n)
  if isMatrix then
    if q < 8 then rows (min s.sig.nbus (s.cap 512)) else (rows (512 + s.cap 256))
  else rows (min s.sig.nstrip (s.cap 1024))

/-- What a row contributes to a column at sample `i` under a set: tap and coefficient as the word gives them, the
patch gain in its place (R20, R122, R129, R131). -/
def State.stageRow (s : State) (isMatrix setB : Bool) (col n i row : Nat) : Int × Int :=
  let xp := col * 1024 + row
  let w := s.coefWord isMatrix setB xp
  let g := (s.patchGain isMatrix xp n).getD (wordCoef w)
  if isMatrix then (if row < 512 then s.sample (4096 + row) i else s.sinkSample (4096 + (row - 512)) n i, g)
  else (s.sample (if bit w 24 then 3072 + row else 2048 + row) i, g)

/-- The accumulators of a column at one sample after a block: rows added in ascending order, into one
accumulator, or in a transition under each set, and the saturating additions counted (R125, R128). -/
def State.blockSum (s : State) (isMatrix : Bool) (q col n i : Nat) (a : ColAcc) : ColAcc :=
  let rows := s.blockRows isMatrix q
  let under (b : Bool) (x : Int × Nat) : Int × Nat := columnAdd x (rows.map (s.stageRow isMatrix b col n i))
  match s.setAt isMatrix n with
  | (b, none) =>
    let x := under b (a.one, a.sat)
    { a with one := x.1, sat := x.2 }
  | (b, some _) =>
    let x := under b (a.one, a.sat)
    let y := under (!b) (a.two, x.2)
    ⟨x.1, y.1, y.2⟩

/-- The final sum of a column at sample number `n` (R128). -/
def State.stageSum (s : State) (isMatrix : Bool) (n : Nat) (a : ColAcc) : Int :=
  match s.setAt isMatrix n with
  | (_, some t) => transitionSum a.one a.two (t.fade.at n) t.fade.dur
  | (_, none) => a.one

/-- The headroom shift in force of a column (R127). -/
def State.headroom (s : State) (isMatrix : Bool) (col : Nat) : Nat :=
  if isMatrix then s.get (F.SUM_HRM_H col) else s.get (F.SUM_HRB_H col)

/-- The first sample number of the round in process: one round before the last tick (R49). -/
def State.procBase (s : State) : Nat := s.eng.base - s.roundLen

/-- The tap of a column: a matrix output, or a bus sum. -/
def colIdx (isMatrix : Bool) (col : Nat) : Nat := if isMatrix then 4608 + col else 8192 + col

/-- The accumulators of a column, one for each sample of the round. -/
def State.colAccs (s : State) (isMatrix : Bool) (col : Nat) : List ColAcc :=
  kgetD s.sig.accs (colIdx isMatrix col) (List.replicate s.roundLen {})

/-- A job of block `q` on one column: it reads the coefficient words as they stand (R132). -/
def blockColumn (isMatrix : Bool) (q col : Nat) (s : State) : State :=
  let a := (s.colAccs isMatrix col).zipIdx.map fun x => s.blockSum isMatrix q col (s.procBase + x.2) x.2 x.1
  { s with sig := { s.sig with accs := kset s.sig.accs (colIdx isMatrix col) a } }

/-- One column's outputs for the round, stored and counted: ACC once per saturating addition, OUT once
per saturated output sample (R125, R126). -/
def stageColumn (isMatrix : Bool) (col : Nat) (s : State) : State :=
  let r : List (Sample × Bool × Nat) := (s.colAccs isMatrix col).zipIdx.map fun x =>
    let o := stageOut (s.stageSum isMatrix (s.procBase + x.2) x.1) (s.headroom isMatrix col)
    (o.1, o.2, x.1.sat)
  let cnt : Nat := if isMatrix then R.SUM_MSAT col else R.SUM_BSAT col
  let acc : Nat := (r.map fun (x : Sample × Bool × Nat) => x.2.2).sum
  let out : Nat := (r.filter fun (x : Sample × Bool × Nat) => x.2.1).length
  let s := { s with sig := { s.sig with cur := kset s.sig.cur (colIdx isMatrix col) (r.map Prod.fst) } }
  let s := s.when (acc != 0) fun s =>
    (s.put ⟨cnt, 31, 16⟩ (min 65535 (s.get ⟨cnt, 31, 16⟩ + acc))).put F.SUM_STAT_ACCSAT 1
  s.when (out != 0) fun s =>
    (s.put ⟨cnt, 15, 0⟩ (min 65535 (s.get ⟨cnt, 15, 0⟩ + out))).put F.SUM_STAT_OUTSAT 1

/-- The columns of a stage inside the extent in force (R133). -/
def State.columns (s : State) (isMatrix : Bool) : Nat :=
  if isMatrix then min s.sig.nout (s.cap 256) else min s.sig.nbus (s.cap 512)

/-- A block of a stage: its rows added into every column (R125, R132). -/
def stageBlock (isMatrix : Bool) (q : Nat) (s : State) : State :=
  s.each (List.range (s.columns isMatrix)) fun c s => blockColumn isMatrix q c s

/-- Every output of a stage for the round (R125–R128). -/
def stageOutputs (isMatrix : Bool) (s : State) : State :=
  s.each (List.range (s.columns isMatrix)) fun c s => stageColumn isMatrix c s

/-- Every output of a stage held for the round: it repeats its last sample (R201). -/
def stageHold (isMatrix : Bool) (s : State) : State :=
  s.each (List.range (s.columns isMatrix)) fun c s =>
    let idx := colIdx isMatrix c
    let v := (kgetD s.sig.prev idx []).getLastD 0
    { s with sig := { s.sig with cur := kset s.sig.cur idx (List.replicate s.roundLen v) } }

end Sys2Proof.Machine
end

