-- ==== Sys2Proof/Machine/Modules.lean ====
section
/-! DEFINITION. What the standard modules compute (R19, R22, R90, R208–R229, R499): the sections of the
channel, bus and output strips in their order, the parallel runs of R90, the priority mixer, the
ambient-noise gain, players and generators, sample by sample. Where R499 leaves the numbers to the module
image, a section is a free function of its parameters, its contents and its input. -/

namespace Sys2Proof.Machine

/-! ### Parameters at a sample (R79, R90, R210) -/

/-- The round-start sample number at or before a sample number. -/
def State.roundSample (s : State) (n : Nat) : Nat :=
  let b := s.eng.base
  let k := s.roundLen
  if b ≤ n then b + (n - b) / k * k else b - (b - n + k - 1) / k * k

/-- A value between two at r = num/den by the law of its Change column (R90, R210): logarithmically, or linearly in
its unit; a ratio on its way to or from ∞ has no law. -/
def lawMid (chg : Change) (f : Nat) (frm dest : Word) (num den : Nat) : Word :=
  if f = 0x0302 ∧ (frm = 0xFFFF#32 ∨ dest = 0xFFFF#32) then word (clampNat 100 2000 (Config.ratioMid frm dest num den))
  else match chg with
  | .log => BitVec.ofInt 32 (logMid frm.toNat dest.toNat num den)
  | .db => BitVec.ofInt 32 (nearQuot (frm.toInt * ((den : Int) - num) + dest.toInt * num) den)
  | _ => BitVec.ofInt 32 (nearQuot ((frm.toNat : Int) * ((den : Int) - num) + dest.toNat * num) den)

/-- The value of a moving parameter at a sample number: evaluated at its first sample and at each round-start
Stile, and held between (R90). -/
def State.moveValue (s : State) (m : Move) (n : Nat) : Word :=
  let q := max m.fade.start (s.roundSample n)
  if n < m.fade.start then m.frm
  else if m.fade.over q then m.dest
  else
    match paramRow s.rateCode (m.key / 65536) (m.key % 65536) with
    | some r => lawMid r.chg (m.key % 65536) m.frm m.dest (2 * m.fade.at q + 1) (2 * m.fade.dur)
    | none => m.dest

/-- The moves of a parameter, newest first, with those that samples still in the engine belong to. -/
def State.movesOf (s : State) (inst f : Nat) : List Move :=
  (kget s.path.moves (paramKey inst f)).toList ++ s.path.movePast.filter fun m => m.key == paramKey inst f

/-- The value of a parameter at a sample number (R90). -/
def State.valueAt (s : State) (inst f n : Nat) : Word :=
  let ms := s.movesOf inst f
  s.activeOf inst f (match ms.find? fun m => decide (m.fade.start ≤ n) with
    | some m => s.moveValue m n
    | none => match ms.getLast? with
      | some m => m.frm
      | none => s.param inst f)

/-- Whether a field is a mute: 1 is a gain of zero (R80, R214, R218). -/
def isMute (inst f : Nat) : Bool :=
  match modKind inst with
  | some .out => f == 0x2001
  | _ => f == 0x0700

/-- The level a value of a gain field stands for. -/
def gainLevel (inst f : Nat) (w : Word) : Int := if isMute inst f then (if w = 1#32 then -14400 else 0) else w.toInt

/-- A gain field's amplitude at a sample of its move, formed for every sample along the Trail's shape (R79, R210). -/
def moveGain (m : Move) (n : Nat) : Int :=
  let inst := m.key / 65536
  let f := m.key % 65536
  let a0 := m.amp.getD (ampOf (gainLevel inst f m.frm))
  let a1 := ampOf (gainLevel inst f m.dest)
  let num := 2 * m.fade.at n + 1
  let den := 2 * m.fade.dur
  if n < m.fade.start then a0
  else if m.fade.over n then a1
  else if m.fade.shape = 2 then
    levelMid (match m.amp with | some a => Config.dbOf a | none => gainLevel inst f m.frm) (gainLevel inst f m.dest) 2 num den
  else nearQuot (a0 * ((den : Int) - num) + a1 * num) den

/-- The amplitude of a gain field at a sample number. -/
def State.gainOf (s : State) (inst f n : Nat) : Int :=
  let ms := s.movesOf inst f
  match ms.find? fun m => decide (m.fade.start ≤ n) with
  | some m => moveGain m n
  | none => match ms.getLast? with
    | some m => moveGain m n
    | none => ampOf (gainLevel inst f (s.param inst f))

/-! ### Sections (R213–R218, R499) -/

/-- The contents of the sections of an instance, by section, and a signal passing through them. -/
abbrev Dsp := KMap (List Int)
abbrev Sig := Dsp × Int

/-- What a section reads at a sample: its control values and gains, a key source with the instance's own signal,
the engine rate, and the headroom shift of the signal it works on. -/
structure Env where
  c : Nat → Word
  g : Nat → Int
  key : Nat → Int → Int
  fs : Nat
  h : Nat

/-- A switch. -/
def Env.on (e : Env) (f : Nat) : Bool := e.c f == 1#32
/-- A control value as a number, and in signed 0.01 dB. -/
def Env.nat (e : Env) (f : Nat) : Nat := (e.c f).toNat
def Env.db (e : Env) (f : Nat) : Int := (e.c f).toInt

/-- A gain applied. -/
def gained (amp : Int) (x : Sig) : Sig := (x.1, scaled x.2 amp)

/-- A filter of R499 in a section. -/
def filtered (k : Nat) (d : Design) (f : Nat) (g : Int) (q fs : Nat) (x : Sig) : Sig :=
  let r := Config.filter d f g q fs (kgetD x.1 k []) x.2
  (kset x.1 k r.st, r.out)

/-- A high-pass or low-pass of a channel strip: Butterworth of order 2 or 4 (R499). -/
def passFilter (e : Env) (k f : Nat) (high : Bool) (x : Sig) : Sig :=
  if e.on f then filtered k (.butterworth high (if e.on (f + 2) then 4 else 2)) (e.nat (f + 1)) 0 0 e.fs x else x

/-- A crossover: Butterworth of order 2, 4 or 8, or Linkwitz-Riley, the square of a Butterworth of half that
order (R499). -/
def crossover (e : Env) (k f : Nat) (high : Bool) (x : Sig) : Sig :=
  if e.on f then
    let order := 2 ^ (e.nat (f + 3) + 1)
    let b (k o : Nat) : Sig → Sig := filtered k (.butterworth high o) (e.nat (f + 1)) 0 0 e.fs
    if e.on (f + 2) then b (k + 1) (order / 2) (b k (order / 2) x) else b k order x
  else x

/-- The design of a band of a parametric equaliser (R214, R499). -/
def bandDesign (t : Nat) : Design :=
  if t = 0 then .bell else if t = 1 then .lowShelf else if t = 2 then .highShelf else .notch

/-- A parametric equaliser of `bands` bands. -/
def equaliser (e : Env) (bands : Nat) (x : Sig) : Sig :=
  (List.range bands).foldl (fun x n =>
    let f := 0x1000 + 0x100 * n
    if e.on f then
      filtered (10 + n) (bandDesign (e.nat (f + 1))) (e.nat (f + 2)) (if e.nat (f + 1) = 3 then 0 else e.db (f + 3))
        (e.nat (f + 4)) e.fs x
    else x) x

/-- The level of a key on a detector, stated at the restored level (R215, R216). -/
def detected (e : Env) (k kind : Nat) (v : Int) (d : Dsp) : Dsp × Int :=
  let r := Config.detector kind e.fs (kgetD d k []) v
  (kset d k r.st, r.out + headDb e.h)

/-- The ratio of a compressor × 100; none for ∞ (R214). -/
def ratioOf (n : Nat) : Option Nat := if n = 65535 then none else some n

/-- The compressor: the static curve, attack and release, and its make-up gain (R214, R215). -/
def compressor (e : Env) (x : Sig) : Sig :=
  if e.on 0x0300 then
    let l := detected e 4 (if e.on 0x0308 then 1 else 0) (e.key (e.nat 0x0307) x.2) x.1
    let dest := compCurve l.2 (e.db 0x0301) (ratioOf (e.nat 0x0302)) (e.nat 0x0303)
    let g0 := (kgetD l.1 5 []).getD 0 0
    let g := onePole g0 dest (if dest < g0 then e.nat 0x0304 else e.nat 0x0305) e.fs
    (kset l.1 5 [g], scaled (scaled x.2 (ampOf g)) (e.g 0x0306))
  else x

/-- The gate: RANGE while its key stays below the threshold, after the hold has run out (R215). -/
def gate (e : Env) (x : Sig) : Sig :=
  if e.on 0x0200 then
    let l := detected e 2 3 (e.key (e.nat 0x0206) x.2) x.1
    let st := kgetD l.1 3 []
    let r := holdGain (decide (e.db 0x0201 ≤ l.2)) (st.getD 0 0) (st.getD 1 0) 0 (e.db 0x0202)
      (nearestSamples (e.nat 0x0204) e.fs) (e.nat 0x0203) (e.nat 0x0205) e.fs
    (kset l.1 3 [r.1, r.2], scaled x.2 (ampOf r.1))
  else x

/-- The ducker: DEPTH while its key exceeds the threshold, and for the hold afterwards (R215). -/
def ducker (e : Env) (x : Sig) : Sig :=
  if e.on 0x0400 then
    let l := detected e 6 4 (e.key (e.nat 0x0401) x.2) x.1
    let st := kgetD l.1 7 []
    let r := holdGain (decide (e.db 0x0402 < l.2)) (st.getD 0 0) (st.getD 1 0) (e.db 0x0403) 0
      (nearestSamples (e.nat 0x0405) e.fs) (e.nat 0x0404) (e.nat 0x0406) e.fs
    (kset l.1 7 [r.1, r.2], scaled x.2 (ampOf r.1))
  else x

/-- A delay line of at most `most` samples, read `d` samples back (R214, R216, R225). -/
def delayed (k most d : Nat) (x : Sig) : Sig :=
  let l := (x.2 :: kgetD x.1 k []).take (most + 1)
  (kset x.1 k l, l.getD d 0)

/-- The FIR: the convolution with the set of coefficients in section 51 (R224). -/
def fir (e : Env) (x : Sig) : Sig :=
  if e.on 0x5000 then
    let cs := kgetD x.1 51 []
    let l := (x.2 :: kgetD x.1 34 []).take cs.length
    (kset x.1 34 l, nearQuot (((cs.zip l).map fun p => p.1 * p.2).sum) (2 ^ 23))
  else x

/-- The limiter: its gain from the peak of its input over the look-ahead window, and no sample above LIM_THR; the
look-ahead delays whether it is on or off (R216, R499). -/
def limiter (e : Env) (x : Sig) : Sig :=
  let look := nearestSamples (e.nat 0x0803) e.fs
  let l := (x.2 :: kgetD x.1 36 []).take (nearestSamples 2000 e.fs + 1)
  let top := ampOf (e.db 0x0801)
  let peak : Int := (l.take (look + 1)).foldl (fun a v => max a (v.natAbs : Int)) 0
  let need : Int := if peak ≤ top then 0 else min 0 (e.db 0x0801 - Config.dbOf peak)
  let g0 := (kgetD x.1 37 []).getD 0 0
  let g := if need < g0 then clampInt need g0 (Config.lookGain g0 need look) else onePole g0 need (e.nat 0x0802) e.fs
  let v := l.getD look 0
  (kset (kset x.1 36 l) 37 [g], if e.on 0x0800 then clampInt (-top) (min top (2 ^ 23 - 1)) (scaled v (ampOf g)) else v)

/-! ### The strips in parts (R213, R216, R217, R233) -/

/-- The sections of a channel strip up to an insert point or the pre-fader tap (R213). -/
def stripSection (e : Env) (k : Nat) (x : Sig) : Sig :=
  if k = 0 then
    let x := gained (e.g 0x0000) x
    let x : Sig := if e.on 0x0001 then (x.1, -x.2) else x
    gate e (passFilter e 1 0x0110 false (passFilter e 0 0x0100 true x))
  else delayed 8 (nearestSamples 10000 e.fs) (nearestSamples (e.nat 0x0500) e.fs) (ducker e (compressor e (equaliser e 8 x)))

/-- The sections of a bus strip (R216). -/
def busSection (e : Env) (k : Nat) (x : Sig) : Sig :=
  if k = 0 then x
  else if k = 1 then
    delayed 8 (nearestSamples 100000 e.fs) (nearestSamples (e.nat 0x0500) e.fs) (compressor e (equaliser e 8 x))
  else
    let x := gained (e.g 0x0700) (gained (e.g 0x0600) x)
    limiter e (x.1, restored e.h x.2)

/-- The sections of an output strip behind its mixer: the ambient-noise gain, the equaliser and crossover, the FIR
with the alignment delay, the add-back and the limiter (R217). -/
def outSection (e : Env) (anc : Int) (k : Nat) (x : Sig) : Sig :=
  if k = 0 then
    let peak := max ((kgetD x.1 50 []).getD 0 0) (x.2.natAbs : Int)
    (kset x.1 50 [peak], if e.on 0x3000 then scaled x.2 (ampOf anc) else x.2)
  else if k = 1 then crossover e 32 0x4004 false (crossover e 30 0x4000 true (equaliser e 16 x))
  else if k = 2 then
    let x := delayed 35 262143 (nearestSamples (e.nat 0x6000) e.fs) (fir e x)
    limiter e (x.1, restored e.h x.2)
  else x

/-! ### Keys and the priority mixer (R212, R217–R221) -/

/-- Sample `i` of a key or sense source read at a consumer position; 8191 is the instance's own signal (R212). -/
def State.keySample (s : State) (pos i src : Nat) (own : Int) : Int :=
  if src = 8191 then own
  else if !srcValid s.rateClass src then 0
  else if tapPos src != 0 && decide (pos ≤ tapPos src) then s.samplePrev src i else s.sample src i

/-- The source a multiplexer selects at a sample number: the one it fades to, from the first sample of the fade. -/
def OldSrc.srcAt (n : Nat) : OldSrc → Nat
  | .src i => i
  | .faded old new f _ => if n < f.start then old.srcAt n else new

/-- The headroom shift of the matrix output the input of output strip `o` selects, 0 for any other tap or source
(R22, R217). -/
def State.outHeadroom (s : State) (o n : Nat) : Nat :=
  let src := ((s.mux (4352 + o)).asOld n).srcAt n
  if 4608 ≤ src ∧ src < 4864 then s.headroom true (src - 4608) else 0

/-- Whether and how far a level of a priority mixer is present, as num/den: a change of ACT that leaves the highest
level ramps it over 0.25 ms (R220). -/
def State.presence (s : State) (o l n : Nat) (acts : List Nat) : Nat × Nat :=
  let whole (b : Bool) : Nat × Nat := (flag b, 1)
  match kget s.mods.lvlRamp (256 * o + l) with
  | some (q, up) =>
    let d := s.minRamp
    if n < q then whole (!up)
    else if q + d ≤ n then whole (acts.contains l)
    else (if up then 2 * (n - q) + 1 else 2 * d - (2 * (n - q) + 1), 2 * d)
  | none => whole (l == 0 || acts.contains l)

/-- The mix of output strip `o` formed with a list of active levels: the highest at full weight, every lower active
level and level 0 weighted by its DUCK (R217, R219, R221). -/
def State.mixOf (s : State) (o n : Nat) (e : Env) (level0 : Int) (src : Nat → Int) (acts : List Nat) : Int :=
  let top := acts.foldl max 0
  let zone (v : Int) : Int := scaled (scaled v (e.g 0x2000)) (e.g 0x2001)
  let one (l : Nat) : Int :=
    let v := if l = 0 then zone level0
      else
        let v := scaled (nearQuot (src l) (2 ^ e.h)) (e.g (0x2002 + 0x100 * l))
        if l = 7 then v else zone v
    let v := if l < top then scaled v (e.g (0x2003 + 0x100 * top)) else v
    let p := s.presence o l n acts
    if p.1 = 0 then 0 else nearQuot (v * p.1) p.2
  ((List.range 8).map one).sum

/-- An outgoing mix (R220). -/
def MixOld.value (mix : List Nat → Int) : MixOld → Int
  | .mix acts => mix acts
  | .frozen old acts num den => crossSum (old.value mix) (mix acts) 0 num den

/-- The active levels of the priority mixer of output strip `o`. -/
def State.acts (s : State) (o : Nat) : List Nat :=
  (List.range 8).filter fun l => l != 0 && s.param (1536 + o) (0x2000 + 0x100 * l) == 1#32

/-- The mixer output at a sample number: the mix, or the linear crossfade between two (R219, R220). -/
def State.mixAt (s : State) (o n : Nat) (mix : List Nat → Int) : Int :=
  let runs := (kget s.mods.mixers o).toList ++ (s.mods.mixPast.filter fun x => x.1 == o).map (·.2)
  match runs.find? fun r => decide (r.fade.start ≤ n) with
  | some r =>
    if r.fade.over n then mix (if runs.head? = some r then s.acts o else r.acts)
    else crossSum (r.old.value mix) (mix r.acts) 0 (2 * r.fade.at n + 1) (2 * r.fade.dur)
  | none => match runs.getLast? with
    | some r => r.old.value mix
    | none => mix (s.acts o)

/-! ### Parallel runs (R90, R93) -/

/-- An old state after one sample, and its outputs. -/
def ParOld.run (go : List (Nat × Word) → Dsp → Dsp × List Int) : ParOld → ParOld × List Int
  | .one vals d => let r := go vals d; (.one vals r.1, r.2)
  | .pair old vals d shape num den =>
    let a := old.run go
    let b := go vals d
    (.pair a.1 vals b.1 shape num den, List.zipWith (fun x y => crossSum x y shape num den) a.2 b.2)

/-- Old values noted in an old state for the fields it does not name yet. -/
def ParOld.note (vs : List (Nat × Word)) : ParOld → ParOld
  | .one vals d => .one (vals ++ vs) d
  | .pair old vals d shape num den => .pair (old.note vs) (vals ++ vs) d shape num den

/-- The parallel runs of an instance, newest first, with those that samples still in the engine belong to. -/
def State.runsOf (s : State) (inst : Nat) : List ParRun :=
  (kget s.path.par inst).toList ++ (s.path.parPast.filter fun x => x.1 == inst).map (·.2)

/-- The old values that runs which begin after sample `n` leave in force at `n`, oldest first. -/
def overlay (rs : List ParRun) (n : Nat) : List (Nat × Word) :=
  (rs.reverse.filter fun r => decide (n < r.fade.start)).flatMap (·.old)

/-- The old state of a run at its first sample: the sections as they are, and where an earlier pair still ran, that
pair frozen at the weights it gave the sample before (R93). -/
def ParRun.begin (r : ParRun) (rs : List ParRun) (d : Dsp) : ParOld :=
  let n := r.fade.start
  match rs.find? fun x => decide (x.fade.start < n) with
  | some x =>
    match if x.fade.over n then none else x.state with
    | some old => .pair (old.note r.old) r.old d x.fade.shape (2 * x.fade.at (n - 1) + 1) (2 * x.fade.dur)
    | none => .one r.old d
  | none => .one r.old d

/-- One sample of an instance: its sections, or old and new state in parallel with their outputs crossfaded by the
Trail's weights (R90). `sync` takes up what a commit at this sample changes in the new state. -/
def parSample (n : Nat) (sync : Dsp → Dsp) (go : List (Nat × Word) → Dsp → Dsp × List Int)
    (rs : List ParRun) (d : Dsp) : List ParRun × Dsp × List Int :=
  let ov := overlay rs n
  match (rs.find? fun r => decide (r.fade.start ≤ n)).filter fun r => !r.fade.over n with
  | some r =>
    let old := r.state.getD (r.begin rs d)
    let a := old.run go
    let b := go ov (sync d)
    let rs := rs.map fun x => if x = r then { x with state := some a.1 } else x
    (rs, b.1, List.zipWith (fun x y => crossSum x y r.fade.shape (2 * r.fade.at n + 1) (2 * r.fade.dur)) a.2 b.2)
  | none => let b := go ov (sync d); (rs, b.1, b.2)

/-- The sections of an instance, keyed by section. -/
def State.dspOf (s : State) (inst : Nat) : Dsp :=
  (s.mods.dsp.filter fun x => x.1 / 64 == inst).map fun x => (x.1 % 64, x.2)

/-- The state with the sections and the parallel runs of an instance replaced. -/
def State.setDsp (s : State) (inst : Nat) (rs : List ParRun) (d : Dsp) : State :=
  let put (r : ParRun) : ParRun := (rs.find? fun x => x.fade.start == r.fade.start && x.old == r.old).getD r
  { s with
    mods := { s.mods with dsp := d.foldl (fun m x => kset m (64 * inst + x.1) x.2) s.mods.dsp }
    path := { s.path with
      par := kmod s.path.par inst put
      parPast := s.path.parPast.map fun x => if x.1 == inst then (x.1, put x.2) else x } }

/-- The round of an instance: `go` at each of its N samples; the state left and the outputs, sample by sample. -/
def State.runInst (s : State) (inst : Nat) (sync : Nat → Dsp → Dsp)
    (go : Nat → List (Nat × Word) → Dsp → Dsp × List Int) : State × List (List Int) :=
  let r := (List.range s.roundLen).foldl (fun (acc : (List ParRun × Dsp) × List (List Int)) i =>
    let n := s.procBase + i
    let x := parSample n (sync n) (go i) acc.1.1 acc.1.2
    ((x.1, x.2.1), acc.2 ++ [x.2.2])) ((s.runsOf inst, s.dspOf inst), [])
  (s.setDsp inst r.1.1 r.1.2, r.2)

/-- A control value of an instance at a sample number, old values of a parallel run in place of the new. -/
def State.control (s : State) (inst n : Nat) (vals : List (Nat × Word)) (f : Nat) : Word :=
  match vals.find? fun x => x.1 == f with
  | some x => s.activeOf inst f x.2
  | none => s.valueAt inst f n

/-- What the sections of an instance read at sample `i` of the round. -/
def State.envAt (s : State) (inst pos h i : Nat) (vals : List (Nat × Word)) : Env :=
  { c := s.control inst (s.procBase + i) vals, g := fun f => s.gainOf inst f (s.procBase + i)
    key := s.keySample pos i, fs := s.fs, h := h }

/-- An element of a list of outputs. -/
def column (k : Nat) (l : List (List Int)) : List Int := l.map fun x => x.getD k 0

/-- Values stored as Q1.23, saturated. -/
def stored (l : List Int) : List Sample := l.map fun v => BitVec.ofInt 24 (satTo 24 v).1

/-! ### The FIR set (R224) -/

/-- The FIR set in force of an output strip: the unit impulse, or the words set, cut or filled to the
applied length (R224). -/
def State.firSet (s : State) (o : Nat) : List Word :=
  let n := (s.paramActive (1536 + o) 0x5001).toNat
  let ws := (kget s.mods.fir o).getD [0x7FFFFF00#32]
  (ws ++ List.replicate n 0#32).take n

/-- The coefficients as the convolution takes them, bits 31:8 of each word. -/
def State.firTaps (s : State) (o : Nat) : List Int := (s.firSet o).map fun w => (w.extractLsb' 8 24).toInt

/-- The set an output strip works with, taken up at the sample of a commit that changes it, and where it has none. -/
def State.firSync (s : State) (o n : Nat) (d : Dsp) : Dsp :=
  let changed := (s.runsOf (1536 + o)).any fun r => r.fade.start == n && r.old.any fun x => x.1 == 0x5001 || x.1 == 0x5002
  if changed || (kget d 51).isNone then kset d 51 (s.firTaps o) else d

/-! ### Ambient-noise compensation (R223) -/

/-- The compensation of output strip `o`, its gain counted in 0.01 dB / (1000 fs). -/
def State.anc (s : State) (o : Nat) : AncSt := kgetD s.mods.anc o {}

/-- The gain at sample `i` of the round in 0.01 dB: interpolated linearly in dB across the samples. -/
def State.ancGain (s : State) (o i : Nat) : Int :=
  let a := s.anc o
  let k := 2 * s.roundLen
  nearQuot (a.gainPrev * ((k : Int) - (2 * i + 1)) + a.gain * (2 * i + 1)) (k * (1000 * s.fs))

/-- The step of the compensation after a round whose mixer output reached the magnitude `peak`: the estimate is
updated while that stays below ANC_GATE, and the gain moves towards its value at no more than ANC_RATE; while
the sense source is lost the gain holds and a notice is sent once (R223). -/
def ancStep (o : Nat) (peak : Int) (s : State) : State :=
  let inst := 1536 + o
  let n := s.procBase
  let a := s.anc o
  let src := (s.valueAt inst 0x3001 n).toNat
  let db (f : Nat) : Int := (s.valueAt inst f n).toInt
  if s.valueAt inst 0x3000 n != 1#32 then s
  else if decide (src < 1536) && s.sig.lost.contains src then
    let s' := { s with mods := { s.mods with anc := kset s.mods.anc o { a with gainPrev := a.gain, lostTold := true } } }
    if a.lostTold then s' else s'.notice 0x82 o 0
  else
    let quiet := decide (peak < ampOf (db 0x3006 - headDb (s.outHeadroom o n)))
    let det := (List.range s.roundLen).foldl (fun (x : List Int × Int) i =>
      let r := Config.detector 2 s.fs x.1 (s.keySample 5 i src 0)
      (r.st, r.out)) (a.det, a.est)
    let a := if quiet then { a with det := det.1, est := det.2 } else a
    let unit : Int := (1000 * s.fs : Nat)
    let aim := clampInt 0 (db 0x3004 * unit) ((s.valueAt inst 0x3003 n).toNat * (a.est - db 0x3002) * (s.fs : Int))
    let most : Int := ((s.valueAt inst 0x3005 n).toNat * s.roundLen * 1000 : Nat)
    let g := clampInt (a.gain - most) (a.gain + most) aim
    { s with mods := { s.mods with anc := kset s.mods.anc o { a with gainPrev := a.gain, gain := g, lostTold := false } } }

/-! ### Players and generators (R226–R229) -/

/-- The upsampling factor of the rate class in force (R226). -/
def State.upFactor (s : State) : Nat := if s.rateClass = 0 then 1 else if s.rateClass = 1 then 2 else 4

/-- Whether a message stands in the store for a player: written in full, and of the family the engine runs in. -/
def State.playable (s : State) (msg : Nat) : Bool :=
  match kget s.mods.msgs msg with
  | some m => m.data.length == 3 * m.len && m.rate == s.rateCode % 2
  | none => false

/-- The samples of a message: three bytes each, least significant first (R226). -/
def messageSamples : List Byte → List Int
  | a :: b :: c :: bs => (BitVec.ofNat 24 (bytesNat [a, b, c])).toInt :: messageSamples bs
  | _ => []

/-- The value of a playback at a sample number: message sample i at its start + i × the factor, played LOOPS times
with GAP between, and a fade-out of 0.25 ms once stopped (R226, R228). -/
def State.playAt (s : State) (b : Playback) (n : Nat) : Int :=
  match kget s.mods.msgs b.msg with
  | none => 0
  | some m =>
    let up := s.upFactor
    let gap := (b.gap.toNat * s.fs + 999999) / 1000000
    let turn := m.len * up + gap
    let k := n - b.start
    let v : Int :=
      if !s.playable b.msg || decide (n < b.start) || (b.loops != 0 && decide (b.loops * turn ≤ k)) || decide (m.len * up ≤ k % turn) then 0
      else if k % turn % up = 0 then (messageSamples m.data).getD (k % turn / up) 0
      else Config.upsample (messageSamples m.data) up (k % turn)
    match b.fadeFrom with
    | none => v
    | some f =>
      let d := s.minRamp
      if n < f then v else if f + d ≤ n then 0 else nearQuot (v * ((2 * d : Int) - (2 * (n - f) + 1 : Nat))) (2 * d)

/-- The output of message player `p` at sample `i` of the round. -/
def State.playerSample (s : State) (p i : Nat) : Int :=
  let n := s.procBase + i
  let bs := (kget s.mods.players p).toList ++ (s.mods.playOut.filter fun x => x.1 == p).map (·.2)
  scaled ((bs.map fun b => s.playAt b n).sum) (s.gainOf (1792 + p) 3 n)

/-- What a commit of TYPE at a sample sets in a generator: its phase to 0, and a sweep to its start with the F, F2
and SWT of that sample (R229). Sections: 40 the phase in units of 1/(10 fs) of a cycle, 41 the sweep's first
sample, F, F2, SWT and the phase in 2⁻³² cycles it starts from. -/
def State.genSync (s : State) (g n : Nat) (d : Dsp) : Dsp :=
  let v (f : Nat) : Int := (s.valueAt (1856 + g) f n).toNat
  match kget s.mods.gens g with
  | some r => if r.phase0 = n then kset (kset d 40 [0]) 41 [n, v 1, v 3, v 4, 0] else d
  | none => d

/-- The length of a sweep in samples. -/
def sweepLen (swt fs : Nat) : Nat := (swt * fs + 999999) / 1000000

/-- One sample of a sweep (R229): logarithmic from F to F2, repeated with the values then in force and continuous
phase, or faded out over 0.25 ms at its end. -/
def sweepSample (e : Env) (n fade : Nat) (d : Dsp) : Dsp × Int :=
  let st := kgetD d 41 []
  let at' (k : Nat) : Nat := (st.getD k 0).toNat
  let len := sweepLen (at' 3) e.fs
  let i := n - at' 0
  let phase (i : Nat) : Nat := at' 4 + Config.sweepPhase (at' 1) (at' 2) (at' 3) e.fs i
  if i < len then (d, Config.sine (phase i % 2 ^ 32) (2 ^ 32))
  else if e.on 5 then
    (kset d 41 [n, e.nat 1, e.nat 3, e.nat 4, (phase i % 2 ^ 32 : Nat)], Config.sine (phase i % 2 ^ 32) (2 ^ 32))
  else if i < len + fade then
    (d, nearQuot (Config.sine (phase i % 2 ^ 32) (2 ^ 32) * ((2 * fade : Int) - (2 * (i - len) + 1 : Nat))) (2 * fade))
  else (d, 0)

/-- One sample of a generator by its TYPE (R229): a sine or kite tone of continuous phase, noise from SEED and MTI
limited at four times its RMS level or full scale, or a sweep; LEVEL is its peak, of noise its RMS level. -/
def genSample (e : Env) (n mti fade : Nat) (d : Dsp) : Dsp × List Int :=
  let amp := e.g 2
  match e.nat 0 with
  | 0 => (d, [0])
  | 2 => (d, [clampInt (-(min (4 * amp) (2 ^ 23))) (min (4 * amp) (2 ^ 23 - 1)) (scaled (Config.noise true (e.c 6) mti) amp)])
  | 3 => (d, [clampInt (-(min (4 * amp) (2 ^ 23))) (min (4 * amp) (2 ^ 23 - 1)) (scaled (Config.noise false (e.c 6) mti) amp)])
  | 4 => let r := sweepSample e n fade d; (r.1, [scaled r.2 amp])
  | _ =>
    let ph := ((kgetD d 40 []).getD 0 0).toNat
    (kset d 40 [((ph + e.nat 1) % (10 * e.fs) : Nat)], [scaled (Config.sine ph (10 * e.fs)) amp])

/-! ### Rounds of the instances -/

/-- A segment of sections run one after another. -/
def sections (f : Nat → Sig → Sig) (ks : List Nat) (x : Sig) : Sig := ks.foldl (fun x k => f k x) x

/-- Sections `ks` of channel strip `j` over the round's audio `ins`. -/
def State.stripRound (s : State) (j : Nat) (ks : List Nat) (ins : List Int) : State × List Int :=
  let r := s.runInst j (fun _ d => d) fun i vals d =>
    let x := sections (stripSection (s.envAt j 1 0 i vals)) ks (d, ins.getD i 0)
    (x.1, [x.2])
  (r.1, column 0 r.2)

/-- Sections `ks` of bus strip `b`. -/
def State.busRound (s : State) (b : Nat) (ks : List Nat) (ins : List Int) : State × List Int :=
  let r := s.runInst (1024 + b) (fun _ d => d) fun i vals d =>
    let x := sections (busSection (s.envAt (1024 + b) 3 (s.headroom false b) i vals)) ks (d, ins.getD i 0)
    (x.1, [x.2])
  (r.1, column 0 r.2)

/-- Sections `ks` of output strip `o`; section 0 is preceded by the priority mixer, and followed by the step of the
ambient-noise compensation. -/
def State.outRound (s : State) (o : Nat) (ks : List Nat) (ins : List Int) : State × List Int :=
  let inst := 1536 + o
  let s := if ks.contains 0 then { s with mods := { s.mods with dsp := kset s.mods.dsp (64 * inst + 50) [0] } } else s
  let r := s.runInst inst (s.firSync o) fun i vals d =>
    let n := s.procBase + i
    let e := s.envAt inst 5 (s.outHeadroom o n) i vals
    let src (l : Nat) : Int := s.keySample 5 i (e.nat (0x2001 + 0x100 * l)) 0
    let v := ins.getD i 0
    let v := if ks.contains 0 then s.mixAt o n (s.mixOf o n e v src) else v
    let x := sections (outSection e (s.ancGain o i)) ks (d, v)
    (x.1, [x.2])
  let s := if ks.contains 0 then ancStep o ((kgetD r.1.mods.dsp (64 * inst + 50) []).getD 0 0) r.1 else r.1
  (s, column 0 r.2)

/-- The round of generator `g`. -/
def State.genRound (s : State) (g : Nat) : State × List Int :=
  let inst := 1856 + g
  let r := s.runInst inst (s.genSync g) fun i vals d =>
    let n := s.procBase + i
    genSample (s.envAt inst 0 0 i vals) n (s.mtiOfSample n) s.minRamp d
  (r.1, column 0 r.2)

end Sys2Proof.Machine
end

