-- ==== Sys2Proof/Machine/Disp.lean ====
section
/-! DEFINITION. The dispatcher (R183–R205): the template written from placement, release, starting,
completion, joins, misses with their hold fills, the deadline and the barrier. -/

namespace Sys2Proof.Machine

/-- The state with the dispatcher rewritten. -/
def State.modDisp (s : State) (f : DispSt → DispSt) : State := { s with disp := f s.disp }

/-! ### Descriptors (R183) -/

/-- Word `w` of descriptor `h`. -/
def State.descWord (s : State) (h w : Nat) : Word := kgetD s.disp.desc (16 * h + w) 0

/-- A descriptor as copied at release (R185). -/
def State.descOf (s : State) (h : Nat) : List Word := (List.range 16).map (s.descWord h)

/-- Fields of a copied descriptor. -/
def dKind (d : List Word) : Nat := bits (d.getD 0 0) 29 28
def dPrio (d : List Word) : Nat := bits (d.getD 0 0) 26 24
def dMissProp (d : List Word) : Bool := bit (d.getD 0 0) 27
def dOneshot (d : List Word) : Bool := bit (d.getD 0 0) 30
def dPred (d : List Word) : Nat := bits (d.getD 1 0) 25 16
def dBlock (d : List Word) : Nat := bits (d.getD 0 0) 3 0

/-- The valid successors (R183). -/
def dSuccs (d : List Word) : List Nat :=
  [2, 3, 4].flatMap fun w =>
    (if bit (d.getD w 0) 15 then [bits (d.getD w 0) 9 0] else [])
    ++ (if bit (d.getD w 0) 31 then [bits (d.getD w 0) 25 16] else [])

/-- Whether a core may run an item: bits of CMASK and KMASK, both applied as full when they name no
core (R184). -/
def dAdmits (d : List Word) (k : Nat) : Bool :=
  let c := bits (d.getD 1 0) 5 0
  let m := bits (d.getD 1 0) 15 8
  if c = 0 ∨ m = 0 then true else c / 2 ^ (k / 8) % 2 == 1 && m / 2 ^ (k % 8) % 2 == 1

/-- The taps of the hold ranges that are valid (R184, R199). -/
def dHolds (d : List Word) : List Nat :=
  if dKind d ≠ 0 then []
  else
    let rng (w : Word) : List Nat := (List.range (bits w 25 16)).map (bits w 12 0 + ·)
    (rng (d.getD 12 0) ++ rng (d.getD 13 0)).filter (fun t => srcValid 0 t && t != 8191)

/-! ### The firmware's template (R134, R188, R189) -/

/-- The successors of one role as at most six handles, wider fan-outs through joins (R185): the joins
made, each with its handle and its six successors, and what is left. -/
def fanOut : Nat → List Nat → Nat → List (Nat × List Nat) × List Nat × Nat
  | 0, ss, next => ([], ss, next)
  | fuel + 1, ss, next =>
    if ss.length ≤ 6 then ([], ss, next)
    else
      let keep := ss.take (ss.length - 6)
      let r := fanOut fuel (keep ++ [next]) (next + 1)
      ((next, ss.drop (ss.length - 6)) :: r.1, r.2.1, r.2.2)

/-- The hold ranges of a role as words 12 and 13 (R199). -/
def holdWords (r : Role) : Nat × Nat :=
  let h (base n : Nat) := base + n * 2 ^ 16
  match r with
  | .players g => (h (1568 + 8 * g) 8, 0)
  | .gens g => (h (1536 + 8 * g) 8, 0)
  | .strips g _ _ => (h (2048 + 8 * g) 8, h (3072 + 8 * g) 8)
  | .buses g _ _ => (h (4096 + 8 * g) 8, 0)
  | .outs g _ _ => (h (4864 + 8 * g) 8, 0)
  | _ => (0, 0)

/-- The KIND of a role (R183). -/
def roleKind : Role → Nat
  | .sendBlock _ => 1
  | .matBlock _ => 2
  | .sourceJoin => 3
  | .busJoin => 3
  | .fan => 3
  | _ => 0

/-- The insert point of an OEM instance, and the instance whose buffer the inserts of its point share (R233). -/
def State.insertPoint (s : State) (o : Nat) : Nat := ((kget s.mods.oemPlaced o).map (·.point)).getD 0
def State.insertHead (s : State) (o : Nat) : Nat :=
  match kget s.mods.oemPlaced o with
  | some p => ((s.mods.oemPlaced.find? fun x => x.2.point == p.point && x.2.group == p.group).map (·.1)).getD o
  | none => o

/-- The cluster whose bank holds the block of an instance: the lowest its affinity admits, for a standard module
a free one; and the address of its buffer (0), parameter block (1), state (2) or record (3) there, on a
multiple of 64 bytes, which no rule gives (R231, R233; DEDUCED, assumption 59). -/
def State.clusterOf (s : State) (inst : Nat) : Nat :=
  match kget s.mods.oemPlaced inst with
  | some p => ((List.range 6).find? fun c => p.cmask / 2 ^ c % 2 == 1).getD 0
  | none => Config.blockPlace inst 4 % 6
def State.bankPlace (s : State) (inst k : Nat) : Nat :=
  0x7000000 + s.clusterOf inst * 0x1000000 + Config.blockPlace inst k % 0x20000 * 64

/-- The cores a role's item is admitted to: clusters, and cores of a cluster. -/
def State.affinity (s : State) (r : Role) : Nat × Nat :=
  match r with
  | .fir o => (2 ^ (o % 48 / 8), 2 ^ (o % 8))
  | .oem i => ((kget s.mods.oemPlaced i).map fun p => (p.cmask % 64, p.kmask % 256)).getD (0x3F, 0xFF)
  | _ => (0x3F, 0xFF)

/-- Whether every core a role's item is admitted to is isolated: its replacement, which any core runs, ramps to zero (R413) (DEDUCED, assumption 108). -/
def State.onlyIsolated (s : State) (r : Role) : Bool :=
  let m := s.affinity r
  !((List.range 48).any fun k => m.1 / 2 ^ (k / 8) % 2 == 1 && m.2 / 2 ^ (k % 8) % 2 == 1 && !(kgetD s.cores k {}).removed)

/-- The taps that the ramp of such a role's replacement falls on: those of the strips its audio is part of (R224, R233,
R413) (DEDUCED, assumption 108). -/
def State.fadedTaps (s : State) (r : Role) : List Nat :=
  let rng (h : Nat) : List Nat := (List.range (h / 2 ^ 16)).map (h % 2 ^ 16 + ·)
  match r with
  | .fir o => [4864 + o]
  | .oem i => match (kget s.mods.oemPlaced i).filter fun p => p.point != 0 with
    | some p =>
      let h := holdWords (if p.group < 128 then .strips p.group 0 true else if p.group < 192 then .buses (p.group - 128) 0 true
        else .outs (p.group - 192) 0 true)
      rng h.1 ++ rng h.2
    | none => []
  | _ => let h := holdWords r; rng h.1 ++ rng h.2

/-- One descriptor of the template: entry, priority and the arguments of a standard item come from the module
image and are free values; those of an insert are its buffer, block, state and record (R233) (DESIGN CHOICE, assumption 22). -/
def State.descFor (s : State) (h : Nat) (r : Role) (pred : Nat) (succs : List Nat) : List (Nat × Word) :=
  let kind := roleKind r
  let entry := match r with
    | .sendBlock q => q
    | .matBlock q => q
    | .oem i =>
      (((kget s.mods.oemPlaced i).bind fun p => kget s.mods.oem p.mod).map (·.entry)).getD 0 % 2 ^ 17
    | _ => if kind = 0 then Config.undefNat (s.free + h) % 2 ^ 14 * 8 else 0
  let missProp := match r with
    | .oem i =>
      match kget s.mods.oemPlaced i with
      | some p => p.point != 0 || ((kget s.mods.oem p.mod).map (·.readsPred)).getD false
      | none => false
    | _ => false
  let prio := if kind = 0 then Config.undefNat (s.free + 1024 + h) % 8 else 0
  let mask := if s.onlyIsolated r then (0x3F, 0xFF) else s.affinity r
  let succ (i : Nat) : Nat := match succs[i]? with | some x => x + 2 ^ 15 | none => 0
  let w (i : Nat) (v : Nat) : Nat × Word := (16 * h + i, word v)
  let hw := holdWords r
  [w 0 (entry + prio * 2 ^ 24 + flag missProp * 2 ^ 27 + kind * 2 ^ 28),
   w 1 (mask.1 + mask.2 * 2 ^ 8 + pred % 1024 * 2 ^ 16),
   w 2 (succ 0 + succ 1 * 2 ^ 16), w 3 (succ 2 + succ 3 * 2 ^ 16), w 4 (succ 4 + succ 5 * 2 ^ 16)]
  ++ ([5, 6, 7, 8].map fun i => (16 * h + i, match r with
      | .oem o => if i = 5 && (s.insertPoint o == 0) then Config.undefWord (s.free + 4 * h + i)
        else word (0x10000000 + s.bankPlace (if i = 5 then s.insertHead o else o) (i - 5))
      | _ => if kind = 0 then Config.undefWord (s.free + 4 * h + i) else 0))
  ++ [w 9 0, w 10 0, w 11 0, w 12 hw.1, w 13 hw.2]

/-- The template written into the shadow: descriptors, roles and mask, taking effect at the next swap
(R187, R188); MARGIN is set (R205); the free counter moves past the values used. -/
def buildTemplate (s : State) : State :=
  let ns := s.nodes
  let es := s.edges
  let idx (r : Role) : Nat := ns.idxOf r
  let fans := ns.zipIdx.foldl (fun acc p =>
      let ss := (es.filter fun e => e.1 == p.1).map fun e => idx e.2
      let r := fanOut 1024 ss acc.2
      (acc.1 ++ [(p.2, p.1, r.2.1)] ++ r.1.map fun j => (j.1, Role.fan, j.2), r.2.2))
    (([] : List (Nat × Role × List Nat)), ns.length)
  let all := fans.1
  let preds (h : Nat) : Nat := (all.map fun a => (a.2.2.filter (· == h)).length).sum
  let descs := all.flatMap fun a => s.descFor a.1 a.2.1 (preds a.1) a.2.2
  let s := s.modDisp fun d => { d with
    nextDesc := descs.foldl (fun m p => kset m p.1 p.2) []
    nextRoles := all.foldl (fun m a => kset m a.1 a.2.1) [] }
  let s := s.each (List.range 32) fun w s =>
    s.setReg (R.DISP_TNEXT w)
      (word (all.foldl (fun acc a => if a.1 / 32 = w then acc + 2 ^ (a.1 % 32) else acc) 0))
  let s := s.put F.DISP_MARGIN_MARGIN (clampNat 5 1000 (s.marginFor (s.on F.TND_CTL_EN)))
  { s.put F.DISP_STAT_TSWPEND 1 with free := s.free + 4096 }

/-! ### Release (R186, R187, R193–R195) -/

/-- Whether two roles run the same module instances. -/
def sameInstances : Role → Role → Bool
  | .strips g _ _, .strips h _ _ => g == h
  | .buses g _ _, .buses h _ _ => g == h
  | .outs g _ _, .outs h _ _ => g == h
  | .fir o, .outs h _ _ => o / 8 == h
  | .outs h _ _, .fir o => o / 8 == h
  | a, b => a == b

/-- A new descriptor takes over the STOFF and STRND prepared for the instances it runs (R192). -/
def State.keepStile (s : State) (desc : KMap Word) : KMap Word :=
  s.disp.nextRoles.foldl (fun m x =>
    match s.disp.roles.find? fun y => sameInstances x.2 y.2 with
    | some y => ksetD (ksetD m (16 * x.1 + 9) (s.descWord y.1 9) 0) (16 * x.1 + 10) (s.descWord y.1 10) 0
    | none => m) desc

/-- The swap of the masks at a round tick (R187), from which the replacements of R413 ramp. -/
def templateSwap (s : State) : State :=
  if s.on F.DISP_STAT_TSWPEND then
    let s := s.each (List.range 32) fun w s =>
      let a := s.reg (R.DISP_TMASK w)
      let b := s.reg (R.DISP_TNEXT w)
      (s.setReg (R.DISP_TMASK w) b).setReg (R.DISP_TNEXT w) a
    let s := s.modDisp fun d => { d with
      roles := if d.nextRoles = [] then d.roles else d.nextRoles
      desc := s.keepStile (d.nextDesc.foldl (fun m p => ksetD m p.1 p.2 0) d.desc)
      nextRoles := [], nextDesc := [] }
    let faded := ((s.disp.roles.map (·.2)).filter s.onlyIsolated).flatMap s.fadedTaps
    let s := s.modDisp fun d => { d with ramped := faded.foldl (fun m t =>
      kset m t ((kget d.ramped t).getD (s.eng.base - s.roundLen, (kgetD s.sig.prev t []).getLastD 0))) [] }
    let s := s.put F.DISP_STAT_TSWPEND 0
    { s with mods := { s.mods with active := s.mods.placed } }
  else s

/-- The handles of the active mask. -/
def State.template (s : State) : List Nat :=
  (List.range 1024).filter fun h => s.bitAt (R.DISP_TMASK (h / 32)) (h % 32)

/-- An item released: its descriptor copied, its count loaded; a count of 0 enters the ready list. Items released
at one tick enter it together (R190). -/
def releaseItem (h : Nat) (once : Bool) (s : State) : State :=
  let d := s.descOf h
  let n := if once then 0 else dPred d
  let it : Item := ⟨d, n, if n = 0 then .ready else .waiting, s.disp.seq, 48, once⟩
  s.modDisp fun x => { x with items := kset x.items h it }

/-- Whether a one-shot item's release compare is due (R45, R193). -/
def State.relDue (s : State) (h : Nat) : Bool :=
  decide (0 ≤ (s.mtil - s.descWord h 11).toInt)

/-- The template of round k released at Stile (k + 1)N, with the one-shot items due and the items of
event slots joining it; a one-shot item in the mask is not released by it (R183, R186, R193–R195). The MARGIN
written so far is in force (R205). -/
def templateRelease (s : State) : State :=
  let n := s.roundLen
  let here := (s.eng.lastTick).getD 0
  let s := s.modDisp fun d => { d with
    items := [], seq := 0, rmti := here - n, inRound := true, deadline := false, barrier := false
    missed := [], relEv := [], sendDone := 0, matDone := 0, margin := s.get F.DISP_MARGIN_MARGIN }
  let s := s.each (s.template.filter fun h => !dOneshot (s.descOf h)) fun h s => releaseItem h false s
  let due := s.disp.delay.filter s.relDue
  let s := s.each due fun h s => releaseItem h true s
  let s := s.modDisp fun d => { d with delay := d.delay.filter fun h => !due.contains h }
  let ev := s.disp.evRel.filter fun h => (kget s.disp.items h).isNone
  let s := s.each ev fun h s => releaseItem h true s
  let s := s.modDisp fun d => { d with evRel := [], relEv := ev, seq := 1 }
  s.incWrap R.DISP_ROUNDS

/-! ### Completion and misses (R188, R198–R201) -/

/-- The items of a round whose state is set. -/
def State.setItem (s : State) (h : Nat) (st : ItemState) : State :=
  s.modDisp fun d => { d with items := kmod d.items h fun i => { i with st := st } }

/-- The writes of other masters to the instruction memory of core `k`, held while it ran an item, applied
in their order (R141). -/
def imemFlush (k : Nat) (s : State) : State :=
  let mine (x : Nat × List Byte) : Bool := x.1 / 0x100000 == 0x200 + k
  let l := s.memx.imem.filter mine
  let s := { s with memx := { s.memx with imem := s.memx.imem.filter fun x => !mine x } }
  s.each l fun x s => s.setBytes x.1 x.2

/-- A core freed of its item. -/
def freeCore (k : Nat) (s : State) : State :=
  let s := { s with cores := kmod s.cores k fun c => { c with running := false, ended := true } }
  imemFlush k (s.setBit (R.CLU_STAT (k / 8)) (k % 8) false)

/-- The hold ranges of a missed item filled with the last sample of the round before (R199). -/
def holdFill (taps : List Nat) (s : State) : State :=
  s.each taps fun t s =>
    let v := (kgetD s.sig.prev t []).getLastD 0
    { s with sig := { s.sig with cur := kset s.sig.cur t (List.replicate s.roundLen v) } }

/-- A block of a stage marked done or missed, so that the next one is startable (R191). -/
def blockPassed (it : Item) (s : State) : State :=
  let q := dBlock it.desc + 1
  if dKind it.desc = 1 then s.modDisp fun d => { d with sendDone := max d.sendDone q }
  else if dKind it.desc = 2 then s.modDisp fun d => { d with matDone := max d.matDone q }
  else s

/-- The open blocks of a stage. -/
def State.openBlocks (s : State) (kind : Nat) : List Nat :=
  (s.disp.items.filter fun p => dKind p.2.desc == kind && p.2.st != .done && p.2.st != .missed).map (·.1)

/-- A list of handles whose items count complete, each releasing its successors; with `miss` the
handle is recorded as missed and hold-filled first. Successors with MISSPROP of a missed item are
missed in turn, and a missed block holds its stage and drops the stage's remaining blocks (R188, R198, R200,
R201) (DEDUCED, assumption 79). Successors of one completion enter the ready list together (R190). -/
def passItems : Nat → List (Nat × Bool × Bool) → State → State
  | 0, _, s => s
  | _, [], s => s
  | fuel + 1, (h, miss, dl) :: rest, s =>
    match kget s.disp.items h with
    | none => passItems fuel rest s
    | some it =>
      if it.st = .done ∨ it.st = .missed then passItems fuel rest s
      else
        let kind := dKind it.desc
        let block := miss && (kind == 1 || kind == 2)
        let s := if miss then
            holdFill (dHolds it.desc) (s.modDisp fun d => { d with missed := kset d.missed h dl })
          else s
        let s := s.when block (stageHold (kind == 2))
        let s := s.when (it.st == .running && decide (it.core < 48) && (!miss || !dl)) (freeCore it.core)
        let s := blockPassed it (s.setItem h (if miss then .missed else .done))
        let succs := if it.oneshot then [] else dSuccs it.desc
        let s := s.each succs fun j s =>
          match kget s.disp.items j with
          | some b =>
            if b.oneshot ∨ b.count = 0 then s
            else s.modDisp fun d => { d with
              items := kset d.items j { b with
                count := b.count - 1
                st := if b.count = 1 ∧ b.st = .waiting then .ready else b.st
                seq := d.seq } }
          | none => s
        let s := s.modDisp fun d => { d with seq := d.seq + 1 }
        let prop := if miss then succs.filter fun j =>
            (kget s.disp.items j).any fun b => dMissProp b.desc && !b.oneshot else []
        let others := if block then s.openBlocks kind else []
        passItems fuel (prop.map (·, true, false) ++ others.map (·, true, dl) ++ rest) s

/-- An item completed or missed, with everything that follows from it (DEDUCED, assumption 79). -/
def passItem (h : Nat) (miss dl : Bool) (s : State) : State := passItems 4096 [(h, miss, dl)] s

/-- An item missed (R197, R198) (DEDUCED, assumption 79). -/
def missItem (h : Nat) (dl : Bool) (s : State) : State := passItem h true dl s

/-! ### Outputs of items -/

/-- A tap's samples for the round stored. -/
def State.setTap (s : State) (t : Nat) (v : List Sample) : State :=
  { s with sig := { s.sig with cur := kset s.sig.cur t v } }

/-- N zero samples. -/
def State.silence (s : State) : List Sample := List.replicate s.roundLen 0

/-- Whether the active template runs an instance that exists in the rate class in force. -/
def State.runs (s : State) (inst : Nat) : Bool := s.mods.active.contains inst && instValid s.rateClass inst

/-- The sections of a group's items: those that end at an insert point or at the FIR, and the number of sections
(R224, R233). -/
def State.bounds (s : State) (base g : Nat) : List (Nat × List Nat) :=
  let a := s.insertsAt base g 1
  let b := s.insertsAt base g 2
  let f := if base = 1536 then s.firsOf g else []
  (if a = [] then [] else [(1, a)]) ++ (if f = [] then [] else [(2, [])])
    ++ (if b = [] then [] else [(if base = 1536 then 3 else 2, b)])
def sectionCount (base : Nat) : Nat := if base = 0 then 2 else if base = 1024 then 3 else 4

/-- The first section of part `p` of a group and the first behind it. -/
def State.span (s : State) (base g p : Nat) : Nat × Nat :=
  let bs := (s.bounds base g).map (·.1)
  (if p = 0 then 0 else bs.getD (p - 1) 0, bs.getD p (sectionCount base))

/-- The address of the buffer between a part and the next one, where an insert processes it (R233). -/
def State.insertBuffer (s : State) (base g p : Nat) : Option Nat :=
  match (s.bounds base g)[p]? with
  | some (_, o :: _) => some (s.bankPlace o 0)
  | _ => none

/-- The audio of lane `l` in a buffer of N sample-major vectors, and the bytes of such a buffer (R233). -/
def State.laneAudio (s : State) (addr l : Nat) : List Int :=
  (List.range s.roundLen).map fun i => ((s.memWord (addr + 32 * i + 4 * l)).extractLsb' 8 24).toInt
def bufferBytes (n : Nat) (lanes : List (List Int)) : List Byte :=
  (List.range n).flatMap fun i => lanes.flatMap fun l =>
    wordBytes (word (256 * (BitVec.ofInt 24 (satTo 24 (l.getD i 0)).1).toNat))

/-- What enters the first part of an instance's sections: its selected input, its bus sum, or its input multiplexer. -/
def State.instInput (s : State) (inst : Nat) : List Int :=
  (List.range s.roundLen).map fun i =>
    if inst < 1024 then s.stripInput inst (s.procBase + i) i
    else if inst < 1536 then s.sample (8192 + (inst - 1024)) i
    else s.sinkSample (4352 + (inst - 1536)) (s.procBase + i) i

/-- The sections `ks` of a strip over its audio. -/
def State.sectionRound (s : State) (inst : Nat) (ks : List Nat) (ins : List Int) : State × List Int :=
  if inst < 1024 then s.stripRound inst ks ins
  else if inst < 1536 then s.busRound (inst - 1024) ks ins
  else s.outRound (inst - 1536) ks ins

/-- What a strip delivers at the end of its sections: the pre-fader tap and behind fader and mute the post-fader tap,
the bus output, or the output-strip output (R19, R213, R216, R217). -/
def stripTaps (inst : Nat) (v : List Int) (s : State) : State :=
  if inst < 1024 then
    let post := v.zipIdx.map fun x =>
      scaled (scaled x.1 (s.gainOf inst 0x0600 (s.procBase + x.2))) (s.gainOf inst 0x0700 (s.procBase + x.2))
    (s.setTap (2048 + inst) (stored v)).setTap (3072 + inst) (stored post)
  else if inst < 1536 then s.setTap (4096 + (inst - 1024)) (stored v)
  else s.setTap (4864 + (inst - 1536)) (stored v)

/-- Part `p` of the item of group `g` on one instance: its sections, and at the last part its taps; an instance
that is not placed delivers digital zero (R208). -/
def stripPart (base g p : Nat) (last : Bool) (l : Nat) (s : State) : State :=
  let inst := base + 8 * g + l
  if !s.runs inst then
    if last then stripTaps inst (List.replicate s.roundLen 0) s else s
  else
    let sp := s.span base g p
    let ins := if p = 0 then s.instInput inst
      else match s.insertBuffer base g (p - 1) with
        | some a => s.laneAudio a l
        | none => kgetD s.mods.mid inst []
    let r := s.sectionRound inst ((List.range sp.2).drop sp.1) ins
    if last then stripTaps inst r.2 r.1
    else { r.1 with mods := { r.1.mods with mid := kset r.1.mods.mid inst r.2 } }

/-- Part `p` of the item of group `g`: its eight instances, and before an insert the buffer it processes in place. -/
def groupPart (base g p : Nat) (last : Bool) (s : State) : State :=
  let s := s.each (List.range 8) fun l s => stripPart base g p last l s
  match if last then none else s.insertBuffer base g p with
  | some a => s.setBytes a (bufferBytes s.roundLen ((List.range 8).map fun l => kgetD s.mods.mid (base + 8 * g + l) []))
  | none => s

/-- A tap's samples of the round on the ramp to zero over 10 ms that began at a sample number, from a value (R413). -/
def State.fadeTap (s : State) (start : Nat) (v : Sample) : List Sample :=
  (List.range s.roundLen).map fun i =>
    let k := s.procBase + i - start
    let d := s.samplesOf 1000
    if d ≤ k then 0 else rampSample v (2 * (d - k) - 1) (2 * d)

/-- What an item leaves behind when it completes (R19, R208, R213–R229, R233). -/
def itemOutputs (r : Role) (s : State) : State :=
  let eight (g : Nat) := (List.range 8).map (8 * g + ·)
  let s := match r with
    | .strips g p last => groupPart 0 g p last s
    | .buses g p last => groupPart 1024 g p last s
    | .outs g p last => groupPart 1536 g p last s
    | .players g => s.each (eight g) fun p s =>
        s.setTap (1568 + p) (if s.runs (1792 + p)
          then stored ((List.range s.roundLen).map fun i => s.playerSample p i) else s.silence)
    | .gens g => s.each (eight g) fun k s =>
        if s.runs (1856 + k) then
          let r := s.genRound k
          r.1.setTap (1536 + k) (stored r.2)
        else s.setTap (1536 + k) s.silence
    | _ => s
  (s.each (s.disp.ramped.filter fun x => (s.fadedTaps r).contains x.1) fun x s => s.setTap x.1 (s.fadeTap x.2.1 x.2.2)).fresh

/-! ### Starting (R190, R191) -/

/-- Whether item `a` is started before item `b`: higher priority, then earlier in the ready list, then
the lower handle. -/
def before (a b : Nat × Item) : Bool :=
  let pa := dPrio a.2.desc
  let pb := dPrio b.2.desc
  decide (pb < pa) || (pa == pb && (decide (a.2.seq < b.2.seq) || (a.2.seq == b.2.seq && decide (a.1 < b.1))))

/-- The first of a list under `before`. -/
def firstItem (l : List (Nat × Item)) : Option (Nat × Item) :=
  l.foldl (fun acc x => match acc with | none => some x | some y => if before x y then some x else some y) none

/-- A core as the state holds it. -/
def State.core (s : State) (k : Nat) : CoreSt := kgetD s.cores k {}
/-- The state with a core rewritten. -/
def State.setCore (s : State) (k : Nat) (c : CoreSt) : State := { s with cores := ksetD s.cores k c {} }

/-- Whether a core is free for an item (R190). -/
def State.coreFree (s : State) (k : Nat) : Bool := !(s.core k).running && !(s.core k).removed && !(s.core k).faulted

/-- The ready core item a core would start. -/
def State.readyFor (s : State) (k : Nat) : Option (Nat × Item) :=
  firstItem (s.disp.items.filter fun p => p.2.st == .ready && dKind p.2.desc == 0 && dAdmits p.2.desc k)

/-- A core at the entry of an item (R144, R170, R171, R192). -/
def coreEntry (k h : Nat) (it : Item) (s : State) : State :=
  let s := (s.applyHeld (R.CLU_IVEC (k / 8) (k % 8))).applyHeld (R.CLU_ISP (k / 8) (k % 8))
  let c := s.core k
  let w (i : Nat) := it.desc.getD i 0
  let stoff := if w 10 = word s.disp.rmti then bits (w 9) 4 0 else 31
  let args : List (Nat × Word) := [(0, w 5), (1, w 6), (2, w 7), (3, w 8)]
  let p := args.foldl (fun m q => ksetD m q.1 q.2 0) c.p
  let regs : List (Nat × Word) :=
    ((List.range 16).map fun i => (0x10 + i, 0#32)) ++
    [(0x3C, 0), (0x40, 0), (0x44, s.reg (R.CLU_IVEC (k / 8) (k % 8))), (0x45, s.reg (R.CLU_ISP (k / 8) (k % 8))),
     (0x46, 0), (0x48, word stoff), (0x49, word s.roundLen), (0x4A, word s.disp.rmti)]
  let c := { c with
    p := p, sys := regs.foldl (fun (m : KMap Word) (q : Nat × Word) => ksetD m q.1 q.2 0) c.sys
    pc := word (bits (w 0) 16 0 / 8 * 8)
    pend := [], stores := [], ctl := .none, fault := none, after := none, setup := 0, inBundle := false, begun := false
    running := true, ended := false, item := h, handler := none, outer := [] }
  (s.setCore k (if c.open then c.enter s.time.dur else c)).setBit (R.CLU_STAT (k / 8)) (k % 8) true

/-- The item started on core `k` (DESIGN CHOICE, assumption 13). -/
def startOnCore (k h : Nat) (it : Item) (s : State) : State :=
  let s := s.modDisp fun d => { d with items := kset d.items h { it with st := .running, core := k } }
  coreEntry k h it s

/-- The block the summing engine would start: the lowest not yet done of a stage, the send stage first
(R191). -/
def State.readyBlock (s : State) : Option (Nat × Item) :=
  if s.disp.items.any fun p => p.2.st == .running && dKind p.2.desc != 0 then none
  else
    let next (kind : Nat) : Option (Nat × Item) :=
      let open' := s.disp.items.filter fun p => dKind p.2.desc == kind && p.2.st != .done && p.2.st != .missed
      (open'.find? fun p => p.2.st == .ready && open'.all fun q => decide (dBlock p.2.desc ≤ dBlock q.2.desc))
    match next 1 with
    | some x => some x
    | none => next 2

/-- The next start the dispatcher makes: free cores in ascending number, then the summing engine; none
after the deadline (R190, R191, R197). -/
def itemStartOp (s : State) : State :=
  if !s.disp.inRound || s.disp.deadline then s
  else match (List.range 48).findSome? fun k => if s.coreFree k then (s.readyFor k).map fun x => (k, x) else none with
  | some (k, h, it) => startOnCore k h it s
  | none =>
    match s.readyBlock with
    | some (h, _) => s.setItem h .running
    | none => s

/-- An item that runs on a core complete: what it leaves behind, and everything that follows (R172, R188). -/
def itemDone (h : Nat) (s : State) : State := passItem h false false (itemOutputs (kgetD s.disp.roles h .fan) s)

/-- The code of an item that the commands do not give bundle by bundle has reached its DONE; an item whose
bundles are given completes with the DONE they execute (R172, R188) (DEDUCED, assumption 64). -/
def itemCompleteOp (h : Nat) (s : State) : State :=
  match kget s.disp.items h with
  | some it =>
    if it.st = .running ∧ dKind it.desc = 0 ∧ (it.core < 48 → (s.core it.core).begun = false) then itemDone h s else s
  | none => s

/-- A join completed (R184). -/
def joinCompleteOp (h : Nat) (s : State) : State :=
  match kget s.disp.items h with
  | some it => if it.st = .ready ∧ dKind it.desc = 3 then passItem h false false s else s
  | none => s

/-- The running block of a stage completed: its rows are added in (R132); with the stage's last block its outputs
are formed. -/
def sumBlockCompleteOp (isMatrix : Bool) (s : State) : State :=
  let kind := if isMatrix then 2 else 1
  match s.disp.items.find? fun p => p.2.st == .running && dKind p.2.desc == kind with
  | some (h, it) =>
    let last := s.disp.items.all fun p => dKind p.2.desc != kind || decide (dBlock p.2.desc ≤ dBlock it.desc)
    passItem h false false ((stageBlock isMatrix (dBlock it.desc) s).when last (stageOutputs isMatrix))
  | none => s

/-- Whether the instant MARGIN before Stile (k + 2)N, at which the round's outputs are emitted, has come (R196). -/
def State.deadlineDue (s : State) : Bool :=
  decide ((s.disp.rmti + 2 * s.roundLen) * (1000000000 * 2 ^ 32) ≤ (s.time.t32 + s.disp.margin * (100 * 2 ^ 32)) * s.fs)

/-- The items of the round that have not completed, missed at the deadline (R197): on a core ABORT is raised, from
whose raising its 10 µs are counted (R179) (DEDUCED, assumption 79). -/
def deadlineMiss (s : State) : State :=
  let running := s.disp.items.filter fun p => p.2.st == .running && dKind p.2.desc == 0 && decide (p.2.core < 48)
  let s := s.each running fun p s =>
    s.setCore p.2.core { s.core p.2.core with pendAbort := true, abortAt := s.time.dur }
  let hs := (s.disp.items.filter fun p => p.2.st != .done && p.2.st != .missed).map (·.1)
  let s := s.each hs fun h s => missItem h true s
  s.modDisp fun d => { d with deadline := true }

/-- The barrier closed once every item is complete or missed, with the report of R202. -/
def barrierCloseOp (s : State) : State :=
  if !s.disp.inRound || s.disp.barrier
      || s.disp.items.any (fun p => p.2.st != .done && p.2.st != .missed) then s
  else
    let s := s.modDisp fun d => { d with barrier := true }
    match s.disp.missed with
    | [] => s
    | (h, dl) :: _ =>
      let s := (s.put F.DISP_STAT_MISSED 1).incSat R.DISP_MISSRND
      let s := s.setReg R.DISP_MISSITEM
        (word (min 4294967295 ((s.reg R.DISP_MISSITEM).toNat + s.disp.missed.length)))
      let s := s.setReg R.DISP_LASTMISS (word s.disp.rmti)
      let s := s.setReg R.DISP_LASTH (word (h + 2 ^ 16 * flag dl))
      s.raise 56

/-- A one-shot handle armed (R193). -/
def dispArmOp (h : Nat) (s : State) : State :=
  if s.bitAt (R.DISP_TMASK (h / 32)) (h % 32) || !bit (s.descWord h 0) 30 then s.put F.DISP_STAT_ARMERR 1
  else if s.disp.delay.contains h then s
  else s.modDisp fun d => { d with delay := d.delay ++ [h] }

/-- A one-shot handle disarmed, if it has not been released (R193). -/
def dispDisarmOp (h : Nat) (s : State) : State :=
  s.modDisp fun d => { d with delay := d.delay.filter (· != h) }

/-- A core item missed before the deadline, when its core stops (R198) (DEDUCED, assumption 64). -/
def coreItemMissed (k : Nat) (s : State) : State :=
  let c := s.core k
  if c.running then
    let mine := (kget s.disp.items c.item).any fun it => it.st == .running && it.core == k
    let s := s.when mine (passItem c.item true false)
    imemFlush k ((s.setCore k { s.core k with running := false, ended := true }).setBit (R.CLU_STAT (k / 8)) (k % 8) false)
  else s

/-! ### The commands -/

/-- ITEM_START (R190, R191). -/
def execItemStart (s : State) : Host.Outcome State Fault Refusal := .next (itemStartOp s)
/-- ITEM_COMPLETE (R188). -/
def execItemComplete (h : BitVec 10) (s : State) : Host.Outcome State Fault Refusal := .next (itemCompleteOp h.toNat s)
/-- JOIN_COMPLETE (R184). -/
def execJoinComplete (h : BitVec 10) (s : State) : Host.Outcome State Fault Refusal := .next (joinCompleteOp h.toNat s)
/-- SUM_BLOCK_COMPLETE (R125–R128, R188). -/
def execSumBlockComplete (isMatrix : Bool) (s : State) : Host.Outcome State Fault Refusal :=
  .next (sumBlockCompleteOp isMatrix s)
/-- DISP_TSWAP (R187). -/
def execDispTswap (s : State) : Host.Outcome State Fault Refusal := .next (s.put F.DISP_STAT_TSWPEND 1)
/-- DISP_ARM (R193). -/
def execDispArm (h : BitVec 10) (s : State) : Host.Outcome State Fault Refusal := .next (dispArmOp h.toNat s)
/-- DISP_DISARM (R193). -/
def execDispDisarm (h : BitVec 10) (s : State) : Host.Outcome State Fault Refusal := .next (dispDisarmOp h.toNat s)
/-- DISP_EVENT_SLOT: an event raised and routed to the dispatcher (R194). -/
def execDispEventSlot (e : BitVec 8) (s : State) : Host.Outcome State Fault Refusal :=
  .next (if s.on (F.EVT_ROUTE_DISP e.toNat) then s.evToDisp e.toNat else s)

end Sys2Proof.Machine
end

