-- ==== Sys2Proof/Machine/Path.lean ====
section
/-! DEFINITION. The patch unit (R20–R31, R77–R93): multiplexers and their crossfades, input selectors,
Trails, stage transitions, the patch table, module parameters and their moves. -/

namespace Sys2Proof.Machine

/-- The state with the patch unit rewritten. -/
def State.modPath (s : State) (f : PathSt → PathSt) : State := { s with path := f s.path }

/-! ### Multiplexers (R89, R93) -/

/-- A source change at a sample number over a duration; what the multiplexer gave so far is the outgoing
source, a running crossfade frozen at the weights it gave the sample before (R89, R93). -/
def muxChange (sink src n dur shape : Nat) (s : State) : State :=
  let m := s.mux sink
  if m.src = src ∧ m.old.isNone then s
  else
    let old := (m.asOld n).trim s.procBase
    let f : Fade := ⟨n, dur, shape⟩
    if dur = 0 then s.setMux sink ⟨src, none, some (old, f)⟩ else s.setMux sink ⟨src, some (old, f), none⟩

/-- A crossfade that has run its duration ended (R89). -/
def muxFadeEnd (sink : Nat) (s : State) : State :=
  let m := s.mux sink
  match m.old with
  | some (o, f) => if f.over s.now then s.setMux sink ⟨m.src, none, some (o, f)⟩ else s
  | none => s

/-! ### Loss and input selectors (R23–R31) -/

/-- Whether a source is flagged lost (R14, R23) (DEDUCED, assumption 77). -/
def State.srcLost (s : State) (i : Nat) : Bool := decide (i < 1536) && s.sig.lost.contains i

/-- The state with a source's loss flag set or cleared. -/
def State.setLost (s : State) (i : Nat) (b : Bool) : State :=
  let l := s.sig.lost.filter (· != i)
  { s with sig := { s.sig with lost := if b then l ++ [i] else l } }

/-- Whether the primary or the backup multiplexer of strip `j` is lost, and whether the backup is
absent (R24, R26). -/
def State.pLost (s : State) (j : Nat) : Bool := s.srcLost (s.mux (2048 + j)).src
def State.bLost (s : State) (j : Nat) : Bool := s.srcLost (s.mux (3072 + j)).src
def State.bAbsent (s : State) (j : Nat) : Bool := (s.mux (3072 + j)).src == 8191

/-- The length of a selector fade in samples (R28). -/
def State.selFade (s : State) (j : Nat) : Nat := s.samplesOf (25 * s.get (F.PATCH_FOCTL_FADE j))

/-- A selector's fade started at a sample number from a starting position; a fade it interrupts stays for the
samples before (R28, R29, R50). -/
def selStart (j : Nat) (toBackup : Bool) (n dur : Nat) (first : Nat × Nat) (s : State) : State :=
  let v := s.sel j
  let s := s.setSel j { v with fade := some (⟨n, dur, 1⟩, first.1, first.2), holdFrom := none, past := s.selRuns j }
  (s.put (F.PATCH_FOSTAT_SEL j) (if toBackup then 3 else 2)).put (F.PATCH_FOSTAT_HOLDING j) 0

/-- A fade reversed at a sample number: back to the old multiplexer from the position reached, over the number of
samples run (R29). -/
def selReverse (j : Nat) (toBackup : Bool) (n : Nat) (f : Fade) (num den : Nat) (s : State) : State :=
  selStart j toBackup n (f.at n) ((den - num) * (f.dur - f.at n), den * f.dur) s

/-- No restore hold runs. -/
def selUnhold (j : Nat) (s : State) : State :=
  (s.setSel j { s.sel j with holdFrom := none }).put (F.PATCH_FOSTAT_HOLDING j) 0

/-- The length of the restore hold of a selector in samples (R27). -/
def State.selHold (s : State) (j : Nat) : Nat := s.samplesOf (1000 * s.get (F.PATCH_FOCTL_HOLD j))

/-- An automatic switch, revert or reversal reported (R31): SWITCHED, FOCNT and notice 0x80. -/
def selReport (j cause : Nat) (s : State) : State :=
  ((s.put (F.PATCH_FOSTAT_SWITCHED j) 1).incField (F.PATCH_FOSTAT_FOCNT j)).notice 0x80 j (word cause)

/-- HELD set, with its notice on entry (R26, R31). -/
def selHeld (j : Nat) (s : State) : State :=
  if s.on (F.PATCH_FOSTAT_HELD j) then s else (s.put (F.PATCH_FOSTAT_HELD j) 1).notice 0x80 j 4

/-- The restore hold of a selector wholly on a good backup (R26, R27): it begins with the first Stile at which the
primary is good, starts again after a loss, and where REVERT is 1 ends in the revert (DESIGN CHOICE, assumption 91). -/
def selRestore (j n : Nat) (s : State) : State :=
  if s.pLost j then selUnhold j s
  else
    let v := s.sel j
    let begun := v.holdFrom.getD n
    if begun + s.selHold j ≤ n ∧ s.on (F.PATCH_FOCTL_REVERT j) = true then
      selReport j 3 (selStart j false n (s.selFade j) (0, 1) s)
    else (s.setSel j { v with holdFrom := some begun }).put (F.PATCH_FOSTAT_HOLDING j) (flag (decide (n < begun + s.selHold j)))

/-- The decision of one selector in AUTO at a round-start Stile whose sample number is `n` (R26–R29). A strip on a
backup that selects 8191 is on a good one, whatever the primary (DESIGN CHOICE, assumption 91). -/
def selDecide (j n : Nat) (s : State) : State :=
  let pl := s.pLost j
  let bl := s.bLost j
  let ab := s.bAbsent j
  let s := (s.put (F.PATCH_FOSTAT_PLOST j) (flag pl)).put (F.PATCH_FOSTAT_BLOST j) (flag bl)
  if s.get (F.PATCH_FOCTL_MODE j) ≠ 0 then s
  else
    let sel := s.get (F.PATCH_FOSTAT_SEL j)
    let toB := sel == 1 || sel == 3
    let curLost := if toB then bl else pl
    let otherOk := if toB then !pl else !bl && !ab
    if sel ≥ 2 then
      -- a fade is running: R29
      if curLost && otherOk then
        match (s.sel j).fade with
        | some (f, num, den) => selReport j 5 (selReverse j (!toB) n f num den (s.put (F.PATCH_FOSTAT_HELD j) 0))
        | none => s
      else if curLost then selHeld j s
      else s.put (F.PATCH_FOSTAT_HELD j) 0
    else if curLost then
      if otherOk then
        selReport j (if toB then 2 else 1) ((selStart j (!toB) n (s.selFade j) (0, 1) s).put (F.PATCH_FOSTAT_HELD j) 0)
      else selHeld j (selUnhold j s)
    else
      let s := s.put (F.PATCH_FOSTAT_HELD j) 0
      if sel = 1 then selRestore j n s else s

/-- A MODE that takes effect at a sample number: a forced mode starts its fade, and in it no restore hold runs
(R30) (DESIGN CHOICE, assumption 91). -/
def selMode (j mode n : Nat) (s : State) : State :=
  let s := s.put (F.PATCH_FOCTL_MODE j) mode
  let sel := s.get (F.PATCH_FOSTAT_SEL j)
  let toB := sel == 1 || sel == 3
  if (mode = 1 ∧ toB = true) ∨ (mode = 2 ∧ toB = false) then
    (selStart j (mode == 2) n (s.selFade j) (0, 1) s).put (F.PATCH_FOSTAT_HELD j) 0
  else if mode ≠ 0 then (selUnhold j s).put (F.PATCH_FOSTAT_HELD j) 0
  else s

/-- A FOCTL value committed at a sample number: HOLD, FADE and REVERT at once; a MODE that would start
a fade into a running one waits for its end, and answers that it was deferred (R30). -/
def selCommit (j : Nat) (v : Word) (n : Nat) (s : State) : State × Bool :=
  let s := (s.put (F.PATCH_FOCTL_HOLD j) (min 6000 (bits v 31 16))).put (F.PATCH_FOCTL_FADE j) (clampNat 1 200 (bits v 15 8))
  let s := s.put (F.PATCH_FOCTL_REVERT j) (bits v 2 2)
  let mode := if bits v 1 0 = 3 then 0 else bits v 1 0
  let sel := s.get (F.PATCH_FOSTAT_SEL j)
  let toB := sel == 1 || sel == 3
  let starts := (mode == 1 && toB) || (mode == 2 && !toB)
  if decide (2 ≤ sel) && starts then (s.setSel j { s.sel j with deferMode := some mode }, true)
  else (selMode j mode n (s.setSel j { s.sel j with deferMode := none }), false)

/-- A selector fade that has run its length ended: wholly on the new multiplexer; a deferred MODE then
takes effect (R28, R30). -/
def selFadeEnd (j : Nat) (s : State) : State :=
  let v := s.sel j
  match v.fade with
  | some (f, _) =>
    if f.over s.now then
      let s := s.setSel j { v with fade := none, deferMode := none, past := s.selRuns j }
      let s := s.put (F.PATCH_FOSTAT_SEL j) (if s.get (F.PATCH_FOSTAT_SEL j) = 3 then 1 else 0)
      match v.deferMode with
      | some m => selMode j m (f.start + f.dur) s
      | none => s
    else s
  | none => s

/-- The end of a restore hold: with REVERT = 1 the revert, at the round-start Stile at or after it (R27). A chip that
follows takes the active's decision (R25). -/
def selHoldEnd (j : Nat) (s : State) : State :=
  let n := s.sampleAt (s.roundAt s.mti)
  match (s.sel j).holdFrom with
  | some f =>
    if !s.follows ∧ f + s.selHold j ≤ n ∧ s.get (F.PATCH_FOCTL_MODE j) = 0 ∧ s.get (F.PATCH_FOSTAT_SEL j) = 1
        ∧ s.pLost j = false then
      if s.on (F.PATCH_FOCTL_REVERT j) then selReport j 3 (selStart j false n (s.selFade j) (0, 1) s)
      else s.put (F.PATCH_FOSTAT_HOLDING j) 0
    else s
  | none => s

/-! ### Trails (R77–R81) -/

/-- The position of a running Trail at a sample number as num/den (R79). -/
def TrailRun.pos (r : TrailRun) (n : Nat) : Nat × Nat :=
  (r.first.1 * r.fade.dur + (r.first.2 - r.first.1) * r.fade.at n, r.first.2 * r.fade.dur)

/-- A Trail started; a run of length zero does not run, and one that is still running restarts from its
instantaneous position (R92) (DEDUCED, assumption 57). -/
def trailStart (t n dur shape : Nat) (s : State) : State :=
  let first := match kget s.path.trails t with
    | some r => if r.fade.over n then (0, 1) else r.pos n
    | none => (0, 1)
  if dur = 0 then s else s.modPath fun p => { p with trails := kset p.trails t ⟨⟨n, dur, shape⟩, first⟩ }

/-- A Trail that has run its length freed. -/
def trailEndOp (t : Nat) (s : State) : State :=
  match kget s.path.trails t with
  | some r => if r.fade.over s.now then s.modPath fun p => { p with trails := kdel p.trails t } else s
  | none => s

/-- The lowest free generator of the firmware's 184 (R81). -/
def State.freeTrail (s : State) (n : Nat) : Option Nat :=
  (List.range 184).find? fun t => match kget s.path.trails t with | none => true | some r => r.fade.over n

/-! ### The patch table (R83–R88) -/

/-- The entry serving a crosspoint, and a free entry (DEDUCED, assumption 68). -/
def State.patchOf (s : State) (isMatrix : Bool) (xp : Nat) : Option Nat :=
  (s.path.patches.find? fun p => p.2.isMatrix == isMatrix && p.2.xp == xp).map (·.1)
def State.patchFree (s : State) : Option Nat :=
  (List.range 4096).find? fun e => (kget s.path.patches e).isNone

/-- The registers of an entry as its request leaves them. -/
def patchRegs (e : Nat) (r : PatchRun) (s : State) : State :=
  let s := s.setReg (R.PATCH_PTADR e) (word (flag r.isMatrix * 2 ^ 31 + r.xp))
  let s := s.setReg (R.PATCH_PTGAIN e) (word (BitVec.ofInt 24 r.target).toNat)
  let s := s.setReg (R.PATCH_PTRMP e) (word (r.fade.shape * 2 ^ 24 + r.fade.dur))
  s.put (F.PATCH_PTSTAT_RUN e) 1

/-- A run as it stays for the samples before `n` that the engine has still to process (R50). -/
def PatchRun.until (r : PatchRun) (n : Nat) : PatchRun := { r with cut := some n }

/-- A patch request taken into entry `e`: a running entry on the crosspoint is retargeted and its request
superseded (R83, R84). The ramp starts at the start Stile of the round being gathered, the first whose
processing follows the request (R49), from the gain of the sample before. -/
def patchTake (e : Nat) (isMatrix : Bool) (xp : Nat) (target : Int) (dur shape : Nat) (tok : Option Tok) (s : State) : State :=
  let prev := kget s.path.patches e
  let s := s.complete (prev.bind (·.tok)) rcSuperseded
  let n := s.sampleAt (s.roundAt s.mti)
  let r : PatchRun :=
    { isMatrix := isMatrix, xp := xp, frm := s.gainAt isMatrix xp (n - 1), target := coefLimit target, cut := none
      fade := ⟨n, clampNat s.minRamp s.maxRamp dur, if shape = 2 then 2 else 0⟩, tok := tok }
  let past := (prev.map fun p => p.until n).toList
  patchRegs e r (s.modPath fun p => { p with patches := kset p.patches e r, patchPast := p.patchPast ++ past })

/-- A patch ramp that has run its length ended: its target goes into both sets, unless the shadow is
being prepared for a Hamper that names the crosspoint; its tag completes (R85, R459). -/
def patchEndOp (e : Nat) (s : State) : State :=
  match kget s.path.patches e with
  | some r =>
    if r.fade.over s.now then
      let act := s.activeB r.isMatrix
      let named := s.hamp.plans.any fun p => p.loading && p.entries.any fun x =>
        x.tgt == (if r.isMatrix then 2 else 1) && x.obj == r.xp && x.fld == 0
      let s := s.setCoef r.isMatrix act r.xp r.target
      let s := s.when (!named) fun s => s.setCoef r.isMatrix (!act) r.xp r.target
      let s := s.modPath fun p => { p with patches := kdel p.patches e, patchPast := p.patchPast ++ [r] }
      (s.put (F.PATCH_PTSTAT_RUN e) 0).complete r.tok rcDone
    else s
  | none => s

/-- The entries a transition cancels: those on crosspoints its Hamper names (R86); each writes its gain
at sample `n − 1` into the old set (R129). -/
def patchCancel (isMatrix : Bool) (named : List Nat) (n : Nat) (s : State) : State :=
  let act := s.activeB isMatrix
  s.each (s.path.patches.filter fun p => p.2.isMatrix == isMatrix && named.contains p.2.xp) fun p s =>
    let g := s.gainAt isMatrix p.2.xp (n - 1)
    let s := s.setCoef isMatrix act p.2.xp g
    let s := s.modPath fun q => { q with patches := kdel q.patches p.1, patchPast := q.patchPast ++ [p.2.until n] }
    ((s.put (F.PATCH_PTSTAT_RUN p.1) 0).put (F.PATCH_PTSTAT_CANCEL p.1) 1).complete p.2.tok rcSuperseded

/-- A write of PATCH_PTRMP.GO to entry `e` at expert level: the entry's registers name the crosspoint
and the target (R83, R84). -/
def patchGo (e : Nat) (v : Word) (s : State) : State :=
  if bit v 31 then
    match kget s.path.patches e with
    | some r => patchTake e r.isMatrix r.xp (BitVec.ofNat 24 (s.get (F.PATCH_PTGAIN_TARGET e))).toInt (bits v 23 0) (bits v 25 24) none s
    | none =>
      let isM := s.on (F.PATCH_PTADR_STAGE e)
      let xp := s.get (F.PATCH_PTADR_XP e)
      match s.patchOf isM xp with
      | some e' => patchTake e' isM xp (BitVec.ofNat 24 (s.get (F.PATCH_PTGAIN_TARGET e))).toInt (bits v 23 0) (bits v 25 24) none s
      | none => patchTake e isM xp (BitVec.ofNat 24 (s.get (F.PATCH_PTGAIN_TARGET e))).toInt (bits v 23 0) (bits v 25 24) none s
  else
    (s.put (F.PATCH_PTRMP_SHAPE e) (Limit.apply .dbOnly (bits v 25 24))).put (F.PATCH_PTRMP_DUR e)
      (clampNat s.minRamp s.maxRamp (bits v 23 0))

/-- A requested patch ramp of SET_SEND or SET_MATRIX (R83, R84, R88): the state and the start Stile, or
none when no entry is free (DEDUCED, assumption 68). -/
def patchRequest (isMatrix : Bool) (xp : Nat) (target : Int) (dur shape : Nat) (tok : Tok) (s : State) : Option (State × Nat) :=
  match s.patchOf isMatrix xp with
  | some e => some (patchTake e isMatrix xp target dur shape (some tok) s, s.roundAt s.mti)
  | none =>
    match s.patchFree with
    | some e => some (patchTake e isMatrix xp target dur shape (some tok) s, s.roundAt s.mti)
    | none => none

/-! ### Stage transitions (R82, R86) -/

/-- The transition of a stage started at sample number `n` over `dur` samples on a Trail. -/
def transStart (isMatrix : Bool) (named : List Nat) (n dur trail : Nat) (s : State) : State :=
  let s := patchCancel isMatrix named n s
  let t : Trans := ⟨⟨n, dur, 0⟩, trail, named, s.activeB isMatrix⟩
  let s := s.modPath fun p => if isMatrix then { p with matrix := some t } else { p with send := some t }
  if isMatrix then (s.put F.SUM_STAT_TRM 1).put F.SUM_TRAIL_MTRL trail
  else (s.put F.SUM_STAT_TRS 1).put F.SUM_TRAIL_STRL trail

/-- A transition that has run its length ended: the sets swap roles and the refill begins (R82). -/
def transEndOp (isMatrix : Bool) (s : State) : State :=
  match s.trans isMatrix with
  | some t =>
    if t.fade.over s.now then
      let e := s.roundFrom (s.mtiOfSample (t.fade.start + t.fade.dur)) + s.refill
      let s := s.modPath fun p =>
        if isMatrix then { p with matrix := none, matrixPast := some t, matrixRefill := some e }
        else { p with send := none, sendPast := some t, sendRefill := some e }
      if isMatrix then (s.put F.SUM_STAT_TRM 0).put F.SUM_SETS_ACTMAT (flag (!t.oldB))
      else (s.put F.SUM_STAT_TRS 0).put F.SUM_SETS_ACTSEND (flag (!t.oldB))
    else s
  | none => s

/-- The end of a refill: the shadow set holds the active set's words (R82). -/
def refillEndOp (isMatrix : Bool) (s : State) : State :=
  match (if isMatrix then s.path.matrixRefill else s.path.sendRefill) with
  | some e =>
    if e ≤ s.mti then
      let act := s.activeB isMatrix
      let s := s.copyMem (setBase isMatrix act) (setBase isMatrix (!act)) (setSize isMatrix)
      s.modPath fun p => if isMatrix then { p with matrixRefill := none } else { p with sendRefill := none }
    else s
  | none => s

/-! ### Module parameters (R90, R210, R219–R229) -/

/-- A continuous parameter set moving from the value, of a gain field the gain, it has at the sample before; the
move it interrupts stays for the samples before (R50, R90). -/
def moveStart (gain : Bool) (inst f : Nat) (v : Word) (n dur shape : Nat) (s : State) : State :=
  let k := paramKey inst f
  let prev := kget s.path.moves k
  let m : Move := match prev.filter fun m => !m.fade.over n with
    | some m => ⟨k, s.moveValue m (n - 1), v, ⟨n, dur, shape⟩, if gain then some (moveGain m (n - 1)) else none⟩
    | none => ⟨k, s.param inst f, v, ⟨n, dur, shape⟩, none⟩
  let s := s.setParam inst f v
  if prev.isNone ∧ m.frm = v then s
  else s.modPath fun p => { p with
    moves := if dur = 0 then kdel p.moves k else kset p.moves k m
    movePast := (if dur = 0 then [m] else []) ++ prev.toList ++ p.movePast }

/-- A Par change: the instance runs its old and new state in parallel, entries of one commit in one run; an
earlier run stays for the samples before, and what still ran of it is faded out as the old state (R90, R93). -/
def parStart (inst f : Nat) (v : Word) (n dur shape : Nat) (s : State) : State :=
  let old := s.param inst f
  let s := s.setParam inst f v
  let prev := kget s.path.par inst
  match prev.filter fun r => r.fade.start == n with
  | some r =>
    let r := { r with old := if r.old.any (·.1 == f) then r.old else r.old ++ [(f, old)], fade := ⟨n, max r.fade.dur dur, shape⟩ }
    s.modPath fun p => { p with par := kset p.par inst r }
  | none =>
    let r : ParRun := ⟨⟨n, dur, shape⟩, [(f, old)], none⟩
    s.modPath fun p => { p with
      par := if dur = 0 then kdel p.par inst else kset p.par inst r
      parPast := (if dur = 0 then [(inst, r)] else []) ++ prev.toList.map (inst, ·) ++ p.parPast }

/-- The newest mix an outgoing mix is formed of. -/
def MixOld.acts : MixOld → List Nat
  | .mix acts => acts
  | .frozen _ acts _ _ => acts

/-- The length of the crossfade between two highest levels: FADE of the higher (R220). -/
def State.mixFade (s : State) (o h k : Nat) : Nat :=
  s.samplesOf (25 * if max h k = 0 then 0 else (s.param (1536 + o) (0x2004 + 0x100 * max h k)).toNat)

/-- The priority mixer after a change of ACT at sample number `n` from the active levels `was` (R220): with a new
highest level a crossfade, from a running one frozen at the weights of the sample before; else a ramp of the
level's contribution. -/
def mixChange (o : Nat) (was : List Nat) (n : Nat) (s : State) : State :=
  let acts := s.acts o
  let top (l : List Nat) : Nat := l.foldl max 0
  let m := kget s.mods.mixers o
  match m.filter fun m => m.fade.start == n with
  | some m =>
    let d := s.mixFade o (top m.old.acts) (top acts)
    { s with mods := { s.mods with mixers := kset s.mods.mixers o { m with fade := ⟨n, d, 0⟩, acts := acts } } }
  | none =>
    if top acts = top was then
      let up := acts.filter fun l => !was.contains l
      let down := was.filter fun l => !acts.contains l
      { s with mods := { s.mods with
          mixers := kmod s.mods.mixers o fun m => { m with acts := acts }
          lvlRamp := down.foldl (fun r l => kset r (256 * o + l) (n, false))
            (up.foldl (fun r l => kset r (256 * o + l) (n, true)) s.mods.lvlRamp) } }
    else
      let old : MixOld := match m.filter fun m => !m.fade.over n with
        | some m => .frozen m.old m.acts (2 * m.fade.at (n - 1) + 1) (2 * m.fade.dur)
        | none => .mix was
      { s with mods := { s.mods with
          mixers := kset s.mods.mixers o ⟨old, ⟨n, s.mixFade o (top was) (top acts), 0⟩, acts⟩
          mixPast := (m.toList.map (o, ·)) ++ s.mods.mixPast } }

/-- A playback started at sample number `n` on player `p`: one already playing fades out and its tag
is superseded; a message not in the store delivers silence with a notice (R226, R228). -/
def playStart (p n : Nat) (tok : Option Tok) (late : Bool) (s : State) : State :=
  let s := match kget s.mods.players p with
    | some b =>
      let t := if b.fadeFrom.isNone then s.complete b.tok rcSuperseded else s
      let b := if b.fadeFrom.isNone then { b with fadeFrom := some n, tok := none } else b
      { t with mods := { t.mods with playOut := t.mods.playOut ++ [(p, b)] } }
    | none => s
  let inst := 1792 + p
  let msg := (s.param inst 0).toNat
  let b : Playback := ⟨msg, (s.param inst 1).toNat, s.param inst 2, n, tok, late, none⟩
  let s := { s with mods := { s.mods with players := kset s.mods.players p b } }
  s.when (!s.playable msg) fun s => s.notice 0x83 p (word msg)

/-- A playback stopped at sample number `n`: it fades out over 0.25 ms (R228). -/
def playStop (p n : Nat) (s : State) : State :=
  { s with mods := { s.mods with players := kmod s.mods.players p fun b => { b with fadeFrom := some (b.fadeFrom.getD n) } } }

/-- A generator after a commit at sample number `n`: a commit of TYPE restarts phase and sweep
(R229). -/
def genCommit (g n : Nat) (s : State) : State :=
  let inst := 1856 + g
  let sw := if s.param inst 0 = 4#32 then
      some (n, s.paramActive inst 1, s.paramActive inst 3, s.param inst 4) else none
  { s with mods := { s.mods with gens := kset s.mods.gens g ⟨n, sw, false⟩ } }

/-- One module-parameter entry committed at sample number `n` (R210): the value is clamped, and moves
as its Change column says. ACT, RUN and TYPE act as their rules say. -/
def paramCommit (e : Entry) (dur shape n : Nat) (tok : Option Tok) (late : Bool) (s : State) : State :=
  let v := s.applied e.obj e.fld e.val
  match modKind e.obj, paramRow s.rateCode e.obj e.fld with
  | some k, some r =>
    match r.chg with
    | .act =>
      let o := e.obj - 1536
      mixChange o (s.acts o) n (s.setParam e.obj e.fld v)
    | .run =>
      let p := e.obj - 1792
      if v = 1#32 then playStart p n tok late (s.setParam e.obj e.fld v)
      else (if (kget s.mods.players p).isSome then playStop p n s else s).setParam e.obj e.fld 0
    | .par =>
      let s := s.when (k == .out && e.fld == 0x5002) fun s =>
        { s with mods := { s.mods with fir := kset s.mods.fir (e.obj - 1536) e.coefs } }
      let s := s.when (k == .out && e.fld == 0x5001) fun s =>
        { s with mods := { s.mods with fir := kmod s.mods.fir (e.obj - 1536) fun ws => ws.take v.toNat } }
      let s := parStart e.obj e.fld v n dur shape s
      if k = .gen ∧ e.fld = 0 then genCommit (e.obj - 1856) n s else s
    | .start => s.setParam e.obj e.fld v
    | .plain => moveStart false e.obj e.fld v n 0 0 s
    | .sample => moveStart true e.obj e.fld v n dur shape s
    | .lin => moveStart false e.obj e.fld v n dur shape s
    | .log => moveStart false e.obj e.fld v n dur shape s
    | .db => moveStart false e.obj e.fld v n dur shape s
  | _, _ => s

/-- A parameter's interpolation, or an instance's parallel run, ended (R90). -/
def paramEndOp (inst f : Nat) (s : State) : State :=
  let k := paramKey inst f
  let s := match kget s.path.moves k with
    | some m =>
      if m.fade.over s.now then s.modPath fun p => { p with moves := kdel p.moves k, movePast := m :: p.movePast } else s
    | none => s
  match kget s.path.par inst with
  | some r =>
    if r.fade.over s.now then
      let s := s.modPath fun p => { p with par := kdel p.par inst, parPast := (inst, r) :: p.parPast }
      if modKind inst = some .out ∧ r.old.any (·.1 == 0x5000) = true then buildTemplate s else s
    else s
  | none => s

/-- Whether a stopped playback has faded out. -/
def State.fadedOut (s : State) (b : Playback) : Bool := b.fadeFrom.any fun f => decide (f + s.minRamp ≤ s.now)

/-- The stopped playbacks of a player that have faded out beside a newer one: their tags complete (R116, R228). -/
def playOutEnd (p : Nat) (s : State) : State :=
  let done (x : Nat × Playback) : Bool := x.1 == p && s.fadedOut x.2
  let ended := s.mods.playOut.filter done
  let s := { s with mods := { s.mods with playOut := s.mods.playOut.filter fun x => !done x } }
  s.each ended fun x s => s.complete x.2.tok rcDone (2 + flag x.2.late)

/-- The end of a playback: after its last play RUN reads 0 and its tag completes with DONE; a stopped
one completes with STOPPED when its fade-out ends (R116, R228). -/
def playbackEndOp (p : Nat) (s : State) : State :=
  let s := playOutEnd p s
  match kget s.mods.players p with
  | some b =>
    let gone := { s with mods := { s.mods with players := kdel s.mods.players p } }
    if b.fadeFrom.isSome then
      if s.fadedOut b then gone.complete b.tok rcDone (2 + flag b.late) else s
    else
      let len := ((kget s.mods.msgs b.msg).map (·.len)).getD 0
      let gap := (b.gap.toNat * s.fs + 999999) / 1000000
      let total := b.loops * len * s.upFactor + (b.loops - 1) * gap
      if b.loops ≠ 0 ∧ b.start + total ≤ s.now then
        (gone.setParam (1792 + p) 4 0).complete b.tok rcDone (flag b.late)
      else s
  | none => s

/-- The end of a generator's sweep: repeated with the F, F2 and SWT now in force, or faded out (R229). -/
def sweepEndOp (g : Nat) (s : State) : State :=
  match kget s.mods.gens g with
  | some r =>
    match r.sweep with
    | some (n, _, _, swt) =>
      let e := n + (swt.toNat * s.fs + 999999) / 1000000
      if e ≤ s.now then
        if s.param (1856 + g) 5 = 1#32 then
          let again : GenRun :=
            { r with sweep := some (e, s.paramActive (1856 + g) 1, s.paramActive (1856 + g) 3, s.param (1856 + g) 4) }
          { s with mods := { s.mods with gens := kset s.mods.gens g again } }
        else { s with mods := { s.mods with gens := kset s.mods.gens g { r with sweep := none, ended := true } } }
      else s
    | none => s
  | none => s

/-- The end of a priority mixer's crossfade (R220). -/
def mixFadeEndOp (o : Nat) (s : State) : State :=
  match kget s.mods.mixers o with
  | some m =>
    if m.fade.over s.now then
      { s with mods := { s.mods with mixers := kdel s.mods.mixers o, mixPast := (o, m) :: s.mods.mixPast } }
    else s
  | none => s

/-! ### The commands -/

/-- SELECTOR_FADE_END (R28). -/
def execSelectorFadeEnd (j : Fin 1024) (s : State) : Host.Outcome State Fault Refusal := .next (selFadeEnd j s)
/-- SELECTOR_RESTORE_HOLD_END (R27). -/
def execSelectorRestoreHoldEnd (j : Fin 1024) (s : State) : Host.Outcome State Fault Refusal := .next (selHoldEnd j s)
/-- TRAIL_END (R79). -/
def execTrailEnd (t : BitVec 8) (s : State) : Host.Outcome State Fault Refusal := .next (trailEndOp t.toNat s)
/-- MUX_CROSSFADE_END (R89). -/
def execMuxCrossfadeEnd (sink : BitVec 13) (s : State) : Host.Outcome State Fault Refusal := .next (muxFadeEnd sink.toNat s)
/-- STAGE_TRANSITION_END (R82). -/
def execStageTransitionEnd (isMatrix : Bool) (s : State) : Host.Outcome State Fault Refusal := .next (transEndOp isMatrix s)
/-- STAGE_REFILL_END (R82). -/
def execStageRefillEnd (isMatrix : Bool) (s : State) : Host.Outcome State Fault Refusal := .next (refillEndOp isMatrix s)
/-- PATCH_RAMP_END (R85). -/
def execPatchRampEnd (e : BitVec 12) (s : State) : Host.Outcome State Fault Refusal := .next (patchEndOp e.toNat s)
/-- PATCH_RAMP_GO (R83, R84): a write of PATCH_PTRMPe. -/
def execPatchRampGo (_m : Master) (e : BitVec 12) (v : Word) (s : State) : Host.Outcome State Fault Refusal :=
  .next (patchGo e.toNat v s)
/-- PARAM_INTERP_END (R90). -/
def execParamInterpEnd (inst : BitVec 12) (field : BitVec 16) (s : State) : Host.Outcome State Fault Refusal :=
  .next (paramEndOp inst.toNat field.toNat s)
/-- PLAYBACK_END (R228). -/
def execPlaybackEnd (p : Fin 64) (s : State) : Host.Outcome State Fault Refusal := .next (playbackEndOp p s)
/-- GENERATOR_SWEEP_END (R229). -/
def execGeneratorSweepEnd (g : Fin 32) (s : State) : Host.Outcome State Fault Refusal := .next (sweepEndOp g s)
/-- PRIORITY_MIXER_CROSSFADE_END (R220). -/
def execPriorityMixerCrossfadeEnd (o : BitVec 8) (s : State) : Host.Outcome State Fault Refusal := .next (mixFadeEndOp o.toNat s)

end Sys2Proof.Machine
end

