-- ==== Sys2Proof/Machine/Time.lean ====
section
/-! DEFINITION. The time unit (R33–R47, R55–R59): the counter, snapshots, clock modes, steps, the
rate adjustment, the edge-capture queues and the Silwen commands that act on them alone (R456). -/

namespace Sys2Proof.Machine

/-- The state with the time unit rewritten. -/
def State.modTime (s : State) (f : TimeSt → TimeSt) : State := { s with time := f s.time }

/-! ### The counter (R33, R34) -/

/-- A time from a number of units of 2⁻⁴⁰ ns. -/
def TimeSt.ofUnits (t : TimeSt) (u : Nat) : TimeSt :=
  let ns := u / 2 ^ 40
  { t with
    sec := BitVec.ofNat 48 (ns / 1000000000), ns := BitVec.ofNat 30 (ns % 1000000000)
    frac := BitVec.ofNat 32 (u / 2 ^ 8), res := BitVec.ofNat 8 u }

/-- The time in units of 2⁻⁴⁰ ns (DEDUCED, assumption 18). -/
def TimeSt.units (t : TimeSt) : Nat := t.t32 * 2 ^ 8 + t.res.toNat

/-- What one tick adds, in units of 2⁻⁴⁰ ns: 1.25 ns × (1 + RATE × 2⁻³⁸) (R34) (DEDUCED, assumption 18). -/
def tickUnits (rate : Word) : Int := 1374389534720 + 5 * rate.toInt

/-- The counter after `n` ticks (R34) (DESIGN CHOICE, assumption 2; DEDUCED, assumption 18). -/
def counterTick (n : Nat) (s : State) : State :=
  s.modTime fun t => t.ofUnits (t.units + ((n : Int) * tickUnits (s.reg R.TIME_RATEADJ)).toNat)

/-- The snapshot registers latched from one tick (R36). -/
def timeSnapOp (s : State) : State :=
  let t := s.time
  let s := (s.setReg R.TIME_SSECH (word (t.sec.toNat / 2 ^ 32))).setReg R.TIME_SSECL (word t.sec.toNat)
  let s := (s.setReg R.TIME_SNS (word t.ns.toNat)).setReg R.TIME_SFRAC t.frac
  (s.setReg R.TIME_SMTIH (hiWord s.mti)).setReg R.TIME_SMTIL (loWord s.mti)

/-! ### Rate, mode and step (R35–R41) -/

/-- A RATE write (R35). -/
def rateWriteOp (v : Word) (s : State) : State :=
  let c := clampInt (-137438953) 137438953 v.toInt
  (s.setReg R.TIME_RATEADJ (BitVec.ofInt 32 c)).when (c != v.toInt) fun s => s.put F.TIME_STAT_RATECLAMP 1

/-- A clock mode held until the next round-start Stile (R38). -/
def modeHold (m : Nat) (s : State) : State :=
  (s.modTime fun t => { t with modeReq := some (BitVec.ofNat 2 m) }).put F.TIME_CTL_MPEND 1

/-- A write of TIME_CTL (R38). -/
def timeCtlWrite (v : Word) (s : State) : State :=
  modeHold (bits v 1 0) (s.put F.TIME_CTL_STHR (Limit.apply .sthr (bits v 17 8)))

/-- A write of TIME_STEPCTL (R40). -/
def stepCtlWrite (v : Word) (s : State) : State :=
  let s := s.put F.TIME_STEPCTL_NEG (bits v 1 1)
  s.when (bit v 0) fun s =>
    let r := (s.reg R.TIME_STEPSEC, BitVec.ofNat 30 (s.get F.TIME_STEPNS_NS), s.on F.TIME_STEPCTL_NEG)
    (s.modTime fun t => { t with stepReq := some r }).put F.TIME_STEPCTL_GO 1

/-- A held clock mode taking effect at a round-start Stile (R38); entry to a mode that steps begins an
acquisition (R39). -/
def clockModeApply (s : State) : State :=
  match s.time.modeReq with
  | none => s
  | some m =>
    let s := s.modTime fun t => { t with modeReq := none, acqStep := t.acqStep || m != 1 }
    (s.put F.TIME_CTL_MODE m.toNat).put F.TIME_CTL_MPEND 0

/-- The plans of Hampers judged again after a step to the MTI `m` (R41): what is due by then is planned
as taken now, late where it named a Stile (R46, R72) (DEDUCED, assumption 78). -/
def plansAfterStep (m : Nat) (s : State) : State :=
  let one (p : Plan) : Plan :=
    if p.p ≤ m ∨ (p.s ≠ 0 ∧ p.s ≤ m) then { p with t := m, loading := false } else p
  { s with hamp := { s.hamp with plans := s.hamp.plans.map one } }.replan

/-- Quiet sweeps and night tests at or before the MTI `m` act at Stile `k` and are late (R41, R46). -/
def schedulesLate (m k : Nat) (s : State) : State :=
  { s with
    supv := { s.supv with sched := s.supv.sched.map fun x => if x.1 ≤ m then (k, x.2.1, x.2.2.1, true) else x }
    night := { s.night with sched := s.night.sched.map fun c => if c.start ≤ m then { c with start := k, late := true } else c } }

/-- A step of `d` nanoseconds applied at this Stile (R41): time and MTI jump, the sample count does
not; the two rounds in the pipeline are discarded; the rounds resume at the first round-aligned MTI (DEDUCED, assumption 78). -/
def stepBy (d : Int) (s : State) : State :=
  let n := s.now
  let s := s.modTime fun t =>
    let u := t.ofUnits ((t.units : Int) + d * 2 ^ 40).toNat
    { u with stepReq := none, capStep := true, moved := t.moved + (u.t32 - t.t32) }
  let m := s.mti
  let k := s.roundFrom m
  let s := { s with
    eng := { s.eng with
      lastTick := s.eng.lastTick.map fun _ => if k = m then k else k - s.roundLen
      base := if k = m then n else n + (k - m) - s.roundLen
      discard := if k = m then 2 else 3 }
    sig := { s.sig with gather := [], cur := [], prev := [] } }
  let s := schedulesLate m k (s.modDisp fun x => { x with items := [], inRound := false })
  (plansAfterStep m ((s.put F.TIME_STEPCTL_GO 0).put F.TIME_STAT_STEPPED 1)).raise 170

/-- A requested step at a round-start Stile: discarded in SERVICE, else applied (R40). -/
def timeStepApply (s : State) : State :=
  match s.time.stepReq with
  | none => s
  | some (sec, ns, neg) =>
    if s.get F.TIME_CTL_MODE = 1 then
      ((s.modTime fun t => { t with stepReq := none }).put F.TIME_STEPCTL_GO 0).put F.TIME_STAT_STEPREJ 1
    else
      let d : Int := (sec.toNat * 1000000000 + ns.toNat : Nat)
      stepBy (if neg then -d else d) s

/-- A write of TIME_ROUND: NCODE is held for the next engine start (R51). -/
def timeRoundWriteOp (v : Word) (s : State) : State :=
  s.put F.TIME_ROUND_NHELD (Limit.apply (.above 4 3) (bits v 10 8))

/-! ### Edge capture (R55–R59) -/

/-- CAPCNT and event 168 after a change of the queue or of THRESH (R59). -/
def capSync (s : State) : State :=
  let n := s.time.capQ.length
  (s.put F.TIME_CAPCNT_COUNT n).level 168 (decide (s.get F.TIME_CAPPTP_THRESH ≤ n))

/-- The entry of an event from source `src`, `sub` half nanoseconds into the tick: its time to 0.5 ns, and the MTI then
(R34, R56). -/
def State.captureEntry (s : State) (src : Nat) (edge : Bool) (sub : Nat) : CapEntry :=
  let t := s.time
  let u := t.t32 / 2 ^ 31 + sub
  let sec := u / 2000000000
  let w0 := src + flag edge * 2 ^ 6 + flag (t.capLost != 0) * 2 ^ 7 + min 255 t.capLost * 2 ^ 8 + sec / 2 ^ 32 * 2 ^ 16
  let w2 := u % 2000000000 / 2 + u % 2 * 2 ^ 30 + flag t.capStep * 2 ^ 31
  ⟨word w0, word sec, word w2, word (mtiOf (u * 2 ^ 31) s.fs)⟩

/-- An entry put among those of its tick, in ascending SRC order (R57). -/
def captureInsert (e : CapEntry) : List CapEntry → List CapEntry
  | [] => [e]
  | x :: xs => if bits e.w0 5 0 < bits x.w0 5 0 then e :: x :: xs else x :: captureInsert e xs

/-- An event captured now from source `src`, `sub` half nanoseconds into the tick (R56–R58). -/
def capture (src : Nat) (edge : Bool) (sub : Nat) (s : State) : State :=
  let t := s.time
  if 64 ≤ t.capQ.length then
    let s := s.when (t.capLost == 0) fun s => s.raise 169
    (s.modTime fun t => { t with capLost := t.capLost + 1 }).incSat R.TIME_CAPOVF
  else
    let same := if t.capTick = t.t32 + 1 then min t.capSame t.capQ.length else 0
    let k := t.capQ.length - same
    let q := t.capQ.take k ++ captureInsert (s.captureEntry src edge sub) (t.capQ.drop k)
    capSync (s.modTime fun t => { t with
      capQ := q, capLost := 0, capStep := false, capTick := t.t32 + 1, capSame := same + 1 })

/-- An edge on a GP pin, where TIME_CAPCFG captures it (R55). -/
def gpCapture (pin : Nat) (rising : Bool) (sub : Nat) (s : State) : State :=
  let c := s.get ⟨R.TIME_CAPCFG, 2 * pin + 1, 2 * pin⟩
  if c = 3 ∨ (c = 1 ∧ rising = true) ∨ (c = 2 ∧ rising = false) then capture pin rising sub s else s

/-- A PTP event frame on port `p`, where TIME_CAPPTP captures it; where in its tick the frame's timestamp lies is a
free value (R34, R55) (DESIGN CHOICE, assumption 80). -/
def ptpCapture (p : Nat) (tx : Bool) (s : State) : State :=
  if s.get F.TIME_CAPPTP_PTPEN / 2 ^ p % 2 = 1 then (capture (16 + p) tx (Config.undefNat s.free % 3) s).fresh else s

/-- A read of TIME_CAPW0 (R59): the state, the word it returns and the entry removed. -/
def capPop (s : State) : State × Word × Option CapEntry :=
  match s.time.capQ with
  | [] => (s, 63, none)
  | e :: q =>
    let s := capSync (s.modTime fun t => { t with capQ := q })
    (((s.setReg R.TIME_CAPW1 e.w1).setReg R.TIME_CAPW2 e.w2).setReg R.TIME_CAPW3 e.w3, e.w0, some e)

/-- The firmware's read of TIME_CAPW0 (R59, R456): the entry goes to its queue of 256, with event 224
when the queue reaches THRESH. -/
def capw0ReadOp (s : State) : State :=
  let r := capPop s
  let s := r.1.setReg R.TIME_CAPW0 r.2.1
  match r.2.2 with
  | some e =>
    if s.boot.phase = .running ∧ s.time.fwQ.length < 256 then
      let s := s.modTime fun t => { t with fwQ := t.fwQ ++ [e] }
      s.when (s.time.fwQ.length == s.get F.TIME_CAPPTP_THRESH) fun s => s.raise 224
    else s
  | none => s

/-- FLUSH: the queue emptied; events lost and not yet reported stay only in the count (R58, R59). -/
def capFlushOp (s : State) : State := capSync (s.modTime fun t => { t with capQ := [], capLost := 0 })

/-- A write of TIME_CAPPTP. -/
def capPtpWrite (v : Word) (s : State) : State :=
  let s := (s.put F.TIME_CAPPTP_THRESH (clampNat 1 64 (bits v 14 8))).put F.TIME_CAPPTP_PTPEN (bits v 3 0)
  capSync (s.when (bit v 4) capFlushOp)

/-- A write to the TIME block. -/
def timeRegWrite (off : Nat) (v : Word) (s : State) : State :=
  match off with
  | 0x00 => timeCtlWrite v s
  | 0x04 => s.setReg R.TIME_STAT (s.reg R.TIME_STAT &&& ~~~v)
  | 0x08 => s.when (bit v 0) timeSnapOp
  | 0x30 => rateWriteOp v s
  | 0x40 => s.setReg R.TIME_STEPSEC v
  | 0x44 => s.put F.TIME_STEPNS_NS (min 999999999 (bits v 29 0))
  | 0x48 => stepCtlWrite v s
  | 0x50 => timeRoundWriteOp v s
  | 0x60 => s.setReg R.TIME_CAPCFG v
  | 0x64 => capPtpWrite v s
  | _ => s

/-! ### Silwen (R456) -/

/-- GET_TIME. -/
def getTimeBody (_c : Cmd) (s : State) : State × Rep :=
  let s := timeSnapOp s
  (s, .ok [s.reg R.TIME_SSECH, s.reg R.TIME_SSECL, s.reg R.TIME_SNS, s.reg R.TIME_SFRAC, s.reg R.TIME_SMTIH,
    s.reg R.TIME_SMTIL, s.reg R.TIME_ROUND, s.reg R.TIME_CTL, s.reg R.REFS_STAT, s.reg R.REFS_ABSL, s.reg R.REFS_ABSH])

/-- The STHR nearest to a threshold in ns after the clamp of R39 (DEDUCED, assumption 30). -/
def sthrOf (ns : Nat) : Nat :=
  let n := clampNat 100 1000000 ns
  if n ≤ 550 then 0x3FF else clampNat 1 1000 ((n + 500) / 1000) - 1

/-- SET_CLOCK_MODE. -/
def setClockModeBody (c : Cmd) (s : State) : State × Rep :=
  let t := (cw c 2).toNat
  let s := s.when (t != 0) fun s => s.put F.TIME_CTL_STHR (sthrOf t)
  (modeHold (bits (cw c 1) 1 0) s, .rc rcDone)

/-- CAPTURE_CFG op 0. -/
def captureConfigureBody (c : Cmd) (s : State) : State × Rep :=
  (capPtpWrite (cw c 3) (s.setReg R.TIME_CAPCFG (cw c 2)), .rc rcDone)

/-- CAPTURE_CFG op 1. -/
def captureReadBody (c : Cmd) (s : State) : State × Rep :=
  let n := clampNat 1 15 (bits (cw c 2) 3 0)
  let es := s.time.fwQ.take n
  (s.modTime fun t => { t with fwQ := t.fwQ.drop n },
    .ok (word es.length :: es.flatMap fun e => [e.w0, e.w1, e.w2, e.w3]))

/-! ### The commands -/

/-- TIME_SNAP (R36). -/
def execTimeSnap (s : State) : Host.Outcome State Fault Refusal := .next (timeSnapOp s)
/-- TIME_STEP_REQUEST (R40): a write of TIME_STEPCTL. -/
def execTimeStepRequest (v : Word) (s : State) : Host.Outcome State Fault Refusal := .next (stepCtlWrite v s)
/-- TIME_MODE_WRITE (R38): a write of TIME_CTL. -/
def execTimeModeWrite (v : Word) (s : State) : Host.Outcome State Fault Refusal := .next (timeCtlWrite v s)
/-- TIME_RATE_WRITE (R35). -/
def execTimeRateWrite (v : Word) (s : State) : Host.Outcome State Fault Refusal := .next (rateWriteOp v s)
/-- TIME_ROUND_WRITE (R51). -/
def execTimeRoundWrite (v : Word) (s : State) : Host.Outcome State Fault Refusal := .next (timeRoundWriteOp v s)
/-- TIME_CAPW0_READ (R59). -/
def execTimeCapw0Read (s : State) : Host.Outcome State Fault Refusal := .next (capw0ReadOp s)
/-- TIME_CAP_FLUSH (R59). -/
def execTimeCapFlush (s : State) : Host.Outcome State Fault Refusal := .next (capFlushOp s)
/-- GP_EDGE_CAPTURE: an edge `sub` half nanoseconds into the tick of the counter (R55–R58). -/
def execGpEdgeCapture (pin : Fin 16) (rising : Bool) (sub : Fin 3) (s : State) : Host.Outcome State Fault Refusal :=
  .next (gpCapture pin rising sub s)
/-- TIME_COUNTER_TICK (R34): `n` ticks. -/
def execTimeCounterTick (n : Nat) (s : State) : Host.Outcome State Fault Refusal := .next (if s.asleep then s else counterTick n s)
/-- GET_TIME (R456). -/
def execGetTime (c : Cmd) (s : State) : Host.Outcome State Fault Refusal := .next (silwen 0x0300 0 false getTimeBody c s)
/-- SET_CLOCK_MODE (R38, R39, R456). -/
def execSetClockMode (c : Cmd) (s : State) : Host.Outcome State Fault Refusal :=
  .next (silwen 0x0301 2 false setClockModeBody c s)
/-- CAPTURE_CFG op 0 (R456). -/
def execCaptureCfgConfigure (c : Cmd) (s : State) : Host.Outcome State Fault Refusal :=
  .next (silwen 0x0306 3 false captureConfigureBody c s)
/-- CAPTURE_CFG op 1 (R456). -/
def execCaptureCfgRead (c : Cmd) (s : State) : Host.Outcome State Fault Refusal :=
  .next (silwen 0x0306 2 false captureReadBody c s)

end Sys2Proof.Machine
end

