-- ==== Sys2Proof/Machine/Route.lean ====
section
/-! DEFINITION. The Silwen routing, summing and module commands (R208–R233, R449–R454, R459, R460). -/

namespace Sys2Proof.Machine

/-! ### Payload fields (R124, R449, R450) -/

/-- Whether half a step above coefficient `c - 1` lies at or below 2¹⁹ × 10^(g/2000). -/
def coefReached (g : Int) (c : Nat) : Bool :=
  if 0 ≤ g then decide ((2 * c - 1) ^ 2000 ≤ 2 ^ 40000 * 10 ^ g.toNat)
  else decide ((2 * c - 1) ^ 2000 * 10 ^ (-g).toNat ≤ 2 ^ 40000)

/-- The largest coefficient reached, found bit by bit from bit `k - 1` (DEDUCED, assumption 6). -/
def coefSearch (g : Int) : Nat → Nat → Nat
  | 0, acc => acc
  | k + 1, acc => coefSearch g k (if coefReached g (acc + 2 ^ k) then acc + 2 ^ k else acc)

/-- The coefficient of a basic-level gain in 0.01 dB (R124): the formula, and at −6.00 dB and −10.00 dB the words the
rule's table prints, which are one more than the formula gives (DEDUCED, assumption 6). -/
def gainCoef (g : Int) : Nat :=
  if g ≤ -12041 then 0 else if g = -600 then 0x04026F else if g = -1000 then 0x0287A3 else coefSearch (if 2400 < g then 2400 else g) 23 0

/-- The coefficient of a gain field, negated for INVERT (R459). -/
def gainField (w : Word) (invert : Bool) : Int :=
  let c : Int := gainCoef (s16 (bits w 15 0))
  if invert then -c else c

/-- Whether a ramp word asks for the default of its command (R450). -/
def rampDefault (w : Word) : Bool := bits w 22 0 == 0x7FFFFF

/-- A ramp word with the command's default (R78, R450) (DEDUCED, assumption 28). -/
def rampWord (expert : Bool) (dfl : Nat × Nat) (w : Word) : Ramp :=
  if rampDefault w then .dur dfl.1 dfl.2
  else
    let sh := bits w 25 24
    .dur (min 6000000 (bits w 22 0)) (if sh = 3 ∨ (sh = 2 ∧ expert = false) then 0 else sh)

/-- Fader and send moves: 5 ms linear; route changes: 10 ms equal-power; a scene recall: 50 ms linear (R78) (DEDUCED,
assumption 28). -/
def moveDefault : Nat × Nat := (500, 0)
def routeDefault : Nat × Nat := (1000, 1)
def sceneDefault : Nat × Nat := (5000, 0)

/-! ### Entries of commands (R453, R462) -/

/-- ROUTE. -/
def routeEntries (c : Cmd) (s : State) : List Entry :=
  let n := clampNat 1 1024 (bits (cw c 1) 26 16)
  let src := bits (cw c 2) 12 0
  (List.range n).map fun i =>
    { tgt := 0x03, obj := bits (cw c 1) 12 0 + i, fld := 0
      ramp := rampWord (s.expert c.sender) routeDefault (cw c 3), dflt := rampDefault (cw c 3)
      val := word (if src = 8191 then 8191 else min 8191 (src + i)) }

/-- ROUTE_BACKUP. -/
def backupEntries (c : Cmd) : List Entry :=
  (List.range (clampNat 1 1024 (bits (cw c 1) 26 16))).map fun i =>
    { tgt := 0x03, obj := bits (cw c 1) 9 0 + i, fld := 0x10, ramp := .none, val := cw c 2 }

/-- The crosspoint and the gain entry of SET_SEND; with a tap, its TAP entry too. -/
def sendXp (c : Cmd) : Nat := bits (cw c 1) 24 16 * 1024 + bits (cw c 1) 9 0
def sendEntries (tap : Bool) (c : Cmd) (s : State) : List Entry :=
  let r := rampWord (s.expert c.sender) moveDefault (cw c 3)
  let g := gainField (cw c 2) (bit (cw c 2) 18 && s.expert c.sender)
  let e : Entry := {
    tgt := 0x01, obj := sendXp c, fld := 0, ramp := r, val := word (BitVec.ofInt 24 g).toNat
    dflt := rampDefault (cw c 3) }
  e :: if tap then [{ e with fld := 1, val := word (bits (cw c 2) 16 16) }] else []

/-- SET_MATRIX. -/
def matrixXp (c : Cmd) : Nat := bits (cw c 1) 23 16 * 1024 + bits (cw c 1) 9 0
def matrixEntries (c : Cmd) (s : State) : List Entry :=
  let g := gainField (cw c 2) (bit (cw c 2) 18 && s.expert c.sender)
  [{ tgt := 0x02, obj := matrixXp c, fld := 0, ramp := rampWord (s.expert c.sender) moveDefault (cw c 3)
     dflt := rampDefault (cw c 3), val := word (BitVec.ofInt 24 g).toNat }]

/-- The pairs of SET_PARAM: field, value, ramp word. -/
def paramPairs (c : Cmd) : List (Nat × Word × Word) :=
  (List.range (clampNat 1 20 (bits (cw c 1) 23 16))).map fun k =>
    (bits (cw c (2 + 3 * k)) 15 0, cw c (3 + 3 * k), cw c (4 + 3 * k))

/-- The coefficient words a FIR_COEF pair brings: as many as the FIR_LEN given beside it, or in force
(R224). -/
def firWords (c : Cmd) (s : State) : Nat :=
  match ((paramPairs c).filter fun p => p.1 == 0x5001).getLast? with
  | some p => min p.2.1.toNat 65536
  | none => (s.param (bits (cw c 1) 11 0) 0x5001).toNat

/-- Whether a SET_PARAM carries a FIR_COEF pair. -/
def wantsFir (c : Cmd) : Bool :=
  modKind (bits (cw c 1) 11 0) == some .out && (paramPairs c).any fun p => p.1 == 0x5002

/-- SET_PARAM, with the coefficient words of its FIR_COEF pair; a field of an OEM instance is ignored
without expert access (R449). -/
def paramEntries (c : Cmd) (coefs : List Word) (s : State) : List Entry :=
  let inst := bits (cw c 1) 11 0
  if modKind inst = some .oem ∧ s.expert c.sender = false then []
  else (paramPairs c).map fun p =>
    let e : Entry := { tgt := 0x10, obj := inst, fld := p.1
                       ramp := rampWord (s.expert c.sender) moveDefault p.2.2, val := p.2.1
                       dflt := rampDefault p.2.2 }
    if p.1 = 0x5002 ∧ modKind inst = some .out then { e with val := crcWords coefs, coefs := coefs } else e

/-- PLAY_MESSAGE. -/
def playEntries (c : Cmd) : List Entry :=
  let inst := 1792 + bits (cw c 1) 5 0
  let e (f : Nat) (v : Word) : Entry := { tgt := 0x10, obj := inst, fld := f, ramp := .none, val := v }
  if bit (cw c 1) 8 then [e 4 0]
  else [e 0 (word (bits (cw c 2) 9 0)), e 1 (word (bits (cw c 3) 15 0)),
        e 2 (word (min 60000000 ((cw c 4).toNat * 1000))), e 3 (BitVec.ofInt 32 (s16 (bits (cw c 5) 15 0))), e 4 1]

/-! ### Admission of FIRs (R224) -/

/-- The FIR fields of entries stored, to judge the configuration they lead to. -/
def withFir (es : List Entry) (s : State) : State :=
  s.each es fun e s =>
    if e.tgt = 0x10 ∧ modKind e.obj = some .out ∧ (e.fld = 0x5000 ∨ e.fld = 0x5001) then
      s.setParam e.obj e.fld (applyParam s.rateCode e.obj e.fld e.val)
    else s

/-- REFUSED for entries that set FIR_ON or raise FIR_LEN beyond what is admitted (R224). -/
def State.firCodes (s : State) (es : List Entry) : List Nat :=
  let grows := es.any fun e => e.tgt == 0x10 && modKind e.obj == some .out &&
    ((e.fld == 0x5000 && e.val != 0 && s.param e.obj 0x5000 == 0)
      || (e.fld == 0x5001 && decide ((s.param e.obj 0x5001).toNat < (applyParam s.rateCode e.obj 0x5001 e.val).toNat)))
  if grows && !(withFir es s).admits then [rcRefused] else []

/-- A basic command submitted as one Hamper, its FIRs admitted (R224, R453). -/
def submitCmd (c : Cmd) (code : Nat) (es : List Entry) (stile : Nat) (handle : Nat := 0) (extra : List Word := [])
    (s : State) : State × Rep :=
  s.asHamper c code es stile handle extra (s.firCodes es)

/-! ### Routing and summing (R459) -/

def routeBody (c : Cmd) (s : State) : State × Rep := submitCmd c 0x0500 (routeEntries c s) 0 (s := s)
def routeBackupBody (c : Cmd) (s : State) : State × Rep := submitCmd c 0x0501 (backupEntries c) 0 (s := s)

/-- GET_ROUTE. -/
def getRouteBody (c : Cmd) (s : State) : State × Rep :=
  let k := bits (cw c 1) 12 0
  if !sinkExists k then (s, .rc rcMalformed)
  else if !sinkValid s.rateClass k then (s, .rc rcRefused)
  else
    let m := s.mux k
    let w2 := m.src + flag (!srcValid s.rateClass m.src) * 2 ^ 16 + flag m.old.isSome * 2 ^ 17
    let j := k % 1024
    (s, .ok (word w2 :: if 2048 ≤ k ∧ k < 4096 then [s.reg (R.PATCH_FOCTL j), s.reg (R.PATCH_FOSTAT j)] else []))

/-- A patch-table request: SCHEDULED with the start Stile, or NO_SPACE (R83, R88). -/
def patchBody (c : Cmd) (code : Nat) (isMatrix : Bool) (e : Entry) (s : State) : State × Rep :=
  match worst (s.entryCodes c.sender .basic e) with
  | some rc => (s, .rc rc)
  | none =>
    let r := s.rampOf [] e.ramp
    match patchRequest isMatrix e.obj (e.val.extractLsb' 0 24).toInt r.1 r.2 (s.tokOf c code) s with
    | some (s, p) => (s, .sched p)
    | none => (s.raise 205, .rc rcNoSpace)

/-- SET_SEND. -/
def setSendBody (c : Cmd) (s : State) : State × Rep :=
  let tap := bit (s.coefWord false (s.activeB false) (sendXp c)) 24
  if bit (cw c 2) 17 && bit (cw c 2) 16 != tap then submitCmd c 0x0600 (sendEntries true c s) 0 (s := s)
  else match sendEntries false c s with
    | e :: _ => patchBody c 0x0600 false e s
    | [] => (s, .rc rcDone)

/-- SET_MATRIX. -/
def setMatrixBody (c : Cmd) (s : State) : State × Rep :=
  match matrixEntries c s with
  | e :: _ => patchBody c 0x0601 true e s
  | [] => (s, .rc rcDone)

/-- SET_BUS_HEADROOM: held for the next engine start (R127). -/
def setHeadroomBody (c : Cmd) (s : State) : State × Rep :=
  let i := bits (cw c 1) 8 0
  let m := bit (cw c 1) 15
  let h := word (min 6 (bits (cw c 1) 18 16))
  let cap := (if m then 256 else 512) / (if s.rateClass = 2 then 2 else 1)
  if m && decide (256 ≤ i) then (s, .rc rcMalformed)
  else if cap ≤ i then (s, .rc rcRefused)
  else (s.hold (if m then R.SUM_HRM i else R.SUM_HRB i) h, .rc rcDone)

/-! ### Modules (R460) -/

/-- SET_PARAM, with the coefficients of its FIR_COEF pair as they came (DEDUCED, assumption 29). -/
def setParamRun (data : List Byte) (c : Cmd) (s : State) : State × Rep :=
  match paramEntries c (bytesWords data) s with
  | [] => (s, .rc rcDone)
  | es => submitCmd c 0x0700 es 0 (s := s)

/-- SET_PARAM. -/
def setParamBody (c : Cmd) (s : State) : State × Rep :=
  if c.words.length < 1 + 3 * clampNat 1 20 (bits (cw c 1) 23 16) then (s, .rc rcMalformed)
  else if wantsFir c && firWords c s != 0 then (s, .bulk (4 * firWords c s))
  else setParamRun [] c s

/-- GET_PARAM. -/
def getParamBody (c : Cmd) (s : State) : State × Rep :=
  let inst := bits (cw c 1) 11 0
  let f := bits (cw c 2) 15 0
  if (modKind inst).isNone || (paramRow s.rateCode inst f).isNone then (s, .rc rcMalformed)
  else if !instValid s.rateClass inst then (s, .rc rcRefused)
  else if modKind inst = some .out ∧ f = 0x5002 then (s, .ok [crcWords (s.firSet (inst - 1536))])
  else (s, .ok [s.paramActive inst f])

/-- An OEM module stored from its image (R232) (DESIGN CHOICE, assumption 87). -/
def loadModuleRun (img : List Byte) (c : Cmd) (s : State) : State × Rep :=
  let m := bits (cw c 1) 5 0
  let h := Config.moduleHeader img
  if s.mods.oemPlaced.any (fun p => p.2.mod == m) || decide (256 < h 1) then (s, .rc rcRefused)
  else
    let o : OemModule :=
      { entry := h 0, nparam := h 1, c := (List.range 5).map (fun i => h (4 + i)), r := (List.range 5).map (fun i => h (9 + i))
        stateBytes := h 2, readsPred := decide (h 3 % 2 = 1), image := img }
    let ps := s.path.params.filter fun p => kget s.mods.oemLast (p.1 / 65536) != some m
    ({ s with
        path := { s.path with params := ps }
        mods := { s.mods with oem := kset s.mods.oem m o } }, .ok [word m])

/-- The BK6 staging area (R391): an offset of it as an internal address. -/
def bk6 (off : Nat) : Nat := 0x6000000 + off

/-- LOAD_MODULE. -/
def loadModuleBody (c : Cmd) (s : State) : State × Rep :=
  let n := (cw c 2).toNat
  if bit (cw c 1) 31 then
    loadModuleRun (if n ≤ 0x1000000 then s.bytes (bk6 (bits (cw c 3) 23 0)) n else []) c s
  else if n = 0 then loadModuleRun [] c s
  else (s, .bulk n)

/-- The usable LPDDR5 in bytes, and the free store of R226. -/
def State.ddrBytes (s : State) : Nat := s.get F.DDR_STAT_SIZE * 2 ^ 28
def State.freeStore (s : State) : Nat :=
  s.ddrBytes - (s.mods.placed.filter fun i => decide (1536 ≤ i ∧ i < 1792)).length * 2 ^ 20 - 64 * 2 ^ 20
    - (s.mods.msgs.map fun m => 3 * m.2.len).sum

/-- The neighbours PLACE lists, two per word from w6 (R460). -/
def placeNeighbours (c : Cmd) (p n : Nat) : List Nat :=
  (List.range n).map fun i =>
    let k := p + i
    bits (cw c (6 + k / 2)) (if k % 2 = 0 then 15 else 31) (if k % 2 = 0 then 0 else 16)

/-- The OEM placement a PLACE asks for. -/
def oemPlaceOf (c : Cmd) : OemPlace :=
  let p := bits (cw c 5) 7 0
  let n := bits (cw c 5) 15 8
  { mod := bits (cw c 2) 5 0, cmask := bits (cw c 3) 5 0, kmask := bits (cw c 3) 15 8
    point := Limit.apply (.above 2 0) (bits (cw c 4) 1 0), group := bits (cw c 4) 15 8
    preds := placeNeighbours c 0 p, succs := placeNeighbours c p n }

/-- Placement written to the extents and the template (R133, R188). -/
def placed (ps : List Nat) (oem : KMap OemPlace) (s : State) : State :=
  let s := { s with mods := { s.mods with placed := ps, oemPlaced := oem } }
  let s := (s.put F.SUM_EXTS_NSTRIP s.placedStrips).put F.SUM_EXTS_NBUS s.placedBuses
  buildTemplate (s.put F.SUM_EXTM_NOUT s.placedOuts)

/-- The return code of a placement that would follow (R136, R205–R207, R225, R460) (DEDUCED, assumption 31; DEDUCED, assumption 104). -/
def placeCode (inst : Nat) (ps : List Nat) (oem : KMap OemPlace) (s : State) : Nat :=
  let t := { s with mods := { s.mods with placed := ps, oemPlaced := oem } }
  if 960 < t.handles then rcNoSpace
  else if !t.admits then rcRefused
  else if 1536 ≤ inst ∧ inst < 1792 ∧ s.ddrBytes ≠ 0 ∧ s.freeStore < 2 ^ 20 then rcNoSpace
  else rcDone

/-- PLACE (DEDUCED, assumption 31; DESIGN CHOICE, assumption 87). -/
def placeBody (c : Cmd) (s : State) : State × Rep :=
  let inst := bits (cw c 1) 11 0
  let rem := bit (cw c 1) 31
  match modKind inst with
  | none => (s, .rc rcMalformed)
  | some .oem =>
    if !s.expert c.sender then (s, .rc rcLocked)
    else if rem then
      if (kget s.mods.oemPlaced inst).isSome then (placed s.mods.placed (kdel s.mods.oemPlaced inst) s, .rc rcDone)
      else (s, .rc rcDone)
    else
      let o := oemPlaceOf c
      if c.words.length < 5 ∨ c.words.length < 5 + (o.preds.length + o.succs.length + 1) / 2 then (s, .rc rcMalformed)
      else if (kget s.mods.oem o.mod).isNone then (s, .rc rcRefused)
      else
        let oem := kset s.mods.oemPlaced inst o
        let code := placeCode inst s.mods.placed oem s
        if code = rcDone then
          let s := { s with mods := { s.mods with oemLast := kset s.mods.oemLast inst o.mod } }
          (placed s.mods.placed oem s, .rc rcDone)
        else (s, .rc code)
  | some _ =>
    if !instValid s.rateClass inst then (s, .rc rcRefused)
    else if rem == !s.isPlaced inst then (s, .rc rcDone)
    else if rem then (placed (s.mods.placed.filter (· != inst)) s.mods.oemPlaced s, .rc rcDone)
    else
      let ps := s.mods.placed ++ [inst]
      let code := placeCode inst ps s.mods.oemPlaced s
      if code = rcDone then (placed ps s.mods.oemPlaced s, .rc rcDone) else (s, .rc code)

/-- PLAY_MESSAGE (R228, R466). -/
def playMessageBody (c : Cmd) (s : State) : State × Rep :=
  if !s.isPlaced (1792 + bits (cw c 1) 5 0) then (s, .rc rcRefused)
  else if bit (cw c 1) 8 then submitCmd c 0x0C02 (playEntries c) 0 (s := s)
  else if c.words.length < 7 then (s, .rc rcMalformed)
  else submitCmd c 0x0C02 (playEntries c) (wide (cw c 6) (cw c 7)) (s := s)

/-! ### The commands -/

/-- ROUTE (R453, R459). -/
def execRoute (c : Cmd) (s : State) : Host.Outcome State Fault Refusal := .next (silwen 0x0500 3 false routeBody c s)
/-- ROUTE_BACKUP (R453, R459). -/
def execRouteBackup (c : Cmd) (s : State) : Host.Outcome State Fault Refusal :=
  .next (silwen 0x0501 2 false routeBackupBody c s)
/-- GET_ROUTE (R32, R459). -/
def execGetRoute (c : Cmd) (s : State) : Host.Outcome State Fault Refusal := .next (silwen 0x0502 1 false getRouteBody c s)
/-- SET_SEND (R83, R88, R459). -/
def execSetSend (c : Cmd) (s : State) : Host.Outcome State Fault Refusal := .next (silwen 0x0600 3 false setSendBody c s)
/-- SET_MATRIX (R83, R88, R459). -/
def execSetMatrix (c : Cmd) (s : State) : Host.Outcome State Fault Refusal := .next (silwen 0x0601 3 false setMatrixBody c s)
/-- SET_BUS_HEADROOM (R127, R459). -/
def execSetBusHeadroom (c : Cmd) (s : State) : Host.Outcome State Fault Refusal :=
  .next (silwen 0x0602 1 false setHeadroomBody c s)
/-- SET_PARAM (R209, R453, R460). -/
def execSetParam (c : Cmd) (s : State) : Host.Outcome State Fault Refusal := .next (silwen 0x0700 4 false setParamBody c s)
/-- GET_PARAM (R460). -/
def execGetParam (c : Cmd) (s : State) : Host.Outcome State Fault Refusal := .next (silwen 0x0701 2 false getParamBody c s)
/-- LOAD_MODULE (R232, R460). -/
def execLoadModule (c : Cmd) (s : State) : Host.Outcome State Fault Refusal := .next (silwen 0x0702 3 true loadModuleBody c s)
/-- PLACE (R133, R136, R188, R207, R460). -/
def execPlace (c : Cmd) (s : State) : Host.Outcome State Fault Refusal := .next (silwen 0x0703 1 false placeBody c s)
/-- PLAY_MESSAGE (R228, R466). -/
def execPlayMessage (c : Cmd) (s : State) : Host.Outcome State Fault Refusal :=
  .next (silwen 0x0C02 1 false playMessageBody c s)

end Sys2Proof.Machine
end

