-- ==== Sys2Proof/Machine/Tdm.lean ====
section
/-! DEFINITION. TDM ports and rate converters (R236–R256): frames, slot masks, port states, lock and
loss, buffer faults and capture to memory. -/

namespace Sys2Proof.Machine

/-! ### Configuration (R236–R240) -/

/-- A port's typed part. -/
def State.port (s : State) (p : Nat) : TdmSt := kgetD s.tdm p {}
/-- The state with a port's typed part rewritten. -/
def State.modPort (s : State) (p : Nat) (f : TdmSt → TdmSt) : State :=
  { s with tdm := ksetD s.tdm p (f (s.port p)) {} }

/-- A port's state: 0 OFF, 1 ACQUIRE, 2 RUNNING, 3 LOST (R244). -/
def State.tdmState (s : State) (p : Nat) : Nat := s.get (F.TDM_STAT_STATE p)
/-- Whether a port is asynchronous. -/
def State.tdmAsync (s : State) (p : Nat) : Bool := s.get (F.TDM_CFG_MODE p) != 0
/-- Slot width in bits, slots and the bit clocks a frame must hold (R236). -/
def State.slotBits (s : State) (p : Nat) : Nat :=
  match s.get (F.TDM_CFG_SW p) with | 0 => 16 | 1 => 24 | _ => 32
def State.slotCount (s : State) (p : Nat) : Nat :=
  if s.get (F.TDM_CFG_FMT p) < 2 then 2 else max 1 (s.get (F.TDM_CFG_SLOTS p)) + 1
def State.frameBits (s : State) (p : Nat) : Nat := s.slotCount p * s.slotBits p

/-- The bit clocks between the active edge of FS and slot 0 (R236). -/
def State.slotLead (s : State) (p : Nat) : Nat :=
  match s.get (F.TDM_CFG_FMT p) with | 0 => 1 | 1 => 0 | _ => s.get (F.TDM_CFG_DELAY p)

/-- FS and DIN as a port samples them at each bit clock: on the rising edge, or with BCLKPOL the falling one, FS
inverted with FSPOL (R236). -/
def State.sampled (s : State) (p : Nat) (f : TdmFrame) : List (Bool × Bool) :=
  let pol := s.on (F.TDM_CFG_FSPOL p)
  f.clocks.map fun c =>
    if s.on (F.TDM_CFG_BCLKPOL p) then (xor pol c.fsFall, c.dinFall) else (xor pol c.fsRise, c.dinRise)

/-- The bit clocks at which FS has an active edge: falling for I²S, else rising (R236). -/
def fsEdges (falling : Bool) : Bool → Nat → List (Bool × Bool) → List Nat
  | _, _, [] => []
  | was, k, c :: cs => (if was == falling && c.1 != falling then [k] else []) ++ fsEdges falling c.1 (k + 1) cs

/-- The frame at the pins: DIN from its active edge on, and the bit clocks it holds; none without an active edge, nor
while the block is stopped (R382). -/
def State.frameAt (s : State) (p : Nat) (f : TdmFrame) : Option (List Bool × Nat) :=
  let cs := if s.blockRuns 1 then s.sampled p f else []
  match fsEdges (s.get (F.TDM_CFG_FMT p) == 0) (xor (s.on (F.TDM_CFG_FSPOL p)) f.fsBefore) 0 cs with
  | [] => none
  | a :: rest => some ((cs.drop a).map (·.2), rest.head?.getD cs.length - a)

/-- The bits of slot `k`, most significant first; a bit the command does not bring is free (R236). -/
def State.slotIn (s : State) (p k : Nat) (din : List Bool) : Word :=
  let w := s.slotBits p
  let first := s.slotLead p + k * w
  word ((List.range w).foldl (fun (a i : Nat) =>
    2 * a + (match din[first + i]? with | some b => flag b | none => Config.undefNat (s.free + i) % 2)) 0)

/-- The applied width of a map word in a rate class (R239). -/
def mapWidth (cls : Nat) (w : Word) : Nat :=
  let total := if cls = 2 then 256 else 512
  min (min (bits w 21 16) (if cls = 0 then 32 else if cls = 1 then 16 else 8)) (total - bits w 8 0)

/-- The map register of a direction. -/
def mapReg (rx : Bool) (p : Nat) : Nat := if rx then R.TDM_RXMAP p else R.TDM_TXMAP p

/-- The channels of a map word. -/
def mapChans (cls : Nat) (w : Word) : List Nat := (List.range (mapWidth cls w)).map (bits w 8 0 + ·)

/-- The channels of a direction that port `p` covers. -/
def State.portChans (s : State) (rx : Bool) (p : Nat) : List Nat := mapChans s.rateClass (s.reg (mapReg rx p))

/-- Channels of port `p` withheld since it started, which an enabled port of lower number carried then (R240). -/
def State.withheld (s : State) (rx : Bool) (p : Nat) : List Nat := if rx then (s.port p).noRx else (s.port p).noTx

/-- The channels a port carries. -/
def State.carried (s : State) (rx : Bool) (p : Nat) : List Nat :=
  (s.portChans rx p).filter fun c => !(s.withheld rx p).contains c

/-- The channels of port `p` that an enabled port of lower number carries (R240). -/
def State.overlap (s : State) (rx : Bool) (p : Nat) : List Nat :=
  (s.portChans rx p).filter fun c => (List.range p).any fun q => s.on (F.TDM_CFG_EN q) && (s.carried rx q).contains c

/-! ### States and events (R244, R255) -/

/-- A port moved to a state; event 132 + p on a change; RUNNING returns it to service (R418). -/
def setTdmState (p st : Nat) (s : State) : State :=
  if s.tdmState p = st then s
  else ((s.put (F.TDM_STAT_STATE p) st).raise (132 + p)).when (st == 2) fun s => s.unitDone 4 p

/-- A W1C bit of TDM_STAT set; event 132 + p when it was 0. -/
def tdmFlag (p : Nat) (f : FieldRef) (s : State) : State :=
  if s.on f then s else (s.put f 1).raise (132 + p)

/-- The port enters ACQUIRE anew: counts and buffers empty, its converters acquire again (R244, R248). -/
def tdmAcquire (p : Nat) (s : State) : State :=
  let s := (s.put (F.ASRC_STAT_LOCKED p) 0).put (F.ASRC_STAT_LOCKED (32 + p)) 0
  setTdmState p 1 (s.modPort p fun t =>
    { t with good := 0, bad := 0, first := none, count := 0, align := 0, inq := [], outq := [], outDown := none, dout := []
             stamps := [], seen := 0, inConv := {}, outConv := {} })

/-- A port started: the held fields of the port and its converters applied, the slots withheld, ACQUIRE
entered (R240, R244). -/
def tdmStart (p : Nat) (s : State) : State :=
  let s := ((s.applyHeld (R.TDM_CFG p)).applyHeld (R.TDM_RXMAP p)).applyHeld (R.TDM_TXMAP p)
  let s := (s.applyHeld (R.ASRC_CTL p)).applyHeld (R.ASRC_CTL (32 + p))
  let rx := s.overlap true p
  let tx := s.overlap false p
  let s := s.put (F.TDM_STAT_MAPERR p) (flag (rx != [] || tx != []))
  tdmAcquire p (s.modPort p fun t =>
    { t with noRx := rx, noTx := tx, live := false, rampUp := none, rampDown := none, last := [] })

/-- EN written (R244). -/
def tdmEnableOp (p : Nat) (en : Bool) (s : State) : State :=
  if en then
    if s.on (F.TDM_CFG_EN p) then s else tdmStart p (s.put (F.TDM_CFG_EN p) 1)
  else
    let s := (s.put (F.TDM_CFG_EN p) 0).put (F.TDM_RATE_RATE p) 0
    let s := (s.put (F.ASRC_STAT_LOCKED p) 0).put (F.ASRC_STAT_LOCKED (32 + p)) 0
    setTdmState p 0 (s.modPort p fun t =>
      { t with live := false, rampUp := none, rampDown := none, inq := [], outq := [], last := [], lastEdge := none
               bclk := none, outDown := none, dout := [], stamps := [], seen := 0, inConv := {}, outConv := {} })

/-- RUNNING entered by a SYNC port after 64 good frames; its alignment comes from the next frame (R244, R246) (DESIGN CHOICE, assumption 7). -/
def tdmSyncLockOp (p : Nat) (s : State) : State :=
  if s.tdmState p = 1 ∧ s.tdmAsync p = false ∧ 64 ≤ (s.port p).good then
    setTdmState p 2 (s.modPort p fun t => { t with first := none, count := 0, align := 0, inq := [] })
  else s

/-! ### Rate converters (R248–R250) -/

/-- Converter `c` of its port: below 32 the input's, above the output's. -/
def TdmSt.conv (t : TdmSt) (c : Nat) : AsrcSt := if c < 32 then t.inConv else t.outConv
def TdmSt.setConv (t : TdmSt) (c : Nat) (a : AsrcSt) : TdmSt :=
  if c < 32 then { t with inConv := a } else { t with outConv := a }

/-- DLY of a converter in units of 0.5 ns. -/
def State.dlyStamp (s : State) (c : Nat) : Nat := s.get (F.ASRC_CTL_DLY c) * 20000

/-- Where the port's frames stand at the Stile `k`, for an input converter DLY before it, by the last two edges, in
units of 2⁻³² frame (R248). -/
def State.framePos (s : State) (c k : Nat) : Int :=
  let t := s.port (c % 32)
  let s0 := t.stamps.getD 0 0
  let s1 := t.stamps.getD 1 0
  let delay := if c < 32 then s.dlyStamp c else 0
  (t.seen : Int) * 2 ^ 32 + nearQuot (((k : Int) * 2000000000 - (s0 + delay : Nat) * s.fs) * 2 ^ 32) ((s0 - s1) * s.fs)

/-- The ratio of port to engine rate in Q4.28 over the last 256 frame intervals (R248). -/
def State.ratio256 (s : State) (p : Nat) : Nat :=
  let t := s.port p
  (nearQuot (256 * 2000000000 * 2 ^ 28) ((t.stamps.getD 0 0 - t.stamps.getD 256 0) * s.fs)).toNat

/-- The pair of a converter for the round that begins at the Stile `k` (R248–R250): estimated from 256 intervals,
then tracked by the loop, or with HOLD kept (DESIGN CHOICE, assumption 93). -/
def State.nextPair (s : State) (c k : Nat) : AsrcSt :=
  let t := s.port (c % 32)
  let a := t.conv c
  let est := a.pos + (a.ratio.getD 0 * s.roundLen * 16 : Nat)
  match a.acq with
  | some i =>
    if i + 256 < t.seen then
      { ratio := some (s.ratio256 (c % 32)), pos := s.framePos c k, err := 0, since := some s.time.dur, acq := none }
    else { a with pos := est }
  | none =>
    let err := s.framePos c k - est
    let since := if err.natAbs ≤ 2 ^ 32 then a.since.orElse fun _ => some s.time.dur else none
    if s.on (F.ASRC_CTL_HOLD c) then { a with pos := est, err := err, since := since }
    else
      let bw := s.get (F.ASRC_CTL_BW c)
      let r := a.ratio.getD 0
      { a with ratio := some (Config.trackRatio bw r err), pos := est + Config.trackShift bw r err, err := err, since := since }

/-- A pair fixed for the round, and shown in ASRC_RATIOc (R250). -/
def pairPut (c : Nat) (a : AsrcSt) (s : State) : State :=
  (s.modPort (c % 32) fun t => t.setConv c a).setReg (R.ASRC_RATIO c) (word (min (2 ^ 32 - 1) (a.ratio.getD 0)))

/-- The pairs of an asynchronous port's converters at the round-start Stile `k` (R250). -/
def asrcTick (k p : Nat) (s : State) : State :=
  if s.tdmAsync p then
    let i := s.nextPair p k
    let o := s.nextPair (32 + p) k
    pairPut (32 + p) o (pairPut p i s)
  else s

/-- Whether a converter may lock: its position error has stayed within one port frame for 10 ms (R248) (DESIGN CHOICE, assumption 93). -/
def State.tracked (s : State) (c : Nat) : Bool :=
  let a := (s.port (c % 32)).conv c
  a.acq.isNone && a.since.any fun t => decide (t + 10000000 * 2 ^ 32 ≤ s.time.dur)

/-- Whether the position error of a converter exceeds DLY / 2 (R249). -/
def State.strayed (s : State) (c : Nat) : Bool :=
  let a := (s.port (c % 32)).conv c
  decide (s.get (F.ASRC_CTL_DLY c) * a.ratio.getD 0 * s.fs * 2 ^ 4 < 200000 * a.err.natAbs)

/-- A converter locked; with both locked the port runs (R244, R248). -/
def asrcLockOp (c : Nat) (s : State) : State :=
  let p := c % 32
  if s.tdmAsync p && s.tdmState p != 0 && s.tracked c then
    let s := s.put (F.ASRC_STAT_LOCKED c) 1
    if s.on (F.ASRC_STAT_LOCKED p) && s.on (F.ASRC_STAT_LOCKED (32 + p)) && s.tdmState p == 1 then setTdmState p 2 s else s
  else s

/-- A converter relocks: its samples ramp to zero, the port returns to ACQUIRE, the converter acquires again
(R249) (DESIGN CHOICE, assumption 94). -/
def asrcRelockOp (c : Nat) (s : State) : State :=
  let p := c % 32
  if s.on (F.ASRC_STAT_LOCKED c) && s.strayed c then
    let s := ((s.put (F.ASRC_STAT_LOCKED c) 0).incField (F.ASRC_STAT_RELOCK c)).put (F.ASRC_STAT_RELOCKEV c) 1
    let ramp := some (s.now, s.minRamp)
    let s := s.modPort p fun t => if c < 32 then { t with rampDown := ramp } else { t with outDown := ramp }
    let s := s.modPort p fun t => t.setConv c { t.conv c with since := none, err := 0, acq := some t.seen }
    if s.tdmState p = 2 then setTdmState p 1 s else s
  else s

/-! ### Lost clocks (R254) -/

/-- How far a linear ramp up from the sample `r` over `up` samples has brought a value at sample `m` (R245). -/
def rampedUp (r : Option Nat) (up m : Nat) (x : Sample) : Sample :=
  match r with
  | some r => if m < r then 0 else if m < r + up then rampSample x (2 * (m - r) + 1) (2 * up) else x
  | none => x

/-- Four nominal frame periods of a port in units of 2⁻³² ns, by numerator and denominator (R254): 1/fs, the last
locked rate, or 1/30 kHz. -/
def State.fourPeriods (s : State) (p : Nat) : Nat × Nat :=
  if s.tdmAsync p then
    match (s.port p).inConv.ratio with
    | some r => (4 * 1000000000 * 2 ^ 60, r * s.fs)
    | none => (4 * 1000000000 * 2 ^ 32, 30000)
  else (4 * 1000000000 * 2 ^ 32, s.fs)

/-- The clock of a port lost: frames held discarded, LOST entered and counted (R254). -/
def tdmLose (p : Nat) (s : State) : State :=
  let s := (s.incSat (R.TDM_LOST p)).put (F.TDM_RATE_RATE p) 0
  let s := tdmFlag p (F.TDM_STAT_LOSTEV p) s
  let s := (s.put (F.ASRC_STAT_LOCKED p) 0).put (F.ASRC_STAT_LOCKED (32 + p)) 0
  let at' := s.now
  let up := s.samplesOf 1000
  setTdmState p 3 (s.modPort p fun t =>
    { t with last := t.last.map (rampedUp t.rampUp up at'), rampUp := none, inq := [], outq := [], outDown := none
             good := 0, bad := 0, lastEdge := none, stamps := [], seen := 0, inConv := {}, outConv := {} })

/-- TDM_CLOCK_LOST: no edge within four nominal frame periods of the last one (R254). -/
def tdmClockLostOp (p : Nat) (s : State) : State :=
  let due := match (s.port p).lastEdge with
    | some t => decide ((s.fourPeriods p).1 ≤ (s.time.dur - t) * (s.fourPeriods p).2)
    | none => false
  if (s.tdmState p = 1 ∨ s.tdmState p = 2) ∧ due = true then tdmLose p s else s

/-! ### Masks (R241–R243) -/

/-- GO: both pending masks to be moved at an active FS edge (R242). -/
def tdmMaskgoOp (p : Nat) (s : State) : State :=
  (s.put (F.TDM_STAT_MASKPEND p) 1).modPort p fun t => { t with goAt := some s.time.dur }

/-- Whether the masks may move at an edge now: the GO write lies more than two BCLK periods before it (R242). -/
def State.goRipe (s : State) (p : Nat) : Bool :=
  match (s.port p).goAt, (s.port p).bclk with
  | some t, some (len, n) => decide (2 * len < (s.time.dur - t) * n)
  | _, _ => true

/-- The pending masks moved at an active FS edge (R242). -/
def tdmMaskMoveOp (p : Nat) (s : State) : State :=
  if s.on (F.TDM_STAT_MASKPEND p) && s.goRipe p then
    (s.put (F.TDM_STAT_MASKPEND p) 0).modPort p fun t =>
      { t with rxMask := s.reg (R.TDM_RXMASK p), txMask := s.reg (R.TDM_TXMASK p), goAt := none, goMoved := true }
  else s

/-- Whether a Hamper's RX mask holds for a frame: from the one that carries input sample p, or whose edge lies at
or after the instant of Stile p less DLY (R243). -/
def State.rxDue (s : State) (p : Nat) (h : HampMask) (num stamp : Nat) : Bool :=
  if s.tdmAsync p then decide (h.mti * 2000000000 ≤ (stamp + s.dlyStamp p) * s.fs) else decide (h.num ≤ num)

/-- Whether a Hamper's TX mask holds for a frame sent at sample period `e`: from the one that carries output sample
p, or whose edge lies at or after the instant of Stile p + 2N plus DLY (R243). -/
def State.txDue (s : State) (p : Nat) (h : HampMask) (e stamp : Nat) : Bool :=
  if s.tdmAsync p then
    decide ((h.mti + 2 * s.roundLen) * 2000000000 + s.dlyStamp (32 + p) * s.fs ≤ stamp * s.fs)
  else decide (h.num + 2 * s.roundLen ≤ e)

/-- The masks of Hampers that are due for the frame now received and sent, after those of GO (R243). -/
def hampMasks (p num e stamp : Nat) (s : State) : State :=
  let rx := (s.port p).hampRx.partition fun h => s.rxDue p h num stamp
  let tx := (s.port p).hampTx.partition fun h => s.txDue p h e stamp
  s.modPort p fun t =>
    { t with rxMask := (rx.1.getLast?.map HampMask.mask).getD t.rxMask, hampRx := rx.2
             txMask := (tx.1.getLast?.map HampMask.mask).getD t.txMask, hampTx := tx.2 }

/-- A mask put on the received frames from the first that `hit` takes, up to a later one at which GO moved the
masks; with the frames, whether any was taken and whether such a move ended it (R243). -/
def maskFrames (hit : InFrame → Bool) (m : Word) : Bool → List InFrame → List InFrame × Bool × Bool
  | seen, [] => ([], seen, false)
  | seen, f :: fs =>
    if seen && f.go then (f :: fs, true, true)
    else
      let now := seen || hit f
      let r := maskFrames hit m now fs
      ((if now then { f with mask := m } else f) :: r.1, r.2)

/-- A mask a Hamper commits at the Stile with MTI `mti`; frames it holds for may be in the buffer already (R243). -/
def tdmMaskCommit (p fld mti : Nat) (v : Word) (s : State) : State :=
  let h : HampMask := ⟨mti, s.sampleAt mti, v⟩
  if fld = 0 then
    let r := maskFrames (fun f => s.rxDue p h f.num f.stamp) v false (s.port p).inq
    s.modPort p fun t =>
      { t with inq := r.1, rxMask := if r.2.1 && !r.2.2 then v else t.rxMask
               hampRx := if r.2.1 then t.hampRx else t.hampRx ++ [h] }
  else s.modPort p fun t => { t with hampTx := t.hampTx ++ [h] }

/-! ### Samples (R238, R246, R252) -/

/-- The Q1.23 sample of a slot's bits (R238). -/
def slotSample (width : Nat) (w : Word) : Sample :=
  if width = 16 then BitVec.ofNat 24 (w.toNat % 2 ^ 16 * 2 ^ 8)
  else if width = 24 then w.extractLsb' 0 24 else w.extractLsb' 8 24

/-- A sample as a slot of an output frame carries it, as a sample again (R238). -/
def slotOut (width : Nat) (x : Sample) : Sample :=
  if width = 16 then BitVec.ofInt 24 ((satTo 16 (roundEven x.toInt 8)).1 * 2 ^ 8) else x

/-- The bits of an output slot (R238). -/
def slotWord (width : Nat) (x : Sample) : Word :=
  let y := (slotOut width x).toNat
  word (if width = 16 then y / 2 ^ 8 else if width = 24 then y else y * 2 ^ 8)

/-- A value emitted in the sample period `e` under a ramp of every sink to zero, or up from it (R53, R381). -/
def State.sinkRamp (s : State) (e : Nat) (v : Sample) : Sample :=
  match s.eng.down with
  | some (n, d) => if n + d ≤ e then 0 else if n ≤ e then rampSample v (2 * (d - (e - n)) - 1) (2 * d) else v
  | none => rampedUp (s.eng.up.map (·.1)) ((s.eng.up.map (·.2)).getD 0) e v

/-- The sample an external sink emits in the sample period `e` (R49, R53, R41): of the round processed before the one
in process, or of that one for a period still to come; zero while rounds are discarded. -/
def State.emittedAt (s : State) (e sink : Nat) : Sample :=
  if !s.eng.running || s.eng.discard != 0 then 0
  else
    let i := e - s.eng.base
    let m := e - 2 * s.roundLen
    let t := { s with sig := { s.sig with cur := s.sig.prev } }
    s.sinkRamp e (if i < s.roundLen then BitVec.ofInt 24 (t.sinkSample sink m i)
      else if i < 2 * s.roundLen then BitVec.ofInt 24 (s.sinkSample sink m (i - s.roundLen))
      else Config.moduleSample s.free sink e)

/-- The value of a converter at a position among the samples it holds: rounded to 24 bits, to nearest with ties to
even, and saturated (R248). -/
def converted (xs : List Int) (pos : Int) (step : Nat) : Sample :=
  BitVec.ofInt 24 (satTo 24 (roundEven (Config.convert xs pos step) 8)).1

/-- The value of the engine output at the frame now sent, less DLY, by the pair of the round (R248, R250). -/
def State.outConverted (s : State) (p slot : Nat) : Sample :=
  let t := s.port p
  let r := t.outConv.ratio.getD 0
  let ahead : Int := nearQuot (((t.seen : Int) * 2 ^ 32 - t.outConv.pos) * 2 ^ 28) r
  let x := (s.eng.base : Int) * 2 ^ 32 + ahead - (s.get (F.ASRC_CTL_DLY (32 + p)) * s.fs * 2 ^ 32 / 100000 : Nat)
  let first := (t.outq.head?.map (·.1)).getD 0
  converted (t.outq.map fun f => (f.2.getD slot 0).toInt) (x - (first : Int) * 2 ^ 32) (2 ^ 56 / r)

/-- The sample of an output slot in the sample period `e`: of a SYNC port the sink's, of an ASYNC port what its
converter gives, from zero up over 10 ms after the move to RUNNING, and to zero on a relock (R245, R246, R248, R249). -/
def State.slotValue (s : State) (p slot c e : Nat) : Sample :=
  let t := s.port p
  let x := if s.tdmAsync p then s.outConverted p slot
    else match kget t.outq e with
      | some f => f.getD slot 0
      | none => s.emittedAt e (1024 + c)
  let y := match t.rampUp with
    | some _ => rampedUp t.rampUp (s.samplesOf 1000) e x
    | none => 0
  match t.outDown with
  | some (r, d) => if e < r then y else if e < r + d then rampSample y (2 * (d - (e - r)) - 1) (2 * d) else 0
  | none => y

/-- Whether the port drives DOUT: RUNNING, or while its converter ramps to zero on a relock; not on a standby, nor on
a chip that has failed, sleeps, or has not started its engine (R244, R245, R249, R354, R384, R436) (DESIGN CHOICE, assumption 94). -/
def State.doutOn (s : State) (p : Nat) : Bool :=
  s.boot.engineStarted && !s.standby && !s.tnd.failed && !s.asleep && (s.tdmState p == 2 || (s.tdmState p == 1 && (s.port p).outDown.any fun r => decide (s.now < r.1 + r.2)))

/-- The sample a slot is driven with, or none where it is high-impedance: beyond the applied width, masked, or
withheld (R240, R241) (DESIGN CHOICE, assumption 94). -/
def State.slotSent (s : State) (p slot e : Nat) : Option Sample :=
  match (s.portChans false p)[slot]? with
  | some c =>
    if s.doutOn p && (s.port p).txMask.getLsbD slot && !(s.withheld false p).contains c then
      some (slotOut (s.slotBits p) (s.slotValue p slot c e))
    else none
  | none => none

/-- What DOUT carries up to a number of bit clocks after the active edge (R236, R241): the last frame sent again where
the reader found none (R252). -/
def doutPut (p e clocks : Nat) (again : Bool) (s : State) : State :=
  let w := s.slotBits p
  let slots := if again && s.tdmAsync p && s.doutOn p then (s.port p).dout
    else (List.range (s.slotCount p)).map fun k => (s.slotSent p k e).map (slotWord w)
  let lead := s.slotLead p
  let fall := !s.on (F.TDM_CFG_BCLKPOL p)
  s.modPort p fun t => { t with dout := slots, doutLead := lead, doutFall := fall, doutLen := clocks }

/-- The level of DOUT in bit clock `k` of the last frame, launched on the edge `doutFall` names; none is
high-impedance (R236, R241, R253). -/
def TdmSt.doutAt (t : TdmSt) (width k : Nat) : Option Bool :=
  if k < t.doutLead ∨ t.doutLen ≤ k then none
  else
    let j := k - t.doutLead
    ((t.dout.getD (j / width) none).map fun w => w.getLsbD (width - 1 - j % width))

/-- One sample of capture in its packing (R256). -/
def packSample (pack : Nat) (x : Sample) : List Byte :=
  if pack = 0 then natBytes 4 (x.toNat * 2 ^ 8) else natBytes 3 x.toNat

/-- A byte written to the capture ring; with STOP, capture ends when the ring is full (R256). -/
def capByte (p : Nat) (b : Byte) (s : State) : State :=
  if !(s.port p).capOn then s
  else
    let len := max 64 (s.get (F.TDM_CAPLEN_LEN p) * 64)
    let base := (s.reg (R.TDM_CAPBASEL p)).toNat + (s.reg (R.TDM_CAPBASEH p)).toNat * 2 ^ 32
    let wp := (s.reg (R.TDM_CAPWP p)).toNat
    let s := s.setByte (base + wp) b
    if wp + 1 < len then s.setReg (R.TDM_CAPWP p) (word (wp + 1))
    else if s.on (F.TDM_CAPCTL_STOP p) then
      ((s.setReg (R.TDM_CAPWP p) (word len)).put (F.TDM_CAPCTL_FULL p) 1).put (F.TDM_CAPCTL_EN p) 0
        |>.modPort p fun t => { t with capOn := false }
    else s.setReg (R.TDM_CAPWP p) 0

/-- A frame captured: the selected slots in ascending order (R256). -/
def capFrame (p e : Nat) (inSlots : List Sample) (s : State) : State :=
  if !(s.port p).capOn then s
  else
    let out := s.on (F.TDM_CAPCTL_DIR p)
    let slots := (List.range (min 32 (s.slotCount p))).filter fun k => s.bitAt (R.TDM_CAPMASK p) k
    let bytes := slots.flatMap fun k =>
      packSample (s.get (F.TDM_CAPCTL_PACK p))
        (if out then (s.slotSent p k e).getD (Config.moduleSample s.free k 2) else inSlots.getD k 0)
    s.fresh.each bytes fun b s => capByte p b s

/-- Capture started at an active FS edge (R256). -/
def tdmCaptureStartOp (p : Nat) (s : State) : State :=
  if s.on (F.TDM_CAPCTL_EN p) && !(s.port p).capOn then
    let s := ((s.applyHeld (R.TDM_CAPCTL p)).applyHeld (R.TDM_CAPMASK p)).applyHeld (R.TDM_CAPBASEL p)
    let s := (s.applyHeld (R.TDM_CAPBASEH p)).applyHeld (R.TDM_CAPLEN p)
    ((s.setReg (R.TDM_CAPWP p) 0).setReg (R.TDM_CAPMTI p) s.mtil).modPort p fun t => { t with capOn := true }
  else s

/-! ### Frames (R246, R247, R252–R254) -/

/-- An underrun or overrun counted. -/
def tdmCount (c : Bool) (cnt : Nat) (fl : FieldRef) (p : Nat) (s : State) : State :=
  s.when c fun s => tdmFlag p fl (s.incSat cnt)

/-- One second in units of 2⁻³² ns. -/
def sec32 : Nat := 1000000000 * 2 ^ 32

/-- The measured frame rate in 0.1 Hz of a frame length. -/
def frameRate (len : Nat) : Nat := min (2 ^ 22 - 1) (10 * sec32 / len)

/-- Whether a frame length gives a rate in the range of its mode: 30 to 200 kHz, or within ±100 ppm of the engine rate
(R237, R244). -/
def State.rateOk (s : State) (p len : Nat) : Bool :=
  if s.tdmAsync p then decide (30000 * len ≤ sec32 ∧ sec32 ≤ 200000 * len)
  else decide (((sec32 : Int) - s.fs * len).natAbs * 1000000 ≤ 100 * s.fs * len)

/-- The engine's time: the sample number now and the part of the sample that has passed, in units of a sample over
`sec32`. -/
def State.pos (s : State) : Nat := s.now * sec32 + s.time.t32 * s.fs % sec32

/-- How far the edge of a SYNC port's frame lies from the alignment in force, late or early, in the units of
`State.pos` (R246, R247). -/
def State.wander (s : State) (p : Nat) : Int :=
  let t := s.port p
  (s.pos : Int) - ((t.first.getD s.pos : Nat) + ((t.count : Int) + t.align) * sec32)

/-- The sample period in whose place the frame of a SYNC port stands: it carries input sample e + 2, and the output
sample due in that period (R246). -/
def State.framePeriod (s : State) (p : Nat) : Nat :=
  let t := s.port p
  ((t.first.getD s.pos / sec32 : Nat) + (t.count : Int) + t.align).toNat

/-- A slip of a SYNC port: with a late edge the reader of the input found no frame and the output's writer no space,
with an early one the converse; the alignment moves by one frame (R247) (DEDUCED, assumption 95). -/
def tdmSlip (p : Nat) (s : State) : State :=
  let late := decide (2 * (sec32 : Int) < s.wander p)
  let early := decide (s.wander p < -2 * (sec32 : Int))
  if s.tdmAsync p || s.tdmState p != 2 || !(late || early) then s
  else
    let s := tdmFlag p (F.TDM_STAT_SLIP p) s
    let s := tdmCount true (if late then R.TDM_RXURUN p else R.TDM_TXURUN p) (F.TDM_STAT_URUN p) p s
    let s := tdmCount true (if late then R.TDM_TXORUN p else R.TDM_RXORUN p) (F.TDM_STAT_ORUN p) p s
    s.modPort p fun t => { t with align := if late then t.align + 1 else t.align - 1 }

/-- The buffer events of an ASYNC port's frame (R252). -/
def tdmBuffers (p : Nat) (f : TdmFrame) (s : State) : State :=
  if !s.tdmAsync p then s
  else
    let s := tdmCount f.inUnder (R.TDM_RXURUN p) (F.TDM_STAT_URUN p) p s
    let s := tdmCount f.inOver (R.TDM_RXORUN p) (F.TDM_STAT_ORUN p) p s
    let s := tdmCount f.outUnder (R.TDM_TXURUN p) (F.TDM_STAT_URUN p) p s
    tdmCount f.outOver (R.TDM_TXORUN p) (F.TDM_STAT_ORUN p) p s

/-- A frame put into the input buffer: one that is discarded leaves its place to the last one, which repeats (R252,
R253); a SYNC port holds none before it runs. -/
def tdmTake (p num stamp : Nat) (slots : Option (List Sample)) (s : State) : State :=
  if s.tdmState p = 2 || s.tdmAsync p then
    s.modPort p fun t =>
      let xs := slots.getD ((t.inq.getLast?.map InFrame.slots).getD t.last)
      { t with inq := t.inq ++ [⟨num, stamp, xs, t.rxMask, t.goMoved⟩], goMoved := false }
  else s.modPort p fun t => { t with goMoved := false }

/-- An active FS edge seen: its time taken, the rate measured (R248). -/
def tdmEdge (p clocks len : Nat) (s : State) : State :=
  (s.put (F.TDM_RATE_RATE p) (frameRate len)).modPort p fun t =>
    { t with lastEdge := some s.time.dur, bclk := some (len, clocks)
             stamps := (s.time.t32 / 2 ^ 31 :: t.stamps).take 257, seen := t.seen + 1 }

/-- A framing error (R253, R254). -/
def tdmBad (p : Nat) (s : State) : State :=
  let s := tdmCount true (R.TDM_FRMERR p) (F.TDM_STAT_FRMERR p) p s
  let s := tdmCount true (R.TDM_RXURUN p) (F.TDM_STAT_URUN p) p s
  s.modPort p fun t => { t with bad := t.bad + 1, good := 0 }

/-- One frame at a port (R236–R254): framing, slips, masks, samples of both directions and capture. -/
def tdmFrameOp (p : Nat) (f : TdmFrame) (s : State) : State :=
  match if s.tdmState p = 0 then none else s.frameAt p f with
  | none => s
  | some (din, clocks) =>
    let s := tdmEdge p clocks f.len (if s.tdmState p = 3 then tdmAcquire p s else s)
    let s := s.modPort p fun t => { t with first := if s.tdmState p = 2 then some (t.first.getD s.pos) else t.first }
    let bad := decide (clocks < s.frameBits p) || (s.tdmAsync p && !s.rateOk p f.len)
    let early := !s.tdmAsync p && decide (s.wander p < -2 * (sec32 : Int))
    let s := tdmBuffers p f (if bad then tdmBad p s else tdmSlip p s)
    let e := if s.tdmAsync p then s.now else s.framePeriod p
    let stamp := s.time.t32 / 2 ^ 31
    let s := doutPut p e (if bad then clocks else clocks + s.slotLead p) f.outUnder (hampMasks p (e + 2) e stamp s)
    let slots := (List.range (s.slotCount p)).map fun k => slotSample (s.slotBits p) (s.slotIn p k din)
    let s := if bad || (s.tdmAsync p && f.inOver) then tdmTake p (e + 2) stamp none s
      else if early && s.tdmState p = 2 then s.modPort p fun t => { t with goMoved := false }
      else tdmTake p (e + 2) stamp (some slots) s
    let s := s.modPort p fun t => { t with count := if s.tdmState p = 2 then t.count + 1 else t.count }
    if bad then (if 4 ≤ (s.port p).bad then tdmLose p s else s)
    else
      let ok := s.rateOk p f.len
      let s := s.modPort p fun t => { t with bad := 0, good := if ok then t.good + 1 else 0 }
      (if s.tdmState p = 2 then capFrame p e slots s else s).fresh

/-- The value of an input channel at sample number `m`, before its ramps, with whether its mask bit is set: a SYNC
port's frame of that number or the last one before it, or what the converter gives by the round's pair, `i` samples
after its Stile (R241, R246, R248, R250, R252). -/
def State.tdmRaw (s : State) (p slot m i : Nat) : Sample × Bool :=
  let t := s.port p
  if s.tdmAsync p then
    match t.inConv.ratio, t.inq with
    | some r, f :: fs =>
      -- the number of the oldest frame held, and the position of this sample on the frames
      let first : Int := (t.seen : Int) - fs.length
      let x := t.inConv.pos + (i * r * 16 : Nat)
      let j := (x / 2 ^ 32 - first).toNat
      (converted ((f :: fs).map fun g => (g.slots.getD slot 0).toInt) (x - first * 2 ^ 32) r,
        ((((f :: fs)[j]?).map InFrame.mask).getD t.rxMask).getLsbD slot)
    | _, _ => (t.last.getD slot 0, t.rxMask.getLsbD slot)
  else
    match t.inq.reverse.find? fun f => decide (f.num ≤ m) with
    | some f => (f.slots.getD slot 0, f.mask.getLsbD slot)
    | none => (t.last.getD slot 0, t.rxMask.getLsbD slot)

/-- The sample an input channel delivers (R241, R244, R245, R249, R254). -/
def State.tdmInput (s : State) (p slot m i : Nat) : Sample :=
  let t := s.port p
  let raw := s.tdmRaw p slot m i
  let x := rampedUp t.rampUp (s.samplesOf 1000) m raw.1
  let y := match t.rampDown with
    | some (r, d) => if m < r then x else if m < r + d then rampSample x (2 * (d - (m - r)) - 1) (2 * d) else 0
    | none => if t.live then x else 0
  if raw.2 then y else 0

/-- At a round-start Stile with sample number `n` a port's move to RUNNING, and its loss, take effect (R23, R245,
R254). -/
def tdmLive (n p : Nat) (s : State) : State :=
  let st := s.tdmState p
  let t := s.port p
  if st = 2 ∧ t.live = false then
    s.modPort p fun t => { t with live := true, rampUp := some n, rampDown := none, outDown := none }
  else if st ≠ 2 ∧ t.live = true then
    let d := s.samplesOf 200
    s.modPort p fun t => { t with live := false, rampDown := if st = 3 then some (n, d) else t.rampDown }
  else s

/-- The input samples of the round that ended gathered, the last of each slot kept for repeats (R49, R252). -/
def tdmGather (n p : Nat) (s : State) : State :=
  let base := n - s.roundLen
  let chans := s.carried true p
  let s := s.each (s.portChans true p).zipIdx fun c s =>
    if chans.contains c.1 then
      let v := (List.range s.roundLen).map fun i => s.tdmInput p c.2 (base + i) i
      { s with sig := { s.sig with cur := kset s.sig.cur (1024 + c.1) v } }
    else s
  let last := (List.range (s.slotCount p)).map fun k => (s.tdmRaw p k (n - 1) (s.roundLen - 1)).1
  let keep := 2 * s.dlyStamp p
  let stamp := s.time.t32 / 2 ^ 31
  s.modPort p fun t => { t with
    last := last
    inq := t.inq.filter fun x => if s.tdmAsync p then decide (stamp ≤ x.stamp + keep) else decide (n ≤ x.num) }

/-- The output frames of the sample periods from `n` on put into the port's buffer; without the port running they are
discarded (R49, R246, R248, R254). -/
def tdmSupply (n p : Nat) (s : State) : State :=
  if s.tdmState p = 2 || (s.port p).outDown.isSome then
    let chans := s.portChans false p
    let keep := if s.tdmAsync p then s.samplesOf (2 * s.get (F.ASRC_CTL_DLY (32 + p))) else 4
    let new := (List.range s.roundLen).map fun i => (n + i, chans.map fun c => s.emittedAt (n + i) (1024 + c))
    s.modPort p fun t => { t with outq := (t.outq.filter fun f => decide (n ≤ f.1 + keep ∧ f.1 < n)) ++ new }
  else s.modPort p fun t => { t with outq := [] }

/-- A port at the round-start Stile `k` with sample number `n` (R23, R245, R250, R254). -/
def tdmTickPort (k n p : Nat) (s : State) : State :=
  if s.tdmState p = 0 then s
  else
    let s := tdmLive n p s
    let lost := decide (s.tdmState p ≠ 2)
    let s := s.each (s.carried true p) fun c s => s.setLost (1024 + c) lost
    (asrcTick k p (tdmSupply n p (tdmGather n p s))).fresh

/-- Every port at a round-start Stile. -/
def tdmTick (k n : Nat) (s : State) : State :=
  let lost := s.sig.lost.filter fun i => decide (i < 1024)
  let s := { s with sig := { s.sig with lost := lost } }
  s.each (List.range 32) fun p s => tdmTickPort k n p s

/-- Every enabled port at an engine start (R244). -/
def tdmEngineStart (s : State) : State :=
  s.each (List.range 32) fun p s => if s.on (F.TDM_CFG_EN p) then tdmStart p s else s

/-! ### Register writes and Silwen (R465) -/

/-- A write to a port's registers. -/
def tdmRegWrite (p off : Nat) (v : Word) (s : State) : State :=
  let a := R.TDM_CFG p + off
  match off with
  | 0x00 =>
    let s := s.each (((regRow? a).map RegRow.fields).getD []) fun f s => if f.hi = 31 then s else s.writeField a v f
    tdmEnableOp p (bit v 31) s
  | 0x18 => if bit v 0 then tdmMaskgoOp p s else s
  | 0x80 =>
    let s := s.writeReg a v
    if bit v 0 then s else s.modPort p fun t => { t with capOn := false }
  | _ => s.writeReg a v

/-- TDM_CFG. -/
def tdmCfgBody (c : Cmd) (s : State) : State × Rep :=
  let p := bits (cw c 1) 4 0
  let clash (rx : Bool) (w : Word) : Bool := (List.range 32).any fun q =>
    q != p && s.on (F.TDM_CFG_EN q) &&
      (mapChans s.rateClass w).any fun x =>
        (s.portChans rx q).contains x || (mapChans s.rateClass (s.heldReg (mapReg rx q))).contains x
  if bit (cw c 2) 31 && (clash true (cw c 3) || clash false (cw c 4)) then (s, .rc rcRefused)
  else
    let s := (s.writeReg (R.TDM_RXMAP p) (cw c 3)).writeReg (R.TDM_TXMAP p) (cw c 4)
    (tdmRegWrite p 0 (cw c 2) s, .rc rcDone)

/-- TDM_SLOTMASK. -/
def tdmSlotmaskBody (c : Cmd) (s : State) : State × Rep :=
  let p := bits (cw c 1) 4 0
  (tdmMaskgoOp p ((s.setReg (R.TDM_RXMASK p) (cw c 2)).setReg (R.TDM_TXMASK p) (cw c 3)), .rc rcDone)

/-- The entries of TDM_SLOTMASK (R462). -/
def slotmaskEntries (c : Cmd) : List Entry :=
  [{ tgt := 0x20, obj := bits (cw c 1) 4 0, fld := 0, ramp := .none, val := cw c 2 },
   { tgt := 0x20, obj := bits (cw c 1) 4 0, fld := 1, ramp := .none, val := cw c 3 }]

/-- ASRC_CFG. -/
def asrcCfgBody (c : Cmd) (s : State) : State × Rep :=
  (s.writeReg (R.ASRC_CTL (bits (cw c 1) 5 0)) (cw c 2), .rc rcDone)

/-- The entries of ASRC_CFG (R462). -/
def asrcEntries (c : Cmd) : List Entry :=
  let e (f v : Nat) : Entry := { tgt := 0x21, obj := bits (cw c 1) 5 0, fld := f, ramp := .none, val := word v }
  [e 0 (bits (cw c 2) 0 0), e 1 (bits (cw c 2) 15 8), e 2 (bits (cw c 2) 25 16)]

/-- A field of a converter a Hamper commits; DLY is class I and is held, which the answer says (R70). -/
def asrcCommit (c fld : Nat) (v : Word) (s : State) : State × Bool :=
  let a := R.ASRC_CTL c
  match fld with
  | 0 => (s.put (F.ASRC_CTL_HOLD c) (bits v 0 0), false)
  | 1 => (s.put (F.ASRC_CTL_BW c) (clampNat 5 200 v.toNat), false)
  | _ => (s.hold a (word (setField (s.heldReg a).toNat 25 16 (clampNat 50 1000 v.toNat))), true)

/-! ### The commands -/

/-- TDM_ENABLE (R244). -/
def execTdmEnable (p : Fin 32) (en : Bool) (s : State) : Host.Outcome State Fault Refusal := .next (tdmEnableOp p en s)
/-- TDM_MASKGO (R242). -/
def execTdmMaskgo (p : Fin 32) (s : State) : Host.Outcome State Fault Refusal := .next (tdmMaskgoOp p s)
/-- TDM_MASK_MOVE (R242, R243). -/
def execTdmMaskMove (p : Fin 32) (s : State) : Host.Outcome State Fault Refusal := .next (tdmMaskMoveOp p s)
/-- TDM_SYNC_LOCK (R244, R246). -/
def execTdmSyncLock (p : Fin 32) (s : State) : Host.Outcome State Fault Refusal := .next (tdmSyncLockOp p s)
/-- ASRC_LOCK (R248). -/
def execAsrcLock (p : Fin 32) (out : Bool) (s : State) : Host.Outcome State Fault Refusal :=
  .next (asrcLockOp (if out then 32 + p else p) s)
/-- ASRC_RELOCK (R249). -/
def execAsrcRelock (c : Fin 64) (s : State) : Host.Outcome State Fault Refusal := .next (asrcRelockOp c s)
/-- TDM_CAPTURE_START (R256). -/
def execTdmCaptureStart (p : Fin 32) (s : State) : Host.Outcome State Fault Refusal := .next (tdmCaptureStartOp p s)
/-- TDM_CFG (R240, R465). -/
def execTdmCfg (c : Cmd) (s : State) : Host.Outcome State Fault Refusal := .next (silwen 0x0900 4 false tdmCfgBody c s)
/-- TDM_SLOTMASK (R242, R465). -/
def execTdmSlotmask (c : Cmd) (s : State) : Host.Outcome State Fault Refusal :=
  .next (silwen 0x0901 3 false tdmSlotmaskBody c s)
/-- ASRC_CFG (R465). -/
def execAsrcCfg (c : Cmd) (s : State) : Host.Outcome State Fault Refusal := .next (silwen 0x0902 2 false asrcCfgBody c s)

end Sys2Proof.Machine
end

