-- ==== Sys2Proof/Machine/Refs.lean ====
section
/-! DEFINITION. PTP instances, reference candidates, switching, REALIGN and the clock outputs
(R289–R291, R299–R315, R456, R457). -/

namespace Sys2Proof.Machine

/-- The state with the references rewritten. -/
def State.modRef (s : State) (f : RefSt → RefSt) : State := { s with ref := f s.ref }

/-- A PTP instance. -/
def State.inst (s : State) (i : Nat) : PtpInst := kgetD s.ref.insts i {}

/-! ### The absorbed offset and its notice (R305, R306) -/

/-- Δ in ns. -/
def State.absorbed (s : State) : Int := (s.reg R.REFS_ABSH ++ s.reg R.REFS_ABSL : BitVec 64).toInt

/-- The state with Δ set. -/
def State.setAbsorbed (s : State) (d : Int) : State :=
  let v := BitVec.ofInt 64 d
  (s.setReg R.REFS_ABSL (v.extractLsb' 0 32)).setReg R.REFS_ABSH (v.extractLsb' 32 32)

/-- REF_STATE for an event and a candidate (R468). -/
def refState (ev c : Nat) (unsettled : Bool) (s : State) : State :=
  let w2 := s.get F.REFS_STAT_SEL + flag (s.on F.REFS_STAT_SWITCHING) * 2 ^ 3 + flag unsettled * 2 ^ 4
    + flag (s.on F.REFS_STAT_OFSNOTE) * 2 ^ 5 + flag (s.on F.REFS_STAT_FREERUN) * 2 ^ 6 + ev * 2 ^ 8 + c * 2 ^ 29
  s.notify 0x8005 [word w2, s.reg (R.REFS_CSTAT c), s.reg R.REFS_ABSL, s.reg R.REFS_ABSH]

/-- The offset notice evaluated: |Δ| against half the smallest LOFS of the receive streams that are not
OFF, with event 174 and REF_STATE on a change. -/
def offsetNotice (s : State) : State :=
  let lofs := (s.net.streams.filter fun x => decide (x.1 < 256) && s.get (F.NET_RXSTAT_STATE x.1) != 0).map fun x => x.2.lofs
  let b := match lofs.min? with
    | some l => decide (l * 500 < s.absorbed.natAbs)
    | none => false
  if s.on F.REFS_STAT_OFSNOTE = b then s
  else refState 174 (s.get F.REFS_STAT_SEL) false ((s.put F.REFS_STAT_OFSNOTE (flag b)).raise 174)

/-! ### REALIGN (R307, R314) -/

/-- The WCLK_OUT frequency in Hz and the WCLK_OUT and PPS_OUT offsets moved by `d` ns, modulo their
periods (R312, R314). -/
def State.wclkHz (s : State) : Nat := if s.on F.REFS_WCOUT_DIV then rateHz (s.rateCode % 2) else s.fs
def shiftWclk (d : Int) (s : State) : State :=
  let f : Int := s.wclkHz
  let x : Int := (s.reg R.REFS_WCOFS).toNat + 2 * d
  s.setReg R.REFS_WCOFS (BitVec.ofInt 32 ((x * f) % 2000000000 / f))
def shiftPps (d : Int) (s : State) : State :=
  s.setReg R.REFS_PPSOFS (BitVec.ofInt 32 (((s.reg R.REFS_PPSOFS).toNat + d) % 1000000000))

/-- A REALIGN completed: named offsets are zero, and an output not named while the counter moved by −Δ
takes the opposite movement (R307, R314). -/
def realignFinish (code : Nat) (s : State) : State :=
  match s.ref.realign with
  | none => s
  | some r =>
    let d := s.absorbed
    let ctr := r.tgt % 2 = 1
    let s := (s.modRef fun x => { x with realign := none }).put F.REFS_REALIGN_BUSY 0
    let s := if code ≠ rcDone then s
      else
        let s := if r.tgt / 2 % 2 = 1 then s.setReg R.REFS_WCOFS 0 else if ctr then shiftWclk d s else s
        let s := if r.tgt / 4 % 2 = 1 then s.setReg R.REFS_PPSOFS 0 else if ctr then shiftPps d s else s
        if ctr then offsetNotice (s.setAbsorbed 0) else s
    s.complete r.tok code

/-- What RATE has moved in a slewing REALIGN so far, in ns (R307). -/
def State.realignMoved (s : State) (r : RealignSt) : Nat := (s.time.dur - r.since) / 2 ^ 32 * r.rate / 100000000

/-- An output's offset moved toward zero by `m`, the shorter way round its period of `num / den` (R307, R314) (DESIGN CHOICE,
assumption 106). -/
def towardZero (x m num den : Nat) : Nat :=
  if 2 * x * den ≤ num then x - m else if num ≤ (x + m) * den then 0 else x + m

/-- The two output offsets after what a slewing REALIGN has moved (R307). -/
def State.realignWcofs (s : State) (r : RealignSt) : Nat :=
  towardZero (s.reg R.REFS_WCOFS).toNat (2 * s.realignMoved r) 2000000000 s.wclkHz
def State.realignPpsofs (s : State) (r : RealignSt) : Nat :=
  towardZero (s.reg R.REFS_PPSOFS).toNat (s.realignMoved r) 1000000000 1

/-- Whether every offset a slewing REALIGN names has reached zero (R307) (DESIGN CHOICE, assumption 106). -/
def State.realignReached (s : State) (r : RealignSt) : Bool :=
  (r.tgt % 2 != 1 || decide (s.absorbed.natAbs ≤ s.realignMoved r))
    && (r.tgt / 2 % 2 != 1 || s.realignWcofs r == 0) && (r.tgt / 4 % 2 != 1 || s.realignPpsofs r == 0)

/-- A slewing REALIGN stopped where it is (R307): each named offset reduced by what RATE has moved. -/
def realignStop (s : State) : State :=
  match s.ref.realign with
  | none => s
  | some r =>
    let moved : Int := if r.step then 0 else s.realignMoved r
    let toward (x : Int) : Int := if x < 0 then min 0 (x + moved) else max 0 (x - moved)
    let d := s.absorbed
    let w := s.realignWcofs r
    let p := s.realignPpsofs r
    let s := (s.modRef fun x => { x with realign := none }).put F.REFS_REALIGN_BUSY 0
    let s := s.when (decide (r.tgt % 2 = 1)) fun s => offsetNotice (s.setAbsorbed (toward d))
    let s := s.when (decide (r.tgt / 2 % 2 = 1) && !r.step) fun s => s.setReg R.REFS_WCOFS (word w)
    let s := s.when (decide (r.tgt / 4 % 2 = 1) && !r.step) fun s => s.setReg R.REFS_PPSOFS (word p)
    s.complete r.tok rcSuperseded

/-- A step of −Δ requested through TIME_STEPCTL (R40). -/
def stepRequest (d : Int) (s : State) : State :=
  let n := d.natAbs
  let s := (s.setReg R.TIME_STEPSEC (word (n / 1000000000))).put F.TIME_STEPNS_NS (n % 1000000000)
  stepCtlWrite (word (1 + 2 * flag (decide (0 < d)))) s

/-- Whether a REALIGN has something to do: an offset it names is not zero. -/
def State.realignNamed (s : State) (tgt : Nat) : Bool :=
  (tgt % 2 == 1 && s.absorbed != 0) || (tgt / 2 % 2 == 1 && s.reg R.REFS_WCOFS != 0)
    || (tgt / 4 % 2 == 1 && s.reg R.REFS_PPSOFS != 0)

/-- REALIGN taken (R307): its return code. -/
def realignStart (step : Bool) (tgt rate : Nat) (tok : Option Tok) (s : State) : State × Nat :=
  let named := s.realignNamed tgt
  if step && s.get F.TIME_CTL_MODE != 3 then (s, rcRefused)
  else
    let s := realignStop s
    let s := ((s.put F.REFS_REALIGN_STEP (flag step)).put F.REFS_REALIGN_TGT tgt).put F.REFS_REALIGN_RATE (clampNat 1 5000 rate)
    if !named then (s, rcDone)
    else
      let s := s.when (step && decide (tgt % 2 = 1)) fun s => stepRequest s.absorbed s
      let r : RealignSt := ⟨step, tgt, clampNat 1 5000 rate, s.time.dur, tok⟩
      ((s.modRef fun x => { x with realign := some r }).put F.REFS_REALIGN_BUSY 1, rcScheduled)

/-- At a round-start Stile, after a requested step was applied or discarded: a stepping REALIGN ends. -/
def realignTick (rejected : Bool) (s : State) : State :=
  match s.ref.realign with
  | some r => if r.step then realignFinish (if rejected && r.tgt % 2 = 1 then rcRefused else rcDone) s else s
  | none => s

/-- A slewing REALIGN whose named offsets have reached zero: not before RATE has moved them there. -/
def realignDoneOp (s : State) : State :=
  match s.ref.realign with
  | some r => if r.step || !s.realignReached r then s else realignFinish rcDone s
  | none => s

/-! ### Candidates and selection (R300, R301, R308, R310) -/

/-- A candidate's state; event 172 and its QUAL bit follow (R317). The qualification of a new reference begins an
acquisition in a mode that steps (R39). -/
def candSet (c st : Nat) (s : State) : State :=
  if s.get (F.REFS_CSTAT_STATE c) = st then s
  else
    let s := s.when (st == 3 && s.get F.TIME_CTL_MODE != 1) fun s => s.modTime fun t => { t with acqStep := true }
    ((s.put (F.REFS_CSTAT_STATE c) st).put ⟨R.REFS_STAT, 8 + c, 8 + c⟩ (flag (st == 3))).raise 172

/-- Whether a candidate is QUALIFIED. -/
def State.qualified (s : State) (c : Nat) : Bool := s.get (F.REFS_CSTAT_STATE c) == 3

/-- The wait-to-restore a candidate gets. -/
def State.wtrFull (s : State) : Nat := if s.get F.REFS_STAT_SEL = 6 then 1 else s.get F.REFS_QUAL_WTR

/-- The instance that supplies a candidate has a slave port (R299). -/
def State.ptpPresent (s : State) (c : Nat) : Bool :=
  let b := s.inst 2
  if c = 0 then (s.inst 0).portA == .slave || (b.en && b.portA == .slave)
  else (s.get F.NET_CTL_MODE == 0) && ((s.inst 1).portB == .slave || (b.en && b.portB == .slave))

/-- C5 follows the tandem link (R299). -/
def refPeer (s : State) : State :=
  let p := s.get F.TND_STAT_PEER
  candSet 5 (if s.on F.TND_CTL_EN && s.get F.TND_LINK_LANES != 0 && (p == 1 || p == 2) then 3 else 0) s

/-- A candidate absent: its state and counts cleared. -/
def candAbsent (c : Nat) (s : State) : State :=
  candSet c 0 ((s.put (F.REFS_CSTAT_FOFS c) 0).put (F.REFS_CSTAT_WTRREM c) 0)

/-- The candidate entered into WTR. -/
def candWait (c : Nat) (s : State) : State := candSet c 2 (s.put (F.REFS_CSTAT_WTRREM c) s.wtrFull)

/-- Whether a candidate can be present at all: C0 and C1 with a slave port of their instance, C4 while its TDM port is in
SYNC mode (R299). -/
def State.candPossible (s : State) (c : Nat) : Bool :=
  (decide (2 ≤ c) || s.ptpPresent c) && (c != 4 || !s.tdmAsync (s.get F.REFS_C4SEL_PORT))

/-- One candidate at the once-per-second measurement (R300, R304). -/
def candMeasure (c : Nat) (m : CandMeas) (s : State) : State :=
  if !m.present || !s.candPossible c then candAbsent c s
  else
    let win := s.get F.REFS_QUAL_WIN * 10
    let inner := decide (m.fofs.natAbs ≤ win - s.get F.REFS_QUAL_HYST * 10)
    let s := s.put (F.REFS_CSTAT_FOFS c) (BitVec.ofInt 16 (clampInt (-32768) 32767 m.fofs)).toNat
    let out := s.ref.outside.contains c
    let s := s.modRef fun r => { r with outside := r.outside.filter (· != c) }
    match s.get (F.REFS_CSTAT_STATE c) with
    | 0 => let s := candSet c 1 s; if inner then candWait c s else s
    | 1 => if inner then candWait c s else s
    | 2 =>
      if !inner then candSet c 1 (s.put (F.REFS_CSTAT_WTRREM c) 0)
      else if s.on F.REFS_STAT_SWITCHING then s
      else
        let rem := min (s.get (F.REFS_CSTAT_WTRREM c)) s.wtrFull
        if rem ≤ 1 then candSet c 3 (s.put (F.REFS_CSTAT_WTRREM c) 0) else s.put (F.REFS_CSTAT_WTRREM c) (rem - 1)
    | _ =>
      if m.fofs.natAbs ≤ win then s
      else if out then candSet c 1 s
      else s.modRef fun r => { r with outside := r.outside ++ [c] }

/-- The best candidate: QUALIFIED, enabled, lowest priority value, lowest number; else C6 (R301). -/
def State.bestCand (s : State) : Nat :=
  let pri (c : Nat) := s.get ⟨R.REFS_PRIO, 3 * c + 2, 3 * c⟩
  ((List.range 5).filter fun c => s.qualified c && pri c != 0).foldl
    (fun b c => if b = 6 ∨ pri c < pri b then c else b) 6

/-- The candidate R301 would select now. -/
def State.choice (s : State) : Nat :=
  let f := s.get F.REFS_CTL_FORCE
  let sel := s.get F.REFS_STAT_SEL
  if s.standby then 5
  else if f < 5 ∧ s.qualified f = true then f
  else if s.on F.REFS_CTL_REVERT || !s.qualified sel || sel == 5 then s.bestCand
  else sel

/-- The bandwidth applied (R309); no rounding of the eighth is stated (DESIGN CHOICE, assumption 105). -/
def refBandwidth (s : State) : State :=
  let bw := s.get F.REFS_DPLL_BW
  let sel := s.get F.REFS_STAT_SEL
  let lim (i : PtpInst) : Nat :=
    match i.logSync with
    | .ofNat n => s.quot 10 (8 * 2 ^ n)
    | .negSucc n => s.quot (10 * 2 ^ (n + 1)) 8
  let i := if (s.inst 2).en then s.inst 2 else s.inst sel
  s.put F.REFS_DPLL_BWAPP (if sel < 2 then min bw (lim i) else bw)

/-- The end of a transition (R302, R304). -/
def switchFinish (unsettled : Bool) (s : State) : State :=
  let s := (s.modRef fun r => { r with incoming := none }).put F.REFS_STAT_SWITCHING 0
  let s := refState 171 (s.get F.REFS_STAT_SEL) unsettled (s.raise 171)
  s.each (List.range 5) fun c s =>
    if s.get (F.REFS_CSTAT_STATE c) = 2 then s.put (F.REFS_CSTAT_WTRREM c) s.wtrFull else s

/-- A switch begun (R302); to C6 it ends at once with free run (R308). -/
def switchTo (c : Nat) (s : State) : State :=
  let s := realignStop s
  let s := (((s.put F.REFS_STAT_SWITCHING 1).put F.REFS_STAT_SWEV 1).put F.REFS_STAT_SEL c).put F.REFS_STAT_FREERUN (flag (c == 6))
  let s := s.modRef fun r => { r with incoming := some (c, false), switchAt := s.time.dur }
  let s := s.modTime fun t => { t with acqStep := s.get F.TIME_CTL_MODE != 1 && c != 6 }
  let s := refBandwidth (refState 171 c false (s.raise 171))
  if c = 6 then switchFinish false (s.raise 175) else s

/-- The selection evaluated (R301, R303). -/
def refEvaluate (s : State) : State :=
  let f := s.get F.REFS_CTL_FORCE
  let s := s.put F.REFS_STAT_FORCEOFF (flag (decide (f < 5) && !s.qualified f))
  if s.on F.REFS_STAT_SWITCHING then
    match s.ref.incoming with
    | some (c, _) => if s.qualified c then s else
        let s := switchFinish false s
        if s.choice = s.get F.REFS_STAT_SEL then s else switchTo s.choice s
    | none => s
  else if s.choice = s.get F.REFS_STAT_SEL then s else switchTo s.choice s

/-- While C6 is selected RATE moves toward 0 within one second by 50 ppm at most, by how much no rule states (R308)
(DESIGN CHOICE, assumption 84). -/
def freeRunRate (s : State) : State :=
  let r := (s.reg R.TIME_RATEADJ).toInt
  let d : Int := Config.undefNat s.free % 13743896
  if s.get F.REFS_STAT_SEL != 6 || r == 0 then s
  else (s.setReg R.TIME_RATEADJ (BitVec.ofInt 32 (if r < 0 then min 0 (r + d) else max 0 (r - d)))).fresh

/-- REF_MEASURE (R300, R301): C0–C4 measured, C5 from the link, the selection evaluated (DESIGN CHOICE, assumption 84). -/
def refMeasureOp (cands : List CandMeas) (s : State) : State :=
  let s := s.each (cands.take 5).zipIdx fun m s => candMeasure m.2 m.1 s
  freeRunRate (refEvaluate (refPeer s))

/-- A candidate lost (R299–R303). -/
def candidateLossOp (c : Nat) (s : State) : State := if c = 6 then s else refEvaluate (candAbsent c s)

/-- The one step an acquisition may make, for an offset above the step threshold (R39) (DEDUCED, assumption 98). -/
def acquireStep (d : Int) (s : State) : State :=
  let thr := if s.get F.TIME_CTL_STHR = 0x3FF then 100 else (s.get F.TIME_CTL_STHR + 1) * 1000
  if s.time.acqStep then
    let s := s.modTime fun t => { t with acqStep := false }
    if thr < d.natAbs then stepRequest d s else s
  else s

/-- Whether the offset of a switch to a candidate has been averaged long enough: 250 ms, and eight update intervals of a
PTP reference (R302). -/
def State.measuredLong (s : State) (c : Nat) : Bool :=
  let i := if (s.inst 2).en then s.inst 2 else s.inst c
  decide (s.ref.switchAt + max (250000000 * 2 ^ 32) (if c < 2 then sec32 * 2 ^ (i.logSync + 7).toNat / 16 else 0) ≤ s.time.dur)

/-- The offset to the reference measured: of a switch (R302, R305), else of an acquisition begun without one (R39)
(DEDUCED, assumption 98). -/
def switchMeasured (d : Int) (s : State) : State :=
  match s.ref.incoming with
  | some (c, false) =>
    if !s.measuredLong c then s else
    let s := s.modRef fun r => { r with incoming := some (c, true) }
    let s := s.when (c == 3) fun s => s.put F.REFS_C3CFG_SECVALID 0
    if s.standby then offsetNotice (s.setAbsorbed 0)
    else if s.get F.TIME_CTL_MODE = 1 then offsetNotice (s.setAbsorbed d)
    else acquireStep d (offsetNotice (s.setAbsorbed 0))
  | _ => if s.standby || s.get F.TIME_CTL_MODE == 1 || s.get F.REFS_STAT_SEL == 6 then s else acquireStep d s

/-- The end of a transition: on settling, after 1 s within the limits, or after 10 s (R302). -/
def switchEndOp (settled : Bool) (s : State) : State :=
  if s.on F.REFS_STAT_SWITCHING && decide (s.ref.switchAt + (if settled then 1 else 10) * sec32 ≤ s.time.dur) then
    switchFinish (!settled) s
  else s

/-! ### Clock outputs (R311–R315, R354) -/

/-- Whether WCLK_OUT, PPS_OUT and MCLK_OUT0–3 are driven: not on a standby with STBYZ, on a promoted chip from its
first Stile as active, and not on a chip that failed, sleeps, or has not started its engine (R315, R354, R384, R436). -/
def State.clkDriven (s : State) : Bool :=
  s.boot.engineStarted && !s.tnd.failed && !s.asleep && !(s.standby && s.on F.REFS_WCOUT_STBYZ) && decide (s.ref.clkFrom ≤ s.mti)

/-- The frequency of MCLK_OUTm in Hz, 0 held low; none is high-impedance (R311). -/
def State.mclkOut (s : State) (m : Nat) : Option Nat :=
  let k := s.get (F.REFS_MCLK_MULT m)
  if s.clkDriven then some (if k = 0 then 0 else 64 * 2 ^ (if k ≤ 4 then k else 2) * rateHz (s.rateCode % 2)) else none

/-- The level of WCLK_OUT: a 50 % square wave that rises on each Stile, delayed by its offset (R312). -/
def State.wclkOut (s : State) : Option Bool :=
  if !s.clkDriven then none
  else if !s.on F.REFS_WCOUT_EN then some false
  else
    let t : Int := s.time.t32 - (s.reg R.REFS_WCOFS).toNat * 2 ^ 31
    some (decide (2 * (t * s.wclkHz % sec32) < sec32))

/-- The level of PPS_OUT: asserted at each whole second of the local time, delayed by its offset, for WIDTH ms (R313). -/
def State.ppsOut (s : State) : Option Bool :=
  if !s.clkDriven then none
  else
    let t : Int := s.time.t32 - (s.reg R.REFS_PPSOFS).toNat * 2 ^ 32
    let on := s.on F.REFS_PPSOUT_EN && decide (t % sec32 < (s.get F.REFS_PPSOUT_WIDTH * 1000000 * 2 ^ 32 : Nat))
    some (xor on (s.on F.REFS_PPSOUT_POL))

/-! ### PTP (R289–R291, R296, R297) -/

/-- The range and default of logSyncInterval, logAnnounceInterval and the delay interval of a profile;
that of ST 2059-2 hangs on logSyncInterval (R289). -/
def ptpRange (profile : Nat) (sync : Int) : (Int × Int) × (Int × Int) × (Int × Int) :=
  match profile with
  | 2 => ((-4, 1), (0, 4), (-3, 5))
  | 3 => ((-7, -1), (-3, 1), (sync, sync + 5))
  | _ => ((-1, 1), (0, 4), (0, 5))

/-- Whether an instance cannot take a role (R290): CHAIN mode has one ordinary clock, the boundary clock is instance 2,
and excludes the other two. -/
def State.ptpConflict (s : State) (i role : Nat) (en : Bool) : Bool :=
  (s.get F.NET_CTL_MODE == 1 && (i != 0 || role == 3)) || (i != 2 && role == 3)
    || (en && i == 2 && ((s.inst 0).en || (s.inst 1).en)) || (en && decide (i < 2) && (s.inst 2).en)

/-- PTP_CFG (R290, R457). -/
def ptpCfgBody (c : Cmd) (s : State) : State × Rep :=
  let w := cw c 1
  let i := bits w 1 0
  let role := bits w 6 5
  let en := bit w 11
  if i = 3 then (s, .rc rcMalformed)
  else if s.ptpConflict i role en then (s, .rc rcRefused)
  else
    let pr := min 3 (bits w 4 2)
    let s8 (hi lo : Nat) : Int := (BitVec.ofNat 8 (bits (cw c 2) hi lo)).toInt
    let r0 := ptpRange pr 0
    let ls := clampInt r0.1.1 r0.1.2 (s8 15 8)
    let r := ptpRange pr ls
    let old := s.inst i
    let p : PtpInst := {
      en := en, profile := pr, role := role
      ethernet := bit w 7 && decide (pr < 2)
      p2p := if pr = 1 then true else if pr = 2 then bit w 8 else false
      hybrid := bit w 9 && decide (2 ≤ pr), tcP2p := bit w 10
      domain := min 127 (bits (cw c 2) 7 0), logSync := ls
      logAnnounce := clampInt r.2.1.1 r.2.1.2 (s8 23 16), logDelay := clampInt r.2.2.1 r.2.2.2 (s8 31 24)
      prio1 := bits (cw c 3) 7 0, prio2 := bits (cw c 3) 15 8, annrx := clampNat 2 10 (bits (cw c 3) 19 16)
      tsrc := clampNat 0x10 0xFE (bits (cw c 3) 31 24)
      portA := if en && i != 1 then (if old.en then old.portA else .listening) else .disabled
      portB := if en && i != 0 then (if old.en then old.portB else .listening) else .disabled }
    let s := s.modRef fun x => { x with insts := kset x.insts i p }
    let s := s.when (p.portA != old.portA || p.portB != old.portB) fun s => s.raise 173
    (refBandwidth s, .rc rcDone)

/-- A port state a role allows (R290). -/
def rolePort (role : Nat) (st : PtpPort) : PtpPort :=
  if role = 0 ∧ st = .master then .listening else if role = 2 ∧ st ≠ .disabled then .master else st

/-- BMCA_RUN (R290, R298, R317): the states the BMCA decides, as the role allows them, and the dataset of the parent
it chose; event 173 on a change of a port's state or of the parent grandmaster. -/
def bmcaRunOp (i : Nat) (a b : PtpPort) (parent : Option GmData) (s : State) : State :=
  let p := s.inst i
  if !p.en then s
  else
    let a := if i = 1 then .disabled else rolePort p.role a
    let b := if i = 0 then .disabled else rolePort p.role b
    let b := if a = .slave ∧ b = .slave then .passive else b
    let gm := parent.bind GmData.identity != p.parent.bind GmData.identity
    let s := s.modRef fun x => { x with insts := kset x.insts i { p with portA := a, portB := b, parent := parent } }
    s.when (a != p.portA || b != p.portB || gm) fun s => s.raise 173

/-- The dataset of the grandmaster upstream of a selected reference: of the instance that supplies it; for C5, whose
dataset no rule brings, of the first instance with a parent (R298) (DEDUCED, assumption 97). -/
def State.upstream (s : State) (sel : Nat) : Option GmData :=
  let p (i : Nat) : Option GmData := if (s.inst i).en then (s.inst i).parent else none
  match sel with
  | 0 => (p 2).orElse fun _ => p 0
  | 1 => (p 2).orElse fun _ => p 1
  | _ => (p 2).orElse fun _ => (p 0).orElse fun _ => p 1

/-- The dataset an instance announces as master, which matches the selected reference (R298) (DEDUCED, assumption 97). -/
def State.announced (s : State) (i : Nat) : GmData :=
  let p := s.inst i
  let sel := s.get F.REFS_STAT_SEL
  let self (cls acc src : Nat) : GmData :=
    ⟨none, BitVec.ofNat 8 p.prio1, BitVec.ofNat 8 cls, BitVec.ofNat 8 acc, BitVec.ofNat 16 (Config.undefNat s.free),
      BitVec.ofNat 8 p.prio2, 0, BitVec.ofNat 8 src⟩
  if sel = 3 then self 6 0x21 p.tsrc
  else if sel = 0 ∨ sel = 1 ∨ sel = 5 then
    match s.upstream sel with
    | some g => { g with steps := g.steps + 1 }
    | none => self (Config.undefNat (s.free + 1)) (Config.undefNat (s.free + 2)) (Config.undefNat (s.free + 3))
  else self 248 0xFE 0xA0

/-- PDELAY_EXCHANGE (R296): the mean link delay of an external port, measured with TCMODE = P2P in CHAIN
mode or by an instance with the P2P mechanism. -/
def pdelayOp (x delay : Nat) (s : State) : State :=
  let used := (s.get F.NET_CTL_MODE = 1 && (s.inst 0).tcP2p) || (s.inst 0).p2p || (s.inst 1).p2p || (s.inst 2).p2p
  s.when used fun s => s.modRef fun r => { r with linkDelay := kset r.linkDelay x delay }

/-! ### Register writes and Silwen (R456) -/

/-- A write to the REFS block (DESIGN CHOICE, assumption 83). -/
def refsRegWrite (off : Nat) (v : Word) (s : State) : State :=
  match off with
  | 0x008 =>
    let win := clampNat 1 500 (bits v 8 0)
    ((s.put F.REFS_QUAL_WIN win).put F.REFS_QUAL_HYST (min (win / 2) (bits v 16 9))).put F.REFS_QUAL_WTR (clampNat 1 300 (bits v 25 17))
  | 0x00C => refBandwidth (s.put F.REFS_DPLL_BW (clampNat 1 100 (bits v 6 0)))
  | 0x048 =>
    if bit v 31 then (realignStart (bit v 30) (bits v 18 16) (bits v 12 0) none s).1
    else ((s.put F.REFS_REALIGN_STEP (bits v 30 30)).put F.REFS_REALIGN_TGT (bits v 18 16)).put F.REFS_REALIGN_RATE
      (clampNat 1 5000 (bits v 12 0))
  | _ => s.writeReg (0x40090000 + off) v

/-- SET_REF_PRIORITY. -/
def setRefPriorityBody (c : Cmd) (s : State) : State × Rep :=
  let regs : List (Nat × Nat) :=
    [(0x004, 1), (0x000, 2), (0x008, 3), (0x00C, 4), (0x050, 5), (0x054, 6), (0x058, 7), (0x05C, 8), (0x060, 9),
     (0x080, 11), (0x084, 12)]
  let s := s.each regs fun p s => refsRegWrite p.1 (cw c p.2) s
  (s.each (List.range 4) fun m s => refsRegWrite (0x070 + 4 * m) (word (bits (cw c 10) (4 * m + 2) (4 * m))) s, .rc rcDone)

/-- REALIGN. -/
def realignBody (c : Cmd) (s : State) : State × Rep :=
  let w := cw c 1
  let r := realignStart (bit w 30) (bits w 18 16) (bits w 12 0) (some (s.tokOf c 0x0303)) s
  (r.1, .rc r.2)

/-! ### The commands -/

/-- CANDIDATE_LOSS (R299, R301, R303). -/
def execCandidateLoss (c : Fin 7) (s : State) : Host.Outcome State Fault Refusal := .next (candidateLossOp c s)
/-- REF_SWITCH_MEASURED (R302, R305). -/
def execRefSwitchMeasured (delta : Int) (s : State) : Host.Outcome State Fault Refusal := .next (switchMeasured delta s)
/-- REF_SWITCH_END (R302). -/
def execRefSwitchEnd (settled : Bool) (s : State) : Host.Outcome State Fault Refusal := .next (switchEndOp settled s)
/-- REALIGN_WRITE (R307): a write of REFS_REALIGN. -/
def execRealignWrite (v : Word) (s : State) : Host.Outcome State Fault Refusal := .next (refsRegWrite 0x048 v s)
/-- REALIGN_DONE (R307, R314). -/
def execRealignDone (s : State) : Host.Outcome State Fault Refusal := .next (realignDoneOp s)
/-- BMCA_RUN (R290, R298). -/
def execBmcaRun (inst : Fin 3) (a b : PtpPort) (parent : Option GmData) (s : State) : Host.Outcome State Fault Refusal :=
  .next (bmcaRunOp inst a b parent s)
/-- PDELAY_EXCHANGE (R296). -/
def execPdelayExchange (x : Fin 2) (delay : Nat) (s : State) : Host.Outcome State Fault Refusal :=
  .next (pdelayOp x delay s)
/-- SET_REF_PRIORITY (R311–R313, R456). -/
def execSetRefPriority (c : Cmd) (s : State) : Host.Outcome State Fault Refusal :=
  .next (silwen 0x0302 12 false setRefPriorityBody c s)
/-- REALIGN (R307, R456). -/
def execRealign (c : Cmd) (s : State) : Host.Outcome State Fault Refusal := .next (silwen 0x0303 1 false realignBody c s)
/-- PTP_CFG (R289–R291, R457). -/
def execPtpCfg (c : Cmd) (s : State) : Host.Outcome State Fault Refusal := .next (silwen 0x0404 3 false ptpCfgBody c s)

end Sys2Proof.Machine
end

