-- ==== Sys2Proof/Machine/Net.lean ====
section
/-! DEFINITION. The network engine (R257–R298): ports and modes, the switch with its classes, queues
and pools, PAUSE, streams, T1S ports and transparent-clock correction. -/

namespace Sys2Proof.Machine

/-- The state with the network engine rewritten. -/
def State.modNet (s : State) (f : NetSt → NetSt) : State := { s with net := f s.net }

/-! ### Ports and modes (R257–R259) -/

/-- Whether the switch runs, whether it is in CHAIN mode, and whether a port's link is up (a T1S port
needs only its enable). -/
def State.netOn (s : State) : Bool := s.on F.NET_CTL_EN
def State.chain (s : State) : Bool := s.get F.NET_CTL_MODE == 1
def State.linkUp (s : State) (p : Nat) : Bool :=
  s.blockRuns 0 && if p < 2 then s.netOn && s.on (F.NET_PSTAT_LINK p) else s.on (F.T1S_CFG_EN (p - 2))

/-- The MAC address in use (R259). -/
def State.ownMac (s : State) : BitVec 48 := s.net.mac.getD s.sec.otp.mac

/-- A W1C bit of a port's status set; its event when it was 0 (R288). -/
def portFlag (p : Nat) (f : FieldRef) (s : State) : State := if s.on f then s else (s.put f 1).raise (164 + p)

/-- The data rate of a port in Mb/s by SPD. -/
def spdMbps (spd : Nat) : Nat :=
  match spd with | 1 => 100 | 2 => 1000 | 3 => 2500 | 4 => 10000 | _ => 0

/-! ### Packet buffer and queues (R263–R265) -/

/-- The size of a class pool and of the shared pool in bytes. -/
def State.poolSize (s : State) (cls : Nat) : Nat := s.get ⟨R.NET_POOL, 8 * cls + 7, 8 * cls⟩ * 65536
def State.sharedSize (s : State) : Nat := 256 * 65536 - ((List.range 4).map s.poolSize).sum

/-- The drop counter of a class. -/
def dropReg (cls : Nat) : Nat := R.NET_DROPPTP + 4 * cls

/-- Where a frame finds room: its own pool, the shared pool for CONTROL and BEST-EFFORT, or nowhere. -/
def State.room (s : State) (cls len : Nat) : Option Bool :=
  let used (f : HeldFrame → Bool) := ((s.net.held.filter fun x => f x.2).map fun x => x.2.len).sum
  if used (fun h => h.cls == cls && !h.shared) + len ≤ s.poolSize cls then some false
  else if 2 ≤ cls ∧ used HeldFrame.shared + len ≤ s.sharedSize then some true
  else none

/-- A port's queue in arrival order. -/
def State.queue (s : State) (p : Nat) : List QFrame := kgetD s.net.queues p []

/-- A frame admitted once and queued at a list of egress ports, or dropped and counted (R264, R265). -/
def enqueue (cls len : Nat) (ports : List Nat) (mk : Nat → Nat → QFrame) (s : State) : State × Bool :=
  match s.room cls len with
  | none => (s.incSat (dropReg cls), false)
  | some sh =>
    let id := s.net.nextId
    (s.modNet fun n => { n with
      nextId := id + 1
      held := if ports = [] then n.held else kset n.held id ⟨cls, len, sh, ports.length⟩
      queues := ports.foldl (fun q p => kset q p (kgetD q p [] ++ [mk id p])) n.queues }, true)

/-- One egress of a frame complete: its buffer is freed with its last (R264). -/
def egressDone (id : Nat) (s : State) : State :=
  s.modNet fun n => { n with held := match kget n.held id with
    | some h => if h.left ≤ 1 then kdel n.held id else kset n.held id { h with left := h.left - 1 }
    | none => n.held }

/-- The next frame of a queue in strict priority (R263). -/
def nextFrame (q : List QFrame) : Option QFrame :=
  (List.range 4).findSome? fun c => q.find? fun f => f.cls == c

/-! ### PAUSE (R268–R270) -/

/-- A port's PAUSE state. -/
def State.pauseOf (s : State) (x : Nat) : PauseSt := kgetD s.net.pause x {}
/-- The state with a port's PAUSE state set. -/
def State.setPause (s : State) (x : Nat) (p : PauseSt) : State :=
  (s.modNet fun n => { n with pause := ksetD n.pause x p {} }).put (F.NET_PSTAT_PAUSED x) (flag p.till.isSome)

/-- A PAUSE frame with pause time `q` (R268, R269). -/
def pauseFrame (x q : Nat) (s : State) : State :=
  let p := s.pauseOf x
  if !s.on (F.NET_PCFG_PAUSEEN x) || p.holdoff.isSome then s.incSat R.NET_PAUSEIGN
  else if q = 0 then s.setPause x { p with till := none, since := none }
  else
    let now := s.time.dur
    let d := q * 512 * 1000 * 2 ^ 32 / max 1 (spdMbps (s.get (F.NET_PSTAT_SPD x)))
    s.setPause x { p with till := some (now + d), since := some (p.since.getD now) }

/-- A pause that has run out (R268) (DESIGN CHOICE, assumption 7). -/
def pauseExpiryOp (x : Nat) (s : State) : State :=
  let p := s.pauseOf x
  match p.till with
  | some t => if t ≤ s.time.dur then s.setPause x { p with till := none, since := none } else s
  | none => s

/-- The watchdog of a continuous pause (R269). -/
def pauseWatchdogOp (x : Nat) (s : State) : State :=
  let p := s.pauseOf x
  match p.since with
  | some t =>
    if t + s.get F.NET_PAUSE_LIMIT * 10000 * 2 ^ 32 ≤ s.time.dur then
      let e := s.time.dur + s.get F.NET_PAUSE_HOLDOFF * 1000000 * 2 ^ 32
      let s := (s.setPause x ⟨none, none, some e⟩).put (F.NET_PSTAT_HOLDOFF x) 1
      portFlag x (F.NET_PSTAT_WDOG x) s
    else s
  | none => s

/-- The end of a hold-off (R269). -/
def pauseHoldoffOp (x : Nat) (s : State) : State :=
  match (s.pauseOf x).holdoff with
  | some e =>
    if e ≤ s.time.dur then (s.setPause x { s.pauseOf x with holdoff := none }).put (F.NET_PSTAT_HOLDOFF x) 0 else s
  | none => s

/-! ### Streams: tables and limits (R272–R275, R287) -/

/-- Samples per channel in a packet (R274); T1S streams run at 48 kHz. -/
def sppOf (cls ptime : Nat) : Nat :=
  let s1 := match ptime with | 0 => 6 | 1 => 12 | 2 => 16 | _ => 48
  s1 * 2 ^ cls
/-- The largest channel count (R274). -/
def chMax (l16 : Bool) (cls ptime : Nat) : Nat :=
  let pick (a b c : Nat) := if cls = 0 then a else if cls = 1 then b else c
  if l16 then match ptime with | 0 => pick 64 60 30 | 1 => pick 60 30 15 | 2 => pick 45 22 11 | _ => pick 15 7 3
  else match ptime with | 0 => pick 64 40 20 | 1 => pick 40 20 10 | 2 => pick 30 15 7 | _ => pick 10 5 2

/-- Whether a stream is on a T1S port. -/
def StreamCfg.t1s (c : StreamCfg) : Bool := decide (3 ≤ c.ports)

/-- Whether a stream cannot run as things stand (R272, R275, R287). -/
def State.streamBad (s : State) (c : StreamCfg) : Bool :=
  decide ((if s.rateClass = 2 then 512 else 1024) < c.base + c.ch)
    || decide (chMax c.l16 (if c.t1s then 0 else s.rateClass) c.ptime < c.ch)
    || (c.ports == 2 && s.chain) || (c.t1s && s.rateCode != 1 && s.rateCode != 3)

/-- LOFS in samples: rounded to whole samples, and at least 2 S (R273). -/
def State.lofsSamples (s : State) (c : StreamCfg) : Nat :=
  let x := c.lofs * s.fs
  let q := x / 1000000
  let r := x % 1000000
  let n := if 500000 < r ∨ (r = 500000 ∧ Config.tieUp q = true) then q + 1 else q
  max n (2 * sppOf (if c.t1s then s.rateCode / 2 else s.rateClass) c.ptime)

/-- A receive stream's typed part. -/
def State.rx (s : State) (h : Nat) : RxSt := kgetD s.net.rx h {}
def State.setRx (s : State) (h : Nat) (r : RxSt) : State := s.modNet fun n => { n with rx := ksetD n.rx h r {} }
/-- A stream's parameters, where its handle is in use. -/
def State.stream (s : State) (h : Nat) : Option StreamCfg := kget s.net.streams h

/-- The network ports of a stream by event (R288). -/
def StreamCfg.evPorts (c : StreamCfg) : List Nat :=
  match c.ports with | 0 => [0] | 1 => [1] | 2 => [0, 1] | p => [p - 1]

/-- Whether a round whose first sample is `k` has what WAIT or LOST needs to become RUNNING: its first sample
from an on-time packet, and every sample of the REGAIN time before it (R279). -/
def RxSt.regains (r : RxSt) (c : StreamCfg) (fs k : Nat) : Bool :=
  let regain := (c.regain * fs + 999) / 1000
  (kget r.buf k).isSome && (regain == 0 || decide (r.okFrom + regain ≤ k))

/-- The loss flags of the receive channels for the round that begins at `k` (R23, R25, R279, R280): a stream
in WAIT or LOST that does not regain with this round, and every member of a group with GROUPLOSS one of
whose members is (DEDUCED, assumption 77). -/
def netLoss (k : Nat) (s : State) : State :=
  let rxs := s.net.streams.filter fun x => decide (x.1 < 256) && s.get (F.NET_RXSTAT_STATE x.1) != 0
  let bad (x : Nat × StreamCfg) : Bool :=
    (s.get (F.NET_RXSTAT_STATE x.1) == 1 || s.get (F.NET_RXSTAT_STATE x.1) == 4) && !(s.rx x.1).regains x.2 s.fs k
  let lostOne (x : Nat × StreamCfg) : Bool := bad x ||
    (x.2.group != 0 && kgetD s.net.groupLoss x.2.group false && rxs.any fun y => y.2.group == x.2.group && bad y)
  let chans := (rxs.filter lostOne).flatMap fun x => (List.range x.2.ch).map (x.2.base + ·)
  { s with sig := { s.sig with lost := (s.sig.lost.filter fun i => decide (1024 ≤ i)) ++ chans } }

/-- A receive stream's state set; entering or leaving LOST raises its ports' events (R288). -/
def rxState (h st : Nat) (c : StreamCfg) (s : State) : State :=
  let old := s.get (F.NET_RXSTAT_STATE h)
  let s := s.put (F.NET_RXSTAT_STATE h) st
  s.when (old != st && (old == 4 || st == 4)) fun s => s.each c.evPorts fun p s => s.raise (164 + p)

/-- A receive stream into WAIT from MTI `p`: its legs down, its placement empty (R279, R281). -/
def rxWait (h p : Nat) (c : StreamCfg) (s : State) : State :=
  let s := ((rxState h 1 c s).put (F.NET_RXSTAT_LEGA h) 0).put (F.NET_RXSTAT_LEGB h) 0
  s.setRx h { okFrom := p }

/-- A receive stream OFF from sample `p`: its channels ramp to zero (R279). -/
def rxOff (h : Nat) (c : StreamCfg) (s : State) : State :=
  let r := s.rx h
  let f := if s.get (F.NET_RXSTAT_STATE h) = 2 ∨ s.get (F.NET_RXSTAT_STATE h) = 3 then
      (List.range c.ch).map fun i => (c.base + i, s.now, r.last.getD i 0) else []
  let s := ((rxState h 0 c s).put (F.NET_RXSTAT_LEGA h) 0).put (F.NET_RXSTAT_LEGB h) 0
  (s.setRx h {}).modNet fun n => { n with fading := n.fading ++ f }

/-- The transmit stream of a handle put aside with its parameters, where it still has packets to send (R283). -/
def txLeave (h : Nat) (c : StreamCfg) (s : State) : State :=
  s.modNet fun n => { n with
    tx := kdel n.tx h
    leaving := match kget n.tx h with
      | some t => if t.stop.isSome then n.leaving ++ [(h, c, t)] else n.leaving
      | none => n.leaving }

/-- A handle freed (R457); a transmit stream's last packets are still to be sent (R283). -/
def streamFree (h : Nat) (s : State) : State :=
  let s := match s.stream h with | some c => txLeave h c s | none => s
  let s := s.modNet fun n => { n with streams := kdel n.streams h, rx := kdel n.rx h }
  if h < 256 then s.setReg (R.NET_RXSTAT h) 0 else s.setReg (R.NET_TXSTAT h) 0

/-- A frame of the network engine queued at a port whose link is up; a T1S port is no switch port and takes no room of
the packet buffer (R264). -/
def ownFrame (p : Nat) (f : QFrame) (s : State) : State :=
  if !s.linkUp p then s
  else if p < 2 then (enqueue f.cls f.len [p] (fun id _ => { f with id := id }) s).1
  else s.modNet fun n => { n with queues := kset n.queues p (kgetD n.queues p [] ++ [f]) }

/-- An IGMP report for a multicast group queued at a port, IGMPv3 or, to an IGMPv2 querier, IGMPv2 (R261). -/
def igmpReport (v : Nat) (group : Word) (p : Nat) (s : State) : State :=
  ownFrame p { id := 0, cls := 2, len := 64, igmp := some (v, group) } s

/-- The multicast groups of a receive stream, each with a port it is joined at (R261, R277). -/
def StreamCfg.groups (c : StreamCfg) : List (Nat × Word) :=
  (c.evPorts.map fun p => (p, if c.ports = 2 ∧ p = 1 then c.dstb else c.dst)).filter fun x => bits x.2 31 28 == 14

/-- The groups of a receive stream that starts are joined with IGMPv3 reports on its ports, in CHAIN mode on both (R261). -/
def igmpJoin (c : StreamCfg) (s : State) : State :=
  s.each c.groups fun x s =>
    if s.chain && decide (x.1 < 2) then igmpReport 3 x.2 1 (igmpReport 3 x.2 0 s) else igmpReport 3 x.2 x.1 s

/-- RUN of a stream committed at Stile `p` (R283), with the handle freed for STREAM_REMOVE. -/
def streamCommit (h : Nat) (run remove : Bool) (p : Nat) (s : State) : State :=
  match s.stream h with
  | none => s
  | some c =>
    let s := s.modNet fun n => { n with streams := kset n.streams h { c with run := run } }
    let bad := s.streamBad c
    let s := if h < 256 then
        if run then
          if c.run then s else if bad then s.put (F.NET_RXSTAT_INACT h) 1 else igmpJoin c (rxWait h p c s)
        else if c.run then rxOff h c s else s
      else if run then
        if c.run then s
        else if bad then s.put (F.NET_TXSTAT_INACT h) 1
        else
          let n := sppOf (if c.t1s then 0 else s.rateClass) c.ptime
          let s := (txLeave h c s).put (F.NET_TXSTAT_RUN h) 1
          s.modNet fun x => { x with tx := kset x.tx h { firstM := (p + n - 1) / n * n } }
      else
        let s := s.put (F.NET_TXSTAT_RUN h) 0
        s.modNet fun x => { x with tx := kmod x.tx h fun t => { t with stop := some (t.stop.getD p) } }
    let s := s.when remove (streamFree h)
    offsetNotice (netLoss (s.roundAt s.mti) s)

/-- Every stream judged anew against mode and rate (R259, R275): one that cannot run stops and shows
INACT; one that can again runs. -/
def streamsCheck (all : Bool) (s : State) : State :=
  let s := s.each s.net.streams fun x s =>
    let (h, c) := x
    let bad := s.streamBad c
    let f := if h < 256 then F.NET_RXSTAT_INACT h else F.NET_TXSTAT_INACT h
    let was := s.on f
    if !all && c.t1s then s
    else if bad && !was then
      let s := s.put f 1
      if h < 256 then rxOff h c s
      else (s.put (F.NET_TXSTAT_RUN h) 0).modNet fun n => { n with tx := kdel n.tx h }
    else if !bad && was then
      let s := s.put f 0
      if !c.run then s
      else streamCommit h true false s.mti (s.modNet fun n => { n with streams := kset n.streams h { c with run := false } })
    else s
  offsetNotice (netLoss (s.roundAt s.mti) s)

/-- An engine start at the first round-aligned MTI `k` (R53): every receive stream that is not OFF relocks, and a running
transmit stream begins with its next whole packet. -/
def netRelock (k : Nat) (s : State) : State :=
  let s := (s.modNet fun y => { y with leaving := [] }).each s.net.streams fun x s =>
    if x.1 < 256 then (if s.get (F.NET_RXSTAT_STATE x.1) = 0 then s else rxWait x.1 k x.2 s)
    else
      let n := sppOf (if x.2.t1s then 0 else s.rateClass) x.2.ptime
      s.modNet fun y => { y with tx := match kget y.tx x.1 with
        | some t => if t.stop.isSome then kdel y.tx x.1 else kset y.tx x.1 { firstM := (k + n - 1) / n * n }
        | none => y.tx }
  netLoss k s

/-! ### Receiving (R278, R281) -/

/-- The leg a packet comes on: 0 leg A or the single leg, 1 leg B. -/
def State.legOf (s : State) (c : StreamCfg) (port : Nat) : Option Nat :=
  match c.ports with
  | 0 => if port = 0 ∨ (port = 1 ∧ s.chain = true) then some 0 else none
  | 1 => if port = 1 ∨ (port = 0 ∧ s.chain = true) then some 0 else none
  | 2 => if port < 2 then some port else none
  | p => if port + 1 = p then some 0 else none

/-- The running receive stream an RTP frame matches, with its leg (R262, R273). -/
def State.rtpMatch (s : State) (port : Nat) (src dst : Word) (dport : Nat) : Option (Nat × StreamCfg × Nat) :=
  s.net.streams.findSome? fun x =>
    if x.1 < 256 ∧ s.get (F.NET_RXSTAT_STATE x.1) ≠ 0 then
      match s.legOf x.2 port with
      | some l =>
        let d := if l = 1 then x.2.dstb else x.2.dst
        let q := if l = 1 then x.2.dportb else x.2.dport
        if d = dst ∧ q = dport ∧ (x.2.src = 0#32 ∨ x.2.src = src) then some (x.1, x.2, l) else none
      | none => none
    else none

/-- The 64-bit MTI with given low 32 bits that lies nearest to `cur` (R44); of two equally near ones the lower
(DESIGN CHOICE, assumption 96). -/
def nearMti (low : Word) (cur : Nat) : Nat :=
  let d := (low - word cur).toInt
  ((cur : Int) + d).toNat

/-- A half of a counter pair that saturates at 65,535. -/
def incHalf (a : Nat) (high : Bool) (n : Nat) (s : State) : State :=
  let f : FieldRef := if high then ⟨a, 31, 16⟩ else ⟨a, 15, 0⟩
  s.put f (min 65535 (s.get f + n))

/-- The sample group of a packet as source samples (R273). -/
def rtpSamples (c : StreamCfg) (g : List Sample) : List Sample :=
  (g.take c.ch).map fun x => if c.l16 then BitVec.ofNat 24 (x.toNat / 256 * 256) else x

/-- Sample groups through the fixed 2:1 converter of a T1S stream, from the groups it holds (R287). -/
def halved (up : Bool) (ch len : Nat) (held : List (List Sample)) : List (List Sample) :=
  (List.range len).map fun i => (List.range ch).map fun c =>
    BitVec.ofInt 24 (satTo 24 (Config.halfband up (held.map fun g => (g.getD c 0).toInt) i)).1

/-- A packet of a stream taken at a leg (R278, R281). -/
def rtpTake (h : Nat) (c : StreamCfg) (leg : Nat) (pt : Nat) (ts : Word) (groups : List (List Sample)) (s : State) : State :=
  let r := s.rx h
  let cur := s.mti
  let s := if leg = 1 then (s.setRx h { r with lastB := some cur }).put (F.NET_RXSTAT_LEGB h) 1
    else (s.setRx h { r with lastA := some cur }).put (F.NET_RXSTAT_LEGA h) 1
  let r := s.rx h
  if pt ≠ c.pt then incHalf (R.NET_RXLATE h) false 1 s
  else
    let k := if c.t1s && s.rateCode == 3 then 2 else 1
    let m := nearMti (ts - c.off) (cur / k) * k
    let lo := s.lofsSamples c
    let len := groups.length * k
    let n := s.roundLen
    if (m + lo) / n * n + n ≤ cur then incHalf (R.NET_RXLATE h) false 1 s
    else if cur + s.samplesOf 2000 + 2 * sppOf (if c.t1s then s.rateCode / 2 else s.rateClass) c.ptime < m + lo + (len - 1) then
      incHalf (R.NET_RXLATE h) true 1 s
    else
      let have' := kgetD r.got m 0
      let r := { r with got := kset r.got m (have' ||| 2 ^ leg) }
      if have' ≠ 0 then s.setRx h r
      else
        let own := groups.map (rtpSamples c)
        let vals : List (List Sample) := if k = 2 then halved true c.ch len (r.conv ++ own) else own
        let buf := vals.zipIdx.foldl (fun b v => kset b (m + lo + v.2) v.1) r.buf
        let r := if k = 2 then { r with conv := ((r.conv ++ own).reverse.take 48).reverse } else r
        (s.setRx h { r with buf := buf }).fresh

/-- A leg with no packet for 100 ms down (R281): its bit clears and its port's event is raised. -/
def legDownOp (h : Nat) (legB : Bool) (s : State) : State :=
  match s.stream h with
  | some c =>
    let f := if legB then F.NET_RXSTAT_LEGB h else F.NET_RXSTAT_LEGA h
    let last := if legB then (s.rx h).lastB else (s.rx h).lastA
    if s.on f && (last.all fun t => decide (t + s.samplesOf 10000 ≤ s.mti)) then
      let p := if c.ports = 2 then (if legB then 1 else 0) else c.evPorts.headD 0
      (s.put f 0).raise (164 + p)
    else s
  | none => s

/-! ### Receive streams at a round-start Stile (R279, R281) -/

/-- A receive stream stepped through the samples of a round, first sample `k0`: the state, and the
values of each sample. -/
structure RxRun where
  st : Nat
  r : RxSt
  urun : Nat
  vals : List (List Sample)
deriving DecidableEq, Repr

/-- One sample of a round of a running or underrunning stream: presented sample `m`, sample number `n` (R41, R279). -/
def rxSample (s : State) (c : StreamCfg) (m n : Nat) (a : RxRun) : RxRun :=
  let up := s.samplesOf 1000
  let rj := s.minRamp
  let dn := s.samplesOf 200
  let silence := List.replicate c.ch (0 : Sample)
  if a.st = 2 ∨ a.st = 3 then
    match kget a.r.buf m with
    | some v =>
      let r := if a.st = 3 then { a.r with u := none, rejoin := some (n, a.r.last) } else a.r
      let out := match r.rejoin, r.upFrom with
        | some (q, old), _ =>
          if n < q + rj then v.zipIdx.map fun x =>
            BitVec.ofInt 24 (satTo 24 (crossSum ((old.getD x.2 0).toInt) x.1.toInt 0 (2 * (n - q) + 1) (2 * rj))).1
          else v
        | none, some q => v.map fun x => rampedUp (some q) up n x
        | none, none => v
      { a with st := 2, r := { r with last := out }, vals := a.vals ++ [out] }
    | none =>
      { a with st := 3, r := { a.r with u := some (a.r.u.getD m), okFrom := m + 1 }, urun := a.urun + 1, vals := a.vals ++ [a.r.last] }
  else
    let ok := (kget a.r.buf m).isSome
    let out := match a.st, a.r.downFrom with
      | 4, some q =>
        if n < q + dn then a.r.last.map fun x => rampSample x (2 * (dn - (n - q)) - 1) (2 * dn) else silence
      | _, _ => silence
    { a with r := if ok then a.r else { a.r with okFrom := m + 1 }, vals := a.vals ++ [out] }

/-- One receive stream at the Stile (k + 1)N of a round whose first sample is `k0`, with sample number `n0`: that round's state and
samples, then whether the round that begins here is LOST (R25, R279) (DEDUCED, assumption 77). -/
def rxTick (k0 n0 : Nat) (h : Nat) (c : StreamCfg) (s : State) : State :=
  let st := s.get (F.NET_RXSTAT_STATE h)
  if st = 0 then s
  else
    let n := s.roundLen
    let r := s.rx h
    let losst := (c.losst * s.fs + 99999) / 100000
    let start : Nat × RxSt :=
      if (st = 1 ∨ st = 4) ∧ r.regains c s.fs k0 = true then
        (2, { r with u := none, upFrom := some n0, rejoin := none, downFrom := none })
      else (st, r)
    let a := (List.range n).foldl (fun a i => rxSample s c (k0 + i) (n0 + i) a) ⟨start.1, start.2, 0, []⟩
    let a := if a.st = 3 ∧ (a.r.u.any fun u => decide (u + losst ≤ k0 + n)) = true then
        { a with st := 4, r := { a.r with u := none, downFrom := some (n0 + n), upFrom := none, rejoin := none } }
      else a
    let s := rxState h a.st c s
    let s := s.setReg (R.NET_RXURUN h) (word (min 4294967295 ((s.reg (R.NET_RXURUN h)).toNat + a.urun)))
    let lo := s.lofsSamples c
    let due := a.r.got.filter fun g => decide (g.1 + lo < k0 + n)
    let s := if c.ports = 2 then
        incHalf (R.NET_RXMISS h) true (due.filter fun g => g.2 == 1).length
          (incHalf (R.NET_RXMISS h) false (due.filter fun g => g.2 == 2).length s)
      else s
    let s := s.setRx h { a.r with
      buf := a.r.buf.filter fun b => decide (k0 + n ≤ b.1)
      got := a.r.got.filter fun g => decide (k0 + n ≤ g.1 + lo) }
    s.each (List.range c.ch) fun i s =>
      { s with sig := { s.sig with cur := kset s.sig.cur (c.base + i) (a.vals.map fun v => v.getD i 0) } }

/-- Every receive stream at a round-start Stile `k`, and the loss flags that follow (R279, R280). -/
def netRxTick (k : Nat) (s : State) : State :=
  let k0 := k - s.roundLen
  let n0 := s.eng.base - s.roundLen
  let s := s.each (s.net.streams.filter fun x => decide (x.1 < 256)) fun x s => rxTick k0 n0 x.1 x.2 s
  let d := s.minRamp
  let fading := s.net.fading.filter fun f => decide (n0 < f.2.1 + d)
  let s := s.each fading fun f s =>
    { s with sig := { s.sig with cur := kset s.sig.cur f.1 ((List.range s.roundLen).map fun i =>
        let m := n0 + i
        if m < f.2.1 then f.2.2
        else if m < f.2.1 + d then rampSample f.2.2 (2 * (d - (m - f.2.1)) - 1) (2 * d) else 0) } }
  netLoss k (s.modNet fun n => { n with fading := fading })

/-! ### Transmit streams (R276, R277, R284) -/

/-- The transmit streams at work in ascending handle order, those put aside before those that run (R276, R283). -/
def State.txRuns (s : State) : List (Nat × StreamCfg × TxSt) :=
  let runs := s.net.streams.filterMap fun x => (kget s.net.tx x.1).map fun t => (x.1, x.2, t)
  s.net.leaving.foldr (fun x l => (l.takeWhile fun y => decide (y.1 < x.1)) ++ x :: (l.dropWhile fun y => decide (y.1 < x.1))) runs

/-- The samples of a transmit stream for the round just processed, taken from what its sinks will emit
(R49); zero while rounds are discarded (R41), and from RUN = 0 on (R283). -/
def txGather (k0 : Nat) (c : StreamCfg) (s : State) (t : TxSt) : TxSt :=
  let n0 := s.eng.base - s.roundLen
  let rows := (List.range s.roundLen).map fun i =>
    (k0 + i, (List.range c.ch).map fun ch =>
      if 2 ≤ s.eng.discard ∨ t.stop.any (fun p => decide (p ≤ k0 + i)) = true then (0 : Sample)
      else BitVec.ofInt 24 (s.sinkSample (c.base + ch) (n0 + i) i))
  { t with buf := rows.foldl (fun b r => if t.firstM ≤ r.1 then kset b r.1 r.2 else b) t.buf }

/-- The sample groups of a packet from sample `m`, through the 2:1 converter where the stream has one (R287), its samples
under a ramp of every sink as they would be emitted (R53). -/
def State.txSamples (s : State) (c : StreamCfg) (t : TxSt) (m spp : Nat) : List (List Sample) :=
  let row (i : Nat) : List Sample :=
    (kgetD t.buf i (List.replicate c.ch 0)).map fun x => s.sinkRamp (s.sampleAt (i + 2 * s.roundLen)) x
  let groups := if c.t1s && s.rateCode == 3 then
      halved false c.ch spp ((List.range (4 * spp)).map fun i => if m + i < 2 * spp then List.replicate c.ch 0 else row (m + i - 2 * spp))
    else (List.range spp).map fun i => row (m + i)
  groups.map fun g => g.map (slotOut (if c.l16 then 16 else 24))

/-- One packet of a stream queued on its ports (R276, R277). -/
def txPacket (h : Nat) (c : StreamCfg) (t : TxSt) (m spp : Nat) (s : State) : State :=
  let k := if c.t1s && s.rateCode == 3 then 2 else 1
  let smp := s.txSamples c t m spp
  let len := 58 + spp * c.ch * (if c.l16 then 2 else 3)
  let mk (legB : Bool) : RtpOut :=
    ⟨h, legB, if legB then c.dstb else c.dst, if legB then c.dportb else c.dport, word (m / k) + c.off,
     m / k / spp % 65536, c.ssrc, c.pt, c.dscp, c.ttl, smp⟩
  let ports := c.evPorts.filter fun p => decide (2 ≤ p) || s.netOn
  let r := if c.t1s then
      (s.modNet fun n => { n with queues := ports.foldl (fun q p => kset q p (kgetD q p [] ++ [{ id := 0, cls := 1, len := len, rtp := some (mk false) }])) n.queues }, true)
    else enqueue 1 len ports (fun id p => { id := id, cls := 1, len := len, rtp := some (mk (c.ports == 2 && p == 1)) }) s
  if ports != [] && r.2 && (s.stream h).isSome then
    r.1.put (F.NET_TXSTAT_PKTS h) (r.1.get (F.NET_TXSTAT_PKTS h) + 1)
  else r.1

/-- The first samples of the packets of a transmit stream due at Stile `k`: those whose first round-start Stile at or after
m + S + 2N it is (R276). -/
def State.packetsDue (s : State) (k : Nat) (c : StreamCfg) (t : TxSt) : List Nat :=
  let n := s.roundLen
  let blk := sppOf (if c.t1s then 0 else s.rateClass) c.ptime * (if c.t1s && s.rateCode == 3 then 2 else 1)
  let lo := (k - 3 * n - blk) / blk
  ((List.range (n / blk + 3)).map fun i => (lo + i) * blk).filter fun m =>
    decide (t.firstM ≤ m) && decide (m + blk + 2 * n ≤ k) && decide (k < m + blk + 3 * n)
      && (t.stop.all fun p => decide (m < p))

/-- The packets of every transmit stream due at a round-start Stile `k`, in ascending handle order. -/
def netTxSend (k : Nat) (s : State) : State :=
  if s.tnd.failed || (s.standby && !s.on F.TND_CTL_DUALTX) then s
  else s.each s.txRuns fun x s =>
    let spp := sppOf (if x.2.1.t1s then 0 else s.rateClass) x.2.1.ptime
    s.each (s.packetsDue k x.2.1 x.2.2) fun m s => txPacket x.1 x.2.1 x.2.2 m spp s

/-- Samples kept for the packets still due, for the Stiles a promotion repeats (R364) and for a converter; a stream put
aside forgotten when none of its packets is left (R283). -/
def txTrim (k : Nat) (s : State) : State :=
  let keep (t : TxSt) : TxSt := { t with buf := t.buf.filter fun b => decide (k ≤ b.1 + 384 + 11 * s.roundLen) }
  s.modNet fun y => { y with
    tx := y.tx.map fun x => (x.1, keep x.2)
    leaving := (y.leaving.map fun x => (x.1, x.2.1, keep x.2.2)).filter fun x =>
      x.2.2.stop.any fun p => decide (k ≤ p + 384 + 11 * s.roundLen) }

/-- Every transmit stream at a round-start Stile `k`, before the round just processed gives way: its samples
are taken, and the packets due are sent. -/
def netTxTick (k : Nat) (s : State) : State :=
  let k0 := k - 2 * s.roundLen
  let s' := s.modNet fun y => { y with
    tx := y.tx.map fun x => (x.1, match s.stream x.1 with | some c => txGather k0 c s x.2 | none => x.2)
    leaving := y.leaving.map fun x => (x.1, x.2.1, txGather k0 x.2.1 s x.2.2) }
  txTrim k (netTxSend k s')

/-! ### The switch (R260–R267, R295, R296) -/

/-- Whether a MAC address is a group address, and whether it is reserved (R261). -/
def groupMac (m : BitVec 48) : Bool := m.getLsbD 40
def reservedMac (m : BitVec 48) : Bool := decide (m.toNat / 16 = 0x0180C2000000 / 16)

/-- Whether a PTP message is an event message (R295). -/
def ptpEvent : PtpKind → Bool
  | .sync => true | .delayReq => true | .pdelayReq => true | .pdelayResp => true
  | .followUp => false | .delayResp => false | .announce => false | .signaling => false | .management => false

/-- The class of a frame toward NET_C (R262). -/
def State.classC (s : State) (port : Nat) (f : Frame) : Option Nat :=
  match f.payload with
  | .ptp _ _ _ _ => some 0
  | .rtp src dst port' _ opt _ _ _ _ =>
    if !opt && (s.rtpMatch port src dst port'.toNat).isSome then some 1
    else if port'.toNat = s.get F.NET_CLASS_CTLPORT then some 2 else none
  | .control none => some 2
  | .control (some p) => if p.toNat = s.get F.NET_CLASS_CTLPORT then some 2 else none
  | .igmpQuery _ _ => some 2
  | .ipv4 _ => none
  | .other _ => none
  | .macControl _ _ => none

/-- The class of a forwarded frame (R262). -/
def State.classF (s : State) (f : Frame) : Nat :=
  let pcp := f.tag.any fun t => t.tpid == 0x8100#16 && decide (s.get F.NET_CLASS_MPCP ≤ t.pcp.toNat)
  match f.payload with
  | .ptp _ _ _ _ => 0
  | .rtp _ _ _ d _ _ _ _ _ => if d.toNat = s.get F.NET_CLASS_MDSCP ∨ pcp = true then 1 else 3
  | .ipv4 d => if d.toNat = s.get F.NET_CLASS_MDSCP ∨ pcp = true then 1 else 3
  | .other et => if et ≠ 0x86DD#16 ∧ pcp = true then 1 else 3
  | _ => if pcp then 1 else 3

/-- A source address learned (R261). -/
def learn (mac port : Nat) (s : State) : State :=
  s.modNet fun n => { n with learned :=
    if (n.learned.any fun x => x.1 == mac) then n.learned.map fun x => if x.1 = mac then (mac, port) else x
    else if n.learned.length < 1024 then n.learned ++ [(mac, port)] else n.learned }

/-- The PTP event frame a received frame is, captured at its port (R55). -/
def rxCapture (port : Nat) (f : Frame) (s : State) : State :=
  match f.payload with
  | .ptp k _ _ _ => if ptpEvent k then ptpCapture port false s else s
  | _ => s

/-- Whether a frame received at port `x` is forwarded to the other external port (R260, R261, R296). -/
def State.forwards (s : State) (x : Nat) (f : Frame) : Bool :=
  let known := (s.net.learned.find? fun l => l.1 == f.dst.toNat).map (·.2)
  s.chain && !s.on F.NET_STAT_FWDBLK && s.linkUp (1 - x) && !reservedMac f.dst && f.dst != s.ownMac
    && (groupMac f.dst || known != some x)
    && (match f.payload with
        | .ptp k _ _ _ => !(s.inst 0).tcP2p || !(k == .pdelayReq || k == .pdelayResp || k == .delayReq || k == .delayResp)
        | _ => true)

/-- An IGMP query answered for every group joined at its port, an IGMPv2 querier in IGMPv2 (R261). -/
def igmpAnswer (port : Nat) (v2 : Bool) (group : Word) (s : State) : State :=
  let on := s.net.streams.filter fun x => decide (x.1 < 256) && s.get (F.NET_RXSTAT_STATE x.1) != 0
  let groups := (on.flatMap fun x => x.2.groups.filter fun g =>
    (g.1 == port || (s.chain && decide (g.1 < 2 ∧ port < 2))) && (group == 0 || g.2 == group)).map Prod.snd
  s.each (groups.eraseDups) fun g s => igmpReport (if v2 then 2 else 3) g port s

/-- The instance that serves the T1S ports: the one that supplies the selected reference, or that of NET_A (R297). -/
def State.t1sOwner (s : State) : Nat :=
  let sel := s.get F.REFS_STAT_SEL
  if sel < 2 then (if (s.inst 2).en then 2 else sel) else if (s.inst 2).en then 2 else 0

/-- The instance of a port (R290, R297). -/
def State.instOf (s : State) (p : Nat) : Nat :=
  if p < 2 then (if (s.inst 2).en then 2 else if s.chain then 0 else p) else s.t1sOwner

/-- Whether an instance is master at a port; the T1S ports always are (R285, R290). -/
def State.ptpMaster (s : State) (p : Nat) : Bool :=
  let i := s.inst (s.instOf p)
  i.en && (decide (2 ≤ p) || (if s.chain then i.portA == .master || i.portB == .master
    else if p = 0 then i.portA == .master else i.portB == .master))

/-- What a PTP message that asks for one is answered with: a Pdelay_Req where the port measures link delays, a Delay_Req
by a master with the E2E mechanism in its domain (R289, R293, R296, R297). -/
def ptpAnswer (p : Nat) (k : PtpKind) (domain : BitVec 8) (s : State) : State :=
  let i := s.inst (s.instOf p)
  let tc := s.chain && (s.inst 0).tcP2p
  let send (r : PtpKind) (s : State) : State := ownFrame p { id := 0, cls := 0, len := 90, ptp := some (r, 0, 2) } s
  match k with
  | .pdelayReq => if p < 2 ∧ ((i.en && i.p2p) || tc) = true then send .pdelayResp s else s
  | .delayReq =>
    if (s.ptpMaster p && decide (domain.toNat = i.domain) && (decide (2 ≤ p) || !(i.p2p || tc))) = true then send .delayResp s
    else s
  | _ => s

/-- The receive descriptor of a CONTROL frame: the TCI of a single tag with TPID 0x8100, removed (R267). -/
def ctlDescriptor (f : Frame) (s : State) : State :=
  s.modNet fun n => { n with ctlTag := f.tag.filter fun t => t.tpid == 0x8100#16 }

/-- A frame taken by NET_C (R262, R266, R267, R278): checksums, placement of streams, answers. -/
def netTake (port cls : Nat) (f : Frame) (s : State) : State :=
  if decide (cls < 2) && !(f.ipCsumOk && f.udpCsumZeroOrOk) then s.incSat R.NET_CSUMERR
  else match f.payload with
    | .rtp src dst p _ _ pt ts _ smp =>
      match s.rtpMatch port src dst p.toNat with
      | some (h, c, l) => rtpTake h c l pt.toNat ts smp s
      | none => s.when (cls == 2) (ctlDescriptor f)
    | .ptp k _ d _ => ptpAnswer port k d s
    | .igmpQuery v2 g => igmpAnswer port v2 g (ctlDescriptor f s)
    | _ => s.when (cls == 2) (ctlDescriptor f)

/-- The CONTROL policer (R265): 200 Mb/s and 64 KiB deep, held in fortieths of a byte. -/
def police (len : Nat) (s : State) : State × Bool :=
  let now := s.time.dur / 2 ^ 32
  let t := min 2621440 (s.net.tokens + (now - s.net.tokenAt))
  if 40 * len ≤ t then (s.modNet fun n => { n with tokens := t - 40 * len, tokenAt := now }, true)
  else ((s.modNet fun n => { n with tokens := t, tokenAt := now }).incSat R.NET_CTLPOL |>.put F.NET_STAT_CTLPOL 1, false)

/-- A frame received at an external port. -/
def netRxExt (x : Nat) (f : Frame) (s : State) : State :=
  if !s.linkUp x then s
  else if 2000 < f.len then s.incSat R.NET_OVERSIZE
  else if !f.fcsOk then s.incSat R.NET_FCSERR
  else match f.payload with
  | .macControl op q => if op = 1 then pauseFrame x q.toNat s else s.incSat R.NET_PFC
  | _ =>
    let s := s.when (s.chain && f.src == s.ownMac) fun s =>
      (((s.put F.NET_STAT_FWDBLK 1).put F.NET_STAT_LOOP 1).raise 164).raise 165
    let s := rxCapture x f (s.when s.chain fun s => learn f.src.toNat x s)
    let fwd := s.forwards x f
    let mine := f.dst == s.ownMac || groupMac f.dst
    let cC := if mine then s.classC x f else none
    let c := cC.getD (s.classF f)
    let s := s.when (cC.isNone && (f.dst == s.ownMac || !s.chain)) fun s => s.incSat R.NET_DROPBE
    let pol := if cC = some 2 then police f.len s else (s, true)
    let s := pol.1
    let cC := if pol.2 then cC else none
    if !fwd then
      match cC with
      | some c => if (s.room c f.len).isNone then s.incSat (dropReg c) else netTake x c f s
      | none => s
    else
      let ptp := match f.payload with | .ptp k _ _ corr => some (k, corr, x) | _ => none
      let r := enqueue c f.len [1 - x] (fun id _ => { id := id, cls := c, len := f.len, ptp := ptp }) s
      match cC, r.2 with
      | some c', true => netTake x c' f r.1
      | _, _ => r.1

/-- A frame received at a T1S port (R285, R286): for the network engine alone. -/
def netRxT1s (q : Nat) (f : Frame) (s : State) : State :=
  if !s.linkUp (2 + q) then s
  else
    let s := if s.on (F.T1S_STAT_ACT q) then s else (s.put (F.T1S_STAT_ACT q) 1).raise (166 + q)
    let rev := f.reversed && !s.on (F.T1S_STAT_POLREV q)
    let lost := rev && Config.undefNat s.free % 2 == 1
    let s := s.when rev fun s => (s.put (F.T1S_STAT_POLREV q) 1).fresh
    if lost then s
    else if 2000 < f.len then s.incSat R.NET_OVERSIZE
    else if !f.fcsOk then s.incSat R.NET_FCSERR
    else match f.payload with
    | .macControl _ _ => s.incSat R.NET_PFC
    | _ =>
      let s := rxCapture (2 + q) f s
      match (if f.dst == s.ownMac || groupMac f.dst then s.classC (2 + q) f else none) with
      | none => s.incSat R.NET_DROPBE
      | some c =>
        let pol := if c = 2 then police f.len s else (s, true)
        if !pol.2 then pol.1
        else if (pol.1.room c f.len).isNone then pol.1.incSat (dropReg c)
        else netTake (2 + q) c f pol.1

/-- NET_FRAME_RX. -/
def netFrameRxOp (port : Nat) (f : Frame) (s : State) : State :=
  if port < 2 then netRxExt port f s else netRxT1s (port - 2) f s

/-- The correctionField of a forwarded PTP event frame as it leaves port `p` (R294–R296): its residence time between the
balls in 2⁻¹⁶ ns, less the latencies of the two ports, and with TCMODE P2P the ingress port's mean link delay
and asymmetry for a Sync. -/
def State.corrected (s : State) (p residence : Nat) : PtpKind × Int × Nat → PtpKind × Int × Nat
  | (k, c, x) =>
    if x = 2 ∨ ptpEvent k = false then (k, c, x)
    else
      let lat := (s.get (F.REFS_PTPLAT_RXLAT x) + s.get (F.REFS_PTPLAT_TXLAT p)) * 2 ^ 15
      let link : Int := if (s.inst 0).tcP2p ∧ k = .sync then
        kgetD s.ref.linkDelay x 0 + (s.reg (R.REFS_ASYM x)).toInt * 2 ^ 15 else 0
      (k, c + residence - (lat : Nat) + link, x)

/-- A frame as it leaves a port: a PTP frame corrected, the originTimestamp of the chip's own Sync inserted (R293–R296). -/
def State.asSent (s : State) (p residence : Nat) (f : QFrame) : QFrame :=
  { f with
    ptp := f.ptp.map (s.corrected p residence)
    origin := if f.ptp.any fun x => x.1 == .sync && x.2.2 == 2 then
        some ((s.time.t32 / 2 ^ 31 - s.get (F.REFS_PTPLAT_TXLAT p)) / 2) else none }

/-- The first frame of a port's queues in priority order leaves (R263, R293, R295). -/
def sendFrame (port residence : Nat) (s : State) : State :=
  match nextFrame (s.queue port) with
  | none => s
  | some f =>
    let s := s.modNet fun n => { n with queues := ksetD n.queues port ((s.queue port).erase f) [] }
    let s := if port < 2 then egressDone f.id s else s
    let s := match f.ptp with
      | some (k, _, _) => if ptpEvent k then ptpCapture port true s else s
      | none => s
    s.modNet fun n => { n with out := kset n.out port (s.asSent port residence f) }

/-- NET_FRAME_TX: nothing leaves a port that is down or paused, nor a failed chip (R354). -/
def netFrameTxOp (port residence : Nat) (s : State) : State :=
  if s.tnd.failed || !s.linkUp port || (decide (port < 2) && (s.pauseOf port).till.isSome) then s else sendFrame port residence s

/-- LOOP_PROBE (R260): a broadcast frame from each external port, in CHAIN mode. -/
def loopProbeOp (s : State) : State :=
  if !s.chain || !s.netOn then s
  else s.each ((List.range 2).filter fun p => s.linkUp p) fun p s =>
    (enqueue 2 64 [p] (fun id _ => { id := id, cls := 2, len := 64 }) s).1

/-- A learned address aged out (R261). -/
def ageOutOp (mac : Nat) (s : State) : State :=
  s.modNet fun n => { n with learned := n.learned.filter fun x => x.1 != mac }

/-! ### Links (R258, R271, R287, R418) -/

/-- The link of a port down (R271). -/
def linkDownOp (p : Nat) (s : State) : State :=
  let drop (s : State) : State := s.each (s.queue p) fun f s =>
    egressDone f.id (s.incSat (dropReg f.cls))
  if p < 2 then
    if !s.on (F.NET_PSTAT_LINK p) then s
    else
      let s := ((drop s).put (F.NET_PSTAT_LINK p) 0).put (F.NET_PSTAT_SPD p) 0
      let s := s.modNet fun n => { n with queues := kdel n.queues p, learned := n.learned.filter fun x => x.2 != p }
      let s := (s.setPause p {}).put (F.NET_PSTAT_HOLDOFF p) 0
      (s.put (F.NET_PSTAT_LINKEV p) 1).raise (164 + p)
  else if !s.on (F.T1S_STAT_ACT (p - 2)) then s
  else
    let s := s.put (F.T1S_STAT_ACT (p - 2)) 0
    (s.modNet fun n => { n with queues := kdel n.queues p }).raise (164 + p)

/-- The link of a port up at a speed code (0 for an SGMII PHY at 10 Mb/s) (R257, R258). -/
def linkUpOp (p speed : Nat) (s : State) : State :=
  if p < 2 then
    let ifc := s.get (F.NET_PCFG_IF p)
    let spd := match ifc with | 0 => 4 | 1 => 3 | 2 => 2 | _ => speed
    if !s.netOn then s
    else if ifc = 3 ∧ ¬ (spd = 1 ∨ spd = 2) then (linkDownOp p s).put (F.NET_PSTAT_SPEEDERR p) 1
    else
      let was := s.on (F.NET_PSTAT_LINK p)
      let s := ((s.put (F.NET_PSTAT_LINK p) 1).put (F.NET_PSTAT_SPD p) spd).put (F.NET_PSTAT_SPEEDERR p) 0
      s.when (!was) fun s => (s.raise (164 + p)).unitDone 6 p
  else if s.on (F.T1S_CFG_EN (p - 2)) && !s.on (F.T1S_STAT_ACT (p - 2)) then
    ((s.put (F.T1S_STAT_ACT (p - 2)) 1).raise (164 + p)).unitDone 6 p
  else s

/-- The held pool word with its fields reduced to fit 256 (NET_POOL). -/
def poolFit (v : Word) : Word :=
  let p := max 1 (bits v 7 0)
  let m := bits v 15 8
  let beyond (x : Nat) := p + m + bits v 23 16 + x - 256
  let be := bits v 31 24 - beyond (bits v 31 24)
  let ctl := bits v 23 16 - (p + m + bits v 23 16 + be - 256)
  word (p + m * 2 ^ 8 + ctl * 2 ^ 16 + be * 2 ^ 24)

/-- NET_CTL written (R259): EN = 0 takes both links down; EN = 1 applies the held class I fields. -/
def netCtlWrite (v : Word) (s : State) : State :=
  let s := s.hold R.NET_CTL (word (Limit.apply (.above 1 0) (bits v 1 0)))
  if bit v 31 then
    let was := s.netOn
    let s := (((s.applyHeld R.NET_CTL).applyHeld (R.NET_PCFG 0)).applyHeld (R.NET_PCFG 1)).applyHeld R.NET_POOL
    let s := s.put F.NET_CTL_EN 1
    let s := s.when (!was) fun s => s.put F.NET_STAT_FWDBLK 0
    streamsCheck false s
  else (linkDownOp 1 (linkDownOp 0 s)).put F.NET_CTL_EN 0

/-- A write to the NET block. -/
def netRegWrite (off : Nat) (v : Word) (s : State) : State :=
  match off with
  | 0x000 => netCtlWrite v s
  | 0x050 => s.hold R.NET_POOL (poolFit v)
  | _ => s.writeReg (0x40400000 + off) v

/-! ### T1S transmission (R285) -/

/-- T1S_FRAME_TX. -/
def t1sTxOp (q : Nat) (r : T1sResult) (s : State) : State :=
  if s.tnd.failed || !s.linkUp (2 + q) || s.queue (2 + q) = [] then s
  else
    let coll (n : Nat) (s : State) : State :=
      s.setReg (R.T1S_COLL q) (word (min 4294967295 ((s.reg (R.T1S_COLL q)).toNat + n)))
    let gone (s : State) : State :=
      match nextFrame (s.queue (2 + q)) with
      | some f => s.modNet fun n => { n with queues := ksetD n.queues (2 + q) ((s.queue (2 + q)).erase f) [] }
      | none => s
    match r with
    | .sent n => sendFrame (2 + q) 0 (coll n s)
    | .excessive => portFlag (2 + q) (F.T1S_STAT_COLLEV q) (gone ((coll 16 s).incSat (R.T1S_EXCOL q)))
    | .late n => portFlag (2 + q) (F.T1S_STAT_COLLEV q) (gone ((coll n s).incSat (R.T1S_LATECOL q)))

/-- SYNC_INTERVAL (R289, R293, R297): the instance sends a message of a kind from the ports whose state
calls for it; the instance that supplies the selected reference, or the first, also serves the T1S
ports. -/
def syncIntervalOp (i : Nat) (k : PtpKind) (s : State) : State :=
  let p := s.inst i
  if !p.en then s
  else
    let wants (st : PtpPort) : Bool :=
      match k with
      | .sync => st == .master
      | .announce => st == .master
      | .delayReq => st == .slave && !p.p2p
      | _ => false
    let ports := ((if wants p.portA then [0] else []) ++ (if wants p.portB then [1] else []))
    let ports := if s.chain && i == 0 && ports != [] then [0, 1] else ports
    let len := if k = .announce then 110 else 90
    let gm := if k = .announce then some (s.announced i) else none
    let s := s.each (ports.filter fun q => s.linkUp q) fun q s =>
      (enqueue 0 len [q] (fun id _ => { id := id, cls := 0, len := len, ptp := some (k, 0, 2), gm := gm }) s).1
    if i = s.t1sOwner ∧ (k = .sync ∨ k = .announce) then
      s.each ((List.range 2).filter fun q => s.on (F.T1S_CFG_EN q)) fun q s =>
        s.modNet fun n => { n with queues := kset n.queues (2 + q) (kgetD n.queues (2 + q) [] ++ [{ id := 0, cls := 0, len := len, ptp := some (k, 0, 2), gm := gm }]) }
    else s

/-! ### Silwen (R457, R458) -/

/-- NET_PORT_CFG. -/
def netPortCfgBody (c : Cmd) (s : State) : State × Rep :=
  let mac := (cw c 8).toNat + bits (cw c 9) 15 0 * 2 ^ 32
  let s := s.modNet fun n => { n with
    ip := if bits (cw c 1) 1 0 = 1 then [cw c 4, cw c 4] else [cw c 4, cw c 5]
    prefixLen := if bits (cw c 1) 1 0 = 1 then [min 32 (cw c 6).toNat, min 32 (cw c 6).toNat]
      else [min 32 (cw c 6).toNat, min 32 (cw c 7).toNat]
    mac := if mac = 0 then none else some (BitVec.ofNat 48 mac) }
  let s := (s.writeReg (R.NET_PCFG 0) (cw c 2)).writeReg (R.NET_PCFG 1) (cw c 3)
  let s := ((s.writeReg R.NET_PAUSE (cw c 10)).writeReg R.NET_CLASS (cw c 11)).hold R.NET_POOL (poolFit (cw c 12))
  (netCtlWrite (cw c 1) s, .rc rcDone)

/-- The parameters of a stream command, applied (R273, R287, R458). -/
def streamOf (c : Cmd) (rx : Bool) (h : Nat) : StreamCfg :=
  let w := cw c 2
  let ports := min 4 (bits w 2 0)
  let t := decide (3 ≤ ports)
  { ports := ports, l16 := bit w 4 || t, ptime := if t then 3 else bits w 6 5, ch := clampNat 1 64 (bits w 14 8)
    pt := clampNat 96 127 (bits w 22 16), dst := cw c 3, dport := bits (cw c 4) 15 0
    dstb := if cw c 5 = 0 then cw c 3 else cw c 5, dportb := bits (cw c 4) 31 16
    base := bits (cw c 7) 9 0, off := cw c 8
    src := if rx then cw c 6 else 0, group := if rx then bits (cw c 7) 23 16 else 0
    lofs := if rx then clampNat 250 20000 (cw c 9).toNat else 0
    losst := if rx then clampNat 25 10000 (bits (cw c 10) 15 0) else 0
    regain := if rx then min 10000 (bits (cw c 10) 31 16) else 0
    dscp := if rx then 0 else bits (cw c 6) 5 0, ttl := if rx then 0 else clampNat 1 255 (bits (cw c 6) 15 8)
    ssrc := if rx then 0 else if cw c 9 = 0 then word h else cw c 9 }

/-- Whether a stream is refused beside those that exist (R272, R280, R287): its channels overlap another's, its group
has another LOFS, its T1S port carries two streams or more than eight channels, or it cannot run. -/
def State.streamRefused (s : State) (rx : Bool) (k : StreamCfg) : Bool :=
  let others := s.net.streams.filter fun x => decide (x.1 < 256) == rx
  let overlap := rx && others.any fun x => decide (x.2.base < k.base + k.ch ∧ k.base < x.2.base + x.2.ch)
  let group := rx && k.group != 0 && others.any fun x => x.2.group == k.group && x.2.lofs != k.lofs
  let peers := s.net.streams.filter fun x => k.t1s && x.2.ports == k.ports
  let t1s := k.t1s && (decide (2 ≤ peers.length) || decide (8 < (peers.map fun x => x.2.ch).sum + k.ch))
  s.streamBad k || overlap || group || t1s

/-- The state with a stream's parameters held under a handle; `loss` is GROUPLOSS of its group. -/
def streamHeld (rx : Bool) (h : Nat) (k : StreamCfg) (loss : Bool) (s : State) : State :=
  let t := s.modNet fun n => { n with
    streams := kset n.streams h k
    groupLoss := if rx ∧ k.group ≠ 0 then kset n.groupLoss k.group loss else n.groupLoss }
  if rx then t.put (F.NET_RXSTAT_GROUP h) k.group else t

/-- The entry that sets RUN of a stream. -/
def runEntry (h : Nat) : Entry := { tgt := 0x40, obj := h, fld := 0, ramp := .none, val := 1 }

/-- The handle STREAM_RX_ADD and STREAM_TX_ADD take: the one given, or the lowest free of the direction. -/
def State.streamHandle (s : State) (c : Cmd) (rx : Bool) : Option Nat :=
  let lo := if rx then 0 else 256
  if bits (cw c 1) 8 0 = 0x1FF then ((List.range 256).find? fun i => (s.stream (lo + i)).isNone).map (lo + ·)
  else some (bits (cw c 1) 8 0)

/-- STREAM_RX_ADD and STREAM_TX_ADD (R272, R280, R287, R458): the handle is taken and RUN = 1 submitted (DEDUCED, assumption 27). -/
def streamAddBody (rx : Bool) (code : Nat) (c : Cmd) (s : State) : State × Rep :=
  match s.streamHandle c rx with
  | none => (s, .rc rcNoSpace)
  | some h =>
    if decide (h < 256) != rx then (s, .rc rcMalformed)
    else if (s.stream h).isSome then (s, .rc rcRefused)
    else if s.streamRefused rx (streamOf c rx h) then (s, .rc rcRefused)
    else
      let r := submitCmd c code [runEntry h] 0 h [word h] (streamHeld rx h (streamOf c rx h) (bit (cw c 7) 24) s)
      match r.2 with
      | .reply 0x0001 _ _ => r
      | x => (s, x)

/-- STREAM_REMOVE. -/
def removeEntry (c : Cmd) : Entry :=
  { tgt := 0x40, obj := bits (cw c 1) 8 0, fld := 0, ramp := .none, val := 0, remove := true }
def streamRemoveBody (c : Cmd) (s : State) : State × Rep :=
  if (s.stream (bits (cw c 1) 8 0)).isNone then (s, .rc rcRefused)
  else submitCmd c 0x0403 [removeEntry c] 0 (s := s)

/-- T1S_CFG. -/
def t1sEnable (q : Nat) (en : Bool) (s : State) : State :=
  let s := s.put (F.T1S_CFG_EN q) (flag en)
  if en then s else linkDownOp (2 + q) s
def t1sCfgBody (c : Cmd) (s : State) : State × Rep :=
  (t1sEnable (bits (cw c 1) 0 0) (bit (cw c 1) 1) s, .rc rcDone)

/-! ### The commands -/

/-- NET_ENABLE (R259): a write of NET_CTL. -/
def execNetEnable (v : Word) (s : State) : Host.Outcome State Fault Refusal := .next (netCtlWrite v s)
/-- NET_FRAME_RX (R258–R287). -/
def execNetFrameRx (port : Fin 4) (f : Frame) (s : State) : Host.Outcome State Fault Refusal :=
  .next (netFrameRxOp port f s)
/-- NET_FRAME_TX (R263, R295). -/
def execNetFrameTx (port : Fin 4) (residence : Nat) (s : State) : Host.Outcome State Fault Refusal :=
  .next (netFrameTxOp port residence s)
/-- PAUSE_EXPIRY (R268). -/
def execPauseExpiry (x : Fin 2) (s : State) : Host.Outcome State Fault Refusal := .next (pauseExpiryOp x s)
/-- PAUSE_WATCHDOG (R269). -/
def execPauseWatchdog (x : Fin 2) (s : State) : Host.Outcome State Fault Refusal := .next (pauseWatchdogOp x s)
/-- PAUSE_HOLDOFF_END (R269). -/
def execPauseHoldoffEnd (x : Fin 2) (s : State) : Host.Outcome State Fault Refusal := .next (pauseHoldoffOp x s)
/-- LOOP_PROBE (R260). -/
def execLoopProbe (s : State) : Host.Outcome State Fault Refusal := .next (loopProbeOp s)
/-- ADDRESS_AGE_OUT (R261). -/
def execAddressAgeOut (mac : BitVec 48) (s : State) : Host.Outcome State Fault Refusal := .next (ageOutOp mac.toNat s)
/-- NET_LINK_UP (R257, R258, R288). -/
def execNetLinkUp (port : Fin 4) (speed : BitVec 4) (s : State) : Host.Outcome State Fault Refusal :=
  .next (linkUpOp port speed.toNat s)
/-- STREAM_LEG_DOWN (R281). -/
def execStreamLegDown (h : BitVec 8) (legB : Bool) (s : State) : Host.Outcome State Fault Refusal :=
  .next (legDownOp h.toNat legB s)
/-- T1S_FRAME_TX (R285). -/
def execT1sFrameTx (q : Fin 2) (r : T1sResult) (s : State) : Host.Outcome State Fault Refusal := .next (t1sTxOp q r s)
/-- SYNC_INTERVAL (R289). -/
def execSyncInterval (inst : Fin 3) (kind : PtpKind) (s : State) : Host.Outcome State Fault Refusal :=
  .next (syncIntervalOp inst kind s)
/-- NET_PORT_CFG (R457). -/
def execNetPortCfg (c : Cmd) (s : State) : Host.Outcome State Fault Refusal :=
  .next (silwen 0x0400 12 false netPortCfgBody c s)
/-- STREAM_RX_ADD (R272, R458). -/
def execStreamRxAdd (c : Cmd) (s : State) : Host.Outcome State Fault Refusal :=
  .next (silwen 0x0401 10 false (streamAddBody true 0x0401) c s)
/-- STREAM_TX_ADD (R272, R458). -/
def execStreamTxAdd (c : Cmd) (s : State) : Host.Outcome State Fault Refusal :=
  .next (silwen 0x0402 9 false (streamAddBody false 0x0402) c s)
/-- STREAM_REMOVE (R457). -/
def execStreamRemove (c : Cmd) (s : State) : Host.Outcome State Fault Refusal :=
  .next (silwen 0x0403 1 false streamRemoveBody c s)
/-- T1S_CFG (R457). -/
def execT1sCfg (c : Cmd) (s : State) : Host.Outcome State Fault Refusal := .next (silwen 0x0405 1 false t1sCfgBody c s)

end Sys2Proof.Machine
end

