-- ==== Sys2Proof/Machine/Amp.lean ====
section
/-! DEFINITION. Amplifier channels (R318–R335): start, stop, short circuit, probes and return; the
power and rail limiters; loop pairs; and the writes of their registers. -/

namespace Sys2Proof.Machine

/-- A channel's typed part. -/
def State.amp (s : State) (ch : Nat) : AmpSt := kgetD s.supv.amps ch {}
/-- The state with the supervision rewritten. -/
def State.modSupv (s : State) (f : SupvSt → SupvSt) : State := { s with supv := f s.supv }
/-- The state with a channel's typed part rewritten. -/
def State.modAmp (s : State) (ch : Nat) (f : AmpSt → AmpSt) : State :=
  s.modSupv fun v => { v with amps := ksetD v.amps ch (f (s.amp ch)) {} }

/-- A channel's state: 0 OFF, 1 START, 2 RUN, 3 SHORT, 4 RETURN, 5 HOLD, 6 FAULT (R326). -/
def State.ampState (s : State) (ch : Nat) : Nat := s.get (F.AMP_STAT_STATE ch)
/-- Whether a channel belongs to a loop pair in force, and the even channel of its pair (R341). -/
def State.paired (s : State) (ch : Nat) : Bool := s.on (F.AMP_PAIR_PAIRED (ch / 2 * 2))
/-- The other channel of a pair. -/
def partner (ch : Nat) : Nat := if ch % 2 = 0 then ch + 1 else ch - 1
/-- The channel that holds a line's baselines: the even one of a pair. -/
def State.lineOf (s : State) (ch : Nat) : Nat := if s.paired ch then ch / 2 * 2 else ch

/-! ### Reporting (R348) -/

/-- A LINE_STATE notification of a channel (R348, R468). -/
def lineNotify (ch : Nat) (sweep periodic : Bool) (s : State) : State :=
  let e := s.lineOf ch
  let w2 := ch + s.get (F.AMP_LINE_LSTATE ch) * 2 ^ 8 + s.get (F.AMP_LINE_EARTH ch) * 2 ^ 11
    + s.get (F.AMP_LINE_CUT ch) * 2 ^ 12 + flag sweep * 2 ^ 13 + flag periodic * 2 ^ 14
  let w3 := s.get (F.AMP_LINE_ZRATIO ch) + s.get (F.AMP_PAIR_POS e) * 2 ^ 16 + s.get (F.AMP_PAIR_POSKIND e) * 2 ^ 26
  s.notify 0x8004 [word w2, word w3] periodic

/-- The reports of one channel after a change from `old` (R348): event 96 + ch, and LINE_STATE on a
change of LSTATE, EARTH or CUT; a pair's common line is reported by its even channel. -/
def ampReport (old : State) (ch : Nat) (s : State) : State :=
  let diff (f : FieldRef) : Bool := old.get f != s.get f
  let rose (f : FieldRef) : Bool := !old.on f && s.on f
  let common := diff (F.AMP_LINE_LSTATE ch) || diff (F.AMP_LINE_CUT ch)
  let line := diff (F.AMP_LINE_EARTH ch) || (common && !(s.paired ch && ch % 2 == 1))
  let ev := diff (F.AMP_STAT_STATE ch) || common || diff (F.AMP_LINE_EARTH ch) || rose (F.AMP_STAT_CLIP ch)
    || rose (F.AMP_STAT_LOOPERR ch) || rose (F.AMP_STAT_SHORTEV ch) || rose (F.AMP_STAT_FBOPEN ch)
  (s.when ev fun s => s.raise (96 + ch)).when line fun s => lineNotify ch false false s

/-- A change of channels with its reports. -/
def ampWatch (chs : List Nat) (f : State → State) (s : State) : State := (f s).each chs (ampReport s)

/-- Both channels of a pair, or the channel alone. -/
def State.pairOf (s : State) (ch : Nat) : List Nat := if s.paired ch then [ch / 2 * 2, ch / 2 * 2 + 1] else [ch]

/-! ### States -/

/-- The line states that follow from the channel states alone (R338, R344, R347): STBY on a standby,
SHORT while an end is in SHORT, UNMEAS while one is not in RUN. -/
def lineFromState (ch : Nat) (s : State) : State :=
  let chs := s.pairOf ch
  let set (v : Nat) (s : State) : State :=
    (s.each chs fun c s => s.put (F.AMP_LINE_LSTATE c) v).modAmp (s.lineOf ch) fun a => { a with normals := 0 }
  if s.standby then set 5 s
  else if chs.any fun c => s.ampState c == 3 then set 4 s
  else if chs.any fun c => s.ampState c != 2 then set 0 s
  else s

/-- A channel moved to a state. Any change disturbs the interval; leaving RUN ends an outstanding
baseline (R337, R465); leaving SHORT is remembered (R334); RUN returns the unit to service (R418). -/
def setAmpState (ch st : Nat) (s : State) : State :=
  let was := s.ampState ch
  if was = st then s
  else
    let now := s.time.dur
    let s := (s.put (F.AMP_STAT_STATE ch) st).modAmp ch fun a => { a with dirty := true }
    let s := s.when (was == 2) fun s =>
      let mine := s.supv.jobs.filter fun j => j.1.contains ch
      let s := s.each mine fun j s => s.complete (some j.2) rcRefused
      (s.modSupv fun v => { v with jobs := v.jobs.filter fun j => !j.1.contains ch }).modAmp (s.lineOf ch) fun a =>
        { a with base := none }
    let s := s.when (was == 3) fun s => s.modAmp ch fun a => { a with shortEnd := some now, probing := false }
    let s := s.when (st == 2) fun s => s.unitDone 5 ch
    lineFromState ch s

/-- The highest RATED of an FSV: VFS / √2 (R320), rounded down to the register's unit. -/
def ratedMax (fsv : Nat) : Nat := ((List.range 12).foldl (fun acc i =>
  let t := acc + 2 ^ (11 - i)
  if 2 * t * t ≤ fsv * fsv then t else acc) 0)

/-- The custom window as applied (R322), FMIN and FMAX in kHz. -/
def windowOf (fmin fmax : Nat) : Nat × Nat :=
  let lo := max 250 fmin
  let hi := min 2500 fmax
  let hi := if 4 * hi < 5 * lo then min 2500 ((5 * lo + 3) / 4) else hi
  (if 4 * hi < 5 * lo then 4 * hi / 5 else lo, hi)

/-- ILIM as applied for an Rsense-L in mΩ: ILIM × RSIL within 10–200 mV (R333). -/
def ilimFor (rsil ilim : Nat) : Nat :=
  if ilim * rsil < 100 then (100 + rsil - 1) / rsil else if 2000 < ilim * rsil then 2000 / rsil else ilim

/-- PF within the band of a rate class (R336). -/
def pfClamp (cls pf : Nat) : Nat := if cls = 0 then clampNat 1900 2200 pf else clampNat 2000 3000 pf

/-- PF of a channel as held for its next start, clamped. -/
def State.pfHeld (s : State) (ch : Nat) : Nat :=
  pfClamp s.rateClass (bits (s.heldReg (R.AMP_PILOT ch)) 15 0)

/-- Whether a PF for a channel breaks the spacing of R336 within its rail group. -/
def State.pfBreaks (s : State) (ch pf : Nat) (pfs : Nat → Nat) : Bool :=
  (List.range 8).any fun i =>
    let c := ch / 8 * 8 + i
    c != ch && !(s.paired ch && c == partner ch) && decide (max pf (pfs c) - min pf (pfs c) < 25)

/-- A channel's baselines invalidated (R337). -/
def baselineOff (ch : Nat) (s : State) : State := s.put (F.AMP_LINE_VALID (s.lineOf ch)) 0

/-- The held class I fields of a channel applied with their limits (R320, R322, R333, R336); a change
of PF, RSO or FSV invalidates the baseline (R337). -/
def ampApply (ch : Nat) (s : State) : State :=
  let old := s
  let s := ((s.applyHeld (R.AMP_LOOP ch)).applyHeld (R.AMP_WIN ch)).applyHeld (R.AMP_SCALE ch)
  let s := ((s.applyHeld (R.AMP_SENSE ch)).applyHeld (R.AMP_PILOT ch)).applyHeld (R.AMP_PAIR ch)
  let s := s.put (F.AMP_SCALE_RATED ch) (min (s.get (F.AMP_SCALE_RATED ch)) (ratedMax (s.get (F.AMP_SCALE_FSV ch))))
  let w := windowOf (s.get (F.AMP_WIN_FMIN ch)) (s.get (F.AMP_WIN_FMAX ch))
  let s := (s.put (F.AMP_WIN_FMIN ch) w.1).put (F.AMP_WIN_FMAX ch) w.2
  let s := s.put (F.AMP_PILOT_PF ch) (pfClamp s.rateClass (s.get (F.AMP_PILOT_PF ch)))
  let s := s.put (F.AMP_ILIM_ILIM ch) (ilimFor (s.get (F.AMP_SENSE_RSIL ch)) (s.get (F.AMP_ILIM_ILIM ch)))
  let moved := old.get (F.AMP_PILOT_PF ch) != s.get (F.AMP_PILOT_PF ch)
    || old.get (F.AMP_SENSE_RSO ch) != s.get (F.AMP_SENSE_RSO ch)
    || old.get (F.AMP_SCALE_FSV ch) != s.get (F.AMP_SCALE_FSV ch)
    || old.get (F.AMP_PAIR_PAIRED ch) != s.get (F.AMP_PAIR_PAIRED ch)
  s.when moved (baselineOff ch)

/-- The start sequence entered (R327): a fresh start clears FBOPEN and LOOPERR (R329). -/
def ampBegin (ch : Nat) (s : State) : State :=
  let fault := s.ampState ch == 6
  let s := s.when fault fun s => (s.put (F.AMP_STAT_FBOPEN ch) 0).put (F.AMP_STAT_LOOPERR ch) 0
  let s := ampApply ch ((s.put (F.AMP_STAT_FBREV ch) 0).modAmp ch fun a =>
    { a with startDue := none, phase := 0, rampFrom := none, limRun := 0, startAt := s.time.dur, notch := [] })
  setAmpState ch 1 s

/-- The latency from a sample number to its emission: two rounds (R49). -/
def State.emissionOf (s : State) (n : Nat) : Nat := n + 2 * s.roundLen

/-- AMP_START: the first sample with RUN = 1 is emitted. -/
def ampStartOp (ch : Nat) (s : State) : State :=
  match (s.amp ch).startDue with
  | some n => if s.emissionOf n ≤ s.now then ampWatch (s.pairOf ch) (ampBegin ch) s else s
  | none => s

/-- Whether a channel is in a phase of its start sequence and `us` µs have passed since t0 (R327). -/
def State.startReached (s : State) (ch phase us : Nat) : Bool :=
  s.ampState ch == 1 && (s.amp ch).phase == phase && decide ((s.amp ch).startAt + us * 1000 * 2 ^ 32 ≤ s.time.dur)

/-- The polarity check at t0 + 8 µs: reversed feedback is compensated, flagged and noted once. -/
def ampPolarityOp (ch : Nat) (reversed : Bool) (s : State) : State :=
  if s.startReached ch 0 8 then
    let s := s.modAmp ch fun a => { a with phase := 1 }
    s.when reversed fun s => (s.put (F.AMP_STAT_FBREV ch) 1).notice 0x84 ch 0
  else s

/-- Self-oscillation enabled at t0 + 10 µs. -/
def ampOscOp (ch : Nat) (s : State) : State :=
  if s.startReached ch 1 10 then s.modAmp ch fun a => { a with phase := 2 } else s

/-- FBOPEN set and FAULT entered (R327, R328). -/
def ampFbopen (ch : Nat) (s : State) : State :=
  ampWatch (s.pairOf ch) (fun s => setAmpState ch 6 (s.put (F.AMP_STAT_FBOPEN ch) 1)) s

/-- The check at t0 + 20 µs: RUN, or FAULT when the comparator has not toggled. -/
def ampCheckOp (ch : Nat) (toggled : Bool) (s : State) : State :=
  if s.startReached ch 2 20 then
    if toggled then
      ampWatch (s.pairOf ch) (fun s => setAmpState ch 2 (s.modAmp ch fun a => { a with rampFrom := some s.now })) s
    else ampFbopen ch s
  else s

/-- The stop ramp over: the gate commands go low and the channel enters OFF (R329). -/
def ampStopEndOp (ch : Nat) (s : State) : State :=
  match (s.amp ch).stopDue with
  | some n =>
    if s.emissionOf n + s.samplesOf 1000 ≤ s.now then
      ampWatch (s.pairOf ch) (fun s => setAmpState ch 0 (s.modAmp ch fun a => { a with stopDue := none, rampFrom := none })) s
    else s
  | none => s

/-- A comparator that does not toggle for 10 µs in RUN or RETURN (R328). -/
def ampFbopenOp (ch : Nat) (s : State) : State :=
  if s.ampState ch = 2 ∨ s.ampState ch = 4 then ampFbopen ch s else s

/-- The loop monitor's fault in RUN or RETURN (R324). -/
def ampLooperrOp (ch : Nat) (s : State) : State :=
  if s.ampState ch = 2 ∨ s.ampState ch = 4 then
    ampWatch (s.pairOf ch) (fun s => setAmpState ch 6 (s.put (F.AMP_STAT_LOOPERR ch) 1)) s
  else s

/-! ### RUN committed (R329, R341) -/

/-- A committed RUN on one channel at sample number `n`. -/
def runCommit1 (ch : Nat) (on : Bool) (n : Nat) (s : State) : State :=
  let s := s.put (F.AMP_CTL_RUN ch) (flag on)
  let st := s.ampState ch
  if on then
    if st = 0 ∨ st = 6 then s.modAmp ch fun a => { a with startDue := some n, stopDue := none } else s
  else if 3 ≤ st ∧ st ≠ 4 then
    setAmpState ch 0 (s.modAmp ch fun a => { a with startDue := none, stopDue := none })
  else if st = 0 ∧ (s.amp ch).startDue = none then s
  else s.modAmp ch fun a => { a with stopDue := some n }

/-- A committed entry of target 0x30 at sample number `n`. -/
def ampCommit (ch fld : Nat) (v : Word) (n : Nat) (s : State) : State :=
  match fld with
  | 0 => ampWatch (s.pairOf ch) (fun s => s.each (s.pairOf ch) fun c s => runCommit1 c (bit v 0) n s) s
  | 1 => s.put (F.AMP_CTL_PILOTON ch) (bits v 0 0)
  | 2 => s.put (F.AMP_PLIM_PLIM ch) (clampNat 1 2000 v.toNat)
  | 3 => s.put (F.AMP_ILIM_ILIM ch) (ilimFor (s.get (F.AMP_SENSE_RSIL ch)) (min 4095 v.toNat))
  | _ => s

/-! ### Short circuit (R333–R335, R344) -/

/-- A channel's sweep ended early: its remaining points read INVALID (R346). -/
def sweepLeave (ch : Nat) (s : State) : State :=
  match s.supv.sweep with
  | some w =>
    if w.chans.contains ch && !w.ended.contains ch then
      let s := s.each ((List.range 16).filter fun i => decide (w.point ≤ i)) fun i s =>
        s.put (F.SUPV_SWRES_INVALID ch i) 1
      s.modSupv fun v => { v with sweep := some { w with ended := w.ended ++ [ch] } }
    else s
  | none => s

/-- A point of a running sweep disturbed on a channel (R346). -/
def sweepDisturb (ch : Nat) (s : State) : State :=
  let mark (w : SweepRun) : SweepRun := if w.bad.contains ch then w else { w with bad := w.bad ++ [ch] }
  s.modSupv fun v => { v with sweep := v.sweep.map mark }

/-- SHORT entered. -/
def ampShort (ch : Nat) (s : State) : State :=
  let s := (s.put (F.AMP_STAT_SHORTEV ch) 1).incSat (R.AMP_SHORTS ch)
  let s := s.modAmp ch fun a => { a with shortAt := s.time.dur, probing := false, limRun := 0, rampFrom := none }
  sweepLeave ch (setAmpState ch 3 s)

/-- One limited cycle, following the last one directly or not: the eighth in a row enters SHORT; cycles
of shorter runs are counted (R333). -/
def ampLimitOp (ch : Nat) (consecutive : Bool) (s : State) : State :=
  let st := s.ampState ch
  if st = 2 ∨ st = 4 ∨ (st = 1 ∧ (s.amp ch).phase = 2) then
    let s := if consecutive && (s.amp ch).limRun != 0 then s
      else s.modAmp ch fun a => { a with limRun := 0, limBase := s.reg (R.AMP_LIMCNT ch) }
    let s := sweepDisturb ch (s.modAmp ch fun a => { a with limRun := a.limRun + 1, dirty := true })
    if 8 ≤ (s.amp ch).limRun then
      ampWatch (s.pairOf ch) (ampShort ch) (s.setReg (R.AMP_LIMCNT ch) (s.amp ch).limBase)
    else s.incSat (R.AMP_LIMCNT ch)
  else s

/-- Milliseconds in units of 2⁻³² ns. -/
def ms32 (n : Nat) : Nat := n * 1000000 * 2 ^ 32

/-- The time from which a channel in SHORT may probe (R334, R344): 100 ms after entry or after the
previous probe, 10 s after ten failures; end B 5 ms after end A while both ends are in SHORT. -/
def State.probeDue (s : State) (ch : Nat) : Nat :=
  let a := s.amp ch
  let slow := decide (10 ≤ s.get (F.AMP_PROBEF_CUR ch))
  let own := match a.lastProbe with
    | some t => if slow then t + ms32 10000 else if a.shortAt ≤ t then t + ms32 100 else a.shortAt + ms32 100
    | none => a.shortAt + ms32 100
  if s.paired ch && ch % 2 == 1 && s.ampState (ch - 1) == 3 then
    match (s.amp (ch - 1)).lastProbe with
    | some t => if (a.lastProbe.getD 0) < t ∧ a.shortAt ≤ t then t + ms32 5 else max own (t + ms32 5)
    | none => own
  else own

/-- AMP_PROBE: the probe of a channel in SHORT begins. -/
def ampProbeOp (ch : Nat) (s : State) : State :=
  let other := s.paired ch && (s.amp (partner ch)).probing
  if s.ampState ch = 3 ∧ (s.amp ch).probing = false ∧ other = false ∧ s.probeDue ch ≤ s.time.dur then
    s.modAmp ch fun a => { a with probing := true, lastProbe := some s.time.dur }
  else s

/-- Whether a probe's impedance lies below half its reference (R334, R344). -/
def State.probeLow (s : State) (ch z : Nat) : Bool :=
  let e := s.lineOf ch
  let zb := s.get (F.AMP_ZBASE_ZBASE e)
  let pos := s.get (F.AMP_PAIR_POS e)
  if !s.on (F.AMP_LINE_VALID e) then decide (z < s.get (F.AMP_ZLIM_ZMIN ch))
  else if s.paired ch && s.on (F.AMP_PAIR_CUT e) then
    let share := if ch % 2 = 0 then pos else 1000 - pos
    decide (2 * z * share < zb * 1000)
  else decide (2 * z < zb)

/-- The position of a short on an uncut loop both of whose ends failed (R344). -/
def shortPos (ch z : Nat) (s : State) : State :=
  if s.paired ch && !s.on (F.AMP_PAIR_CUT (s.lineOf ch)) && s.ampState (partner ch) == 3 then
    match (s.amp (partner ch)).probeZ with
    | some y =>
      let a := if ch % 2 = 0 then z else y
      if z + y = 0 then s
      else (((s.put (F.AMP_PAIR_POS (s.lineOf ch)) (min 1000 (s.quot (1000 * a) (z + y)))).put
        (F.AMP_PAIR_POSKIND (s.lineOf ch)) 1)).fresh
    | none => s
  else s

/-- Whether a channel in SHORT has probed its line for 2 ms (R334). -/
def State.probed (s : State) (ch : Nat) : Bool :=
  s.ampState ch == 3 && (s.amp ch).probing && (s.amp ch).lastProbe.all fun t => decide (t + ms32 2 ≤ s.time.dur)

/-- AMP_PROBE_END: the first probe that passes enters RETURN; a failure is counted (R334, R335). -/
def ampProbeEndOp (ch : Nat) (limited : Bool) (z : Nat) (s : State) : State :=
  if s.probed ch then
    if limited || s.probeLow ch z then
      let s := s.modAmp ch fun a => { a with probing := false, probeZ := some z }
      shortPos ch z ((s.incField (F.AMP_PROBEF_TOTAL ch)).incField (F.AMP_PROBEF_CUR ch))
    else
      ampWatch (s.pairOf ch) (fun s => setAmpState ch 4 (s.modAmp ch fun a =>
        { a with probing := false, probeZ := none, rampFrom := some s.now })) s
  else s

/-- The 500 ms return ramp over: RUN (R335). -/
def ampReturnEndOp (ch : Nat) (s : State) : State :=
  match s.ampState ch, (s.amp ch).rampFrom with
  | 4, some n => if n + s.samplesOf 50000 ≤ s.now then ampWatch (s.pairOf ch) (setAmpState ch 2) s else s
  | _, _ => s

/-- The failure count cleared after 10 s without a SHORT (R334). -/
def probeClearOp (ch : Nat) (s : State) : State :=
  match (s.amp ch).shortEnd with
  | some t => if s.ampState ch ≠ 3 ∧ t + ms32 10000 ≤ s.time.dur then s.put (F.AMP_PROBEF_CUR ch) 0 else s
  | none => s

/-! ### The command (R319, R320, R326, R345) -/

/-- Whether a channel's stage switches: from self-oscillation on in START, in RUN and RETURN, and while it probes in
SHORT; in every other state both gate commands are low (R326, R327). -/
def State.ampSwitches (s : State) (ch : Nat) : Bool :=
  match s.ampState ch with
  | 1 => (s.amp ch).phase == 2
  | 2 => true
  | 3 => (s.amp ch).probing
  | 4 => true
  | _ => false

/-- The switching window of a channel in kHz (R322). -/
def State.ampWindow (s : State) (ch : Nat) : Nat × Nat :=
  match s.get (F.AMP_LOOP_WIN ch) with
  | 1 => (1750, 2250)
  | 2 => (s.get (F.AMP_WIN_FMIN ch), s.get (F.AMP_WIN_FMAX ch))
  | _ => (350, 500)

/-- The state gain in sample period `e` as a fraction: up over 10 ms from RUN and over 500 ms in RETURN, to zero over
10 ms from the emission of the first sample with RUN = 0, and zero in every other state (R319, R327, R329, R335). -/
def State.stateGain (s : State) (ch e : Nat) : Nat × Nat :=
  let a := s.amp ch
  let d := s.samplesOf (if s.ampState ch = 4 then 50000 else 1000)
  let up : Nat × Nat := match a.rampFrom with
    | some f => if e < f then (0, 1) else if e < f + d then (2 * (e - f) + 1, 2 * d) else (1, 1)
    | none => (1, 1)
  if s.ampState ch ≠ 2 ∧ s.ampState ch ≠ 4 then (0, 1)
  else match a.stopDue with
    | some n =>
      let q := s.emissionOf n
      let w := s.samplesOf 1000
      if e < q then up else if e < q + w then (up.1 * (2 * (w - (e - q)) - 1), up.2 * (2 * w)) else (0, 1)
    | none => up

/-- The frequency of a sweep point in Hz (R345). -/
def State.sweepHz (s : State) (i : Nat) : Int := if s.rateClass = 0 then (19000 + 200 * i : Nat) else logMid 20000 40000 i 15

/-- A sine of `hz` at a level in 0.01 dB of the rated level, in sample period `e`, in units of 2⁻²³ of VFS (R320, R334,
R336); its phase is open (DESIGN CHOICE, assumption 20). -/
def State.ampSine (s : State) (ch hz : Nat) (level : Int) (e : Nat) : Int :=
  let fsv := s.get (F.AMP_SCALE_FSV ch)
  let rated := rootFloor 2 (2 * s.get (F.AMP_SCALE_RATED ch) ^ 2 * 2 ^ 46) (fsv ^ 2)
  nearQuot (scaled rated (ampOf level) * Config.sine ((hz * e + Config.undefNat ch) % s.fs) s.fs) (2 ^ 23)

/-- The pilot of a channel, a sweep's point in its place, and on the odd channel of a pair the loop-through tone (R336, R343,
R345). -/
def State.ampTones (s : State) (ch e : Nat) : Int :=
  let pf := s.get (F.AMP_PILOT_PF ch) * 10
  let point := (s.supv.sweep.filter fun w => w.chans.contains (s.lineOf ch) && !w.ended.contains (s.lineOf ch)).map SweepRun.point
  let hz := match point with | some i => (s.sweepHz i).toNat | none => pf
  let pilot := if s.on (F.AMP_CTL_PILOTON ch) || point.isSome then s.ampSine ch hz (-3000) e else 0
  pilot + (if s.paired ch && ch % 2 == 1 && s.on (F.AMP_CTL_PILOTON ch) then s.ampSine ch (pf + 125) (-4000) e else 0)

/-- What a round of commands leaves: the notch's state, the commands, and how many were clipped. -/
structure AmpRound where
  notch : List Int
  cmd : List Int
  clips : Nat
deriving DecidableEq, Repr

/-- The command of sample period `e` in the order of R319: notch, trim, limiter, sag and state gains, the clip at
±0.95 × VRAIL / VFS, then pilot and tone; in SHORT the probe's sine (R334). -/
def State.ampStep (s : State) (ch : Nat) (r : AmpRound) (e : Nat) : AmpRound :=
  let a := s.amp ch
  let g := ch / 8
  if s.ampState ch ≠ 2 ∧ s.ampState ch ≠ 4 then
    { r with cmd := r.cmd ++ [if s.ampState ch = 3 ∧ a.probing = true then s.ampSine ch (s.get (F.AMP_PILOT_PF ch) * 10) (-4000) e else 0] }
  else
    let x := (s.emittedAt e (1536 + ch)).toInt
    let n : Stepped := if s.on (F.AMP_CTL_NOTCH ch) then Config.pilotNotch (s.get (F.AMP_PILOT_PF ch)) s.fs r.notch x else ⟨[], x⟩
    let trim := if s.paired ch ∧ ch % 2 = 1 then (BitVec.ofNat 8 (s.get (F.AMP_PAIRM_TRIM (ch - 1)))).toInt else 0
    let y := scaled (scaled (scaled n.out (ampOf trim)) (ampOf a.gain)) (ampOf (kgetD s.supv.railGain g 0))
    let k := s.stateGain ch e
    let v := nearQuot (y * k.1) k.2
    let lim := nearQuot ((95 * s.get (F.SUPV_RAILSTAT_VMEAS g) * 2 ^ 23 : Nat) : Int) (100 * s.get (F.AMP_SCALE_FSV ch))
    let clip := s.get (F.SUPV_RAILCFG_VNOM g) != 0
      && decide (95 * s.get (F.SUPV_RAILSTAT_VMEAS g) * 2 ^ 23 < v.natAbs * (100 * s.get (F.AMP_SCALE_FSV ch)))
    ⟨n.st, r.cmd ++ [(if clip then clampInt (-lim) lim v else v) + s.ampTones ch e], r.clips + flag clip⟩

/-- The interleaving of the channels of a rail group that share a window: each one's frequency in Hz and how far it runs
behind channel 8g in degrees, while all of them are in RUN with |m| < 0.3; else each runs freely (R320, R323). -/
def State.interleave (s : State) (ch : Nat) : Option (Nat × Nat) :=
  let w := s.ampWindow ch
  let peers := ((List.range 8).map (ch / 8 * 8 + ·)).filter fun c => s.ampWindow c == w
  let calm (c : Nat) : Bool := s.ampState c == 2 && (s.amp c).cmd.all fun v =>
    decide (10 * (v.natAbs * s.get (F.AMP_SCALE_FSV c)) < 3 * (s.get (F.SUPV_RAILSTAT_VMEAS (ch / 8)) * 2 ^ 23))
  if peers.all calm then some ((w.1 + w.2) * 500, 45 * (ch % 8)) else none

/-! ### Limiters at the round tick (R319, R330–R332) -/

/-- A round of a first-order response in dB (R330, R331) (DESIGN CHOICE, assumption 20). -/
def State.roundPole (s : State) (g dest : Int) (tau : Nat) : Int :=
  if g = dest then g else (List.range s.roundLen).foldl (fun g _ => onePole g dest tau s.fs) g

/-- The level in 0.01 dB of a ratio below one; that of one and above is 0. -/
def ratioLevel (num den : Nat) : Int := if den ≤ num then 0 else min 0 (Config.dbOf (nearQuot ((num * 2 ^ 23 : Nat) : Int) den))

/-- The power limiter of one channel after a round of `p` mW: P averaged with PTC, and the gain toward min(1, √(PLIM / P)),
10 ms falling and 1 s rising (R330). -/
def powerTick (ch p : Nat) (s : State) : State :=
  let a := s.amp ch
  let power := s.roundPole a.power p (s.get (F.AMP_PLIM_PTC ch) * 100000)
  let lim := s.get (F.AMP_PLIM_PLIM ch) * 1000
  let dest := if power ≤ lim then 0 else min 0 (Config.dbOf (rootFloor 2 (lim * 2 ^ 46) power.toNat))
  let g := s.roundPole a.gain dest (if dest < a.gain then 10000 else 1000000)
  let s := s.modAmp ch fun a => { a with power := power, gain := g }
  (s.put (F.AMP_GR_GRP ch) (min 65535 (-g).toNat)).put (F.AMP_STAT_PLIMACT ch) (flag (g != 0))

/-- The commands of the round that is emitted from here, and the samples it clips (R319). -/
def commandTick (ch : Nat) (s : State) : State :=
  let none' := s.ampState ch == 0 || s.ampState ch == 5 || s.ampState ch == 6
  let r := if none' then ⟨[], [], 0⟩ else
    (List.range s.roundLen).foldl (fun r i => s.ampStep ch r (s.eng.base + i)) ⟨(s.amp ch).notch, [], 0⟩
  let s := s.modAmp ch fun a => { a with notch := r.notch, cmd := r.cmd }
  s.when (r.clips != 0) fun s =>
    let c := min 4294967295 ((s.reg (R.AMP_CLIPCNT ch)).toNat + r.clips)
    sweepDisturb ch (((s.setReg (R.AMP_CLIPCNT ch) (word c)).put (F.AMP_STAT_CLIP ch) 1).modAmp ch fun a => { a with dirty := true })

/-- One channel at a round tick: its power limiter, its commands, and a sweep point its gains disturb (R319, R330, R346). -/
def ampLimitTick (ch p : Nat) (s : State) : State :=
  let s := commandTick ch (powerTick ch p s)
  s.when (s.get (F.AMP_GR_GRP ch) != 0 || s.get (F.SUPV_RAILSTAT_GR (ch / 8)) != 0) (sweepDisturb ch)

/-- The rail of a group in 0.1 V for `mv` at VRAIL_SNS, by RATIO (R331); no rounding is stated (DESIGN CHOICE, assumption 105). -/
def State.railOf (s : State) (g mv : Nat) : Nat := min 4095 (s.quot (mv * s.get (F.SUPV_RAILCFG_RATIO g)) 1000)

/-- One rail group with `mv` at VRAIL_SNS: VRAIL, the sag gain toward min(1, VRAIL / VNOM), 1 ms falling and 500 ms
rising, HOLD below 0.40 and a start above 0.45 × VNOM (R331, R332). -/
def railTick (g mv : Nat) (s : State) : State :=
  let v := s.railOf g mv
  let s := s.put (F.SUPV_RAILSTAT_VMEAS g) v
  let nom := s.get (F.SUPV_RAILCFG_VNOM g)
  let chs := (List.range 8).map (8 * g + ·)
  let old := kgetD s.supv.railGain g 0
  let dest := ratioLevel v nom
  let k := if nom = 0 then 0 else s.roundPole old dest (if dest < old then 1000 else 500000)
  let s := s.modSupv fun x => { x with railGain := ksetD x.railGain g k 0 }
  let gr := min 4095 (-k).toNat
  let s := s.each chs fun c s => s.put (F.AMP_GR_GRR c) gr
  let s := s.put (F.SUPV_RAILSTAT_GR g) gr
  if nom = 0 then s
  else if !s.on (F.SUPV_RAILSTAT_UV g) && decide (100 * v < 40 * nom) then
    let s := s.each (chs.filter fun c => s.ampState c == 2 || s.ampState c == 4) fun c s => setAmpState c 5 s
    (s.put (F.SUPV_RAILSTAT_UV g) 1).raise (128 + g)
  else if s.on (F.SUPV_RAILSTAT_UV g) && decide (45 * nom < 100 * v) then
    let s := s.each (chs.filter fun c => s.ampState c == 5) fun c s => ampBegin c s
    (s.put (F.SUPV_RAILSTAT_UV g) 0).raise (128 + g)
  else s

/-- Limiters and rails at a round tick. -/
def ampTick (m : RoundMeas) (s : State) : State :=
  (ampWatch (List.range 32) (fun s =>
    let s := s.each (m.vrail.take 4).zipIdx fun v s => railTick v.2 v.1 s
    s.each (m.power.take 32).zipIdx fun p s => ampLimitTick p.2 p.1 s) s).fresh

/-- PF of every channel clamped anew at an engine start; held fields stay held (R336). -/
def ampEngineStart (s : State) : State :=
  s.each (List.range 32) fun ch s =>
    let pf := pfClamp s.rateClass (s.get (F.AMP_PILOT_PF ch))
    if pf = s.get (F.AMP_PILOT_PF ch) then s else baselineOff ch (s.put (F.AMP_PILOT_PF ch) pf)

/-! ### Register writes (R8, R9) -/

/-- A write to a channel's registers (DESIGN CHOICE, assumption 83). -/
def ampRegWrite (ch off : Nat) (v : Word) (s : State) : State :=
  let a := R.AMP_CTL ch + off
  match off with
  | 0x014 => s.put (F.AMP_ILIM_ILIM ch) (ilimFor (s.get (F.AMP_SENSE_RSIL ch)) (bits v 11 0))
  | 0x030 =>
    let s := s.writeReg a v
    s.when (bits v 23 0 != 0) fun s => s.put (F.AMP_LINE_VALID ch) 1
  | 0x034 => (s.put (F.AMP_ZLIM_DEV ch) (clampNat 2 40 (bits v 23 16))).put (F.AMP_ZLIM_ZMIN ch) (max 1 (bits v 15 0))
  | 0x060 => if ch % 2 = 0 then s.writeReg a v else s
  | 0x064 => s
  | 0x068 => if ch % 2 = 0 then s.writeReg a v else s
  | _ => s.writeReg a v

/-- A sweep put on the schedule (R345): a start at or before now starts late, at the next Stile. -/
def sweepSchedule (start : Nat) (mask : Option Word) (tok : Option Tok) (s : State) : State :=
  let late := decide (start ≤ s.mti)
  let at' := if late then s.roundAt s.mti + s.roundLen else start
  s.modSupv fun v => { v with sched := v.sched ++ [(at', mask, tok, late)] }

/-- SUPV_SWCTL.GO: a sweep at the next round-start Stile with the mask then in the register. -/
def sweepGo (s : State) : State :=
  s.modSupv fun v => { v with sched := v.sched ++ [(s.roundAt s.mti + s.roundLen, none, none, false)] }

/-- A write to the SUPV block. -/
def supvRegWrite (off : Nat) (v : Word) (s : State) : State :=
  if off < 0x80 ∧ off % 0x20 = 0 then
    (s.put (F.SUPV_RAILCFG_RATIO (off / 0x20)) (max 1 (bits v 27 16))).put (F.SUPV_RAILCFG_VNOM (off / 0x20)) (bits v 11 0)
  else if off < 0x80 ∧ off % 0x20 = 0xC then s.put (F.SUPV_EFSCALE_KEF (off / 0x20)) (clampNat 1 1000 (bits v 9 0))
  else if off = 0x210 then
    let s := s.writeReg R.SUPV_SWCTL (v &&& ~~~1#32)
    s.when (bit v 0) sweepGo
  else s.writeReg (0x40580000 + off) v

/-! ### Silwen (R465) -/

/-- The entries an AMP_CFG submits as a Hamper: RUN and PILOTON where they change. -/
def ampEntries (ch : Nat) (c : Cmd) (s : State) : List Entry :=
  let e (f v : Nat) : Entry := { tgt := 0x30, obj := ch, fld := f, ramp := .none, val := word v }
  if bit (cw c 11) 0 then
    (if bits (cw c 2) 0 0 ≠ s.get (F.AMP_CTL_RUN ch) then [e 0 (bits (cw c 2) 0 0)] else [])
    ++ (if bits (cw c 2) 1 1 ≠ s.get (F.AMP_CTL_PILOTON ch) then [e 1 (bits (cw c 2) 1 1)] else [])
  else []

/-- The other fields of an AMP_CFG written; on the odd channel of a pair those copied from the even one
are ignored. -/
def ampFields (ch : Nat) (c : Cmd) (s : State) : State :=
  let odd := s.paired ch && ch % 2 == 1
  let words : List (Nat × Nat × Nat) :=
    [(0, 2, 0x000), (1, 3, 0x004), (2, 4, 0x008), (3, 5, 0x00C), (4, 6, 0x010), (5, 7, 0x014), (6, 8, 0x018),
     (7, 9, 0x01C), (8, 10, 0x034)]
  s.each words fun w s =>
    if !bit (cw c 11) w.1 || (odd && (w.1 == 1 || w.1 == 3 || w.1 == 7)) then s
    else ampRegWrite ch w.2.2 (cw c w.2.1) s

/-- AMP_CFG. -/
def ampCfgBody (c : Cmd) (s : State) : State × Rep :=
  let ch := bits (cw c 1) 4 0
  let odd := s.paired ch && ch % 2 == 1
  if bit (cw c 11) 7 && !odd && s.pfBreaks ch (pfClamp s.rateClass (bits (cw c 9) 15 0)) s.pfHeld then (s, .rc rcRefused)
  else match ampEntries ch c s with
    | [] => (ampFields ch c s, .rc rcDone)
    | es =>
      let r := submitCmd c 0x0A00 es 0 (s := s)
      match r.2 with
      | .reply rc _ _ => if rc = rcScheduled then (ampFields ch c r.1, r.2) else r
      | .bulk _ => r

/-- AMP_PAIR (R341). -/
def ampPairBody (c : Cmd) (s : State) : State × Rep :=
  let k := bits (cw c 1) 3 0
  let a := 2 * k
  if s.ampState a ≠ 0 ∨ s.ampState (a + 1) ≠ 0 then (s, .rc rcRefused)
  else if bit (cw c 1) 8 then
    let s := s.when (s.on (F.AMP_PAIR_PAIRED a)) fun s =>
      (s.put (F.AMP_LINE_VALID a) 0).put (F.AMP_LINE_VALID (a + 1)) 0
    (s.put (F.AMP_PAIR_PAIRED a) 0, .rc rcDone)
  else
    let copy (r : Nat → Nat) (s : State) : State :=
      { s.setReg (r (a + 1)) (s.reg (r a)) with held := kput (s.setReg (r (a + 1)) (s.reg (r a))).held (r (a + 1)) (kget s.held (r a)) }
    let s := copy R.AMP_PILOT (copy R.AMP_SCALE (copy R.AMP_LOOP s))
    let s := (s.put (F.AMP_LINE_VALID a) 0).put (F.AMP_LINE_VALID (a + 1)) 0
    (s.put (F.AMP_PAIR_PAIRED a) 1, .rc rcDone)

/-- The channels of a mask. -/
def maskChans (w : Word) : List Nat := (List.range 32).filter fun c => bit w c

/-- LINE_BASELINE (R337, R465). -/
def lineBaselineBody (c : Cmd) (s : State) : State × Rep :=
  let chs := maskChans (cw c 1)
  if chs.any fun ch => s.ampState ch != 2 then (s, .rc rcRefused)
  else
    let lines := (chs.map s.lineOf).eraseDups
    let s := s.each lines fun l s => s.modAmp l fun a => { a with base := some (0, 0, 0) }
    (s.modSupv fun v => { v with jobs := v.jobs ++ [(chs, s.tokOf c 0x0A02)] }, .rc rcScheduled)

/-- QUIET_SWEEP (R345). -/
def quietSweepBody (c : Cmd) (s : State) : State × Rep :=
  if s.supv.sweep.isSome then (s, .rc rcRefused)
  else (sweepSchedule (wide (cw c 1) (cw c 2)) (some (cw c 3)) (some (s.tokOf c 0x0A03)) s, .rc rcScheduled)

/-- RAIL_CFG. -/
def railCfgBody (c : Cmd) (s : State) : State × Rep :=
  let b := 0x20 * bits (cw c 1) 1 0
  (supvRegWrite 0x200 (cw c 5) (supvRegWrite (b + 0xC) (cw c 4) (supvRegWrite (b + 8) (cw c 3) (supvRegWrite b (cw c 2) s))),
   .rc rcDone)

/-! ### The commands -/

/-- AMP_CFG (R336, R453, R465). -/
def execAmpCfg (c : Cmd) (s : State) : Host.Outcome State Fault Refusal := .next (silwen 0x0A00 11 false ampCfgBody c s)
/-- AMP_PAIR (R341). -/
def execAmpPair (c : Cmd) (s : State) : Host.Outcome State Fault Refusal := .next (silwen 0x0A01 1 false ampPairBody c s)
/-- LINE_BASELINE (R337, R465). -/
def execLineBaseline (c : Cmd) (s : State) : Host.Outcome State Fault Refusal :=
  .next (silwen 0x0A02 1 false lineBaselineBody c s)
/-- QUIET_SWEEP (R345, R465). -/
def execQuietSweep (c : Cmd) (s : State) : Host.Outcome State Fault Refusal :=
  .next (silwen 0x0A03 3 false quietSweepBody c s)
/-- RAIL_CFG (R465). -/
def execRailCfg (c : Cmd) (s : State) : Host.Outcome State Fault Refusal := .next (silwen 0x0A04 5 false railCfgBody c s)
/-- AMP_START (R327). -/
def execAmpStart (ch : Fin 32) (s : State) : Host.Outcome State Fault Refusal := .next (ampStartOp ch s)
/-- AMP_POLARITY_CHECK (R327). -/
def execAmpPolarityCheck (ch : Fin 32) (reversed : Bool) (s : State) : Host.Outcome State Fault Refusal :=
  .next (ampPolarityOp ch reversed s)
/-- AMP_OSC_ENABLE (R327). -/
def execAmpOscEnable (ch : Fin 32) (s : State) : Host.Outcome State Fault Refusal := .next (ampOscOp ch s)
/-- AMP_STOP_RAMP_END (R329). -/
def execAmpStopRampEnd (ch : Fin 32) (s : State) : Host.Outcome State Fault Refusal := .next (ampStopEndOp ch s)
/-- AMP_PROBE (R334). -/
def execAmpProbe (ch : Fin 32) (s : State) : Host.Outcome State Fault Refusal := .next (ampProbeOp ch s)
/-- AMP_PROBE_END (R334, R335). -/
def execAmpProbeEnd (ch : Fin 32) (limited : Bool) (z : BitVec 24) (s : State) : Host.Outcome State Fault Refusal :=
  .next (ampProbeEndOp ch limited z.toNat s)
/-- AMP_RETURN_END (R335). -/
def execAmpReturnEnd (ch : Fin 32) (s : State) : Host.Outcome State Fault Refusal := .next (ampReturnEndOp ch s)
/-- PROBE_FAILURE_COUNT_CLEAR (R334). -/
def execProbeFailureCountClear (ch : Fin 32) (s : State) : Host.Outcome State Fault Refusal := .next (probeClearOp ch s)
/-- SUPV_SWEEP_GO (R345). -/
def execSupvSweepGo (s : State) : Host.Outcome State Fault Refusal := .next (sweepGo s)

end Sys2Proof.Machine
end

