-- ==== Sys2Proof/Machine/Supv.lean ====
section
/-! DEFINITION. Line supervision (R336–R347): the measurement interval with line state, leakage, cut
and trim; baselines; and the quiet sweep. -/

namespace Sys2Proof.Machine

/-! ### The measurement interval (R337–R344) -/

/-- A hysteresis of R339 and R340: set below 50 kΩ, cleared above 60 kΩ. -/
def leakFlag (was : Bool) (r : Nat) : Bool := if r < 50 then true else if 60 < r then false else was

/-- The line state a ratio |Z| : ZBASE stands for (R338). -/
def ratioState (z zb dev : Nat) : Nat :=
  if 2 * z < zb then 4
  else if 3 * zb < 2 * z then 3
  else if 100 * (max z zb - min z zb) ≤ dev * zb then 1 else 2

/-- Whether PF of a channel as in force breaks the spacing of R336. -/
def State.pfBroken (s : State) (ch : Nat) : Bool :=
  s.pfBreaks ch (s.get (F.AMP_PILOT_PF ch)) fun c => s.get (F.AMP_PILOT_PF c)

/-- Whether a channel's line is being swept (R345). -/
def State.sweeping (s : State) (ch : Nat) : Bool := s.supv.sweep.any fun w => w.chans.contains (s.lineOf ch)

/-- Whether a channel measures validly over the interval that ended (R337). -/
def State.measures (s : State) (m : LineMeas) : Bool :=
  s.ampState m.ch == 2 && s.on (F.AMP_CTL_PILOTON m.ch) && !(s.amp m.ch).dirty && !m.disturbed && !s.sweeping m.ch

/-- A magnitude whose rounding no rule states: one of the two neighbours of √(n / d) (DESIGN CHOICE, assumption 88). -/
def magnitude (n d : Nat) : Nat :=
  let lo := rootFloor 2 n d
  if lo * lo * d = n then lo else (between lo (lo + 1 : Nat)).toNat

/-- The line current of a measurement times a scale, in phase with the voltage and in quadrature: µV across Rsense-O
over mΩ, so in mA (R337). -/
def State.lineCurrent (s : State) (ms : List LineMeas) (m : LineMeas) : (Int × Int) × Nat :=
  let rso (c : Nat) : Int := s.get (F.AMP_SENSE_RSO c)
  let a := rso m.ch
  match if s.paired m.ch then ms.find? fun x => x.ch.val == partner m.ch else none with
  | some o => ((m.iRe * rso o.ch + o.iRe * a, m.iIm * rso o.ch + o.iIm * a), (a * rso o.ch).toNat)
  | none => ((m.iRe, m.iIm), a.toNat)

/-- |Z| = |V| / |I| at PF in 0.01 Ω, of a pair's both ends together; with no current it is beyond the register (R337, R344). -/
def State.lineZ (s : State) (ms : List LineMeas) (m : LineMeas) : Nat :=
  let i := s.lineCurrent ms m
  let den := 2 ^ 46 * (i.1.1.natAbs ^ 2 + i.1.2.natAbs ^ 2)
  if den = 0 then 0xFFFFFF
  else min 0xFFFFFF (magnitude ((10000 * (m.v * s.get (F.AMP_SCALE_FSV m.ch) * i.2)) ^ 2) den)

/-- The phase of Z in 0.1°: 0 for a current in phase with the voltage (R337). -/
def State.linePhase (s : State) (ms : List LineMeas) (m : LineMeas) : Int :=
  let i := s.lineCurrent ms m
  if 0 < i.1.1 ∧ i.1.2 = 0 then 0 else clampInt (-1800) 1800 (Config.phaseOf i.1.1 i.1.2)

/-- The earth leakage of a line in kΩ: RREF × (|V_line| / |V_earth| − 1), the earth node referred back through KEF; 0xFFFFF
above 1 GΩ (R339). -/
def State.leakOf (s : State) (m : LineMeas) : Nat :=
  let g := m.ch.val / 8
  let num := m.v * s.get (F.AMP_SCALE_FSV m.ch) * 100 * s.get (F.SUPV_EFSCALE_KEF g)
  let den := 2 ^ 23 * m.earth
  if den = 0 then 0xFFFFF
  else
    let r := s.quot (s.get (F.SUPV_EFCFG_RREF g) * (num - den)) den
    if 1000000 < r then 0xFFFFF else r

/-- The return leakage of a rail group in kΩ: RPAR = RBIAS × V / (VDDA_33 − V) without RREF in parallel; 0xFFFFF above
1 GΩ (R340). -/
def State.returnLeakOf (s : State) (m : GroupMeas) : Nat :=
  let rb := s.get (F.SUPV_EFCFG_RBIAS m.g)
  let rr := s.get (F.SUPV_EFCFG_RREF m.g)
  let den := rr * (m.vdda - m.v) - rb * m.v
  if den = 0 then 0xFFFFF
  else
    let r := s.quot (rb * m.v * rr) den
    if 1000000 < r then 0xFFFFF else r

/-- The loop resistance in 0.01 Ω: the tone's voltage at end B over its current at end A (R343). -/
def State.loopOhms (s : State) (a b : LineMeas) : Nat :=
  if a.toneI = 0 then 65535
  else min 65535 (s.quot (10000 * (b.toneV * s.get (F.AMP_SCALE_FSV b.ch) * s.get (F.AMP_SENSE_RSO a.ch))) (2 ^ 23 * a.toneI))

/-- The currents of the two ends of a pair at PF, on one scale (R342, R343). -/
def State.endCurrents (s : State) (a b : LineMeas) : Nat × Nat :=
  let mag (x : LineMeas) (r : Nat) : Nat := magnitude ((x.iRe.natAbs ^ 2 + x.iIm.natAbs ^ 2) * r ^ 2) 1
  (mag a (s.get (F.AMP_SENSE_RSO b.ch)), mag b (s.get (F.AMP_SENSE_RSO a.ch)))

/-- The share of a loop's load on the end-A side in per mille (R343). -/
def State.shareA (s : State) (i : Nat × Nat) : Nat :=
  if i.1 + i.2 = 0 then Config.undefNat s.free % 1001 else min 1000 (s.quot (1000 * i.1) (i.1 + i.2))

/-- One valid interval taken into a baseline (R337, R343): the eighth sets ZBASE with VALID, and RLBASE
of a pair. -/
def baseTake (l z r : Nat) (s : State) : State :=
  match (s.amp l).base with
  | some (n, sz, sr) =>
    if n + 1 < 8 then s.modAmp l fun a => { a with base := some (n + 1, sz + z, sr + r) }
    else
      let s' := (s.put (F.AMP_ZBASE_ZBASE l) (s.quot (sz + z) 8)).put (F.AMP_LINE_VALID l) 1
      let s' := s'.when (s.paired l) fun t => t.put (F.AMP_RLBASE_RLBASE l) (s.quot (sr + r) 8)
      s'.fresh.modAmp l fun a => { a with base := none, baseSweep := true }
  | none => s

/-- The line state after a valid interval (R338): a return to NORMAL needs two intervals in a row (DEDUCED, assumption 19). -/
def lineTake (l z : Nat) (s : State) : State :=
  let chs := s.pairOf l
  let zb := s.get (F.AMP_ZBASE_ZBASE l)
  let set (v : Nat) (s : State) : State := s.each chs fun c s => s.put (F.AMP_LINE_LSTATE c) v
  if chs.any s.pfBroken then set 0 s
  else if !s.on (F.AMP_LINE_VALID l) then set (if z < s.get (F.AMP_ZLIM_ZMIN l) then 4 else 0) s
  else
    let q := if zb = 0 then 65535 else min 65535 (s.quot (1000 * z) zb)
    let s := (s.each chs fun c s => s.put (F.AMP_LINE_ZRATIO c) q).fresh
    let st := ratioState z zb (s.get (F.AMP_ZLIM_DEV l))
    if st = 1 then
      let n := (s.amp l).normals + 1
      let s := s.modAmp l fun a => { a with normals := n }
      if 2 ≤ n ∨ s.get (F.AMP_LINE_LSTATE l) = 1 then set 1 s else s
    else set st (s.modAmp l fun a => { a with normals := 0 })

/-- The cut of a loop after a valid interval (R343) (DEDUCED, assumption 19). -/
def cutTake (l r shareA : Nat) (s : State) : State :=
  let rb := s.get (F.AMP_RLBASE_RLBASE l)
  let set (b : Nat) (s : State) : State :=
    ((s.put (F.AMP_PAIR_CUT l) b).put (F.AMP_LINE_CUT l) b).put (F.AMP_LINE_CUT (l + 1)) b
  let s := s.put (F.AMP_PAIRM_RLOOP l) r
  if rb = 0 then s
  else if 10 * rb < r then
    set 1 (((s.put (F.AMP_PAIR_POS l) (min 1000 shareA)).put (F.AMP_PAIR_POSKIND l) 0).modAmp l fun a => { a with loopOk := 0 })
  else if r ≤ 2 * rb then
    let n := (s.amp l).loopOk + 1
    (if 3 ≤ n then set 0 s else s).modAmp l fun a => { a with loopOk := n }
  else s.modAmp l fun a => { a with loopOk := 0 }

/-- The trim after an interval (R342): frozen unless both ends are in RUN; toward 0 while CUT is set; else toward equal
currents `i` of the two ends within ±0.50 dB, with a time constant of 1 s (DESIGN CHOICE, assumption 20). -/
def trimTake (l : Nat) (i : Option (Nat × Nat)) (s : State) : State :=
  let cur := (BitVec.ofNat 8 (s.get (F.AMP_PAIRM_TRIM l))).toInt
  let dest : Int := if s.on (F.AMP_PAIR_CUT l) then 0 else match i with
    | some (a, b) =>
      if a = b then cur
      else clampInt (-50) 50 (if b = 0 then 50 else cur + Config.dbOf (nearQuot ((a * 2 ^ 23 : Nat) : Int) b))
    | none => cur
  if s.ampState l ≠ 2 ∨ s.ampState (l + 1) ≠ 2 then s
  else s.put (F.AMP_PAIRM_TRIM l) (BitVec.ofInt 8 (onePole cur dest (1000000 / max 1 (s.get F.SUPV_MCFG_MINT)) 1)).toNat

/-- A pair after an interval in which both its ends measured validly (R343, R344). -/
def loopTake (ms : List LineMeas) (a b : LineMeas) (s : State) : State :=
  let l := a.ch.val
  let z := s.lineZ ms a
  let r := s.loopOhms a b
  cutTake l r (s.shareA (s.endCurrents a b)) (lineTake l z (baseTake l z r s))

/-- The measurements of one channel over an interval (DEDUCED, assumption 19). -/
def intervalChan (ms : List LineMeas) (m : LineMeas) (s : State) : State :=
  let ch := m.ch.val
  let g := ch / 8
  let s := (s.put (F.AMP_FSW_FLO ch) m.flo.toNat).put (F.AMP_FSW_FHI ch) m.fhi.toNat
  if s.standby then s.put (F.AMP_LINE_LSTATE ch) 5
  else
    let ok := s.measures m
    let z := s.lineZ ms m
    let s := if !s.on (F.SUPV_EFCFG_EN g) then s.put (F.AMP_LEAK_RLEAK ch) 0xFFFFF
      else if ok then s.put (F.AMP_LEAK_RLEAK ch) (s.leakOf m) else s
    let s := s.put (F.AMP_LINE_EARTH ch) (flag (leakFlag (s.on (F.AMP_LINE_EARTH ch)) (s.get (F.AMP_LEAK_RLEAK ch))))
    let s := s.when ok fun s => (s.put (F.AMP_ZMAG_VALUE ch) z).put (F.AMP_ZPH_VALUE ch) (BitVec.ofInt 16 (s.linePhase ms m)).toNat
    if !s.paired ch then
      if ok then lineTake ch z (baseTake ch z 0 s) else s
    else if ch % 2 = 1 then s
    else
      let both := if ok then (ms.find? fun x => x.ch.val == ch + 1).filter s.measures else none
      match both with
      | some b => trimTake ch (some (s.endCurrents m b)) (loopTake ms m b s)
      | none => trimTake ch none s

/-- The return leakage of one rail group over an interval (R340). -/
def intervalGroup (m : GroupMeas) (s : State) : State :=
  let g := m.g.val
  let r := if s.on (F.SUPV_EFCFG_EN g) then s.returnLeakOf m else 0xFFFFF
  let was := s.on (F.SUPV_EFSTAT_RETFLT g)
  let now := leakFlag was r
  let s := (s.put (F.SUPV_EFSTAT_RETLEAK g) r).put (F.SUPV_EFSTAT_RETFLT g) (flag now)
  s.when (was != now) fun s => s.raise (128 + g)

/-- Whether a channel holds what a LINE_BASELINE asked for (R465). -/
def State.baselined (s : State) (ch : Nat) : Bool :=
  let l := s.lineOf ch
  (s.amp l).base.isNone && s.on (F.AMP_LINE_VALID l) && (!s.paired ch || s.get (F.AMP_RLBASE_RLBASE l) != 0)

/-- Whether a measurement interval of MINT has passed since the last one ended (R337). -/
def State.intervalDue (s : State) : Bool :=
  s.supv.lastInterval.all fun t => decide (t + s.get F.SUPV_MCFG_MINT * sec32 ≤ s.time.dur)

/-- SUPV_INTERVAL (DESIGN CHOICE, assumption 84). -/
def supvIntervalOp (lines : List LineMeas) (groups : List GroupMeas) (s : State) : State :=
  let s := s.modSupv fun v => { v with lastInterval := some s.time.dur }
  let s := ampWatch (List.range 32) (fun s => s.each lines fun m s => intervalChan lines m s) s
  let s := s.each groups fun m s => intervalGroup m s
  let s := s.when (s.on F.SUPV_MCFG_METER) fun s => s.each lines fun m s => lineNotify m.ch false true s
  let done := s.supv.jobs.filter fun j => j.1.all s.baselined
  let s := s.each done fun j s => s.complete (some j.2) rcDone
  let s := s.modSupv fun v => { v with jobs := v.jobs.filter fun j => !done.contains j }
  s.each (List.range 32) fun ch s => s.modAmp ch fun a => { a with dirty := s.ampState ch != 2 && a != {} }

/-! ### The quiet sweep (R345, R346) -/

/-- The first sweep due begins, on the channels of its mask in RUN. -/
def sweepStartOp (s : State) : State :=
  match s.supv.sweep, s.supv.sched.find? fun x => decide (x.1 ≤ s.mti) with
  | none, some x =>
    let mask := x.2.1.getD (s.reg R.SUPV_SWMASK)
    let chs := (((maskChans mask).filter fun c => s.ampState c == 2).map s.lineOf).eraseDups
    let w : SweepRun := ⟨chs, 0, s.now, x.2.2.2, x.2.2.1, [], [], x.2.1.isSome && x.2.2.1.isNone⟩
    let s := ((s.setReg R.SUPV_SWMASK mask).setReg R.SUPV_SWMTI s.mtil).put F.SUPV_SWCTL_BUSY 1
    let told (r : NightRun) : NightRun := { r with swept := chs }
    let s := if w.own then { s with night := { s.night with run := s.night.run.map told } } else s
    (s.put F.SUPV_SWCTL_LATE (flag x.2.2.2)).modSupv fun v => { v with sweep := some w, sched := v.sched.erase x }
  | _, _ => s

/-- The result of one point on one channel. -/
def pointTake (w : SweepRun) (ch : Nat) (points : List PointMeas) (s : State) : State :=
  if w.ended.contains ch then s
  else match points.find? fun p => p.ch.val == ch with
  | none => s.put (F.SUPV_SWRES_INVALID ch w.point) 1
  | some p =>
    let z := p.zmag.toNat
    let inv := p.invalid || w.bad.contains ch || (s.paired ch && w.bad.contains (ch + 1))
    let ph := p.zph.toInt
    let s := s.when ((s.amp ch).baseSweep && !inv) fun s =>
      (s.put (F.SUPV_SWBASE_ZB ch w.point) z).modAmp ch fun a => { a with basePh := kset a.basePh w.point ph }
    let zb := s.get (F.SUPV_SWBASE_ZB ch w.point)
    let mag := if zb = 0 then Config.undefNat s.free else s.quot (1000 * (max z zb - min z zb)) zb
    let dev : Int := if z < zb then -((min 32768 mag : Nat) : Int) else (min 32767 mag : Nat)
    let turn : Int := match kget (s.amp ch).basePh w.point with | some b => ph - b | none => Config.undefNat s.free
    let s := (s.put (F.SUPV_SWRES_DEV ch w.point) (BitVec.ofInt 16 dev).toNat).put (F.SUPV_SWRES_PH ch w.point)
      (BitVec.ofInt 12 (clampInt (-2048) 2047 turn)).toNat
    (s.put (F.SUPV_SWRES_INVALID ch w.point) (flag inv)).fresh

/-- SWEEP_POINT_END: 100 ms after the point before. -/
def sweepPointOp (points : List PointMeas) (s : State) : State :=
  match s.supv.sweep with
  | some w =>
    if w.point < 16 ∧ w.start + (w.point + 1) * (s.fs / 10) ≤ s.now then
      let s := s.each w.chans fun ch s => pointTake w ch points s
      s.modSupv fun v => { v with sweep := some { w with point := w.point + 1, bad := [] } }
    else s
  | none => s

/-- A sweep ended after its sixteenth point (R346). -/
def sweepFinish (s : State) : State :=
  match s.supv.sweep with
  | some w =>
    if w.point < 16 then s
    else
      let s := (s.put F.SUPV_SWCTL_DONE 1).put F.SUPV_SWCTL_BUSY 0
      let s := s.modSupv fun v => { v with sweep := none }
      let s := s.each w.chans fun ch s => lineNotify ch true false (s.modAmp ch fun a => { a with baseSweep := false })
      s.complete w.tok rcDone (flag w.late)
  | none => s

/-! ### The commands -/

/-- QUIET_SWEEP_START (R345). -/
def execQuietSweepStart (s : State) : Host.Outcome State Fault Refusal := .next (sweepStartOp s)
/-- SWEEP_POINT_END (R345, R346). -/
def execSweepPointEnd (points : List PointMeas) (s : State) : Host.Outcome State Fault Refusal :=
  .next (sweepPointOp points s)

end Sys2Proof.Machine
end

