-- ==== Sys2Proof/Machine/Engine.lean ====
section
/-! DEFINITION. The engine as a whole (R48–R54, R498): rate changes, resets of the engine, the round
length, starts, the release of sinks after a start, and the latency of a path (R455). -/

namespace Sys2Proof.Machine

/-- The state with the engine rewritten. -/
def State.modEng (s : State) (f : EngSt → EngSt) : State := { s with eng := f s.eng }

/-- Whether a scheduled Hamper or a HANDOVER that has not been abandoned is pending (R52). -/
def State.scheduled (s : State) : Bool :=
  s.hamp.plans != [] || s.hamp.waiting != [] || s.tnd.handover.any fun h => !h.done

/-- The first Stile at or after a time in units of 2⁻³² ns. -/
def State.stileAfter (s : State) (t32 : Nat) : Nat := (t32 * s.fs + 1000000000 * 2 ^ 32 - 1) / (1000000000 * 2 ^ 32)

/-- The first round-start Stile at least four rounds and 0.5 ms after now (R52). -/
def State.restartStile (s : State) : Nat :=
  s.roundFrom (max (s.stileAfter s.time.t32 + 4 * s.roundLen) (s.stileAfter (s.time.t32 + 500000 * 2 ^ 32)))

/-! ### R498: the state of the signal path settled -/

/-- A stage's transition ended at its target, and its shadow set made equal to the active one (DEDUCED, assumption 23). -/
def settleStage (isMatrix : Bool) (s : State) : State :=
  let s := match s.trans isMatrix with
    | some t =>
      let s := s.modPath fun p => if isMatrix then { p with matrix := none } else { p with send := none }
      if isMatrix then (s.put F.SUM_STAT_TRM 0).put F.SUM_SETS_ACTMAT (flag (!t.oldB))
      else (s.put F.SUM_STAT_TRS 0).put F.SUM_SETS_ACTSEND (flag (!t.oldB))
    | none => s
  let act := s.activeB isMatrix
  let s := s.copyMem (setBase isMatrix act) (setBase isMatrix (!act)) (setSize isMatrix)
  s.modPath fun p => if isMatrix then { p with matrixRefill := none, matrixPast := none }
    else { p with sendRefill := none, sendPast := none }

/-- A patch ramp ended at its target in both sets; its tag completes (R85). -/
def settlePatch (e : Nat) (s : State) : State :=
  match kget s.path.patches e with
  | some r =>
    let s := (s.setCoef r.isMatrix false r.xp r.target).setCoef r.isMatrix true r.xp r.target
    ((s.modPath fun p => { p with patches := kdel p.patches e }).put (F.PATCH_PTSTAT_RUN e) 0).complete r.tok rcDone
  | none => s

/-- An input selector's fade ended on its target, with a deferred MODE; a restore hold starts again. -/
def settleSel (j : Nat) (v : Selector) (s : State) : State :=
  let sel := s.get (F.PATCH_FOSTAT_SEL j)
  let s := (s.put (F.PATCH_FOSTAT_SEL j) (if sel = 3 then 1 else if sel = 2 then 0 else sel)).put (F.PATCH_FOSTAT_HOLDING j) 0
  let s := match v.deferMode with
    | some m =>
      let s := s.put (F.PATCH_FOCTL_MODE j) m
      if m = 1 then s.put (F.PATCH_FOSTAT_SEL j) 0 else if m = 2 then s.put (F.PATCH_FOSTAT_SEL j) 1 else s
    | none => s
  s.setSel j {}

/-- Transitions, players, generators, module state and a running sweep at an engine stop (R498). -/
def engineSettle (s : State) : State :=
  let s := s.modPath fun p => { p with mux := p.mux.map fun x => (x.1, { x.2 with old := none, past := none }) }
  let s := s.each s.path.sel fun x s => settleSel x.1 x.2 s
  let s := settleStage true (settleStage false s)
  let s := s.each s.path.patches fun x s => settlePatch x.1 s
  let s := s.modPath fun p => { p with trails := [], moves := [], par := [], patchPast := [], movePast := [], parPast := [] }
  let s := s.each s.mods.players fun x s =>
    (s.setParam (1792 + x.1) 4 0).complete x.2.tok rcDone (2 + flag x.2.late)
  let s := s.each s.mods.playOut fun x s => s.complete x.2.tok rcDone (2 + flag x.2.late)
  let anc := s.mods.anc.map fun x => (x.1, { x.2 with gain := 0, gainPrev := 0 })
  let s := { s with mods := { s.mods with
    players := [], playOut := [], mixers := [], mixPast := [], lvlRamp := [], dsp := [], mid := [], anc := anc } }
  let s := match s.supv.sweep with
    | some w =>
      let s := s.each (w.chans.filter fun c => !w.ended.contains c) fun c s => sweepLeave c s
      sweepFinish (s.modSupv fun v => { v with sweep := some { w with point := 16 } })
    | none => s
  let s := s.modDisp fun d => { d with items := [], inRound := false, evRel := [], relEv := [] }
  { s with sig := { s.sig with gather := [], cur := [], prev := [], accs := [] } }

/-! ### Starts -/

/-- The blocks whose held class I fields an engine start applies: all but the ports, the network, the
amplifiers, the tandem unit and LPDDR5, which have starts of their own. -/
def heldAtStart (a : Nat) : Bool :=
  decide (0x40070000 ≤ a ∧ a < 0x40080000) || decide (0x40080000 ≤ a ∧ a < 0x40300000) || decide (0x40A00000 ≤ a ∧ a < 0x40B00000)

/-- An engine start (R51, R54, R244, R418): held fields applied, rounds resume at the first round-aligned
MTI, ports acquire, streams relock, isolated cores return, every sink waits for a valid source (DEDUCED, assumption 23; DEDUCED, assumption 74). -/
def engineStart (s : State) : State :=
  let n := s.now
  let s := s.each ((s.held.map (·.1)).filter heldAtStart) fun a s => s.applyHeld a
  let s := s.put F.TIME_ROUND_NCODE (s.get F.TIME_ROUND_NHELD)
  let k := s.roundFrom s.mti
  let len := s.roundLen
  let s := s.modEng fun e => { e with
    running := true
    lastTick := some (k - len)
    base := max (n + (k - s.mti)) len - len
    discard := 3
    gate := some []
    down := none }
  let free (x : Nat × CoreSt) : Nat × CoreSt := (x.1, { x.2 with removed := false, running := false, ended := true })
  let s := { s with cores := s.cores.map free, disp := { s.disp with ramped := [] } }
  let s := s.each (List.range 6) fun c s => s.setReg (R.CLU_STAT c) (s.reg (R.CLU_STAT c) &&& ~~~0xFF#32)
  let s := s.each (List.range 48) fun k s => imemFlush k s
  let s := s.each ((List.range 48).map fun i => (0, i)) fun u s => s.unitDone u.1 u.2
  let s := s.each (List.range 6) fun i s => s.unitDone 1 i
  let s := s.each ((List.range 32).filter fun g => s.param (1856 + g) 0 != 0) fun g s => genCommit g (s.sampleAt k) s
  ampEngineStart (tdmEngineStart (netRelock k (streamsCheck true (buildTemplate s))))

/-- Placement, routes, sends, matrix gains and streams cleared to their reset state (R455, R17). -/
def clearPaths (s : State) : State :=
  let s := s.each s.net.streams fun x s =>
    let s := s.setReg (if x.1 < 256 then R.NET_RXSTAT x.1 else R.NET_TXSTAT x.1) 0
    s.when (decide (x.1 < 256)) fun s => s.each ((List.range x.2.ch).map (x.2.base + ·)) fun i s => s.setLost i false
  let s := s.modNet fun n => { n with streams := [], rx := [], tx := [], groupLoss := [], fading := [] }
  let s := s.clearMem 0 0x600000
  let s := s.modPath fun p => { p with mux := [] }
  let s := { s with mods := { s.mods with placed := [], oemPlaced := [] } }
  ((s.put F.SUM_EXTS_NSTRIP 0).put F.SUM_EXTS_NBUS 0).put F.SUM_EXTM_NOUT 0

/-- What a change of rate cancels (R54, R431): quiet sweeps, armed one-shot items, the night test's schedule, and
Hampers and a HANDOVER that came after the command was taken (DEDUCED, assumption 55). -/
def cancelSchedules (s : State) : State :=
  let s := s.each s.supv.sched fun x s => s.complete x.2.2.1 rcSuperseded
  let s := (s.modSupv fun v => { v with sched := [] }).modDisp fun d => { d with delay := [] }
  let s := s.each s.hamp.plans fun p s => dropMembers rcSuperseded p.members p.p s
  let s := dropMembers rcSuperseded s.hamp.waiting 0 s
  let s := { s with hamp := { s.hamp with plans := [], waiting := [] } }
  let s := s.complete (s.tnd.handover.bind (·.tok)) rcSuperseded
  let told := s.night.sched.isSome
  let s := { s with tnd := { s.tnd with handover := none }, night := { s.night with sched := none } }
  s.when told fun s => s.notice 0x87 0 0

/-- Alarm Hampers whose edge came before a change of rate commit at the first Stile of the new rate (R54, R92)
(DEDUCED, assumption 55). -/
def alarmsRated (s : State) : State :=
  let k := s.roundFrom s.mti
  { s with hamp := { s.hamp with alarmEdges := s.hamp.alarmEdges.map fun e => (e.1, k) } }

/-- ENGINE_RESTART at t0 (R53, R54, R498). -/
def engineRestartOp (s : State) : State :=
  match s.eng.restart with
  | some r =>
    if s.mti < r.stile then s
    else
      let n := s.now
      let s := engineSettle s
      let s := s.when r.clear clearPaths
      let s := match r.rate with
        | some c => alarmsRated (cancelSchedules (s.put F.TIME_ROUND_FS c))
        | none => s
      let s := s.modEng fun e => { e with restart := none, lastTick := none, base := n }
      let s := engineStart s
      s.modEng fun e => { e with settling := some (s.now, r.tok) }
  | none => s

/-- ENGINE_RATE_RAMP: 0.25 ms before t0 every sink ramps to zero (R53). -/
def rateRampOp (s : State) : State :=
  match s.eng.restart with
  | some r =>
    if r.ramping = false ∧ r.stile ≤ s.mti + s.samplesOf 25 then
      s.modEng fun e => { e with restart := some { r with ramping := true }, down := some (s.now, s.samplesOf 25) }
    else s
  | none => s

/-- Whether every enabled port is running (R53). -/
def State.portsRun (s : State) : Bool :=
  (List.range 32).all fun p => !s.on (F.TDM_CFG_EN p) || s.tdmState p == 2

/-- RATE_CHANGE_COMPLETE: when every enabled port runs, or 1 s after t0 (R53). -/
def rateCompleteOp (s : State) : State :=
  match s.eng.settling with
  | some (n, tok) =>
    if s.portsRun = true ∨ n + s.fs ≤ s.now then
      (s.modEng fun e => { e with settling := none }).complete tok rcDone (flag (!s.portsRun))
    else s
  | none => s

/-- SINK_SOURCE_VALID: a sink whose selected source is valid ramps up (R53). -/
def sinkValidOp (k : Nat) (s : State) : State :=
  match s.eng.gate with
  | some m =>
    let src := (s.mux k).src
    if sinkExists k && (kget m k).isNone && srcValid s.rateClass src && !s.srcLost src then
      s.modEng fun e => { e with gate := some (kset m k s.now) }
    else s
  | none => s

/-- ENGINE_START_BOOT (R441): once after boot, in STARTUP on reference C6. -/
def engineBootOp (s : State) : State :=
  if s.boot.phase = .running ∧ s.boot.engineStarted = false then
    engineStart { s with boot := { s.boot with engineStarted := true } }
  else s

/-! ### Silwen (R51, R52, R455, R456) -/

/-- A restart put on the schedule; one still pending is superseded (DEDUCED, assumption 23). -/
def restartAt (rate : Option Nat) (clear : Bool) (tok : Tok) (s : State) : State :=
  let s := s.complete (s.eng.restart.bind (·.tok)) rcSuperseded
  s.modEng fun e => { e with restart := some ⟨s.restartStile, rate, clear, false, some tok⟩ }

/-- RESET_ENGINE. -/
def resetEngineBody (c : Cmd) (s : State) : State × Rep :=
  if s.scheduled then (s, .rc rcRefused)
  else (restartAt none (bit (cw c 1) 0) (s.tokOf c 0x0102) s, .rc rcScheduled)

/-- SET_ENGINE_RATE. -/
def setRateBody (c : Cmd) (s : State) : State × Rep :=
  let code := min 5 (bits (cw c 1) 2 0)
  if s.scheduled then (s, .rc rcRefused)
  else if code = s.rateCode then (s, .rc rcDone)
  else if !(s.put F.TIME_ROUND_FS code).admits then (s, .rc rcRefused)
  else (restartAt (some code) false (s.tokOf c 0x0304) s, .rc rcScheduled)

/-- SET_ROUND. -/
def setRoundBody (c : Cmd) (s : State) : State × Rep :=
  let n := Limit.apply (.above 4 3) (bits (cw c 1) 2 0)
  if !(s.put F.TIME_ROUND_NCODE n).admits then (s, .rc rcRefused)
  else (s.put F.TIME_ROUND_NHELD n, .rc rcDone)

/-- Microseconds in units of 2⁻¹⁶ samples, rounded down. -/
def State.lat16 (s : State) (us : Nat) : Nat := us * s.fs * 65536 / 1000000

/-- The delay within a strip, in units of 2⁻¹⁶ samples: its DELAY, the look-ahead of its limiter, and an
output strip's ADLY, each in whole samples (R214, R216, R225). -/
def State.stripLat (s : State) (inst : Nat) : Nat :=
  let whole (f : Nat) : Nat := nearestSamples (s.paramActive inst f).toNat s.fs * 65536
  match modKind inst with
  | some .strip => whole 0x0500
  | some .bus => whole 0x0500 + whole 0x0803
  | some .out => whole 0x0803 + whole 0x6000
  | _ => 0

/-- The smaller of two latencies that may be absent (DEDUCED, assumption 24). -/
def latMin : Option Nat → Option Nat → Option Nat
  | some a, some b => some (min a b)
  | some a, none => some a
  | none, b => b

/-- The latency of a path from source or tap `x` to tap or source `t`, without its ends; none where no
path exists (R455). `seen` are the taps already on the path (DEDUCED, assumption 24). -/
def State.pathTo (s : State) (x : Nat) : Nat → List Nat → Nat → Option Nat
  | 0, _, t => if t = x then some 0 else none
  | fuel + 1, seen, t =>
    if t = x then some 0
    else if seen.contains t then none
    else
      let go (u : Nat) : Option Nat := s.pathTo x fuel (t :: seen) u
      let via (sink : Nat) : Option Nat :=
        let u := (s.mux sink).src
        if !srcValid s.rateClass u then none
        else (go u).map fun l => l + (if roundDelayed sink u then s.roundLen * 65536 else 0)
      let best (l : List (Option Nat)) : Option Nat := l.foldl latMin none
      if 2048 ≤ t ∧ t < 4096 then
        let j := t % 1024
        let sel := s.get (F.PATCH_FOSTAT_SEL j)
        (via (if sel = 1 ∨ sel = 3 then 3072 + j else 2048 + j)).map (· + s.stripLat j)
      else if 4096 ≤ t ∧ t < 4608 then
        let b := t - 4096
        (best ((List.range s.extStrips).map fun j =>
          let xp := b * 1024 + j
          if s.gainAt false xp s.now = 0 then none
          else go (if bit (s.coefWord false (s.activeB false) xp) 24 then 3072 + j else 2048 + j))).map (· + s.stripLat (1024 + b))
      else if 4608 ≤ t ∧ t < 4864 then
        let o := t - 4608
        latMin
          (best ((List.range s.extBuses).map fun b => if s.gainAt true (o * 1024 + b) s.now = 0 then none else go (4096 + b)))
          (best ((List.range (if s.rateClass = 2 then 128 else 256)).map fun a =>
            if s.gainAt true (o * 1024 + 512 + a) s.now = 0 then none else via (4096 + a)))
      else if 4864 ≤ t ∧ t < 5120 then
        (via (4352 + (t - 4864))).map (· + s.stripLat (1536 + (t - 4864)))
      else none

/-- The port of a direction that carries a TDM channel. -/
def State.tdmPortOf (s : State) (rx : Bool) (c : Nat) : Option Nat :=
  (List.range 32).find? fun p => s.on (F.TDM_CFG_EN p) && (s.carried rx p).contains c

/-- The delay of a source before the engine, with whether an ASRC lies there (R246–R248, R273, R287) (DEDUCED,
assumption 95). -/
def State.inLat (s : State) (x : Nat) : Nat × Bool :=
  if x < 1024 then
    match s.net.streams.find? fun h => decide (h.1 < 256 ∧ h.2.base ≤ x ∧ x < h.2.base + h.2.ch) with
    | some h => (s.lofsSamples h.2 * 65536 + (if h.2.t1s && s.rateCode == 3 then s.lat16 500 else 0), false)
    | none => (0, false)
  else if x < 1536 then
    match s.tdmPortOf true (x - 1024) with
    | some p =>
      if s.tdmAsync p then (s.lat16 (10 * s.get (F.ASRC_CTL_DLY p)), true)
      else ((2 + (s.port p).align).toNat * 65536, false)
    | none => (0, false)
  else (0, false)

/-- The delay of an external sink after the engine; of a SYNC port less where slips have moved its alignment up (R246,
R247, R248, R287, R320) (DEDUCED, assumption 95). -/
def State.outLat (s : State) (k : Nat) : Int × Bool :=
  if k < 1024 then
    match s.net.streams.find? fun h => decide (256 ≤ h.1 ∧ h.2.base ≤ k ∧ k < h.2.base + h.2.ch) with
    | some h => (if h.2.t1s && s.rateCode == 3 then s.lat16 500 else 0, false)
    | none => (0, false)
  else if k < 1536 then
    match s.tdmPortOf false (k - 1024) with
    | some p =>
      if s.tdmAsync p then (s.lat16 (10 * s.get (F.ASRC_CTL_DLY (32 + p))), true)
      else (-(s.port p).align * 65536, false)
    | none => (0, false)
  else if k < 1568 then (s.lat16 (if s.rateClass = 0 then 500 else if s.rateClass = 1 then 250 else 125), false)
  else (0, false)

/-- GET_LATENCY; a source index that is not valid is applied as 8191, to which no path leads (R13) (DEDUCED, assumption 24). -/
def getLatencyBody (c : Cmd) (s : State) : State × Rep :=
  let x := applySrc s.rateClass (bits (cw c 1) 12 0)
  let k := bits (cw c 2) 12 0
  if !sinkExists k then (s, .rc rcMalformed)
  else if !sinkValid s.rateClass k then (s, .rc rcRefused)
  else
    let t := (s.mux k).src
    match if srcValid s.rateClass t && x != 8191 then s.pathTo x 4096 [] t else none with
    | none => (s, .ok [0, 0, 2])
    | some l =>
      let l := l + (if roundDelayed k t then s.roundLen * 65536 else 0) + (if k < 1568 then 2 * s.roundLen * 65536 else 0)
      let l := (((l + (s.inLat x).1 : Nat) : Int) + (s.outLat k).1).toNat
      (s, .ok [word (l / 65536), word (l % 65536), word (flag ((s.inLat x).2 || (s.outLat k).2))])

/-! ### The commands -/

/-- RESET_ENGINE (R52, R455). -/
def execResetEngine (c : Cmd) (s : State) : Host.Outcome State Fault Refusal :=
  .next (silwen 0x0102 1 false resetEngineBody c s)
/-- GET_LATENCY (R455). -/
def execGetLatency (c : Cmd) (s : State) : Host.Outcome State Fault Refusal :=
  .next (silwen 0x0104 2 false getLatencyBody c s)
/-- SET_ENGINE_RATE (R52, R136, R359). -/
def execSetEngineRate (c : Cmd) (s : State) : Host.Outcome State Fault Refusal :=
  .next (silwen 0x0304 1 false setRateBody c s)
/-- SET_ROUND (R51, R136). -/
def execSetRound (c : Cmd) (s : State) : Host.Outcome State Fault Refusal := .next (silwen 0x0305 1 false setRoundBody c s)
/-- ENGINE_RATE_RAMP (R53). -/
def execEngineRateRamp (s : State) : Host.Outcome State Fault Refusal := .next (rateRampOp s)
/-- ENGINE_RESTART (R53, R54, R498). -/
def execEngineRestart (s : State) : Host.Outcome State Fault Refusal := .next (engineRestartOp s)
/-- RATE_CHANGE_COMPLETE (R53). -/
def execRateChangeComplete (s : State) : Host.Outcome State Fault Refusal := .next (rateCompleteOp s)
/-- SINK_SOURCE_VALID (R53). -/
def execSinkSourceValid (sink : BitVec 13) (s : State) : Host.Outcome State Fault Refusal := .next (sinkValidOp sink.toNat s)
/-- ENGINE_START_BOOT (R441). -/
def execEngineStartBoot (s : State) : Host.Outcome State Fault Refusal := .next (engineBootOp s)

end Sys2Proof.Machine
end

