-- ==== Sys2Proof/Machine/Tandem.lean ====
section
/-! DEFINITION. The tandem pair (R349–R372): roles, HEALTH_OUT, records, synchronisation, takeover,
planned handover, the link; and the silence of reaction level L4 (R354). -/

namespace Sys2Proof.Machine

/-- The state with the tandem unit rewritten. -/
def State.modTnd (s : State) (f : TandemSt → TandemSt) : State := { s with tnd := f s.tnd }

/-- TND_STAT.STATE: 0 SOLO, 1 ACTIVE, 2 HANDING, 3 CONFIG, 4 CATCHUP, 5 SYNCED, 6 STALE, 7 FAILED. -/
def State.tndState (s : State) : Nat := s.get F.TND_STAT_STATE

/-- The HEALTH_OUT code of a state (R352). -/
def hcodeOf (st : Nat) : Nat := if st < 2 then 2 else if st = 2 then 1 else if st = 5 then 3 else if st < 7 then 4 else 0

/-- TANDEM_STATE for an event (R372, R468). -/
def tndNotify (e : Nat) (s : State) : State :=
  (s.raise e).notify 0x8006 [s.reg R.TND_STAT, s.reg R.TND_LINK, word e]

/-- A state entered, with its HEALTH_OUT code and the line states it gives (R347, R352). -/
def tndEnter (st : Nat) (s : State) : State :=
  let s := (s.put F.TND_STAT_STATE st).put F.TND_STAT_HCODE (hcodeOf st)
  ampWatch (List.range 32) (fun s => s.each (List.range 32) fun c s => lineFromState c s) s

/-- A change of the synchronisation state (R363). -/
def syncSet (st : Nat) (s : State) : State :=
  if s.tndState = st then s
  else
    let s := tndEnter st (s.modTnd fun t => { t with clean := false })
    tndNotify 178 s

/-- Whether HEALTH_OUT carries pulses, and whether it is high at this instant: its pulse follows each Stile by 5–25 ns, its
high time the duty of HCODE within ±30 ns; constant low in a chip that failed, until the
firmware starts the engine, and in sleep (R352–R354, R384, R436). -/
def State.healthRuns (s : State) : Bool :=
  s.boot.engineStarted && !s.asleep && !s.tnd.failed && s.get F.TND_STAT_HCODE != 0
def State.healthOut (s : State) : Bool :=
  let t := s.time.t32 * s.fs % sec32
  let from' := (5 + Config.undefNat s.free % 21) * 2 ^ 32 * s.fs
  let duty := match s.get F.TND_STAT_HCODE with
    | 1 => 1
    | 2 => 2
    | 3 => 4
    | _ => 6
  let until' := from' + duty * sec32 / 8 + (Config.undefNat (s.free + 1) % 61) * 2 ^ 32 * s.fs - 30 * 2 ^ 32 * s.fs
  s.healthRuns && decide (from' ≤ t) && decide (t < until')

/-- Whether the outputs of the chip are driven, and whether LSWn of a channel is high (R349, R364, R367). -/
def State.driving (s : State) : Bool := decide (s.tndState < 3)
def State.lsw (s : State) (ch : Nat) : Bool :=
  s.eng.running && s.driving && decide (s.tnd.lswFrom ≤ s.time.dur) && (s.ampState ch == 2 || s.ampState ch == 4)

/-! ### EN and roles (R349–R351) -/

/-- A write of TND_CTL: EN awaits the next round-start Stile, DUALTX the next start. -/
def tndCtlWrite (v : Word) (s : State) : State :=
  let s := s.put F.TND_CTL_LSWDLY (min 200 (bits v 7 0))
  let s := s.hold R.TND_CTL (word (setField (s.reg R.TND_CTL).toNat 8 8 (bits v 8 8)))
  if bit v 31 = s.on F.TND_CTL_EN then s.modTnd fun t => { t with enDue := none }
  else s.modTnd fun t => { t with enDue := some (bit v 31) }

/-- A write to the TND block. -/
def tndRegWrite (off : Nat) (v : Word) (s : State) : State :=
  if off = 0 then tndCtlWrite v s else s.writeReg (0x40600000 + off) v

/-- The chip begins as a standby in CONFIG, or as the active (R349, R370) (DEDUCED, assumption 25). -/
def takeRole (s : State) : State :=
  let st := if s.on F.TND_STAT_ROLEIN then 1 else 3
  if s.tndState = st then s else tndNotify 176 (tndEnter st (s.modTnd fun t => { t with copied := false }))

/-- TANDEM_ENABLE: EN takes effect; EN = 1 starts the unit, which applies its held DUALTX (R9, R349). -/
def tandemEnableOp (s : State) : State :=
  match s.tnd.enDue with
  | some en =>
    let s := (s.modTnd fun t => { t with enDue := none, handover := none }).put F.TND_CTL_EN (flag en)
    let s := s.when en fun s => s.applyHeld R.TND_CTL
    let s := s.put F.TND_STAT_ROLEIN (flag s.pins.roleIn)
    let s := if s.tnd.failed then s else if en then takeRole s else tndEnter 0 s
    (refPeer s).put F.DISP_MARGIN_MARGIN (clampNat 5 1000 (s.marginFor en))
  | none => s

/-- Whether the peer is in a planned handover this chip knows of (R367) (DEDUCED, assumption 25). -/
def State.handing (s : State) : Bool := s.get F.TND_STAT_PEER == 2 && s.get F.TND_LINK_LANES != 0

/-- ROLE_IN_CHANGE: the level has held for 100 ns. Outside a handover an active whose level falls
becomes a standby; a rise promotes in TAKEOVER (R349, R367) (DEDUCED, assumption 25). -/
def roleInOp (level : Bool) (s : State) : State :=
  let rose := level && !s.pins.roleIn
  let s := { s with pins := { s.pins with roleIn := level } }.put F.TND_STAT_ROLEIN (flag level)
  let s := s.when rose fun s => s.modTnd fun t => { t with roleAt := s.time.t32 }
  if !s.on F.TND_CTL_EN || s.tnd.failed then s
  else match s.tnd.handover with
  | some h => s.modTnd fun t => { t with handover := some { h with mine := !level } }
  | none => if s.tndState = 1 ∧ level = false then takeRole s else s

/-- The MTI of the round in process: one round before the last tick. -/
def State.procMti (s : State) : Nat := (s.eng.lastTick).getD 0 - s.roundLen

/-- Whether the round in process has been released. -/
def State.released (s : State) : Bool := s.disp.inRound && s.disp.rmti == s.procMti

/-! ### Promotion (R364, R365) -/

/-- The addresses of the active taken over: three gratuitous ARP frames on each port, and the reports of the groups that
receive streams at work have joined (R364). -/
def announce (s : State) : State :=
  let s := s.each ((List.range 2).filter fun p => s.linkUp p) fun p s =>
    s.each (List.range 3) fun _ s => (enqueue 2 64 [p] (fun id _ => { id := id, cls := 2, len := 64 }) s).1
  s.each (s.net.streams.filter fun x => decide (x.1 < 256) && s.get (F.NET_RXSTAT_STATE x.1) != 0) fun x s => igmpJoin x.2 s

/-- The last sample the failed active certified: its last rising edge came 2.25 periods and up to 1 µs before ROLE_IN
rose (R352, R355, R366) (DEDUCED, assumption 99). -/
def State.certified (s : State) : Nat := (s.tnd.roleAt * s.fs - 9 * sec32 / 4) / sec32

/-- The packets a promoted chip repeats: due at or after the last round-start Stile at or before the last certified
sample, up to the last tick (R3, R364) (DEDUCED, assumption 99). -/
def netCatchUp (s : State) : State :=
  match s.eng.lastTick with
  | some k =>
    let from' := s.roundAt (min k s.certified)
    let n := max 1 s.roundLen
    s.each (List.range (min 8 ((k - from') / n + 1))) fun i s => netTxSend (k - (min 7 ((k - from') / n) - i) * n) s
  | none => s

/-- The outputs go live: the role, inherited tags, the packets since the last certified sample, the addresses and the
clock outputs, a round that waited for its records released with what is here, and a reference chosen anew (R310, R315, R364, R365); `planned` for a handover, whose line switches close
LSWDLY later and which repeats no packets (DEDUCED, assumption 99). -/
def promote (planned : Bool) (s : State) : State :=
  let waits := s.follows && s.eng.running && s.eng.lastTick.isSome && !s.released
  let dly := if planned then s.get F.TND_CTL_LSWDLY * 1000 * 2 ^ 32 else 0
  let s := s.modTnd fun t => { t with lswFrom := s.time.dur + dly, decide := none, input := none }
  let s := s.when (s.on F.REFS_WCOUT_STBYZ) fun s => s.modRef fun r => { r with clkFrom := s.mti + 1 }
  let s := s.each s.tnd.tags fun x s =>
    s.modBox (Sender.key x.1) fun b => { b with tags := x.2.foldl (fun m y => kset m y.1 y.2) b.tags }
  let s := s.each (List.range 32) fun c s => ((s.put (F.AMP_GR_GRP c) 0).put (F.AMP_STAT_PLIMACT c) 0).modAmp c fun a => { a with gain := 0 }
  let s := tndNotify 176 (tndEnter 1 s)
  let s := (barrierCloseOp s).when waits templateRelease
  let s := s.when (!planned) netCatchUp
  refEvaluate (s.when (!s.on F.TND_CTL_DUALTX) announce)

/-- TAKEOVER: a standby whose ROLE_IN is high is promoted, unless the peer is handing over. -/
def takeoverOp (s : State) : State :=
  if s.standby && s.on F.TND_STAT_ROLEIN && !s.handing then
    promote false ((s.incSat R.TND_TAKEOVERS).setReg R.TND_LASTTAKE s.mtil)
  else s

/-! ### Planned handover (R367, R368) -/

/-- HANDOVER, for a host or for DRILL. -/
def handoverStart (mti : Nat) (tok : Option Tok) (s : State) : Option (State × Nat) :=
  if s.on F.TND_CTL_EN && s.tndState == 1 && s.get F.TND_STAT_PEER == 5 && s.tnd.handover.isNone then
    let h := s.roundFrom (max mti (s.mti + 64))
    some ((s.modTnd fun t => { t with handover := some { h := h, tok := tok } }), h)
  else none

/-- HANDOVER_BEGIN at Stile h − 32. -/
def handoverBeginOp (s : State) : State :=
  match s.tnd.handover with
  | some h =>
    if h.begun = false ∧ h.done = false ∧ h.h ≤ s.mti + 32 then
      let s := (s.modTnd fun t => { t with handover := some { h with begun := true } }).setReg R.TND_HOMTIL (word h.h)
      tndNotify 180 (tndEnter 2 s)
    else s
  | none => s

/-- A handover abandoned: from Stile h each chip follows its ROLE_IN (R368). -/
def handoverAbandon (h : HandSt) (s : State) : State :=
  let s := s.modTnd fun t => { t with handover := some { h with done := true, tok := none } }
  let fail (r : NightRun) : NightRun := if r.drill = .running ∧ h.tok = none then { r with drill := .fail } else r
  let s := { s with night := { s.night with run := s.night.run.map fail } }
  (tndNotify 180 (tndEnter 1 s)).complete h.tok rcRefused

/-- HANDOVER_CHECK at Stile h − 4: a role level that has not changed abandons the handover. -/
def handoverCheckOp (peerChanged : Bool) (s : State) : State :=
  match s.tnd.handover with
  | some h =>
    if h.begun = true ∧ h.done = false ∧ h.h ≤ s.mti + 4 then
      if h.mine && peerChanged then s.modTnd fun t => { t with handover := some { h with peer := true } }
      else handoverAbandon h s
    else s
  | none => s

/-- HANDOVER_SWITCH at Stile h, on the old active, on the new one, or after an abandoned handover. -/
def handoverSwitchOp (s : State) : State :=
  match s.tnd.handover with
  | some h =>
    if s.mti < h.h then s
    else if h.done then
      let s := s.modTnd fun t => { t with handover := none }
      if s.on F.TND_STAT_ROLEIN then s else takeRole s
    else if h.mine && h.peer then
      let s := tndEnter 5 (s.modTnd fun t => { t with handover := none, clean := false })
      (tndNotify 180 (tndNotify 176 s)).complete h.tok rcDone
    else s
  | none =>
    if s.standby && s.tndState == 5 && s.on F.TND_STAT_ROLEIN && s.handing then tndNotify 180 (promote true s) else s

/-! ### Records (R356–R363) -/

/-- A bad or missing record (R360). -/
def recordBad (s : State) : State := ((s.incSat R.TND_RECCNT).put F.TND_STAT_RECLOST 1).raise 181

/-- A SYNCED or CATCHUP standby becomes STALE. -/
def goStale (s : State) : State := if s.tndState = 4 ∨ s.tndState = 5 then syncSet 6 s else s

/-- The round released once its DECIDE and INPUT records are here (R358). -/
def standbyRelease (s : State) : State :=
  if s.tnd.decide = some s.procMti ∧ s.tnd.input = some s.procMti ∧ s.released = false then templateRelease s else s

/-- The active's decision of one input selector at the sample number `n` taken (R25–R29): what FOSTAT and FOCNT show,
and the fade under way with the position it starts from. -/
def selTake (n : Nat) (r : SelRec) (s : State) : State :=
  let j := r.strip.val
  let v := s.sel j
  let fade := r.run.map fun f => ((⟨n - f.1, f.2.1, 1⟩ : Fade), f.2.2.1, f.2.2.2)
  let past := if v.fade = fade then v.past else s.selRuns j
  let hold := if r.holding then some (v.holdFrom.getD n) else none
  let s := s.setSel j { v with fade := fade, past := past, holdFrom := hold }
  let s := ((s.put (F.PATCH_FOSTAT_SEL j) r.sel).put (F.PATCH_FOSTAT_PLOST j) (flag r.plost)).put (F.PATCH_FOSTAT_BLOST j) (flag r.blost)
  let s := (s.put (F.PATCH_FOSTAT_HELD j) (flag r.held)).put (F.PATCH_FOSTAT_HOLDING j) (flag r.holding)
  s.put (F.PATCH_FOSTAT_FOCNT j) r.count.toNat

/-- The active's pair of an output converter used in place of this chip's own (R250, R358). -/
def pairTake (r : PairRec) (s : State) : State :=
  let c := 32 + r.conv.val
  pairPut c { (s.port r.conv).conv c with ratio := some r.ratio.toNat, pos := r.pos } s

/-- The start of a patch request as the active decided it: entry, and sample before the record's Stile (R358). -/
def patchStartTake (n : Nat) (x : Nat × Nat) (s : State) : State :=
  match kget s.path.patches x.1 with
  | some r =>
    let at' := n - x.2
    if r.fade.start = at' then s
    else s.modPath fun p => { p with patches := kset p.patches x.1 { r with fade := { r.fade with start := at' } } }
  | none => s

/-- TANDEM_DECIDE_RECORD, of the round that begins at the last tick: loss flags, selector decisions, stream and port
states, converter pairs and starts of patch requests of the active, and a time step. -/
def decideRecordOp (r : DecideRec) (s : State) : State :=
  if !s.follows then s
  else if !r.ok then recordBad s
  else
    let n := s.eng.base
    let s := { s with sig := { s.sig with lost := r.lostSources } }
    let s := s.each r.pairs pairTake
    let s := s.each r.selector fun x s => selTake n x s
    let s := s.each r.patches fun x s => patchStartTake n x s
    let s := s.when r.stepMti.isSome timeStepApply
    s.modTnd fun t => { t with decide := s.eng.lastTick, streams := r.streams, ports := r.ports }

/-- TANDEM_INPUT_RECORD, of the round in process: the active's input samples. -/
def inputRecordOp (ok : Bool) (ins : List InputRec) (s : State) : State :=
  if !s.follows then s
  else if !ok then recordBad s
  else
    let s := s.each ins fun i s => { s with sig := { s.sig with cur := kset s.sig.cur i.src i.samples } }
    standbyRelease (s.modTnd fun t => { t with input := some s.procMti })

/-- TANDEM_ALARM_RECORD: qualified edges and their commit Stiles (DEDUCED, assumption 61). -/
def alarmRecordOp (ok : Bool) (edges : List (Fin 4 × Nat)) (s : State) : State :=
  if !s.follows then s
  else if !ok then recordBad s
  else { s with hamp := { s.hamp with alarmEdges := s.hamp.alarmEdges ++ edges.map fun e => (e.1.val, e.2) } }

/-- Whether the alignment delays have filled since the per-round copy began (R363). -/
def State.filled (s : State) : Bool :=
  (List.range 256).all fun o =>
    !s.isPlaced (1536 + o) || decide (s.tnd.fillFrom + ((s.param (1536 + o) 0x6000).toNat * s.fs + 999999) / 1000000 ≤ s.now)

/-- An item the active missed: missed here too, whether or not it has completed, with its hold fill (R199, R203). -/
def missTaken (h : Nat) (s : State) : State :=
  match kget s.disp.items h with
  | some it =>
    if it.st = .done then
      let kind := dKind it.desc
      let s := holdFill (dHolds it.desc) (s.modDisp fun d => { d with missed := kset d.missed h false })
      (s.when (kind == 1 || kind == 2) (stageHold (kind == 2))).setItem h .missed
    else missItem h false s
  | none => s

/-- The bytes a digest covers beside the state chunk: every valid tap from 2048 upwards, each sample in the container of
R123, its bytes as a word lies in memory (R361) (DESIGN CHOICE, assumption 26). -/
def State.tapBytes (s : State) : List Byte :=
  (((List.range 3072).map (· + 2048)).filter (srcValid s.rateClass)).flatMap fun i =>
    (List.range s.roundLen).flatMap fun j => natBytes 4 (((kgetD s.sig.cur i []).getD j 0).toNat * 256)

/-- This chip's contents of the blocks and of the module states of a state chunk, and its digest of the round in process
(R361, R362). -/
def State.ownChunk (s : State) (chunk : List (BitVec 40 × List Byte)) : List (BitVec 40 × List Byte) :=
  chunk.map fun b => (b.1, s.bytes b.1.toNat b.2.length)
def State.ownStates (s : State) (states : List (Nat × List Int)) : List (Nat × List Int) :=
  states.map fun x => (x.1, kgetD s.mods.dsp x.1 [])
def State.digest (s : State) (chunk : List (BitVec 40 × List Byte)) (states : List (Nat × List Int)) : BitVec 64 :=
  crc64 (s.tapBytes ++ chunk.flatMap Prod.snd ++ states.flatMap fun x => Config.stateBytes x.1 x.2)

/-- The blocks of 256 bytes of a chunk of an image of `size` bytes: the image over the rounds in 0.5 s, at most 16 KiB (R362). -/
def State.chunkBlocks (s : State) (size : Nat) : Nat :=
  min 64 ((size * 2 * s.roundLen + 256 * s.fs - 1) / (256 * s.fs))

/-- TND_BGPOS after a chunk that ends at byte `pos` of an image of `size` (R362); 0 ‰ at its end (DESIGN CHOICE, assumption 105). -/
def bgposPut (pos size : Nat) (s : State) : State :=
  let pm := if size ≤ pos then 0 else min 999 (s.quot (1000 * pos) size)
  ((s.put F.TND_BGPOS_CYCPM pm).put F.TND_BGPOS_CHUNK (s.chunkBlocks size)).fresh

/-- What an END record says that the dispatcher acts on: the items the active released through event slots are released,
its misses are applied, and a miss of this chip's own makes it STALE (R203, R363). -/
def endApply (r : EndRec) (s : State) : State :=
  let own := (s.disp.missed.map (·.1)).filter fun h => !r.misses.contains h
  let s := s.each (r.released.filter fun h => (kget s.disp.items h).isNone) fun h s => releaseItem h true s
  let s := s.each r.misses fun h s => missTaken h s
  (s.modTnd fun t => { t with ended := some s.procMti }).when (own != []) goStale

/-- A digest or a chunk that differs ends the run of matches; a digest counts and, but in CATCHUP, raises event 179 and
makes the standby STALE (R361, R363). -/
def digestTake (same chunkSame : Bool) (s : State) : State :=
  let s := s.when (!(same && chunkSame)) fun s => s.modTnd fun t => { t with clean := false }
  if same then s
  else
    let s := s.incSat R.TND_DIGCNT
    if s.tndState = 4 then s else goStale (s.raise 179)

/-- TANDEM_END_RECORD: its misses and releases applied, the digest and the chunk compared with this chip's own and each
block that differs overwritten; a full cycle of matches synchronises (R203, R361–R363) (DESIGN CHOICE, assumption 26). -/
def endRecordOp (r : EndRec) (s : State) : State :=
  if !s.follows then s
  else if !r.ok then recordBad s
  else
    let s := endApply r s
    let own := s.ownChunk r.chunk
    let states := s.ownStates r.states
    let s := digestTake (r.digest == s.digest own states) (own == r.chunk && states == r.states) s
    let s := s.each (r.chunk.filter fun b => s.bytes b.1.toNat b.2.length != b.2) fun b s => s.setBytes b.1.toNat b.2
    let s := { s with mods := { s.mods with dsp := r.states.foldl (fun m x => ksetD m x.1 x.2 []) s.mods.dsp } }
    let pos := r.pos + (r.chunk.map fun b => b.2.length).sum
    let s := bgposPut pos r.image s
    if r.image ≤ pos then
      let up := s.tnd.clean && (s.tndState == 6 || (s.tndState == 4 && s.filled))
      (s.when up (syncSet 5)).modTnd fun t => { t with clean := true }
    else s

/-- Whether the records of the round in process are late: DECIDE or INPUT 5 µs after Stile (k + 1)N, END 0.5 µs before
Stile (k + 2)N (R360). -/
def State.recordLate (s : State) : Bool :=
  match s.eng.lastTick with
  | some k =>
    if s.released then decide ((k + s.roundLen) * sec32 ≤ (s.time.t32 + 500 * 2 ^ 32) * s.fs)
    else decide (k * sec32 + 5000 * 2 ^ 32 * s.fs ≤ s.time.t32 * s.fs)
  | none => false

/-- TANDEM_RECORD_DEADLINE: a round without its records runs on the chip's own data; a round without its
END closes with its own misses; either makes the standby STALE (R360). -/
def recordDeadlineOp (s : State) : State :=
  if !s.follows || !s.recordLate then s
  else if !s.released then templateRelease (goStale (recordBad s))
  else if s.tnd.ended ≠ some s.procMti then barrierCloseOp (goStale (recordBad s))
  else s

/-! ### What this chip sends (R350, R356) -/

/-- The DECIDE record of the round that begins at the last tick. -/
def State.decideRec (s : State) (stepMti : Option Nat) : DecideRec :=
  let n := s.eng.base
  { ok := true
    lostSources := s.sig.lost
    selector := ((List.range (s.cap 1024)).filter fun j => (kget s.path.sel j).isSome || s.reg (R.PATCH_FOSTAT j) != 0).map fun j =>
      let v := s.sel j
      { strip := Fin.ofNat 1024 j, plost := s.on (F.PATCH_FOSTAT_PLOST j), blost := s.on (F.PATCH_FOSTAT_BLOST j)
        held := s.on (F.PATCH_FOSTAT_HELD j), holding := s.on (F.PATCH_FOSTAT_HOLDING j)
        sel := Fin.ofNat 4 (s.get (F.PATCH_FOSTAT_SEL j)), count := BitVec.ofNat 16 (s.get (F.PATCH_FOSTAT_FOCNT j))
        run := v.fade.map fun f => (n - f.1.start, f.1.dur, f.2.1, f.2.2) }
    streams := (s.net.streams.filter fun x => decide (x.1 < 256)).map fun x => (x.1, s.get (F.NET_RXSTAT_STATE x.1))
    ports := (List.range 32).map fun p => (p, s.tdmState p)
    pairs := (List.range 32).flatMap fun p => match (s.port p).conv (32 + p) with
      | c => (c.ratio.map fun q => { conv := Fin.ofNat 32 p, ratio := word q, pos := c.pos }).toList
    stepMti := stepMti
    patches := s.path.patches.map fun x => (x.1, n - x.2.fade.start) }

/-- The INPUT record of the round in process: network receive channels and TDM inputs, in source-index order. -/
def State.inputRec (s : State) : List InputRec :=
  (s.sig.cur.filter fun x => decide (x.1 < 1536)).map fun x => { src := x.1, samples := x.2 }

/-- At a round-start Stile: each chip of a pair reports to its peer (R350); the active sends the DECIDE record of the round
that begins, the INPUT record of the round released, and the Hampers planned anew (R74, R356, R357) (DEDUCED, assumption 107). -/
def linkTick (stepMti : Option Nat) (before s : State) : State :=
  let on := s.on F.TND_CTL_EN && s.get F.TND_LINK_LANES != 0
  let s := { s with link := if on then [.report (s.on F.TND_STAT_ROLEIN) s.tndState] else [] }
  let input := if s.released then [LinkMsg.input s.procMti s.inputRec] else []
  (s.send (.decide ((s.eng.lastTick).getD 0) (s.decideRec stepMti) :: input)).sendPlans before

/-- At the active's barrier: the END record, with the next chunk of the state image (R356, R361, R362). -/
def endSend (s : State) : State :=
  if !s.sends then s
  else
    let size := Config.imageBytes
    let chunk := s.ownChunk ((List.range (s.chunkBlocks size)).map fun i =>
      (Config.imageAddr (s.tnd.sweep / 256 + i), List.replicate 256 0))
    let states := s.ownStates (((List.range (s.chunkBlocks size)).filterMap fun i =>
      Config.imageState (s.tnd.sweep / 256 + i)).map fun k => (k, []))
    let pos := s.tnd.sweep
    let r : EndRec :=
      { ok := true, misses := s.disp.missed.map (·.1), released := s.disp.relEv, reactions := s.flt.reacted, digest := s.digest chunk states
        chunk := chunk, states := states, pos := pos, image := size }
    let next := pos + 256 * chunk.length
    bgposPut next size (({ s with flt := { s.flt with reacted := [] } }.send [.fin s.procMti r]).modTnd fun t => { t with sweep := if size ≤ next then 0 else next })

/-- BARRIER_CLOSE: a barrier that closes sends the active's END record. -/
def barrierOp (s : State) : State :=
  let t := barrierCloseOp s
  t.when (t.disp.barrier && !s.disp.barrier) endSend

/-! ### The link and resynchronisation (R350, R363, R370, R371) -/

/-- LANES after a change of the lane mask. -/
def lanesPut (m : BitVec 4) (s : State) : State :=
  (s.modTnd fun t => { t with lanes := m }).put F.TND_LINK_LANES ((List.range 4).filter fun i => m.getLsbD i).length

/-- TANDEM_LANE_LOSS; with the last lane the link is lost, which resets the peer's master (R105, R371). -/
def laneLossOp (lane : Nat) (s : State) : State :=
  if !s.tnd.lanes.getLsbD lane then s
  else
    let s := lanesPut (s.tnd.lanes &&& ~~~(BitVec.ofNat 4 (2 ^ lane))) s
    let s := if s.tnd.lanes = 0 then
        let s := (s.put F.TND_LINK_DOWNEV 1).modTnd fun t => { t with downSince := some s.time.dur }
        masterResetOp 0x30 (goStale (refPeer s))
      else s
    tndNotify 177 s

/-- TANDEM_LANE_RETURN. -/
def laneReturnOp (lane : Nat) (reversed inverted : Bool) (s : State) : State :=
  if s.tnd.lanes.getLsbD lane then s
  else
    let s := (lanesPut (s.tnd.lanes ||| BitVec.ofNat 4 (2 ^ lane)) s).modTnd fun t => { t with downSince := none }
    let s := (s.put F.TND_LINK_REV (flag reversed)).put ⟨R.TND_LINK, 4 + lane, 4 + lane⟩ (flag inverted)
    (tndNotify 177 (refPeer s)).unitDone 7 0

/-- TANDEM_LINK_DOWN_TIMEOUT: down for more than 1 s. -/
def linkDownTimeoutOp (s : State) : State :=
  match s.tnd.downSince with
  | some t => if s.standby = true ∧ t + ms32 1000 < s.time.dur then syncSet 3 s else s
  | none => s

/-- RESYNC_COPY_DONE. -/
def resyncDoneOp (protocolOk : Bool) (s : State) : State :=
  if s.tndState = 3 ∧ s.tnd.lanes ≠ 0 then
    if protocolOk then
      syncSet 4 ((s.put F.TND_STAT_COMPAT 0).modTnd fun t => { t with copied := true, fillFrom := s.now })
    else s.put F.TND_STAT_COMPAT 1
  else s

/-- PEER_STATE_REPORT (R350). -/
def peerReportOp (roleIn : Bool) (st : Nat) (s : State) : State :=
  if !s.on F.TND_CTL_EN then s
  else
    let old := s.get F.TND_STAT_PEER
    let was := s.tnd.peerRole
    let s := refPeer ((s.put F.TND_STAT_PEER st).modTnd fun t => { t with peerRole := roleIn })
    let s := s.when (old != st) fun s => tndNotify 182 s
    let mine := s.on F.TND_STAT_ROLEIN
    if mine && roleIn then
      match s.tnd.bothSince with
      | none => s.modTnd fun t => { t with bothSince := some s.time.dur }
      | some t =>
        if 2 * 1000000000 * 2 ^ 32 < (s.time.dur - t) * s.fs ∧ s.on F.TND_STAT_CONFLICT = false then
          tndNotify 183 (s.put F.TND_STAT_CONFLICT 1)
        else s
    else
      let s := s.modTnd fun t => { t with bothSince := none }
      if !mine && !roleIn && was then tndNotify 183 s else s

/-! ### L4 (R354) -/

/-- The chip fails silent: HEALTH_OUT low, line switches open, network transmission and the engine
stopped, until PORST_N or SYSRST_N. -/
def failSilentOp (s : State) : State :=
  if s.tnd.failed then s
  else
    let s := (s.put F.TND_STAT_STATE 7).put F.TND_STAT_HCODE 0
    let s := (s.modTnd fun t => { t with failed := true }).modEng fun e => { e with running := false, restart := none }
    { s with flt := { s.flt with l4 := true } }

/-! ### Silwen (R349, R359, R367, R465) -/

/-- TANDEM_CFG. -/
def tandemCfgBody (c : Cmd) (s : State) : State × Rep :=
  if bit (cw c 1) 31 && !s.on F.TND_CTL_EN && !s.admitsAs true then (s, .rc rcRefused)
  else (tndCtlWrite (cw c 1) s, .rc rcDone)

/-- HANDOVER. -/
def handoverBody (c : Cmd) (s : State) : State × Rep :=
  match handoverStart (wide (cw c 1) (cw c 2)) (some (s.tokOf c 0x0B01)) s with
  | some (s, h) => (s, .sched h)
  | none => (s, .rc rcRefused)

/-- TANDEM_STATUS. -/
def tandemStatusBody (_c : Cmd) (s : State) : State × Rep :=
  (s, .ok [s.reg R.TND_STAT, s.reg R.TND_LINK, s.reg R.TND_DIGCNT, s.reg R.TND_RECCNT, s.reg R.TND_TAKEOVERS,
    s.reg R.TND_LASTTAKE, s.reg R.TND_BGPOS])

/-! ### The commands -/

/-- TANDEM_CFG (R349, R351, R359). -/
def execTandemCfg (c : Cmd) (s : State) : Host.Outcome State Fault Refusal := .next (silwen 0x0B00 1 false tandemCfgBody c s)
/-- HANDOVER (R367). -/
def execHandover (c : Cmd) (s : State) : Host.Outcome State Fault Refusal := .next (silwen 0x0B01 2 false handoverBody c s)
/-- TANDEM_STATUS (R465). -/
def execTandemStatus (c : Cmd) (s : State) : Host.Outcome State Fault Refusal :=
  .next (silwen 0x0B02 0 false tandemStatusBody c s)
/-- ROLE_IN_CHANGE (R349). -/
def execRoleInChange (level : Bool) (s : State) : Host.Outcome State Fault Refusal := .next (roleInOp level s)
/-- TAKEOVER (R364). -/
def execTakeover (s : State) : Host.Outcome State Fault Refusal := .next (takeoverOp s)
/-- TANDEM_DECIDE_RECORD (R356, R358). -/
def execTandemDecideRecord (r : DecideRec) (s : State) : Host.Outcome State Fault Refusal := .next (decideRecordOp r s)
/-- TANDEM_INPUT_RECORD (R358). -/
def execTandemInputRecord (ok : Bool) (inputs : List InputRec) (s : State) : Host.Outcome State Fault Refusal :=
  .next (inputRecordOp ok inputs s)
/-- TANDEM_ALARM_RECORD (R356). -/
def execTandemAlarmRecord (ok : Bool) (edges : List (Fin 4 × Nat)) (s : State) : Host.Outcome State Fault Refusal :=
  .next (alarmRecordOp ok edges s)
/-- TANDEM_RECORD_DEADLINE (R360). -/
def execTandemRecordDeadline (s : State) : Host.Outcome State Fault Refusal := .next (recordDeadlineOp s)
/-- HANDOVER_BEGIN (R367). -/
def execHandoverBegin (s : State) : Host.Outcome State Fault Refusal := .next (handoverBeginOp s)
/-- HANDOVER_CHECK (R368). -/
def execHandoverCheck (peerChanged : Bool) (s : State) : Host.Outcome State Fault Refusal :=
  .next (handoverCheckOp peerChanged s)
/-- TANDEM_LANE_RETURN (R371). -/
def execTandemLaneReturn (lane : Fin 4) (reversed inverted : Bool) (s : State) : Host.Outcome State Fault Refusal :=
  .next (laneReturnOp lane reversed inverted s)
/-- TANDEM_LINK_DOWN_TIMEOUT (R363). -/
def execTandemLinkDownTimeout (s : State) : Host.Outcome State Fault Refusal := .next (linkDownTimeoutOp s)
/-- RESYNC_COPY_DONE (R370). -/
def execResyncCopyDone (protocolOk : Bool) (s : State) : Host.Outcome State Fault Refusal := .next (resyncDoneOp protocolOk s)
/-- TANDEM_ENABLE (R349). -/
def execTandemEnable (s : State) : Host.Outcome State Fault Refusal := .next (tandemEnableOp s)
/-- FAIL_SILENT (R354). -/
def execFailSilent (s : State) : Host.Outcome State Fault Refusal := .next (failSilentOp s)
/-- PEER_STATE_REPORT (R350). -/
def execPeerStateReport (roleIn : Bool) (state : BitVec 4) (s : State) : Host.Outcome State Fault Refusal :=
  .next (peerReportOp roleIn state.toNat s)
/-- BARRIER_CLOSE (R202, R356). -/
def execBarrierClose (s : State) : Host.Outcome State Fault Refusal := .next (barrierOp s)

end Sys2Proof.Machine
end

