-- ==== Sys2Proof/Machine/Memory.lean ====
section
/-! DEFINITION. Memory and fabric (R391–R411): decoded addresses, decode errors, bank power, scrubbing,
poison, the secure bank and the Rambler. -/

namespace Sys2Proof.Machine

/-- The state with the memory unit rewritten. -/
def State.modMem (s : State) (f : MemSt → MemSt) : State := { s with memx := f s.memx }

/-! ### The address space (R391, R393) -/

/-- Whether an internal address is decoded (R391). -/
def State.decoded (s : State) (a : Nat) : Bool :=
  let core := (a - 0x20000000) / 0x100000
  let off := (a - 0x20000000) % 0x100000
  decide (a < 0xE040000)
  || (decide (0x20000000 ≤ a ∧ core < 48) && (decide (off < 0x20000) || decide (0x40000 ≤ off ∧ off < 0xC0000)))
  || decide (0x40000000 ≤ a ∧ a < 0x41000000)
  || decide (0x100000000 ≤ a ∧ a < 0x100000000 + s.ddrBytes)

/-- Whether every byte of a range is decoded: its ends and, over at most one hole, every megabyte. -/
def State.decodedRange (s : State) (a n : Nat) : Bool :=
  n == 0 || (s.decoded a && s.decoded (a + n - 1)
    && (decide (a + n ≤ 0xE040000) || decide (0x40000000 ≤ a ∧ a + n ≤ 0x41000000) || decide (0x100000000 ≤ a)
      || (decide (0x20000000 ≤ a ∧ a + n ≤ 0x23000000) && a / 0x100000 == (a + n - 1) / 0x100000
        && (decide (a % 0x100000 < 0x20000) == decide ((a + n - 1) % 0x100000 < 0x20000)))))

/-- DECODE_ERROR: the access never completes and its master hangs; the first since `MTX_DECERR` was
cleared is recorded with event 59, every one counted (R393). An access of a hung master waits. -/
def decodeErrorOp (m : Nat) (a : Nat) (s : State) : State :=
  if s.decoded a || s.memx.hung.contains m then s
  else
    let s := (s.incField F.MTX_DECERR_COUNT).modMem fun x => { x with hung := x.hung ++ [m] }
    if s.on F.MTX_DECERR_VALID then s
    else
      let s := (s.put F.MTX_DECERR_VALID 1).put F.MTX_DECERR_MASTER m
      (((s.setReg R.MTX_DECADDRL (word a)).put F.MTX_DECADDRH_ADDR (a / 2 ^ 32)).raise 59)

/-! ### Bank power (R399, R400) -/

/-- The mode of a bank as commanded and its state. -/
def bankPwr (b : Nat) : FieldRef := ⟨R.MEM_BANKPWR, 2 * b + 1, 2 * b⟩
def bankSt (b : Nat) : FieldRef := ⟨R.MEM_BANKSTAT, 2 * b + 1, 2 * b⟩

/-- A bank clear: tags that wait for no further bank complete. -/
def zeroDone (b : Nat) (s : State) : State :=
  let left := s.memx.zeroing.map fun j => (j.1.filter (· != b), j.2)
  let s := s.modMem fun x => { x with zeroing := left.filter fun j => j.1 != [] }
  s.each (left.filter fun j => j.1 == []) fun j s => s.complete j.2 rcDone

/-- A bank's contents lost. -/
def bankLose (b : Nat) (s : State) : State :=
  let s := s.clearMem (b * 0x1000000) 0x1000000
  s.modMem fun x => { x with poison := x.poison.filter fun w => w / 0x1000000 != b }

/-- A bank moved to a mode: 0 on, 1 retention, 2 off. -/
def bankMode (b mode : Nat) (s : State) : State :=
  let st := s.get (bankSt b)
  match mode with
  | 1 => zeroDone b (s.put (bankSt b) 1)
  | 2 => zeroDone b (bankLose b (s.put (bankSt b) 2))
  | _ => if st = 2 then s.put (bankSt b) 3 else if st = 1 then s.put (bankSt b) 0 else s

/-- BANK_ZERO_DONE (R400). -/
def bankZeroDoneOp (b : Nat) (s : State) : State :=
  if s.get (bankSt b) = 3 then zeroDone b (s.put (bankSt b) 0) else s

/-- A write of MEM_BANKPWR, not checked; PWR5 ignores writes and 3 is applied as 0 (R399). -/
def bankPowerWriteOp (v : Word) (s : State) : State :=
  s.each ((List.range 14).filter (· != 5)) fun b s =>
    let p := bits v (2 * b + 1) (2 * b)
    let p := if p = 3 then 0 else p
    bankMode b p (s.put (bankPwr b) p)

/-- Whether the template, active or about to be swapped in, holds an item whose affinity admits a
cluster. -/
def State.clusterUsed (s : State) (c : Nat) : Bool :=
  let uses (w : Nat → Nat → Word) (h : Nat) : Bool :=
    bits (w h 0) 29 28 == 0 && (let m := bits (w h 1) 5 0; m == 0 || bits (w h 1) 15 8 == 0 || m / 2 ^ c % 2 == 1)
  (s.template.any (uses s.descWord))
  || (s.on F.DISP_STAT_TSWPEND && (s.disp.nextRoles.map (·.1)).any (uses fun h w => kgetD s.disp.nextDesc (16 * h + w) 0))

/-- Whether a bank is in use (R399). -/
def State.bankUsed (s : State) (b : Nat) : Bool :=
  match b with
  | 0 => s.eng.running
  | 1 => s.eng.running
  | 2 => s.on F.NET_CTL_EN || s.on (F.T1S_CFG_EN 0) || s.on (F.T1S_CFG_EN 1)
  | 3 => (List.range 32).any fun p => s.on (F.TDM_CFG_EN p)
  | 4 => s.on F.TND_CTL_EN
  | 5 => true
  | 6 => decide (0 < s.hamperCount)
  | 13 => s.mods.msgs != []
  | n => s.clusterUsed (n - 7)

/-- SET_BANK_POWER (R385, R399, R400, R455). -/
def setBankPowerBody (c : Cmd) (s : State) : State × Rep :=
  let mask := (List.range 14).filter fun b => bit (cw c 1) b
  if bit (cw c 1) 31 then (s.put F.PWR_BANKSLP_RET (bits (cw c 1 ||| 0x20#32) 13 0), .rc rcDone)
  else
    let mode := if bits (cw c 2) 1 0 = 3 then 0 else bits (cw c 2) 1 0
    let on (b : Nat) : Bool := s.get (bankSt b) == 0 || s.get (bankSt b) == 3
    if mode ≠ 0 ∧ (mask.any fun b => on b && s.bankUsed b) = true then (s, .rc rcRefused)
    else
      let s := s.each (mask.filter (· != 5)) fun b s => bankMode b mode (s.put (bankPwr b) mode)
      match mask.filter fun b => s.get (bankSt b) == 3 with
      | [] => (s, .rc rcDone)
      | bs => (s.modMem fun x => { x with zeroing := x.zeroing ++ [(bs, some (s.tokOf c 0x0203))] }, .rc rcScheduled)

/-! ### Errors and poison (R402–R404, R410) -/

/-- A poisoned read logged: the first since the log was cleared is recorded; every one raises event 60 (DEDUCED, assumption 65). -/
def poisonLog (m a : Nat) (s : State) : State :=
  let s := s.when (!s.on F.MEM_ECCLOG0_VALID) fun s =>
    let s := (s.put F.MEM_ECCLOG0_VALID 1).put F.MEM_ECCLOG0_MASTER m
    (s.setReg R.MEM_ECCLOG1 (word a)).put F.MEM_ECCLOG2_ADDR (a / 2 ^ 32)
  s.raise 60

/-- A word found uncorrectable: poisoned and counted once, in the counter its address belongs to. -/
def poisonAdd (a : Nat) (s : State) : State :=
  let w := a / 8 * 8
  if s.memx.poison.contains w then s
  else
    let s := s.modMem fun x => { x with poison := x.poison ++ [w] }
    if a < 0xF000000 then s.incField (F.MEM_ECCCNT_UNC (a / 0x1000000))
    else if 0x100000000 ≤ a then s.incField F.DDR_ECC_UNC else s

/-- A counter field advanced by `n`, stopping at its largest value. -/
def addField (f : FieldRef) (n : Nat) (s : State) : State :=
  s.put f (min (2 ^ (f.hi + 1 - f.lo) - 1) (s.get f + n))

/-- Uncorrectable words a scrubber found; it has no master ID, so the ID logged is a free value (DESIGN CHOICE, assumption 37). -/
def scrubBad (bad : List Nat) (s : State) : State :=
  s.each bad fun a s => (poisonLog (Config.undefNat s.free % 64) a (poisonAdd a s)).fresh

/-- The core whose local memory holds an address, and whether that is its instruction memory (R391). -/
def coreHolds (a : Nat) : Option (Nat × Bool) :=
  if 0x20000000 ≤ a ∧ a < 0x23000000 ∧ (a % 0x100000 < 0x20000 ∨ (0x40000 ≤ a % 0x100000 ∧ a % 0x100000 < 0xC0000))
  then some ((a - 0x20000000) / 0x100000, decide (a % 0x100000 < 0x20000)) else none

/-- A single-bit error corrected in a core's local memory (R142, R402) (DEDUCED, assumption 65). -/
def coreFixed (a : Nat) (s : State) : State :=
  match coreHolds a with
  | some (k, true) => s.incField (F.CLU_ECC_ICOR (k / 8) (k % 8))
  | some (k, false) => s.incField (F.CLU_ECC_DCOR (k / 8) (k % 8))
  | none => s

/-- SCRUB_LINE: one line of bank `t` (14: BKS), while scrubbing is enabled and the bank is powered; with it
the core-local words found bad and those, `fixed`, corrected since (R142, R403). -/
def scrubLineOp (t corrected : Nat) (bad fixed : List Nat) (s : State) : State :=
  if !s.on F.MEM_SCRUB_EN then s
  else
    let lo := t * 0x1000000
    let hi := lo + (if t = 14 then 0x40000 else 0x1000000)
    let s := s.each fixed coreFixed
    let s := scrubBad (bad.filter fun a => (coreHolds a).isSome) s
    if 2 ≤ s.bankState lo then s
    else scrubBad (bad.filter fun a => decide (lo ≤ a ∧ a < hi)) (addField (F.MEM_ECCCNT_COR t) corrected s)

/-- DDR_PATROL_SCRUB: with inline ECC in force (R410, R411). -/
def ddrScrubOp (corrected : Nat) (bad : List Nat) (s : State) : State :=
  if !s.on F.MEM_SCRUB_EN || !s.on F.DDR_CFG_ECCEN || s.get F.DDR_CFG_DENS == 0 then s
  else scrubBad (bad.filter fun a => decide (0x100000000 ≤ a ∧ a < 0x100000000 + s.ddrBytes)) (addField F.DDR_ECC_COR corrected s)

/-- POISON_READ: a read by master `m` returned poisoned data; a DMA channel stops with an error. -/
def poisonReadOp (m a : Nat) (s : State) : State :=
  let s := poisonLog m a (poisonAdd a s)
  if 0x20 ≤ m ∧ m < 0x24 ∧ s.memx.dmaErr.contains (m - 0x20) = false then
    s.modMem fun x => { x with dmaErr := x.dmaErr ++ [m - 0x20] }
  else s

/-! ### The secure bank (R405, R406) -/

/-- Whether an address lies in BKS. -/
def inBks (a : Nat) : Bool := decide (0xE000000 ≤ a ∧ a < 0xE040000)

/-- Whether BKS accepts accesses of a master: the control cores, and Debug in BLANK and FACTORY. -/
def State.bksAdmits (s : State) (m : Nat) : Bool := (decide (8 ≤ m ∧ m < 12)) || (m == 0x2F && decide (s.sec.otp.lc < 2))

/-- A refused access to BKS recorded. -/
def bksViolation (m : Nat) (s : State) : State := (s.put F.MEM_SECSTAT_VIOL 1).put F.MEM_SECSTAT_VMASTER m

/-- Bytes stored by a master: into BKS only if admitted, and not while a wipe runs or BKS is held at zero (DESIGN CHOICE, assumption 81). -/
def memStore (m a : Nat) (vs : List Byte) (s : State) : State :=
  if inBks a then
    if !s.bksAdmits m then bksViolation m s
    else if s.on F.MEM_SECSTAT_WIPING || s.on F.MEM_SECSTAT_HELD then s
    else s.setBytes a vs
  else s.setBytes a vs

/-- The sample buffers of the stage jobs in BK0, whose contents no other master finds defined (R130). -/
def inBuffers (a : Nat) : Bool := decide (0x600000 ≤ a ∧ a < 0x800000)

/-- The bytes a master finds from an address on, free values in the sample buffers (R130), and the state that leaves. -/
def State.found (s : State) (a n : Nat) : List Byte :=
  (List.range n).map fun i => if inBuffers (a + i) then BitVec.ofNat 8 (Config.undefNat (s.free + i)) else s.byte (a + i)
def State.foundAt (s : State) (a n : Nat) : State :=
  if inBuffers a || inBuffers (a + n - 1) then { s with free := s.free + n } else s

/-- Bytes loaded by a master, with the state the access leaves (DESIGN CHOICE, assumption 81). -/
def memLoad (m a n : Nat) (s : State) : State × List Byte :=
  if inBks a && !s.bksAdmits m then (bksViolation m s, List.replicate n 0)
  else ((s.touch a).foundAt a n, s.found a n)

/-! ### The Rambler (R407–R409) -/

/-- A write of MEM_RAMCFG, also by RAMBLER_CFG: setting EN begins a pass at row 0 of the first bank. -/
def ramblerWrite (v : Word) (s : State) : State :=
  let was := s.on F.MEM_RAMCFG_EN
  let s := s.setReg R.MEM_RAMCFG (word (bits v 31 30 * 2 ^ 30 + clampNat 1 1000 (bits v 25 16) * 2 ^ 16 + bits v 13 0))
  s.when (!was && bit v 31) fun s => s.modMem fun x => { x with ramNext := 0 }

/-- The next region at or after a position, over the banks of the mask that are on. -/
def State.ramRegion (s : State) (pos : Nat) : Option Nat :=
  let ok (b : Nat) : Bool := s.bitAt R.MEM_RAMCFG b && s.get (bankSt b) == 0
  if pos / 65536 < 14 ∧ ok (pos / 65536) = true then some pos
  else ((List.range 14).find? fun b => decide (pos / 65536 < b) && ok b).map (· * 65536)

/-- Whether the Rambler runs: enabled and not stopped by a sleep entry. -/
def State.ramRuns (s : State) : Bool := s.on F.MEM_RAMCFG_EN && !(s.pwr.sleep.any fun r => decide (3 ≤ r.step)) && !s.asleep

/-- RAMBLER_REGION: one row tested, its contents unchanged; a failed row takes a spare of its bank, or
stays in use (R408) (DEDUCED, assumption 38). -/
def ramblerRegionOp (failed : Bool) (s : State) : State :=
  match if s.ramRuns then s.ramRegion s.memx.ramNext else none with
  | none => s
  | some pos =>
    let b := pos / 65536
    let s := (s.put F.MEM_RAMSTAT_BANK b).put F.MEM_RAMPOS_ROW (pos % 65536)
    let s := s.modMem fun x => { x with ramNext := pos + 1 }
    if !failed then s
    else if s.get (F.MEM_REPAIR_USED b) < 64 then (s.incField (F.MEM_REPAIR_USED b)).raise 61
    else
      let s := if s.memx.ramBad.contains pos then s
        else (s.incField (F.MEM_REPAIR_FAILED b)).modMem fun x => { x with ramBad := x.ramBad ++ [pos] }
      let told (r : NightRun) : NightRun := { r with noSpare := true }
      let s := { s with night := { s.night with run := s.night.run.map told } }
      (s.put F.MEM_RAMSTAT_NOSPARE 1).raise 61

/-- The end of a pass once no region is left: another begins, or ONEPASS ends (R409). Answers whether it
ended. -/
def ramblerPassEndOp (s : State) : State × Bool :=
  if s.ramRuns && (s.ramRegion s.memx.ramNext).isNone then
    let s := (s.incField F.MEM_RAMSTAT_PASSES).modMem fun x => { x with ramNext := 0 }
    (if s.on F.MEM_RAMCFG_ONEPASS then (s.put F.MEM_RAMCFG_EN 0).put F.MEM_RAMSTAT_DONE 1 else s, true)
  else (s, false)

/-- RAMBLER_CFG (R409, R466). -/
def ramblerCfgBody (c : Cmd) (s : State) : State × Rep := (ramblerWrite (cw c 1) s, .rc rcDone)

/-! ### The commands -/

/-- SET_BANK_POWER (R399, R400, R455). -/
def execSetBankPower (c : Cmd) (s : State) : Host.Outcome State Fault Refusal :=
  .next (silwen 0x0203 2 false setBankPowerBody c s)
/-- BANK_ZERO_DONE (R400). -/
def execBankZeroDone (b : Fin 14) (s : State) : Host.Outcome State Fault Refusal := .next (bankZeroDoneOp b s)
/-- BANK_POWER_WRITE (R399, R400). -/
def execBankPowerWrite (m : Master) (v : Word) (s : State) : Host.Outcome State Fault Refusal :=
  .next (s.viaPort m (bankPowerWriteOp v))
/-- SCRUB_LINE (R402, R403). -/
def execScrubLine (t : Fin 15) (corrected : Nat) (words : ScrubWords) (s : State) : Host.Outcome State Fault Refusal :=
  .next (scrubLineOp t corrected (words.bad.map (·.toNat)) (words.fixed.map (·.toNat)) s)
/-- DDR_PATROL_SCRUB (R410). -/
def execDdrPatrolScrub (corrected : Nat) (bad : List (BitVec 40)) (s : State) : Host.Outcome State Fault Refusal :=
  .next (ddrScrubOp corrected (bad.map (·.toNat)) s)
/-- RAMBLER_REGION (R407, R408). -/
def execRamblerRegion (failed : Bool) (s : State) : Host.Outcome State Fault Refusal := .next (ramblerRegionOp failed s)
/-- RAMBLER_ENABLE (R409). -/
def execRamblerEnable (v : Word) (s : State) : Host.Outcome State Fault Refusal := .next (ramblerWrite v s)
/-- RAMBLER_CFG (R409, R466). -/
def execRamblerCfg (c : Cmd) (s : State) : Host.Outcome State Fault Refusal := .next (silwen 0x0C00 1 false ramblerCfgBody c s)
/-- DECODE_ERROR (R393). -/
def execDecodeError (m : Master) (addr : BitVec 40) (s : State) : Host.Outcome State Fault Refusal :=
  .next (decodeErrorOp m.toNat addr.toNat s)

end Sys2Proof.Machine
end

