-- ==== Sys2Proof/Machine/Faults.lean ====
section
/-! DEFINITION. Faults and their containment (R412–R420), the events of the supervision (R421–R425), the
fault log's command, and the restart of a core (R182). -/

namespace Sys2Proof.Machine

/-- The state with fault handling rewritten. -/
def State.modFlt (s : State) (f : FaultSt → FaultSt) : State := { s with flt := f s.flt }

/-! ### Units and causes (R413, R414) -/

/-- The code of a unit in a record, the number of its instances and its highest level. -/
def unitCode : UnitKind → Nat
  | .core => 0 | .cluster => 1 | .summing => 2 | .patch => 3 | .tdm => 4 | .amp => 5 | .net => 6
  | .tandem => 7 | .engine => 8
def unitCount : UnitKind → Nat
  | .core => 48 | .cluster => 6 | .tdm => 32 | .amp => 32 | .net => 4 | _ => 1
def unitHighest : UnitKind → Nat
  | .summing => 4 | .patch => 4 | .engine => 4 | _ => 3

/-- The first level of a cause in a unit; none where the cause is not one of that unit's. -/
def firstLevel (cause : Nat) (u : UnitKind) : Option Nat :=
  match cause, u with
  | 1, .core => some 1
  | 1, .summing => some 1
  | 2, .core => some 2
  | 3, .cluster => some 2
  | 4, .summing => some 2
  | 4, .patch => some 2
  | 4, .tdm => some 2
  | 4, .net => some 2
  | 4, .tandem => some 2
  | 5, .tdm => some 3
  | 6, .net => some 3
  | 7, .amp => some 3
  | 8, .amp => some 3
  | 9, .amp => some 3
  | 10, .tandem => some 3
  | 11, .engine => some 4
  | _, _ => none

/-! ### Reactions (R182, R413) -/

/-- A restart of core `k`: the running item is discarded and missed, the pipeline emptied; a restart by
fault handling is complete with it (R182). -/
def coreRestartOp (k : Nat) (s : State) : State :=
  let s := coreItemMissed k s
  let c := s.core k
  let c := { c with
    pend := [], stores := [], ctl := .none, fault := none, after := none, setup := 0, inBundle := false
    running := false, ended := true, faulted := false, handler := none, pendAbort := false, pendUrgent := none
    pendDebug := none }
  let s := (s.setCore k c).setBit (R.CLU_STAT (k / 8)) (8 + k % 8) false
  if (kget s.flt.units (unitKey 0 k)).any fun u => u.level == 2 then s.unitDone 0 k else s

/-- A core removed from dispatch until the next engine start. -/
def coreIsolate (k : Nat) (s : State) : State :=
  let s := coreRestartOp k s
  s.setCore k { s.core k with removed := true }

/-- Every multiplexer's output held for the round in process, and what runs on it delayed by that round. -/
def patchReset (s : State) : State :=
  let b := s.procBase
  let n := s.roundLen
  let t := { s with sig := { s.sig with cur := s.sig.prev, prev := [] } }
  let vals := ((List.range 4608).filter sinkExists).foldl (fun m k =>
    let v := t.sinkSample k (b - 1) (n - 1)
    if v = 0 then m else kset m k v) ([] : KMap Int)
  let late (f : Fade) : Fade := { f with start := f.start + n }
  let s := s.modPath fun p => { p with
    mux := p.mux.map fun x => (x.1, { x.2 with old := x.2.old.map fun o => (o.1, late o.2) })
    sel := p.sel.map fun x => (x.1, { x.2 with fade := x.2.fade.map fun f => (late f.1, f.2) })
    patches := p.patches.map fun x => (x.1, { x.2 with fade := late x.2.fade }) }
  { s with sig := { s.sig with hold := some (b, vals) } }

/-- The reaction of a unit at a level of R413. Restarts of a cluster, the summing engine and the patch unit
end at the next round tick; a core's at once; a tandem's, whose lanes are lost while the link trains, when a lane returns. A cluster's restart resets its master (R105). -/
def react (u : UnitKind) (i lv : Nat) (s : State) : State :=
  if lv = 4 then failSilentOp s
  else match u, lv with
  | .core, 2 => coreRestartOp i s
  | .core, 3 => coreIsolate i s
  | .cluster, 2 => masterResetOp (0x10 + i) (s.each (List.range 8) fun k s => coreRestartOp (8 * i + k) s)
  | .cluster, 3 => s.each (List.range 8) fun k s => coreIsolate (8 * i + k) s
  | .summing, 2 =>
    match s.disp.items.find? fun p => p.2.st == .running && dKind p.2.desc != 0 && dKind p.2.desc != 3 with
    | some (h, _) => missItem h false s
    | none => s
  | .patch, 2 => patchReset s
  | .tdm, 2 => (if s.tdmState i = 0 then s else tdmAcquire i s).unitDone 4 i
  | .tdm, 3 => if s.tdmState i = 1 ∨ s.tdmState i = 2 then tdmLose i s else s
  | .net, 2 =>
    let s := s.each (s.queue i) fun f s => egressDone f.id s
    (s.modNet fun n => { n with queues := kdel n.queues i }).unitDone 6 i
  | .net, 3 => linkDownOp i s
  | .tandem, _ => s.each (List.range 4) fun l s => laneLossOp l s
  | .amp, 3 => if s.ampState i = 3 ∨ s.ampState i = 6 then s else ampWatch (s.pairOf i) (setAmpState i 6) s
  | _, _ => s

/-! ### Handling (R415–R417) -/

/-- The level, ESC and CAPPED of a fault in a unit: several causes of one round are one fault at the highest
level; a new fault in a unit in handling rises by one; the limits of R413 and R417 (DEDUCED, assumption 17). -/
def State.faultLevel (s : State) (u : UnitKind) (i first : Nat) : Nat × Bool × Bool :=
  let old := kget s.flt.units (unitKey (unitCode u) i)
  let raw := match old with
    | none => first
    | some h => if h.round = s.roundAt s.mti then max h.level first else max (h.level + 1) first
  let was := (old.map UnitH.level).getD 0
  if u = .cluster ∧ 3 ≤ raw ∧ s.on F.TND_CTL_EN = true ∧ s.standby = false ∧ s.get F.TND_STAT_PEER = 5 then
    (4, true, false)
  else
    let cap := min raw (unitHighest u)
    let lv := if (u = .summing ∨ u = .patch) ∧ cap = 3 then 4 else cap
    let esc := match old with
      | none => false
      | some h => if h.round = s.roundAt s.mti then h.esc else decide (was < lv)
    (lv, esc, decide ((unitHighest u) < raw))

/-- Whether a core is in handling at L2 or above (DEDUCED, assumption 16). -/
def State.coreAtTwo (s : State) (k : Nat) : Bool := (kget s.flt.units (unitKey 0 k)).any fun h => decide (2 ≤ h.level)

/-- FAULT_DETECT: a cause in a unit handled at its level and recorded. Nothing follows once the engine is at
L4; while a cluster is handled at L2 or above its cores' faults are recorded only; the fourth core of a cluster
that reaches L2 is a fault of the cluster (cause 0x03) (DEDUCED, assumption 16; DEDUCED, assumption 17; DEDUCED, assumption 65). -/
def faultDetectOp (cause : Nat) (u : UnitKind) (i : Nat) (detail : Word) (s : State) : State :=
  match firstLevel cause u with
  | none => s
  | some first =>
    if s.flt.l4 || decide ((unitCount u) ≤ i) then s
    else
      let clu := if u = .core then kget s.flt.units (unitKey 1 (i / 8)) else none
      match clu.filter fun h => decide (2 ≤ h.level) with
      | some h => s.record cause 0 (h.level - 1) false false i detail
      | none =>
        let t := faultHandle cause u i detail first s
        if u = .core ∧ s.coreAtTwo i = false ∧ t.coreAtTwo i = true ∧ t.flt.l4 = false
            ∧ 4 ≤ ((List.range 8).filter fun k => t.coreAtTwo (i / 8 * 8 + k)).length then
          faultHandle 3 .cluster (i / 8) 0 2 t
        else t
where
  /-- A fault handled: the unit's entry, the record, the reaction, in a pair kept for the END record where it changes an
  output (R417), and FAULT_OUT. -/
  faultHandle (cause : Nat) (u : UnitKind) (i : Nat) (detail : Word) (first : Nat) (s : State) : State :=
    let l := s.faultLevel u i first
    let h : UnitH := ⟨l.1, l.1 == 1, 0, s.roundAt s.mti, l.2.1⟩
    let again := (kget s.flt.units (unitKey (unitCode u) i)).any fun o => o.level == l.1 && o.round == h.round
    let s := s.modFlt fun f => { f with
      units := kset f.units (unitKey (unitCode u) i) (if again then { h with done := (kget f.units (unitKey (unitCode u) i)).any (·.done) } else h) }
    let s := s.record cause (unitCode u) (l.1 - 1) l.2.1 l.2.2 i detail
    let s := s.when (u == .cluster) fun s => s.raise (48 + i)
    let s := s.when (s.on F.TND_CTL_EN && decide (l.1 = 2 ∨ l.1 = 3) && (u == .core || u == .cluster || u == .summing || u == .patch)) fun s =>
      s.modFlt fun f => { f with reacted := f.reacted ++ [(u, i, l.1)] }
    (if again then s else react u i l.1 s).foutSync

/-- ROUND_DEADLINE (R196, R197): the misses, each of an item that ran a fault of its core, each of a stage block
one of the summing engine, with its handle (R202, R414); an item that no core ran is a fault of none (DEDUCED,
assumption 79). -/
def roundDeadlineOp (s : State) : State :=
  if !s.disp.inRound || s.disp.deadline || !s.deadlineDue then s
  else
    let late := s.disp.items.filter fun p => p.2.st != .done && p.2.st != .missed
    (deadlineMiss s).each late fun p s =>
      if dKind p.2.desc = 1 ∨ dKind p.2.desc = 2 then faultDetectOp 1 .summing 0 (word p.1) s
      else if dKind p.2.desc = 0 ∧ p.2.st = .running ∧ p.2.core < 48 then faultDetectOp 1 .core p.2.core (word p.1) s
      else s

/-- Handling at a round tick: rounds run clean are counted, and the restarts that end between two rounds
end. -/
def faultTick (s : State) : State :=
  let s := s.modFlt fun f => { f with
    units := f.units.map fun x => (x.1, if x.2.done then { x.2 with clean := x.2.clean + 1 } else x.2) }
  s.each s.flt.units fun x s =>
    let u := x.1 / 65536
    if x.2.level = 2 ∧ (u = 1 ∨ u = 2 ∨ u = 3) then s.unitDone u (x.1 % 65536) else s

/-- FAULT_HANDLING_END: a unit that has run CLEAN rounds since its reaction was complete leaves handling
(R415). -/
def faultEndOp (u i : Nat) (s : State) : State :=
  match kget s.flt.units (unitKey u i) with
  | some h =>
    if h.done = true ∧ s.get F.EVT_FLTCFG_CLEAN ≤ h.clean then
      (s.modFlt fun f => { f with units := kdel f.units (unitKey u i) }).foutSync
    else s
  | none => s

/-- FAULT_OUT_STRETCH_END (R420). -/
def stretchEndOp (s : State) : State :=
  match s.flt.stretch with
  | some t =>
    if t + s.get F.EVT_FLTCFG_STRETCH * 1000000 * 2 ^ 32 ≤ s.time.dur then
      (s.modFlt fun f => { f with stretch := none }).foutSync
    else s
  | none => s

/-- The faults of the units that a command brought into the state of a cause of R414: ports whose clock is lost,
channels in SHORT or FAULT, a tandem link that is down (DEDUCED, assumption 16). -/
def tdmFault (old : State) (p : Nat) (s : State) : State :=
  if s.tdmState p = 3 ∧ old.tdmState p ≠ 3 then faultDetectOp 5 .tdm p 0 s else s
def ampFault (old : State) (cause st ch : Nat) (s : State) : State :=
  s.each ((s.pairOf ch).filter fun c => s.ampState c == st && old.ampState c != st) fun c s => faultDetectOp cause .amp c 0 s
def linkFault (old : State) (s : State) : State :=
  if s.tnd.lanes = 0 ∧ old.tnd.lanes ≠ 0 then faultDetectOp 10 .tandem 0 0 s else s

/-- The consequence of poisoned data for the unit of a reading master (R404, R414): the port of an engine whose buffer was
read is a free value (DEDUCED, assumption 16). -/
def poisonFault (m a : Nat) (s : State) : State :=
  match m with
  | 0x18 => faultDetectOp 11 .engine 0 (word a) s
  | 0x19 => faultDetectOp 4 .summing 0 (word a) s
  | 0x1A => faultDetectOp 4 .patch 0 (word a) s
  | 0x1B => faultDetectOp 4 .tdm (Config.undefNat s.free % 32) (word a) s.fresh
  | 0x1C => faultDetectOp 4 .net (Config.undefNat s.free % 4) (word a) s.fresh
  | 0x1D => faultDetectOp 4 .tandem 0 (word a) s
  | _ => s

/-- NET_LINK_DOWN: the loss of an external port's link is a fault of the port (R271). -/
def netLinkLost (p : Nat) (s : State) : State :=
  let was := s.on (F.NET_PSTAT_LINK p)
  (linkDownOp p s).when (decide (p < 2) && was) fun s => faultDetectOp 6 .net p 0 s

/-- TANDEM_END_RECORD with the active's reactions: those this chip has not made are made, one of its own that the active
did not make leaves it STALE (R417). -/
def endTake (r : EndRec) (s : State) : State :=
  if !s.follows || !r.ok then endRecordOp r s
  else
    let own := s.flt.reacted
    let s := s.each (r.reactions.filter fun x => !own.contains x) fun x s => react x.1 x.2.1 x.2.2 s
    let s := (s.modFlt fun f => { f with reacted := [] }).when (own.any fun x => !r.reactions.contains x) goStale
    endRecordOp r s

/-- T1S_CARRIER_LOST: a fault of the port, whose link is down (R414, R271) (DEDUCED, assumption 16). -/
def t1sCarrierOp (q : Nat) (s : State) : State :=
  if s.on (F.T1S_STAT_ACT q) then faultDetectOp 6 .net (2 + q) 0 s else s

/-! ### Events (R421–R425) -/

/-- EVT_SWSET: only control cores raise the events 224–255 (R425). -/
def swsetOp (m : Master) (v : Word) (s : State) : State :=
  if 8 ≤ m.toNat ∧ m.toNat < 12 then s.each ((List.range 32).filter fun i => bit v i) fun i s => s.raise (224 + i) else s

/-- A write-one-to-clear of EVT_PENDw, or of MBX_EVPENDw for a host; level sources keep their bits. -/
def pendClearOp (host : Bool) (w : Nat) (v : Word) (s : State) : State :=
  let a := if host then R.MBX_EVPEND w else R.EVT_PEND w
  s.setReg a (s.reg a &&& ~~~(v &&& ~~~(levelMask w)))

/-- GP_EVENT_EDGE (R421). -/
def gpEdgeOp (p : Nat) (s : State) : State := if s.bitAt R.EVT_GPEN p then s.raise (189 + p / 4) else s

/-- A route written: CC where the firmware writes it, DISP fixed for 184–187 (R423). -/
def routeWrite (e : Nat) (v : Word) (cc : Bool) (s : State) : State :=
  let d := if 184 ≤ e ∧ e < 188 then 1 else bits v 9 9
  let c := if cc then bits v 8 8 else s.get (F.EVT_ROUTE_CC e)
  s.setReg (R.EVT_ROUTE e) (word (bits v 7 0 + c * 2 ^ 8 + d * 2 ^ 9))

/-- A write to the EVT block. -/
def evtRegWrite (m : Master) (off : Nat) (v : Word) (s : State) : State :=
  if off < 0x400 then routeWrite (off / 4) v true s
  else if off < 0x420 then pendClearOp false ((off - 0x400) / 4) v s
  else if off = 0x420 then swsetOp m v s
  else if off = 0x440 then
    let fo := if bits v 13 12 = 3 then 1 else bits v 13 12
    ((s.setReg R.EVT_FLTCFG (word (max 1 (bits v 23 16) * 2 ^ 16 + fo * 2 ^ 12 + max 1 (bits v 11 0)))).foutSync)
  else s.writeReg (0x40020000 + off) v

/-- EVENT_ROUTE op 0. -/
def eventRouteSetBody (c : Cmd) (s : State) : State × Rep :=
  let first := bits (cw c 1) 15 8
  let es := ((List.range (bits (cw c 1) 23 16 + 1)).map (first + ·)).filter (· < 256)
  (s.each es fun e s => routeWrite e (cw c 2) false s, .rc rcDone)

/-- EVENT_ROUTE op 1. -/
def eventRouteClearBody (c : Cmd) (s : State) : State × Rep := (pendClearOp true (bits (cw c 1) 10 8) (cw c 2) s, .rc rcDone)

/-- FAULT_LOG_READ: the records from a sequence number on; GAP where the first of them has been
overwritten (R419) (DEDUCED, assumption 15). -/
def faultLogBody (c : Cmd) (s : State) : State × Rep :=
  let first := bits (cw c 1) 15 0
  let n := max 1 (bits (cw c 1) 19 16)
  let at' (r : Word × Word × Word × Word) : Nat := (bits r.1 15 0 + 65536 - first) % 65536
  let rs := (s.flt.log.filter fun r => decide (at' r < 32768)).take n
  let gap := (s.flt.log.head?).any fun r => decide (0 < at' r ∧ at' r < 32768)
  (s, .ok (word (rs.length + flag gap * 65536) :: rs.flatMap fun r => [r.1, r.2.1, r.2.2.1, r.2.2.2]))

/-! ### The commands -/

/-- FAULT_DETECT (R412–R417, R419). -/
def execFaultDetect (cause : BitVec 8) (u : UnitKind) (inst : BitVec 16) (detail : Word) (s : State) :
    Host.Outcome State Fault Refusal := .next (faultDetectOp cause.toNat u inst.toNat detail s)
/-- ROUND_DEADLINE (R197). -/
def execRoundDeadline (s : State) : Host.Outcome State Fault Refusal := .next (roundDeadlineOp s)
/-- FAULT_HANDLING_END (R415). -/
def execFaultHandlingEnd (u : UnitKind) (inst : BitVec 16) (s : State) : Host.Outcome State Fault Refusal :=
  .next (faultEndOp (unitCode u) inst.toNat s)
/-- FAULT_OUT_STRETCH_END (R420). -/
def execFaultOutStretchEnd (s : State) : Host.Outcome State Fault Refusal := .next (stretchEndOp s)
/-- TDM_FRAME (R236–R254). -/
def execTdmFrame (p : Fin 32) (f : TdmFrame) (s : State) : Host.Outcome State Fault Refusal :=
  .next (tdmFault s p (tdmFrameOp p f s))
/-- TDM_CLOCK_LOST (R254, R414). -/
def execTdmClockLost (p : Fin 32) (s : State) : Host.Outcome State Fault Refusal := .next (tdmFault s p (tdmClockLostOp p s))
/-- NET_LINK_DOWN (R271, R288, R414). -/
def execNetLinkDown (port : Fin 4) (s : State) : Host.Outcome State Fault Refusal := .next (netLinkLost port s)
/-- AMP_START_CHECK (R327, R414). -/
def execAmpStartCheck (ch : Fin 32) (toggled : Bool) (s : State) : Host.Outcome State Fault Refusal :=
  .next (ampFault s 8 6 ch (ampCheckOp ch toggled s))
/-- AMP_FBOPEN (R328, R414). -/
def execAmpFbopen (ch : Fin 32) (s : State) : Host.Outcome State Fault Refusal := .next (ampFault s 8 6 ch (ampFbopenOp ch s))
/-- AMP_LOOPERR (R324, R414). -/
def execAmpLooperr (ch : Fin 32) (s : State) : Host.Outcome State Fault Refusal := .next (ampFault s 9 6 ch (ampLooperrOp ch s))
/-- AMP_CURRENT_LIMIT (R333, R414). -/
def execAmpCurrentLimit (ch : Fin 32) (consecutive : Bool) (s : State) : Host.Outcome State Fault Refusal :=
  .next (ampFault s 7 3 ch (ampLimitOp ch consecutive s))
/-- TANDEM_LANE_LOSS (R371, R414). -/
def execTandemLaneLoss (lane : Fin 4) (s : State) : Host.Outcome State Fault Refusal := .next (linkFault s (laneLossOp lane s))
/-- TANDEM_END_RECORD (R361–R363, R417). -/
def execTandemEndRecord (r : EndRec) (s : State) : Host.Outcome State Fault Refusal := .next (endTake r s)
/-- POISON_READ (R404, R414). -/
def execPoisonRead (m : Master) (addr : BitVec 40) (s : State) : Host.Outcome State Fault Refusal :=
  .next (poisonFault m.toNat addr.toNat (poisonReadOp m.toNat addr.toNat s))
/-- T1S_CARRIER_LOST (R414). -/
def execT1sCarrierLost (q : Fin 2) (s : State) : Host.Outcome State Fault Refusal := .next (t1sCarrierOp q s)
/-- EVT_SWSET (R425). -/
def execEvtSwset (m : Master) (v : Word) (s : State) : Host.Outcome State Fault Refusal := .next (s.viaPort m (swsetOp m v))
/-- EVT_PEND_CLEAR (R422). -/
def execEvtPendClear (host : Bool) (w : Fin 8) (v : Word) (s : State) : Host.Outcome State Fault Refusal :=
  .next (pendClearOp host w v s)
/-- GP_EVENT_EDGE (R421). -/
def execGpEventEdge (p : Fin 32) (s : State) : Host.Outcome State Fault Refusal := .next (gpEdgeOp p s)
/-- EVENT_ROUTE op 0 (R423, R466). -/
def execEventRouteSet (c : Cmd) (s : State) : Host.Outcome State Fault Refusal :=
  .next (silwen 0x0D00 2 false eventRouteSetBody c s)
/-- EVENT_ROUTE op 1 (R424, R466). -/
def execEventRouteClear (c : Cmd) (s : State) : Host.Outcome State Fault Refusal :=
  .next (silwen 0x0D00 2 false eventRouteClearBody c s)
/-- FAULT_LOG_READ (R419, R466). -/
def execFaultLogRead (c : Cmd) (s : State) : Host.Outcome State Fault Refusal := .next (silwen 0x0D01 1 false faultLogBody c s)
/-- CORE_RESTART (R182). -/
def execCoreRestart (k : Fin 48) (s : State) : Host.Outcome State Fault Refusal := .next (coreRestartOp k s)

end Sys2Proof.Machine
end

