-- ==== Sys2Proof/Machine/Night.lean ====
section
/-! DEFINITION. The performance counters (R426–R430) and the nightly quiet test (R431–R434). -/

namespace Sys2Proof.Machine

/-! ### Counters (R426–R430) -/

/-- The state with the counter reader rewritten. -/
def State.modCnt (s : State) (f : CntSt → CntSt) : State := { s with cnt := f s.cnt }

/-- The register of a counter (R426); none for a reserved ID (DEDUCED, assumption 48). -/
def counterReg (id : Nat) : Option Nat :=
  if id < 48 then some (R.CLU_ISSUE (id / 8) (id % 8))
  else if id < 96 then some (R.CLU_STALL ((id - 48) / 8) ((id - 48) % 8))
  else if id < 1120 then some (R.MEM_CONF ((id - 96) / 64) ((id - 96) % 64))
  else if id < 1632 then some (R.SUM_BSAT (id - 1120))
  else if id < 1888 then some (R.SUM_MSAT (id - 1632))
  else if id = 1888 then some R.DISP_ROUNDS
  else if id = 1889 then some R.DISP_MISSRND
  else if id = 1890 then some R.DISP_MISSITEM
  else if id < 1901 then some (R.NET_DROPPTP + 4 * (id - 1891))
  else if id < 2093 then some (R.TDM_RXURUN ((id - 1901) / 6) + 4 * ((id - 1901) % 6))
  else if id < 2189 then some (R.AMP_SHORTS ((id - 2093) / 3) + 4 * ((id - 2093) % 3))
  else if id < 2957 then some (R.NET_RXURUN ((id - 2189) / 3) + 4 * ((id - 2189) % 3))
  else if id = 2957 then some R.TND_DIGCNT
  else if id = 2958 then some R.TND_RECCNT
  else if id = 2959 then some R.TND_TAKEOVERS
  else none

/-- The counters of kind C. -/
def chained (id : Nat) : Bool := decide (id < 1120) || id == 1888

/-- The 64-bit value of a counter: the high word of a chained one, and the hardware count (R427) (DEDUCED, assumption 48). -/
def State.counter (s : State) (id : Nat) : Nat :=
  match counterReg id with
  | some a => (s.reg a).toNat + (if chained id then kgetD s.cnt.high id 0 * 2 ^ 32 else 0)
  | none => 0

/-- Whether the reader issues: not after abort point A of a sleep entry, and not asleep (R381). -/
def State.readerRuns (s : State) : Bool := !(s.pwr.sleep.any fun r => decide (3 ≤ r.step)) && !s.asleep

/-- COUNTER_SWEEP: a value lower than the one read before advances the high word. -/
def counterSweepOp (s : State) : State :=
  if !s.on F.CNT_CFG_EN || !s.readerRuns then s
  else s.each (1888 :: List.range 1120) fun id s =>
    let v := s.reg ((counterReg id).getD 0)
    let s := s.when (decide (v.toNat < (kgetD s.cnt.prev id 0).toNat)) fun s =>
      s.modCnt fun c => { c with high := kset c.high id (kgetD c.high id 0 + 1) }
    s.modCnt fun c => { c with prev := ksetD c.prev id v 0 }

/-- A single read (R428) (DEDUCED, assumption 48). -/
def cntReadOp (id : Nat) (s : State) : State :=
  let s := (s.put F.CNT_RD_ID id).put F.CNT_RD_BUSY 0
  let v := s.counter id
  ((s.setReg R.CNT_RDLO (word v)).setReg R.CNT_RDHI (word (v / 2 ^ 32))).setReg R.CNT_RDMTI s.mtil

/-- The IDs of a dump in ascending order across the ranges in force. -/
def State.dumpIds (s : State) : List Nat :=
  (List.range 8).flatMap fun i => (List.range (s.get (F.CNT_DRANGE_COUNT i))).map (s.get (F.CNT_DRANGE_FIRST i) + ·)

/-- The size of a half of the buffer, and the address in BK6 of half `h` (R429). -/
def dumpSize (n : Nat) : Nat := (16 + 8 * n + 63) / 64 * 64
def State.dumpBase (s : State) (n h : Nat) : Nat :=
  0x6000000 + min (s.get F.CNT_DBASE_OFS * 64) (0x1000000 - 2 * dumpSize n) + h * dumpSize n

/-- COUNTER_DUMP_LATCH at a dump Stile: every counter latched and COMPLETE cleared, or the dump skipped. -/
def dumpLatchOp (s : State) : State :=
  let k := s.roundAt s.mti
  if !s.on F.CNT_DCFG_EN || !s.readerRuns || k / s.roundLen % max 1 (s.get F.CNT_DCFG_P) != 0 then s
  else if s.cnt.dump.isSome then s.incField F.CNT_DSTAT_SKIP
  else
    let vals := s.dumpIds.map s.counter
    let b := s.dumpBase vals.length s.cnt.half
    let s := s.setMemWord (b + 12) (word (vals.length % 65536))
    s.modCnt fun c => { c with dump := some (c.seq, k, vals), seq := (c.seq + 1) % 2 ^ 32 }

/-- COUNTER_DUMP_DONE: the values and the header in place, COMPLETE last. -/
def dumpDoneOp (s : State) : State :=
  match s.cnt.dump with
  | some (seq, k, vals) =>
    let h := s.cnt.half
    let b := s.dumpBase vals.length h
    let s := s.setBytes (b + 16) (vals.flatMap (natBytes 8))
    let s := s.setBytes b (wordBytes (word seq) ++ natBytes 8 k)
    let s := s.setMemWord (b + 12) (word (vals.length % 65536 + 2 ^ 31))
    let s := s.modCnt fun c => { c with dump := none, half := 1 - c.half }
    (((s.put F.CNT_DSTAT_LAST h).put F.CNT_DSTAT_VALID 1).raise 55)
  | none => s

/-- A write to the CNT block: DCFG with EN applies the held fields (R9). -/
def cntRegWrite (off : Nat) (v : Word) (s : State) : State :=
  if off = 0x010 then
    let s := s.put F.CNT_RD_ID (bits v 11 0)
    s.when (bit v 31) (cntReadOp (bits v 11 0))
  else if off = 0x020 then
    let s := (s.put F.CNT_DCFG_EN (bits v 31 31)).hold R.CNT_DCFG (word (max 1 (bits v 15 0)))
    s.when (bit v 31) fun s =>
      let s := (s.applyHeld R.CNT_DCFG).applyHeld R.CNT_DBASE
      let s := (s.each (List.range 8) fun i s => s.applyHeld (R.CNT_DRANGE i)).put F.CNT_DSTAT_VALID 0
      s.put F.CNT_DBASE_OFS (min (s.get F.CNT_DBASE_OFS) ((0x1000000 - 2 * dumpSize s.dumpIds.length) / 64))
  else if 0x040 ≤ off ∧ off < 0x060 then
    let first := bits v 11 0
    s.hold (0x40060000 + off) (word (first + min (bits v 28 16) (4096 - first) * 2 ^ 16))
  else s.writeReg (0x40060000 + off) v

/-- COUNTER_DUMP_CFG (R466). -/
def counterDumpBody (c : Cmd) (s : State) : State × Rep :=
  if bit (cw c 1) 30 then
    let s := cntReadOp (bits (cw c 2) 11 0) s
    (s, .ok [s.reg R.CNT_RDLO, s.reg R.CNT_RDHI, s.reg R.CNT_RDMTI])
  else if c.words.length < 10 then (s, .rc rcMalformed)
  else
    let s := s.each (List.range 8) fun i s => cntRegWrite (0x040 + 4 * i) (cw c (3 + i)) s
    (cntRegWrite 0x020 (cw c 1) (cntRegWrite 0x024 (cw c 2) s), .rc rcDone)

/-! ### The nightly test (R431–R434) -/

/-- The state with the test rewritten. -/
def modNight (f : NightRun → NightRun) (s : State) : State := { s with night := { s.night with run := s.night.run.map f } }

/-- Whether a step has its result. -/
def StepRes.ended : StepRes → Bool
  | .pending => false
  | .running => false
  | _ => true

/-- The code of a result in the report. -/
def stepCode : StepRes → Nat
  | .pass => 0
  | .fail => 1
  | .aborted => 3
  | _ => 2

/-- PASS or FAIL. -/
def passFail (fail : Bool) : StepRes := if fail then .fail else .pass

/-- Whether the test's own sweep is scheduled or at work. -/
def State.ownSweep (s : State) : Bool :=
  s.supv.sweep.any (·.own) || s.supv.sched.any fun x => x.2.1.isSome && x.2.2.1.isNone

/-- Whether any valid point of the swept channels deviates by more than DEV of its channel (R434). -/
def State.sweepFails (s : State) (chs : List Nat) : Bool :=
  chs.any fun ch => (List.range 16).any fun i =>
    !s.on (F.SUPV_SWRES_INVALID ch i)
      && decide (10 * s.get (F.AMP_ZLIM_DEV ch) < (s16 (s.get (F.SUPV_SWRES_DEV ch i))).natAbs)

/-- Whether DRILL is skipped when it would start (R433). -/
def State.drillSkips (s : State) : Bool :=
  !s.on F.TND_CTL_EN || s.get F.TND_STAT_PEER != 5 || s.tnd.handover.isSome
    || ((List.range 256).any s.level7)
    || s.night.lastAlarm.any fun t => decide (s.time.dur < t + ms32 60000)

/-- SWEEP when its predecessor has ended. -/
def nightSweep (r : NightRun) (s : State) : State :=
  if r.sweep = .pending ∧ r.earth.ended = true then
    let s := s.modSupv fun v => { v with sched := v.sched ++ [(s.roundAt s.mti + s.roundLen, some r.cfg.chans, none, false)] }
    modNight (fun x => { x with sweep := .running }) s
  else if r.sweep = .running ∧ s.ownSweep = false then
    modNight (fun x => { x with sweep := passFail (s.sweepFails r.swept) }) s
  else s

/-- DRILL when every other step has ended, on the active (DEDUCED, assumption 49). -/
def nightDrill (r : NightRun) (s : State) : State :=
  if r.drill = .pending ∧ (r.ref.ended && r.earth.ended && r.sweep.ended && r.rambler.ended) = true ∧ s.standby = false then
    if s.drillSkips then modNight (fun x => { x with drill := .skipped }) s
    else match handoverStart 0 none s with
    | some (s, _) => modNight (fun x => { x with drill := .running, drills := 1 }) s
    | none => modNight (fun x => { x with drill := .skipped }) s
  else s

/-- What follows when a step may have ended (R432) (DEDUCED, assumption 49). -/
def nightStep (s : State) : State :=
  match s.night.run with
  | none => s
  | some r =>
    let s := nightSweep r s
    match s.night.run with
    | some r => nightDrill r s
    | none => s

/-- A step selected by a bit of the mask begins, waits or is skipped. -/
def stepInit (steps i : Nat) (go : StepRes) : StepRes := if steps / 2 ^ i % 2 = 1 then go else .skipped

/-- The Rambler's spare rows in use. -/
def State.sparesUsed (s : State) : Nat := ((List.range 14).map fun b => s.get (F.MEM_REPAIR_USED b)).sum

/-- NIGHT_TEST_START at the scheduled Stile; a start while a test runs is skipped (R431–R433). -/
def nightStartOp (s : State) : State :=
  match s.night.sched with
  | none => s
  | some cfg =>
    if s.mti < cfg.start then s
    else
      let next := if cfg.period = 0 then none
        else some { cfg with start := cfg.start + cfg.period * 3600 * s.fs, late := false }
      let s := { s with night := { s.night with sched := next } }
      if s.night.run.isSome then s
      else
        let r : NightRun := {
          cfg := cfg
          ref := stepInit cfg.steps 0 .running, earth := stepInit cfg.steps 1 .running
          sweep := stepInit cfg.steps 2 .pending, rambler := stepInit cfg.steps 3 .running
          drill := stepInit cfg.steps 4 .pending
          saved := s.reg R.MEM_RAMCFG, used := s.sparesUsed }
        let s := { s with night := { s.night with run := some r } }.raise 208
        let s := s.when (r.rambler == .running) fun s =>
          ramblerWrite (word (2 ^ 31 + 2 ^ 30 + s.get F.MEM_RAMCFG_REGINT * 2 ^ 16 + cfg.banks)) (s.put F.MEM_RAMCFG_EN 0)
        nightStep s

/-- REF: the fourth measurement ends it (R432). -/
def nightRef (s : State) : State :=
  let on (c : Nat) : Bool := s.get ⟨R.REFS_PRIO, 3 * c + 2, 3 * c⟩ != 0
  let bad := (List.range 5).any fun c => on c && !s.qualified c
  modNight (fun r => if r.ref = .running then
      (if 3 ≤ r.nref then { r with nref := 4, ref := passFail bad } else { r with nref := r.nref + 1 }) else r) s

/-- An average added to. -/
def addSum (m : KMap (Nat × Nat)) (k v : Nat) : KMap (Nat × Nat) :=
  let p := kgetD m k (0, 0)
  kset m k (p.1 + v, p.2 + 1)

/-- EARTH: intervals that began after S are averaged; the fourth ends it (R432). -/
def nightEarth (lines : List LineMeas) (groups : List GroupMeas) (s : State) : State :=
  let began (r : NightRun) : Bool := decide (r.cfg.start + s.get F.SUPV_MCFG_MINT * s.fs ≤ s.mti)
  modNight (fun r =>
    if r.earth = .running ∧ began r = true then
      let leak := lines.foldl (fun m x => addSum m x.ch.val (s.get (F.AMP_LEAK_RLEAK x.ch))) r.leak
      let ret := groups.foldl (fun m x => addSum m x.g.val (s.get (F.SUPV_EFSTAT_RETLEAK x.g))) r.ret
      let low (m : KMap (Nat × Nat)) : Bool := m.any fun x => decide (x.2.1 < 50 * x.2.2)
      let r : NightRun := { r with leak := leak, ret := ret, nint := r.nint + 1 }
      if 4 ≤ r.nint then { r with earth := passFail (low leak || low ret) } else r
    else r) s

/-- RAMBLER: the end of the pass, with the host's configuration restored (R432) (DEDUCED, assumption 49). -/
def nightRambler (s : State) : State :=
  match s.night.run with
  | some r =>
    if r.rambler = .running then
      let used := s.sparesUsed
      ramblerWrite r.saved (modNight (fun r => { r with rambler := passFail r.noSpare, used := used - r.used }) s)
    else s
  | none => s

/-- DRILL: a handover switched. On the chip that became active by the first, 10 s begin; the second ends
the step (R432). -/
def nightSwitch (old : State) (s : State) : State :=
  match s.night.run with
  | none => s
  | some r =>
    let left := old.tnd.handover.any fun h => h.tok.isNone && !h.done
    let gone := left && s.tnd.handover.isNone && s.standby
    let came := old.standby && !s.standby
    let n := if came && r.drills < 2 then r.drills + 1 else r.drills
    if (gone || came) && (r.drill == .running || (came && r.drill == .pending)) then
      if 2 ≤ n then modNight (fun r => { r with drill := .pass, drills := n }) s
      else modNight (fun r => { r with drill := .running, drills := n, drillAt := some s.time.dur }) s
    else s

/-- NIGHT_TEST_DRILL_RETURN: 10 s after the first, the second handover, sent by the active; a refusal ends
the step. -/
def drillReturnOp (s : State) : State :=
  match s.night.run with
  | some r =>
    if r.drill = .running ∧ r.drills = 1 ∧ s.standby = false ∧ (r.drillAt.any fun t => decide (t + ms32 10000 ≤ s.time.dur)) = true then
      match handoverStart 0 none s with
      | some (s, _) => modNight (fun r => { r with drills := 2 }) s
      | none => modNight (fun r => { r with drill := .pass, drills := 2 }) s
    else s
  | none => s

/-- The report of R434. -/
def nightReport (r : NightRun) : Word :=
  word (stepCode r.ref + stepCode r.earth * 2 ^ 2 + stepCode r.sweep * 2 ^ 4 + stepCode r.rambler * 2 ^ 6
    + stepCode r.drill * 2 ^ 8 + (if r.rambler = .skipped then 0 else min 255 r.used) * 2 ^ 16 + flag r.cfg.late * 2 ^ 24)

/-- The test closed: event 209, and on the active the report as notice 0x85. -/
def nightClose (r : NightRun) (s : State) : State :=
  let s := { s with night := { s.night with run := none } }
  let s := s.when (!s.standby) fun s => s.notice 0x85 0 (nightReport r)
  s.raise 209

/-- NIGHT_TEST_END: every step has ended, or the chip is a standby that follows the active. -/
def nightEndOp (s : State) : State :=
  let s := nightStep s
  match s.night.run with
  | some r =>
    if (r.ref.ended && r.earth.ended && r.sweep.ended && r.rambler.ended && r.drill.ended) || s.standby then nightClose r s
    else s
  | none => s

/-- The test at step 1 of a sleep entry: steps not ended are ABORTED and the report is written (R433). -/
def nightAbort (s : State) : State :=
  match s.night.run with
  | some r =>
    let cut (x : StepRes) : StepRes := if x.ended then x else .aborted
    let s := s.when (r.rambler == .running) (ramblerWrite r.saved)
    let s := s.modSupv fun v => { v with sched := v.sched.filter fun x => !(x.2.1.isSome && x.2.2.1.isNone) }
    let used := if r.rambler = .running then s.sparesUsed - r.used else r.used
    nightClose { r with ref := cut r.ref, earth := cut r.earth, sweep := cut r.sweep, rambler := cut r.rambler, drill := cut r.drill, used := used } s
  | none => s

/-- NIGHT_TEST_CFG (R431, R466). -/
def nightCfgBody (c : Cmd) (s : State) : State × Rep :=
  let start := wide (cw c 1) (cw c 2)
  let late := decide (start ≤ s.mti)
  let cfg : NightCfg := {
    start := if late then s.roundAt s.mti + s.roundLen else start
    period := min 168 (bits (cw c 3) 7 0), steps := bits (cw c 3) 12 8, chans := cw c 4
    banks := bits (cw c 5) 13 0, late := late, owner := Sender.key c.sender }
  ({ s with night := { s.night with sched := some cfg } }, .rc rcDone)

/-! ### The commands -/

/-- COUNTER_SWEEP (R427). -/
def execCounterSweep (s : State) : Host.Outcome State Fault Refusal := .next (counterSweepOp s)
/-- CNT_READ (R428). -/
def execCntRead (id : BitVec 12) (s : State) : Host.Outcome State Fault Refusal := .next (cntReadOp id.toNat s)
/-- COUNTER_DUMP_LATCH (R429). -/
def execCounterDumpLatch (s : State) : Host.Outcome State Fault Refusal := .next (dumpLatchOp s)
/-- COUNTER_DUMP_DONE (R429). -/
def execCounterDumpDone (s : State) : Host.Outcome State Fault Refusal := .next (dumpDoneOp s)
/-- COUNTER_DUMP_CFG (R429, R466). -/
def execCounterDumpCfg (c : Cmd) (s : State) : Host.Outcome State Fault Refusal :=
  .next (silwen 0x0D02 2 false counterDumpBody c s)
/-- NIGHT_TEST_CFG (R431, R466). -/
def execNightTestCfg (c : Cmd) (s : State) : Host.Outcome State Fault Refusal :=
  .next (silwen 0x0D03 5 false nightCfgBody c s)
/-- NIGHT_TEST_START (R431, R432). -/
def execNightTestStart (s : State) : Host.Outcome State Fault Refusal := .next (nightStartOp s)
/-- NIGHT_TEST_DRILL_RETURN (R432). -/
def execNightTestDrillReturn (s : State) : Host.Outcome State Fault Refusal := .next (drillReturnOp s)
/-- NIGHT_TEST_END (R434). -/
def execNightTestEnd (s : State) : Host.Outcome State Fault Refusal := .next (nightEndOp s)
/-- REF_MEASURE (R300, R301, R432). -/
def execRefMeasure (cands : List CandMeas) (s : State) : Host.Outcome State Fault Refusal :=
  .next (nightStep (nightRef (refMeasureOp cands s)))
/-- SUPV_INTERVAL (R337–R344, R432): nothing before MINT has passed since the last one. -/
def execSupvInterval (lines : List LineMeas) (groups : List GroupMeas) (s : State) : Host.Outcome State Fault Refusal :=
  .next (if s.intervalDue then nightStep (nightEarth lines groups (supvIntervalOp lines groups s)) else s)
/-- QUIET_SWEEP_END (R346, R432). -/
def execQuietSweepEnd (s : State) : Host.Outcome State Fault Refusal := .next (nightStep (sweepFinish s))
/-- RAMBLER_PASS_END (R409, R432). -/
def execRamblerPassEnd (s : State) : Host.Outcome State Fault Refusal :=
  .next (match ramblerPassEndOp s with
    | (s, true) => nightStep (nightRambler s)
    | (s, false) => s)
/-- HANDOVER_SWITCH (R367, R432). -/
def execHandoverSwitch (s : State) : Host.Outcome State Fault Refusal := .next (nightSwitch s (handoverSwitchOp s))

end Sys2Proof.Machine
end

