-- ==== Sys2Proof/Machine/Power.lean ====
section
/-! DEFINITION. Pace and sleep (R373–R390): requests, transitions, sleep entry with its abort points, the
sleep states, and the wake from retention sleep. -/

namespace Sys2Proof.Machine

/-- The state with the power unit rewritten. -/
def State.modPwr (s : State) (f : PowerSt → PowerSt) : State := { s with pwr := f s.pwr }

/-- The first time, in units of 2⁻³² ns, at which the MTI is `m`. -/
def State.timeOf (s : State) (m : Nat) : Nat := (m * (1000000000 * 2 ^ 32) + s.fs - 1) / s.fs

/-- The first MTI at or after a time in units of 2⁻³² ns. -/
def State.mtiFrom (s : State) (t : Nat) : Nat := (t * s.fs + 1000000000 * 2 ^ 32 - 1) / (1000000000 * 2 ^ 32)

/-- POWER_DONE with event 57 (R377, R387, R468). -/
def powerDone (s : State) : State :=
  (s.raise 57).notify 0x8007 [word (s.get F.PWR_STAT_STATE + s.get F.PWR_STAT_WCAUSE * 16)]

/-! ### Requests (R376, R378) -/

/-- The Pace a target is applied as (R376). -/
def State.appliedPace (s : State) (t : Nat) : Nat :=
  ((List.range (t + 1)).reverse.find? fun p => (s.put F.PWR_STAT_STATE p).admits).getD 0

/-- A sleep entry begun: Stile s, and the directions of ALARM_IN copied (R381, R386). -/
def sleepBegin (deep : Bool) (tok : Option Tok) (s : State) : State :=
  let r : SleepRun := { deep := deep, tok := tok, stile := s.roundFrom (s.mti + 4 * s.roundLen) }
  let dirs := (List.range 4).foldl (fun a n => a + 4 ^ n * s.get (F.EVT_ALCFG_EDGE n)) 0
  let s := s.modPwr fun p => { p with sleep := some r, woken := false, edges := dirs }
  (s.put F.PWR_STAT_BUSY 1).put F.PWR_STAT_TARGET (if deep then 5 else 4)

/-- The held request becomes current (R378). -/
def heldNext (s : State) : State :=
  match s.pwr.held with
  | none => s
  | some r =>
    let s := (s.modPwr fun p => { p with held := none }).put F.PWR_STAT_HELD 0
    match r with
    | .pace _ _ => s.modPwr fun p => { p with current := some r }
    | .sleep d tok => sleepBegin d tok s

/-- A request held, one deep: the one it replaces is superseded (R378). -/
def holdReq (r : PowReq) (s : State) : State :=
  let s := match s.pwr.held with
    | some (.pace _ tok) => s.complete tok rcSuperseded
    | some (.sleep _ tok) => s.complete tok rcSuperseded
    | none => s
  (s.modPwr fun p => { p with held := some r }).put F.PWR_STAT_HELD 1

/-- Whether a request is under way. -/
def State.powBusy (s : State) : Bool := s.pwr.current.isSome || s.pwr.trans.isSome || s.pwr.sleep.isSome

/-- SET_PACE (DEDUCED, assumption 40). -/
def setPaceBody (c : Cmd) (s : State) : State × Rep :=
  let t := min 3 (bits (cw c 1) 3 0)
  let r := PowReq.pace t (some (s.tokOf c 0x0200))
  if s.powBusy then (holdReq r s, .reply rcScheduled 0 [word (s.appliedPace t)])
  else if t = s.pace then (s, .ok [word t])
  else (s.modPwr fun p => { p with current := some r }, .reply rcScheduled 0 [word (s.appliedPace t)])

/-- Whether a bulk transfer of MSG_STORE or HAMPER_RAW is in progress. -/
def State.bulkRuns (s : State) : Bool :=
  s.box.any fun b => b.2.bulk.any fun c => c.2.code == 0x0C01 || c.2.code == 0x0F02

/-- SLEEP (R380). -/
def sleepBody (c : Cmd) (s : State) : State × Rep :=
  let deep := bit (cw c 1) 0
  let tok := some (s.tokOf c 0x0201)
  if s.on F.TND_CTL_EN || s.hamp.plans != [] || s.hamp.waiting != [] || s.bulkRuns then (s, .rc rcRefused)
  else if s.powBusy then (holdReq (.sleep deep tok) s, .rc rcScheduled)
  else (sleepBegin deep tok s, .rc rcScheduled)

/-- GET_POWER: the estimate of power is a free value (DESIGN CHOICE, assumption 86). -/
def getPowerBody (_c : Cmd) (s : State) : State × Rep :=
  (s.fresh, .ok [s.reg R.PWR_STAT, s.reg R.PWR_TEMP, Config.undefWord s.free, s.reg R.MEM_BANKSTAT])

/-! ### Transitions (R377) -/

/-- The current request's transition at a round-start Stile. A slower Pace is in force from here, a faster
one from the end (DEDUCED, assumption 40). -/
def paceStart (s : State) : State :=
  match s.pwr.current, s.pwr.trans with
  | some (.pace t tok), none =>
    let a := s.pace
    let b := s.appliedPace t
    let s := s.modPwr fun p => { p with current := none }
    if a = b then heldNext (s.complete tok rcDone)
    else
      let settle := s.get F.PWR_VCFG_VSETTLE * 10000 * 2 ^ 32
      let t0 := s.timeOf (s.roundAt s.mti)
      let endAt := if b < a then s.timeOf (s.roundFrom (s.mtiFrom (t0 + settle))) else t0 + settle
      let s := s.when (decide (a < b)) fun s => s.put F.PWR_STAT_STATE b
      let s := (s.put F.PWR_STAT_BUSY 1).put F.PWR_STAT_TARGET b
      s.modPwr fun p => { p with vsel := b, trans := some ⟨b, decide (a < b), s.time.durOf endAt, tok⟩ }
  | _, _ => s

/-- PACE_TRANSITION_END (DEDUCED, assumption 40). -/
def paceEndOp (s : State) : State :=
  match s.pwr.trans with
  | some r =>
    if r.endAt ≤ s.time.dur then
      let s := ((s.put F.PWR_STAT_STATE r.dest).put F.PWR_STAT_BUSY 0).modPwr fun p => { p with trans := none }
      heldNext (powerDone (s.complete r.tok rcDone))
    else s
  | none => s

/-! ### Sleep entry (R381–R383) -/

/-- The state with a step of the sleep entry rewritten. -/
def modSleep (f : SleepRun → SleepRun) (s : State) : State := s.modPwr fun p => { p with sleep := p.sleep.map f }

/-- Entry abandoned: the blocks restart, the template is released from the next round tick, sinks ramp up,
the channels start, the tag completes and the held request becomes current (R383) (DEDUCED, assumption 39). -/
def sleepAbandon (code value : Nat) (s : State) : State :=
  match s.pwr.sleep with
  | none => s
  | some r =>
    let s := s.modPwr fun p => { p with sleep := none, noRelease := false, woken := false }
    let s := (s.put F.PWR_STAT_BUSY 0).put F.DDR_STAT_SREF 0
    let s := s.when (decide (2 ≤ r.blocks)) tdmEngineStart
    let n := s.sampleAt (s.roundAt s.mti + s.roundLen)
    let s := s.modEng fun e => { e with down := none, up := some (n, s.samplesOf 1000) }
    let s := s.each r.amps fun ch s =>
      if s.ampState ch = 0 ∨ s.ampState ch = 6 then ampWatch (s.pairOf ch) (ampBegin ch) s
      else s.modAmp ch fun a => { a with stopDue := none }
    let s := if code = rcRefused then s.put F.PWR_SLPSTAT_BLKID value else s.put F.PWR_SLPSTAT_POINT value
    let s := s.complete r.tok code value
    heldNext (if s.get F.PWR_STAT_WCAUSE ≠ 0 ∧ code = rcAborted then s.raise 57 else s)

/-- An abort point reached: a wake that came before it abandons entry. -/
def abortPoint (value : Nat) (s : State) : State := if s.pwr.woken then sleepAbandon rcAborted value s else s

/-- SLEEP_RAMP_START at Stile s: sinks ramp to zero over 10 ms, channels in RUN or RETURN stop. -/
def sleepRampOp (s : State) : State :=
  match s.pwr.sleep with
  | some r =>
    if r.step = 0 ∧ r.stile ≤ s.mti then
      let n := s.sampleAt r.stile
      let chs := (List.range 32).filter fun c => s.ampState c == 2 || s.ampState c == 4
      let s := s.modEng fun e => { e with down := some (n, s.samplesOf 1000), up := none }
      let s := s.each chs fun c s => s.modAmp c fun a => { a with stopDue := some (n - 2 * s.roundLen) }
      nightAbort (modSleep (fun x => { x with step := 1, amps := chs }) s)
    else s
  | none => s

/-- SLEEP_RELEASE_STOP: no further template is released; abort point A. -/
def sleepReleaseOp (s : State) : State :=
  match s.pwr.sleep with
  | some r =>
    if r.step = 1 ∧ s.roundFrom (r.stile + s.samplesOf 1000) ≤ s.mti then
      abortPoint 1 ((modSleep (fun x => { x with step := 2 }) s).modPwr fun p => { p with noRelease := true })
    else s
  | none => s

/-- SLEEP_DRAIN_DONE: DMA, the counter reader and the Rambler have stopped; abort point B. -/
def sleepDrainOp (s : State) : State :=
  match s.pwr.sleep with
  | some r =>
    if r.step = 2 ∧ (s.disp.inRound = false ∨ s.disp.barrier = true) then
      abortPoint 2 (modSleep (fun x => { x with step := 3 }) s)
    else s
  | none => s

/-- The BLKID of a block of R382 that refuses to stop. -/
def State.blockRefuses (s : State) (i : Nat) : Option Nat :=
  match i with
  | 1 => if (List.range 32).any fun p => (s.port p).capOn && s.on (F.TDM_CAPCTL_STOP p) then some 0x30 else none
  | 2 => if (List.range 32).any fun c => s.ampState c != 0 && s.ampState c != 6 then some 0x50 else none
  | 3 => if s.supv.sweep.isSome then some 0x58 else none
  | 5 => ((List.range 6).find? fun c => s.get (F.CLU_STAT_FAULTED c) != 0).map (0xA0 + ·)
  | _ => none

/-- SLEEP_BLOCK_STOP: the next block of R382 stops or refuses; abort point C. -/
def sleepBlockOp (s : State) : State :=
  match s.pwr.sleep with
  | some r =>
    if r.step = 3 ∧ r.blocks < 8 then
      match s.blockRefuses r.blocks with
      | some id => sleepAbandon rcRefused id s
      | none =>
        let s := s.when (r.blocks == 6) fun s => s.put F.DDR_STAT_SREF 1
        abortPoint 3 (modSleep (fun x => { x with blocks := x.blocks + 1 }) s)
    else s
  | none => s

/-- The banks at a retention sleep (R385): kept, or switched off with their contents lost (DEDUCED, assumption 39). -/
def banksSleep (s : State) : State :=
  s.each (List.range 14) fun b s =>
    if s.get (bankSt b) = 2 then s
    else if s.bitAt R.PWR_BANKSLP b || b == 5 then s.put (bankSt b) 1
    else bankLose b (s.put (bankSt b) 2)

/-- SLEEP_ENTERED: abort point D passed and the state of R384 in force; the PCIe host resets with its
link (DEDUCED, assumption 39). -/
def sleepEnteredOp (s : State) : State :=
  match s.pwr.sleep with
  | some r =>
    if r.step = 3 ∧ r.blocks = 8 then
      if s.pwr.woken then sleepAbandon rcAborted 3 s
      else
        let s := (engineSettle s).modEng fun e => { e with running := false, down := none, up := none }
        let s := s.modPwr fun p => { p with
          sleep := none, pwrenC := false, vmret := !r.deep, pwrenM := !r.deep, restart := r.amps }
        let s := (s.put F.PWR_STAT_STATE (if r.deep then 5 else 4)).put F.PWR_STAT_BUSY 0
        let s := if r.deep then
            (s.clearMem 0 0xE000000).clearMem 0x20000000 0x3000000
          else banksSleep s
        (masterResetOp 1 (s.complete r.tok rcDone)).foutSync
    else s
  | none => s

/-! ### Wake (R386, R387, R389) -/

/-- A qualified wake source: during entry it abandons at the next abort point; in a sleep state the
regulators come back. -/
def wakeBy (cause : Nat) (s : State) : State :=
  if s.asleep then
    (s.put F.PWR_STAT_WCAUSE cause).modPwr fun p => { p with woken := true, pwrenC := true, vmret := false, pwrenM := true }
  else if s.sleeping then (s.put F.PWR_STAT_WCAUSE cause).modPwr fun p => { p with woken := true }
  else s

/-- Whether a change of ALARM_INn wakes. -/
def State.alarmWakes (s : State) (n : Nat) (rising : Bool) : Bool :=
  let e := s.pwr.edges / 4 ^ n % 4
  bit (s.reg R.PWR_WAKECFG) (8 + n) && (e == 2 || (if rising then e == 0 || e == 3 else e == 1))

/-- The level of a pin of ALARM_IN. -/
def alarmPin (n : Nat) (b : Bool) (s : State) : State :=
  let m := 1#4 <<< n
  { s with pins := { s.pins with alarmIn := if b then s.pins.alarmIn ||| m else s.pins.alarmIn &&& ~~~m } }

/-- The banks at a wake from retention sleep: each returns to its commanded mode. -/
def banksWake (s : State) : State :=
  s.each (List.range 14) fun b s =>
    let p := s.get (bankPwr b)
    if p = 0 then bankMode b 0 s else s

/-- What passed during sleep is late (R46, R387). -/
def lateAfterSleep (s : State) : State :=
  let m := s.mti
  schedulesLate m (s.roundFrom m) (plansAfterStep m s)

/-- RETENTION_WAKE: the exit of R387, with the XIN cycles counted during sleep at 24.576 MHz; the rounding
to the counter's resolution is a free value (DESIGN CHOICE, assumption 41). -/
def retentionWakeOp (xin : Nat) (s : State) : State :=
  if s.get F.PWR_STAT_STATE = 4 ∧ s.pwr.woken = true then
    let s := (s.put F.PWR_STAT_STATE s.pwr.vsel).put F.DDR_STAT_SREF 0
    let chs := s.pwr.restart
    let s := banksWake (s.modPwr fun p => { p with woken := false, noRelease := false, restart := [] })
    let d := s.quot (xin * 1000000000 * 2 ^ 40) 24576000
    let s := (s.modTime fun t => t.ofUnits (t.units + d)).fresh
    let s := lateAfterSleep s
    let s := engineStart s
    let s := s.each (chs.filter fun ch => s.ampState ch == 0 || s.ampState ch == 6) fun ch s =>
      ampWatch (s.pairOf ch) (ampBegin ch) s
    let s := if s.get F.REFS_STAT_SEL = 6 then s else switchTo (s.get F.REFS_STAT_SEL) s
    powerDone (heldNext s.foutSync)
  else s

/-! ### Temperature (R390) -/

/-- A junction temperature in 0.1 °C: shown, with event 58 on a crossing of WARN. -/
def tempOp (tj : BitVec 16) (s : State) : State :=
  let warn : Int := 10 * s.get F.PWR_TEMP_WARN
  let s := s.put F.PWR_TEMP_TJ tj.toNat
  if s.pwr.hot = false ∧ warn < tj.toInt then (s.modPwr fun p => { p with hot := true }).raise 58
  else if s.pwr.hot = true ∧ tj.toInt ≤ warn - 50 then (s.modPwr fun p => { p with hot := false }).raise 58
  else s

/-! ### The commands -/

/-- SET_PACE (R376–R378, R455). -/
def execSetPace (c : Cmd) (s : State) : Host.Outcome State Fault Refusal := .next (silwen 0x0200 1 false setPaceBody c s)
/-- SLEEP (R380–R383, R455). -/
def execSleep (c : Cmd) (s : State) : Host.Outcome State Fault Refusal := .next (silwen 0x0201 1 false sleepBody c s)
/-- GET_POWER (R455). -/
def execGetPower (c : Cmd) (s : State) : Host.Outcome State Fault Refusal := .next (silwen 0x0202 0 false getPowerBody c s)
/-- PACE_TRANSITION_END (R377, R378). -/
def execPaceTransitionEnd (s : State) : Host.Outcome State Fault Refusal := .next (paceEndOp s)
/-- SLEEP_RAMP_START (R381). -/
def execSleepRampStart (s : State) : Host.Outcome State Fault Refusal := .next (sleepRampOp s)
/-- SLEEP_RELEASE_STOP (R381). -/
def execSleepReleaseStop (s : State) : Host.Outcome State Fault Refusal := .next (sleepReleaseOp s)
/-- SLEEP_DRAIN_DONE (R381). -/
def execSleepDrainDone (s : State) : Host.Outcome State Fault Refusal := .next (sleepDrainOp s)
/-- SLEEP_BLOCK_STOP (R382, R383). -/
def execSleepBlockStop (s : State) : Host.Outcome State Fault Refusal := .next (sleepBlockOp s)
/-- SLEEP_ENTERED (R384, R385). -/
def execSleepEntered (s : State) : Host.Outcome State Fault Refusal := .next (sleepEnteredOp s)
/-- RETENTION_WAKE (R387). -/
def execRetentionWake (xinCount : Nat) (s : State) : Host.Outcome State Fault Refusal := .next (retentionWakeOp xinCount s)

end Sys2Proof.Machine
end

