-- ==== Sys2Proof/Machine/Boot.lean ====
section
/-! DEFINITION. Resets, boot, life cycle, keys, credentials and tamper (R435–R448, R482); the system
commands HELLO, GET_INFO and SET_NODE (R455); and the message store (R226). -/

namespace Sys2Proof.Machine

/-- The state with start-up rewritten. -/
def State.modBoot (s : State) (f : BootSt → BootSt) : State := { s with boot := f s.boot }
/-- The state with security rewritten. -/
def State.modSec (s : State) (f : SecSt → SecSt) : State := { s with sec := f s.sec }
/-- The state with OTP rewritten. -/
def State.modOtp (s : State) (f : Otp → Otp) : State := s.modSec fun x => { x with otp := f x.otp }

/-! ### Resets (R435, R436) -/

/-- The fuses shown in SEC_LC and SEC_STAT. -/
def fuseShow (s : State) : State :=
  let o := s.sec.otp
  ((s.put F.SEC_LC_STATE o.lc).put F.SEC_LC_REVOKED o.revoked.toNat).put F.SEC_STAT_FLOOR o.floor

/-- The cells of BKS. -/
def bksCells (s : State) : List Host.Cell := s.mem.filter fun c => inBks c.1

/-- What the always-on domain keeps through SYSRST_N and a wake from deep sleep: BKS with the replay state in
it, the wake configuration, the tamper state; and the fitted LPDDR5 that applies at the next boot (R411) (DEDUCED, assumption 42). -/
def keepAlwaysOn (old s : State) : State :=
  let s := { s with mem := bksCells old }
  let s := s.modSec fun x => { x with replay := old.sec.replay }
  let s := (s.setReg R.PWR_WAKECFG (old.reg R.PWR_WAKECFG)).put F.SEC_STAT_TAMPER (old.get F.SEC_STAT_TAMPER)
  let s := s.setReg R.MEM_SECSTAT (old.reg R.MEM_SECSTAT &&& 0x7#32)
  (s.setReg R.DDR_CFG (old.reg R.DDR_CFG)).hold R.DDR_CFG (old.heldReg R.DDR_CFG)

/-- A reset of R435 with its cause: everything at its reset value but the fuses, the pins, the always-on
domain where it is kept, the epochs of the masters, which advance, and the commands that wait outside (R105)
(DESIGN CHOICE, assumption 3; DEDUCED, assumption 42) (DESIGN CHOICE, assumption 11). -/
def resetWhole (cause : Nat) (aon : Bool) (sel : BitVec 2) (s : State) : State :=
  let t := { State.reset with pending := s.pending, free := s.free, pins := { s.pins with bootSel := sel } }
  let t := t.modOtp fun _ => s.sec.otp
  let t := if aon then keepAlwaysOn s t else t
  let t := fuseShow ((t.put F.SYS_RSTCAUSE_CAUSE cause).put F.SYS_BOOT_SEL sel.toNat)
  let t := t.put F.MEM_SECSTAT_HELD (flag (!s.pins.tamperIn))
  let e := masterIds.foldl (fun m k => ksetD m k ((s.epoch k + 1) % 256) 0) ([] : KMap Nat)
  { t with mbx := { t.mbx with epochs := e } }

/-- PORST_N (DEDUCED, assumption 42). -/
def porstOp (sel : BitVec 2) (s : State) : State := resetWhole 1 false sel s
/-- SYSRST_N. -/
def sysrstOp (sel : BitVec 2) (s : State) : State := resetWhole 3 true sel s

/-- TEMP_MEASURE: at 140 °C a reset as PORST_N, with THRST (R390) (DESIGN CHOICE, assumption 84). -/
def tempMeasureOp (tj : BitVec 16) (s : State) : State :=
  if 1400 ≤ tj.toInt then (resetWhole 2 false s.pins.bootSel s).put F.PWR_STAT_THRST 1 else tempOp tj s

/-- A wake by its cause: from deep sleep, a boot (R388). -/
def wakeOp (cause : Nat) (s : State) : State :=
  if s.get F.PWR_STAT_STATE = 5 then
    ((resetWhole 4 true s.pins.bootSel s).put F.PWR_STAT_WCAUSE cause).raise 57
  else wakeBy cause s

/-- WAKE_ADDRESS: the address armed from the SLEEP reply on (R386). -/
def wakeAddressOp (a : Nat) (s : State) : State := if a = s.get F.PWR_WAKECFG_ADDR then wakeOp 1 s else s

/-- ALARM_WAKE: the pin changes; in an armed direction it wakes. -/
def alarmWakeOp (n : Nat) (rising : Bool) (s : State) : State :=
  let s := alarmPin n rising s
  if s.alarmWakes n rising then wakeOp 2 s else s

/-- SUPPLIES_VALID (R482): VSEL at Pace 0, PWREN_C and PWREN_M high. -/
def suppliesOp (s : State) : State := s.modPwr fun p => { p with vsel := 0, pwrenC := true, pwrenM := true, vmret := false }

/-! ### Images (R437–R439) -/

/-- A word of an image (DEDUCED, assumption 43). -/
def imgWord (img : List Byte) (off : Nat) : Nat := bytesNat ((img.drop off).take 4)

/-- The image with its signature field left out, over the header of 4 KiB and LENGTH bytes of body. -/
def imgSigned (img : List Byte) : List Byte :=
  let all := img.take (4096 + imgWord img 4)
  all.take 0x80 ++ all.drop 0xE0

/-- The first check of R438 an image fails, 1 to 5; 0 when it is accepted (DEDUCED, assumption 43). -/
def State.imgCheck (s : State) (img : List Byte) : Nat :=
  let o := s.sec.otp
  let k := imgWord img 0xC
  let pub := (img.drop 0x10).take 97
  let ver := imgWord img 8 % 65536
  if imgWord img 0 ≠ 0x4B5A5442 then 1
  else if 0x1000000 - 0x1000 < imgWord img 4 then 2
  else if (if o.lc = 0 then Config.sha384 pub ≠ Config.romKeyDigest
      else 4 ≤ k ∨ o.revoked.toNat / 2 ^ k % 2 = 1 ∨ kget o.digests k ≠ some (Config.sha384 pub)) then 3
  else if ver < o.floor then 4
  else if Config.ecdsaOk pub (Config.sha384 (imgSigned img)) ((img.drop 0x80).take 96) then 0 else 5

/-- An accepted image, with its fields in SYS_BOOT. -/
def imgAccept (img : List Byte) (copy : Nat) (s : State) : State :=
  let s := (s.put F.SYS_BOOT_VERSION (imgWord img 8)).put F.SYS_BOOT_COPY copy
  let s := s.put F.SYS_BOOT_KSLOT (imgWord img 0xC)
  s.modBoot fun b => { b with phase := .verified, floor := imgWord img 8 / 65536 % 65536, image := [], complete := false }

/-- No copy accepted: FAULT_OUT high, and the ROM waits for a PCIe download. -/
def imgNone (s : State) : State :=
  (s.put F.EVT_FLTSTAT_FOUT 1).modBoot fun b => { b with phase := .waiting, image := [], complete := false }

/-- The source that applies: 3 as 0 in FIELD and RETIRED. -/
def State.bootSource (s : State) : Nat :=
  let sel := s.get F.SYS_BOOT_SEL
  if sel = 3 ∧ 2 ≤ s.sec.otp.lc then 0 else sel

/-- Copies tried in order, each in BK5: the first accepted one, or none (R437, R438). -/
def tryCopies : List (List Byte × Nat) → State → State
  | [], s => imgNone s
  | (img, copy) :: rest, s =>
    let s := s.setBytes 0x5000000 (img.take 0x1000000)
    match s.imgCheck img with
    | 0 => imgAccept img copy s
    | e => tryCopies rest (s.put F.SYS_BOOT_ERR e)

/-- The ROM's checks have ended in a retired device: it sets the reset bindings and the lock, and acknowledges every
message posted to it with REFUSED (R104, R442). -/
def romRetire (s : State) : State :=
  let s := s.each (List.range 32) fun n s => s.setReg (R.MBX_BIND n) (State.reset.reg (R.MBX_BIND n))
  let s := mbxLockSet (s.modBoot fun b => { b with phase := .retired })
  s.each ((List.range 32).filter fun n => s.chan n == 1) fun n s => (s.setReg (R.MBX_ACK n) (word rcRefused)).setChan n 3

/-- BOOT_IMAGE_VERIFY: a completed download, or the two copies in flash, which BLANK refuses; in a retired device the end of the ROM's checks (DEDUCED, assumption 43). -/
def bootVerifyOp (flash : List Byte) (s : State) : State :=
  if s.boot.phase ≠ .rom ∧ s.boot.phase ≠ .waiting then s
  else if s.sec.otp.lc = 3 then romRetire s
  else if s.boot.complete then tryCopies [(s.boot.image, 2)] s
  else if s.boot.phase = .rom ∧ s.bootSource = 0 then
    if s.sec.otp.lc = 0 then imgNone s else tryCopies [(flash, 0), (flash.drop 0x1000000, 1)] s
  else s

/-- PCIE_DOWNLOAD_POST: the image in BK6, of the length posted. -/
def pcieDownloadOp (len : Nat) (s : State) : State :=
  if s.boot.phase = .waiting ∨ (s.boot.phase = .rom ∧ s.bootSource = 1) then
    let img := s.bytes 0x6000000 (min len 0x1000000)
    s.modBoot fun b => { b with image := img, complete := true }
  else s

/-- SPI_DOWNLOAD_MESSAGE: a message taken on MB4 and acknowledged DONE; one of fewer than 64 words ends the
image. -/
def spiDownloadOp (ws : List Word) (s : State) : State :=
  if s.boot.phase = .rom ∧ s.bootSource = 2 ∧ s.boot.complete = false then
    let ws := ws.take 64
    let s := s.modBoot fun b => { b with image := b.image ++ ws.flatMap wordBytes, complete := decide (ws.length < 64) }
    if s.chan 4 = 1 then (s.setReg (R.MBX_ACK 4) (word rcDone)).setChan 4 3 else s
  else s

/-! ### Start-up (R411, R441, R444, R445) -/

/-- The bytes of a label. -/
def labelBytes (t : String) : List Byte := t.toList.map fun c => BitVec.ofNat 8 c.toNat

/-- The keys derived into BKS, with TAMPER_IN high and outside BLANK. -/
def deriveKeys (s : State) : State :=
  if s.pins.tamperIn = true ∧ s.sec.otp.lc ≠ 0 then
    let k (t : String) := Config.hmac384 s.sec.otp.oemSecret (labelBytes t)
    (s.modSec fun x => { x with keys := some (k "EXPERT", k "ALARM", k "REMOTE") }).put F.SEC_STAT_KEYS 1
  else (s.modSec fun x => { x with keys := none }).put F.SEC_STAT_KEYS 0

/-- LPDDR5 trained: the usable size with or without inline ECC. -/
def ddrTrain (s : State) : State :=
  let s := s.applyHeld R.DDR_CFG
  let fitted := [0, 16, 32, 64].getD (s.get F.DDR_CFG_DENS) 0
  let u := if s.on F.DDR_CFG_ECCEN then fitted * 7 / 8 else fitted
  (s.put F.DDR_STAT_SIZE u).put F.DDR_STAT_TRAINED (flag (u != 0))

/-- FIRMWARE_START: keys, LPDDR5, banks zeroed, the events routed after boot (R423), and in FIELD the
mailbox lock. -/
def firmwareStartOp (s : State) : State :=
  if s.boot.phase ≠ .verified then s
  else
    let s := ddrTrain (deriveKeys (s.modBoot fun b => { b with phase := .running, hello := false, engineStarted := false }))
    let s := (s.clearMem 0 0x5000000).clearMem 0x6000000 0x8000000
    let s := (routeWrite 66 (0x42#32) true (routeWrite 65 (0x41#32) true s))
    let s := (routeWrite 70 (0x80#32) true (routeWrite 69 (0x80#32) true s))
    if s.sec.otp.lc = 2 then mbxLockSet s else s

/-! ### Tamper (R406, R448) -/

/-- A wipe of BKS complete (DEDUCED, assumption 44). -/
def wipeDone (s : State) : State :=
  let s := (s.clearMem 0xE000000 0x40000).modMem fun x => { x with poison := x.poison.filter fun w => !inBks w }
  let s := ((s.put F.MEM_SECSTAT_WIPED 1).put F.MEM_SECSTAT_WIPING 0).put F.MEM_SECSTAT_HELD (flag (!s.pins.tamperIn))
  let s := s.modSec fun x => { x with
    keys := none, nonces := [], alarmRole := [], expertRole := [], replay := [], shut := true }
  (s.put F.SEC_STAT_KEYS 0).put F.SEC_STAT_TAMPER 1

/-- TAMPER_WIPE: TAMPER_IN low for more than 10 µs. A trigger during a wipe does not restart it (DEDUCED, assumption 44). -/
def tamperWipeOp (s : State) : State :=
  let s := { s with pins := { s.pins with tamperIn := false } }
  if s.on F.MEM_SECSTAT_WIPING then s else (s.put F.MEM_SECSTAT_WIPING 1).raise 188

/-- TAMPER_WIPE_DONE. -/
def tamperWipeDoneOp (s : State) : State := if s.on F.MEM_SECSTAT_WIPING then wipeDone s else s

/-- TAMPER_IN_RELEASE: the hold at zero ends (DEDUCED, assumption 44). -/
def tamperReleaseOp (s : State) : State :=
  { s with pins := { s.pins with tamperIn := true } }.put F.MEM_SECSTAT_HELD 0

/-! ### Life cycle (R440, R442, R443) -/

/-- LIFECYCLE_ADVANCE. -/
def lcAdvanceBody (c : Cmd) (s : State) : State × Rep :=
  let lc := s.sec.otp.lc
  let k := Sender.key c.sender
  if bits (cw c 1) 9 8 ≠ lc + 1 ∨ s.on F.TND_CTL_EN = true ∨ s.hamp.plans ≠ [] ∨ s.hamp.waiting ≠ []
      ∨ (lc = 0 ∧ c.words.length < 21) ∨ (lc = 2 ∧ s.sec.expertRole.contains k = false) then (s, .rc rcRefused)
  else
    let ones : List Word := List.replicate 8 0xFFFFFFFF#32
    let s := s.modOtp fun o => { o with
      lc := lc + 1
      digests := if lc = 0 then kset o.digests 0 ((List.range 12).map fun i => cw c (2 + i)) else o.digests
      oemSecret := if lc = 0 then (List.range 8).map fun i => cw c (14 + i) else if lc = 2 then ones else o.oemSecret
      devSecret := if lc = 2 then ones else o.devSecret }
    let s := wipeDone ((fuseShow s).raise 188)
    (s.modBoot fun b => { b with pendingLc := true }, .rc rcDone)

/-- The digest of a key slot, in FACTORY, slots 1–3; a fuse is blown once (DEDUCED, assumption 47). -/
def lcDigestBody (c : Cmd) (s : State) : State × Rep :=
  let slot := bits (cw c 1) 9 8
  if s.sec.otp.lc ≠ 1 ∨ slot = 0 ∨ (kget s.sec.otp.digests slot).isSome = true then (s, .rc rcRefused)
  else (s.modOtp fun o => { o with digests := kset o.digests slot ((List.range 12).map fun i => cw c (2 + i)) }, .rc rcDone)

/-- A key slot revoked, in FACTORY or FIELD, never that of the running image. -/
def lcRevokeBody (c : Cmd) (s : State) : State × Rep :=
  let slot := bits (cw c 1) 9 8
  if (s.sec.otp.lc ≠ 1 ∧ s.sec.otp.lc ≠ 2) ∨ slot = s.get F.SYS_BOOT_KSLOT then (s, .rc rcRefused)
  else (fuseShow (s.modOtp fun o => { o with revoked := o.revoked ||| BitVec.ofNat 4 (2 ^ slot) }), .rc rcDone)

/-- The MAC address, in FACTORY, where none was written at manufacture (DEDUCED, assumption 47). -/
def lcMacBody (c : Cmd) (s : State) : State × Rep :=
  if s.sec.otp.lc ≠ 1 ∨ s.sec.otp.mac ≠ 0 then (s, .rc rcRefused)
  else (s.modOtp fun o => { o with mac := BitVec.ofNat 48 (wide (cw c 2) (cw c 3)) }, .rc rcDone)

/-- LIFECYCLE_RESET: the reset 1 ms after an accepted advance. -/
def lcResetOp (s : State) : State := if s.boot.pendingLc then sysrstOp s.pins.bootSel s else s

/-! ### Credentials (R120, R444, R446) -/

/-- The bytes of a sender in a response's message. -/
def senderBytes : Sender → List Byte
  | .master m => [BitVec.ofNat 8 m.toNat]
  | .node n => 0x3F#8 :: natBytes 2 n.toNat

/-- The response of a sender for a role (0 EXPERT, 1 ALARM) to its nonce: the first 256 bits of the HMAC (R446). -/
def State.response (s : State) (sd : Sender) (role : Nat) (nonce : List Word) : Option (List Word) :=
  s.sec.keys.map fun k =>
    (Config.hmac384 (if role = 0 then k.1 else k.2.1)
      (nonce.flatMap wordBytes ++ senderBytes sd ++ natBytes 1 role ++ s.sec.otp.devId.flatMap wordBytes)).take 8

/-- A nonce issued; a new one replaces the old. -/
def nonceBody (c : Cmd) (s : State) : State × Rep :=
  let k := Sender.key c.sender
  if s.sec.shut || s.sec.keys.isNone then (s, .rc rcLocked)
  else if s.sec.lockouts.contains k then (s, .rc rcRefused)
  else
    let ws := (List.range 4).map fun i => Config.randomWord (s.free + i)
    ({ s.modSec fun x => { x with nonces := kset x.nonces k ws } with free := s.free + 4 }, .ok ws)

/-- A response judged: it uses up the nonce; a right one grants the role, the eighth wrong one locks out. -/
def present (c : Cmd) (role : Nat) (grant : Nat → State → State) (s : State) : State × Rep :=
  let k := Sender.key c.sender
  let right := (kget s.sec.nonces k).any fun n => s.response c.sender role n == some ((List.range 8).map fun i => cw c (2 + i))
  let s := s.modSec fun x => { x with nonces := kdel x.nonces k }
  if right then (grant k (s.modSec fun x => { x with wrong := kdel x.wrong k }), .rc rcDone)
  else if 7 ≤ kgetD s.sec.wrong k 0 then
    (s.modSec fun x => { x with wrong := kdel x.wrong k, lockouts := x.lockouts ++ [k] }, .rc rcRefused)
  else (s.modSec fun x => { x with wrong := kset x.wrong k (kgetD x.wrong k 0 + 1) }, .rc rcRefused)

/-- A role granted to a sender. -/
def grantAlarm (k : Nat) (s : State) : State :=
  s.modSec fun x => { x with alarmRole := if x.alarmRole.contains k then x.alarmRole else x.alarmRole ++ [k] }
def grantExpert (k : Nat) (s : State) : State :=
  s.modSec fun x => { x with expertRole := if x.expertRole.contains k then x.expertRole else x.expertRole ++ [k] }

/-- CREDENTIAL PRESENT: for the ALARM role only. -/
def presentBody (c : Cmd) (s : State) : State × Rep :=
  if s.sec.shut || s.sec.keys.isNone then (s, .rc rcLocked)
  else if s.sec.lockouts.contains (Sender.key c.sender) || !bit (cw c 1) 8 then (s, .rc rcRefused)
  else present c 1 grantAlarm s

/-- CREDENTIAL DROP (DEDUCED, assumption 72). -/
def dropBody (c : Cmd) (s : State) : State × Rep :=
  let k := Sender.key c.sender
  if s.sec.shut then (s, .rc rcLocked)
  else if bit (cw c 1) 8 then (s.modSec fun x => { x with alarmRole := x.alarmRole.filter (· != k) }, .rc rcDone)
  else (s.modSec fun x => { x with expertRole := x.expertRole.filter (· != k) }, .rc rcDone)

/-- EXPERT_ENABLE. -/
def expertEnableBody (c : Cmd) (s : State) : State × Rep :=
  let k := Sender.key c.sender
  let off := bit (cw c 1) 0
  if s.sec.shut then (s, .rc rcLocked)
  else if s.sec.otp.lc < 2 then
    let rest := s.sec.expertOff.filter (· != k)
    (s.modSec fun x => { x with expertOff := if off then rest ++ [k] else rest }, .rc rcDone)
  else if off then (s.modSec fun x => { x with expertRole := x.expertRole.filter (· != k) }, .rc rcDone)
  else if s.sec.keys.isNone then (s, .rc rcLocked)
  else if c.words.length < 9 then (s, .rc rcMalformed)
  else if s.sec.lockouts.contains k then (s, .rc rcRefused)
  else present c 0 grantExpert s

/-! ### HELLO, GET_INFO, SET_NODE (R439, R455) -/

/-- HELLO; the first raises the rollback floor to FLOOR (DEDUCED, assumption 46). -/
def helloBody (c : Cmd) (s : State) : State × Rep :=
  let ep := match c.sender with | .master m => s.epoch m.toNat | .node _ => 0
  let used := ((s.outbox (Sender.key c.sender)).tags.filter fun t => t.1 != c.tag.toNat).length
  let w2 := Config.silwenLevel % 256 + s.boot.fwEpoch * 2 ^ 8 + ep * 2 ^ 16 + s.sec.otp.lc * 2 ^ 24 + s.tndState * 2 ^ 26
  let w3 := s.get F.SYS_BOOT_VERSION + (256 - used) * 2 ^ 16
  let s := if s.boot.hello then s
    else fuseShow ((s.modBoot fun b => { b with hello := true }).modOtp fun o => { o with floor := max o.floor (min 64 s.boot.floor) })
  (s, .ok [word w2, word w3])

/-- The rows of R2 in a rate class (DEDUCED, assumption 45). -/
def capacities (cls : Nat) : List Nat :=
  if cls = 2 then
    [512, 256, 512, 256, 256, 256, 32, 64, 512, 256, 384, 128, 131072, 49152, 180224, 2080, 32, 256, 4096, 64, 65536, 512]
  else
    [1024, 256, 1024, 256, 512, 512, 32, 64, 1024, 512, 768, 256, 524288, 196608, 720896, 4128, 32, 256, 4096, 64, 65536, 512]

/-- The costs of R235 at an NCODE, c then r; the length an FIR item is reported for is a free value (DEDUCED, assumption 45). -/
def State.costRow (s : State) (nc : Nat) : List Nat :=
  let fir := firCost nc (Config.undefNat s.free % 8193)
  [stdCost nc (.strips 0 0 true), stdCost nc (.buses 0 0 true), stdCost nc (.outs 0 0 true), fir, stdCost nc (.players 0)].flatMap
    fun x => [x, x]

/-- GET_INFO (DEDUCED, assumption 45). -/
def getInfoBody (c : Cmd) (s : State) : State × Rep :=
  let page := bits (cw c 1) 7 0
  if page = 0 then
    (s, .ok ([s.reg R.SYS_ID] ++ s.sec.otp.devId ++ [s.reg R.SYS_BOOT, loWord s.ownMac.toNat, hiWord s.ownMac.toNat, word s.boot.nodeId]))
  else if page = 1 then (s, .ok ((capacities s.rateClass).map word))
  else if page = 2 then (s.fresh, .ok (((List.range 5).flatMap s.costRow).map word))
  else match kget s.mods.oem (page - 3) with
    | some m => (s, .ok (((List.range 5).flatMap fun nc => [m.c.getD nc 0, m.r.getD nc 0]).map word))
    | none => (s, .rc rcRefused)

/-- SET_NODE. -/
def setNodeBody (c : Cmd) (s : State) : State × Rep := (s.modBoot fun b => { b with nodeId := bits (cw c 1) 8 0 }, .rc rcDone)

/-! ### The message store (R226, R410, R466) -/

/-- The message a MSG_STORE names. -/
def msgNo (c : Cmd) : Nat := bits (cw c 1) 25 16

/-- Whether a player plays a message. -/
def State.msgInUse (s : State) (m : Nat) : Bool := s.mods.players.any fun p => p.2.msg == m

/-- Whether a rate code is of the engine's family. -/
def State.family (s : State) (code : Nat) : Bool := code == s.rateCode % 2

/-- MSG_STORE CREATE. -/
def msgCreateBody (c : Cmd) (s : State) : State × Rep :=
  let m := msgNo c
  let code := bits (cw c 2) 2 0
  if s.ddrBytes = 0 then (s, .rc rcNoSpace)
  else if (kget s.mods.msgs m).isSome || !s.family code || decide (s.freeStore < 3 * (cw c 3).toNat) then (s, .rc rcRefused)
  else ({ s with mods := { s.mods with msgs := kset s.mods.msgs m ⟨code, (cw c 3).toNat, []⟩ } }, .rc rcDone)

/-- Why an APPEND is not taken. -/
def appendCode (c : Cmd) (s : State) : Nat :=
  let n := (cw c 3).toNat
  if s.ddrBytes = 0 then rcNoSpace
  else if n % 3 ≠ 0 then rcMalformed
  else match kget s.mods.msgs (msgNo c) with
    | none => rcRefused
    | some x => if !s.family x.rate || s.msgInUse (msgNo c) || decide (3 * x.len < x.data.length + n) then rcRefused else rcDone

/-- An APPEND with its data. -/
def msgAppendRun (data : List Byte) (c : Cmd) (s : State) : State × Rep :=
  match appendCode c s with
  | 0 => ({ s with mods := { s.mods with msgs := kmod s.mods.msgs (msgNo c) fun x => { x with data := x.data ++ data } } }, .rc rcDone)
  | e => (s, .rc e)

/-- MSG_STORE APPEND, from BK6 or by bulk segments. -/
def msgAppendBody (c : Cmd) (s : State) : State × Rep :=
  let n := (cw c 3).toNat
  let off := bits (cw c 2) 23 0
  if appendCode c s ≠ rcDone then (s, .rc (appendCode c s))
  else if bit (cw c 2) 31 && n != 0 then (s, .bulk n)
  else if 0x1000000 < off + n then (s, .rc rcRefused)
  else msgAppendRun (s.bytes (bk6 off) n) c s

/-- MSG_STORE DELETE. -/
def msgDeleteBody (c : Cmd) (s : State) : State × Rep :=
  let m := msgNo c
  if s.ddrBytes = 0 then (s, .rc rcNoSpace)
  else if (kget s.mods.msgs m).isNone || s.msgInUse m then (s, .rc rcRefused)
  else ({ s with mods := { s.mods with msgs := kdel s.mods.msgs m } }, .rc rcDone)

/-- MSG_STORE QUERY. -/
def msgQueryBody (c : Cmd) (s : State) : State × Rep :=
  if s.ddrBytes = 0 then (s, .rc rcNoSpace)
  else match kget s.mods.msgs (msgNo c) with
    | some x => (s, .ok [word (x.data.length / 3), word x.len, word x.rate, word (s.freeStore / 1024)])
    | none => (s, .rc rcRefused)

/-! ### The commands -/

/-- PORST (R435, R436). -/
def execPorst (sel : BitVec 2) (s : State) : Host.Outcome State Fault Refusal := .next (porstOp sel s)
/-- SYSRST (R435, R436). -/
def execSysrst (sel : BitVec 2) (s : State) : Host.Outcome State Fault Refusal := .next (sysrstOp sel s)
/-- TEMP_MEASURE (R390). -/
def execTempMeasure (tj : BitVec 16) (s : State) : Host.Outcome State Fault Refusal := .next (tempMeasureOp tj s)
/-- BOOT_IMAGE_VERIFY (R437, R438). -/
def execBootImageVerify (flash : List Byte) (s : State) : Host.Outcome State Fault Refusal := .next (bootVerifyOp flash s)
/-- PCIE_DOWNLOAD_POST (R437). -/
def execPcieDownloadPost (len : Word) (s : State) : Host.Outcome State Fault Refusal := .next (pcieDownloadOp len.toNat s)
/-- SPI_DOWNLOAD_MESSAGE (R437). -/
def execSpiDownloadMessage (words : List Word) (s : State) : Host.Outcome State Fault Refusal := .next (spiDownloadOp words s)
/-- FIRMWARE_START (R441, R444, R445). -/
def execFirmwareStart (s : State) : Host.Outcome State Fault Refusal := .next (firmwareStartOp s)
/-- TAMPER_WIPE (R406). -/
def execTamperWipe (s : State) : Host.Outcome State Fault Refusal := .next (tamperWipeOp s)
/-- TAMPER_WIPE_DONE (R406, R448). -/
def execTamperWipeDone (s : State) : Host.Outcome State Fault Refusal := .next (tamperWipeDoneOp s)
/-- TAMPER_IN_RELEASE (R406). -/
def execTamperInRelease (s : State) : Host.Outcome State Fault Refusal := .next (tamperReleaseOp s)
/-- SUPPLIES_VALID (R482). -/
def execSuppliesValid (s : State) : Host.Outcome State Fault Refusal := .next (suppliesOp s)
/-- WAKE_ADDRESS (R386). -/
def execWakeAddress (addr : BitVec 7) (s : State) : Host.Outcome State Fault Refusal := .next (wakeAddressOp addr.toNat s)
/-- ALARM_WAKE (R386). -/
def execAlarmWake (n : Fin 4) (rising : Bool) (s : State) : Host.Outcome State Fault Refusal := .next (alarmWakeOp n rising s)
/-- HELLO (R455). -/
def execHello (c : Cmd) (s : State) : Host.Outcome State Fault Refusal := .next (silwen 0x0100 0 false helloBody c s)
/-- GET_INFO (R455). -/
def execGetInfo (c : Cmd) (s : State) : Host.Outcome State Fault Refusal := .next (silwen 0x0101 1 false getInfoBody c s)
/-- SET_NODE (R455). -/
def execSetNode (c : Cmd) (s : State) : Host.Outcome State Fault Refusal := .next (silwen 0x0103 1 false setNodeBody c s)
/-- MSG_STORE op 0 (R226, R466). -/
def execMsgStoreCreate (c : Cmd) (s : State) : Host.Outcome State Fault Refusal := .next (silwen 0x0C01 3 false msgCreateBody c s)
/-- MSG_STORE op 1 (R226, R454, R466). -/
def execMsgStoreAppend (c : Cmd) (s : State) : Host.Outcome State Fault Refusal := .next (silwen 0x0C01 3 false msgAppendBody c s)
/-- MSG_STORE op 2 (R466). -/
def execMsgStoreDelete (c : Cmd) (s : State) : Host.Outcome State Fault Refusal := .next (silwen 0x0C01 1 false msgDeleteBody c s)
/-- MSG_STORE op 3 (R466). -/
def execMsgStoreQuery (c : Cmd) (s : State) : Host.Outcome State Fault Refusal := .next (silwen 0x0C01 1 false msgQueryBody c s)
/-- LIFECYCLE_ADVANCE op 0 (R443). -/
def execLifecycleAdvance (c : Cmd) (s : State) : Host.Outcome State Fault Refusal := .next (silwen 0x0E00 1 false lcAdvanceBody c s)
/-- LIFECYCLE_ADVANCE op 1 (R440). -/
def execLifecycleSlotDigest (c : Cmd) (s : State) : Host.Outcome State Fault Refusal :=
  .next (silwen 0x0E00 13 true lcDigestBody c s)
/-- LIFECYCLE_ADVANCE op 2 (R440). -/
def execLifecycleRevokeSlot (c : Cmd) (s : State) : Host.Outcome State Fault Refusal :=
  .next (silwen 0x0E00 1 true lcRevokeBody c s)
/-- LIFECYCLE_ADVANCE op 3 (R440). -/
def execLifecycleSetMac (c : Cmd) (s : State) : Host.Outcome State Fault Refusal := .next (silwen 0x0E00 3 true lcMacBody c s)
/-- LIFECYCLE_RESET (R443). -/
def execLifecycleReset (s : State) : Host.Outcome State Fault Refusal := .next (lcResetOp s)
/-- CREDENTIAL op 0 (R446). -/
def execCredentialNonce (c : Cmd) (s : State) : Host.Outcome State Fault Refusal := .next (silwen 0x0E01 1 false nonceBody c s)
/-- CREDENTIAL op 1 (R446). -/
def execCredentialPresent (c : Cmd) (s : State) : Host.Outcome State Fault Refusal := .next (silwen 0x0E01 9 false presentBody c s)
/-- CREDENTIAL op 2 (R446) (DEDUCED, assumption 72). -/
def execCredentialDrop (c : Cmd) (s : State) : Host.Outcome State Fault Refusal := .next (silwen 0x0E01 1 false dropBody c s)
/-- EXPERT_ENABLE (R120, R446). -/
def execExpertEnable (c : Cmd) (s : State) : Host.Outcome State Fault Refusal := .next (silwen 0x0E02 1 false expertEnableBody c s)
/-- NONCE_EXPIRY (R446). -/
def execNonceExpiry (m : Sender) (s : State) : Host.Outcome State Fault Refusal :=
  .next (s.modSec fun x => { x with nonces := kdel x.nonces (Sender.key m) })
/-- CREDENTIAL_LOCKOUT_END (R446). -/
def execCredentialLockoutEnd (m : Sender) (s : State) : Host.Outcome State Fault Refusal :=
  .next (s.modSec fun x => { x with lockouts := x.lockouts.filter (· != Sender.key m) })

end Sys2Proof.Machine
end

