-- ==== Sys2Proof/Machine/HamperCmd.lean ====
section
/-! DEFINITION. The Silwen commands that build, group, cancel, store and arm Hampers (R60–R67, R91,
R461–R464). -/

namespace Sys2Proof.Machine

/-- The state with Hampers rewritten. -/
def State.modHamp (s : State) (f : HampSt → HampSt) : State := { s with hamp := f s.hamp }

/-- The open Hamper with a HID. -/
def State.openHid (s : State) (hid : Nat) : Option OpenHamper := s.hamp.opened.find? fun h => h.hid == hid

/-- The state without an open Hamper. -/
def closeHid (hid : Nat) (s : State) : State :=
  s.modHamp fun h => { h with opened := h.opened.filter fun x => x.hid != hid }

/-! ### Opening and adding (R65, R461, R462) -/

/-- HAMPER_OPEN (DEDUCED, assumption 50). -/
def hamperOpenBody (c : Cmd) (s : State) : State × Rep :=
  let hid := bits (cw c 1) 15 0
  if 64 ≤ s.hamperCount then (s.raise 205, .rc rcNoSpace)
  else if 0xF000 ≤ hid ∨ s.hidInUse hid = true then (s, .rc rcRefused)
  else (s.modHamp fun h => { h with opened := h.opened ++ [⟨hid, c.sender, []⟩] }, .rc rcDone)

/-- The coefficient words of the FIR_COEF entries of a list, copied from BK6: as many as the FIR_LEN that
applies after the list, before rounding (R224). -/
def State.firCopy (s : State) (all : List Entry) (e : Entry) : Entry :=
  if e.raw && e.tgt == 0x10 && e.fld == 0x5002 && modKind e.obj == some .out then
    let len := match (all.filter fun x => x.tgt == 0x10 && x.obj == e.obj && x.fld == 0x5001).getLast? with
      | some x => min x.val.toNat 65536
      | none => (s.param e.obj 0x5001).toNat
    { e with coefs := bytesWords (s.bytes (bk6 (bits e.aux 23 0)) (4 * len)) }
  else e

/-- The words an embedded command needs (R451) (DEDUCED, assumption 50). -/
def embedMin (code : Nat) (e : Cmd) : Nat :=
  if code = 0x0700 then 1 + 3 * clampNat 1 20 (bits (cw e 1) 23 16)
  else if code = 0x0C02 then (if bit (cw e 1) 8 then 1 else 7)
  else if code = 0x0A00 then 11
  else if code = 0x0403 then 1
  else if code = 0x0501 ∨ code = 0x0902 then 2
  else if code = 0x0000 then 4 else 3

/-- The entries of an embedded command (R462); none where no such command may be embedded (DEDUCED, assumption 50). -/
def embedEntries (code : Nat) (e : Cmd) (s : State) : Option (List Entry) :=
  match code with
  | 0x0500 => some (routeEntries e s)
  | 0x0501 => some (backupEntries e)
  | 0x0600 => some (sendEntries (bit (cw e 2) 17) e s)
  | 0x0601 => some (matrixEntries e s)
  | 0x0700 => if wantsFir e then none else some (paramEntries e [] s)
  | 0x0901 => some (slotmaskEntries e)
  | 0x0902 => some (asrcEntries e)
  | 0x0A00 =>
    let ch := bits (cw e 1) 4 0
    let one (f v : Nat) : Entry := { tgt := 0x30, obj := ch, fld := f, ramp := .none, val := word v }
    some ((if bit (cw e 11) 0 then [one 0 (bits (cw e 2) 0 0), one 1 (bits (cw e 2) 1 1)] else [])
      ++ (if bit (cw e 11) 6 then [one 2 (bits (cw e 8) 10 0)] else [])
      ++ (if bit (cw e 11) 5 then [one 3 (bits (cw e 7) 11 0)] else []))
  | 0x0C02 => if s.isPlaced (1792 + bits (cw e 1) 5 0) then some (playEntries e) else none
  | 0x0403 => if (s.stream (bits (cw e 1) 8 0)).isSome then some [removeEntry e] else none
  | 0x0000 => some (entriesOf (e.words.take 60))
  | _ => none

/-- HAMPER_ADD. -/
def hamperAddBody (c : Cmd) (s : State) : State × Rep :=
  let hid := bits (cw c 1) 15 0
  let code := bits (cw c 1) 31 16
  let e : Cmd := { c with words := c.words.drop 1 }
  match s.openHid hid with
  | none => (s, .rc rcRefused)
  | some h =>
    match embedEntries code e s with
    | none => (s, .rc rcRefused)
    | some es =>
      if e.words.length < embedMin code e then (s, .rc rcMalformed)
      else
        let es := es.map (s.firCopy (h.entries ++ es))
        let full := if 65536 < h.entries.length + es.length then [rcNoSpace] else []
        match worst (es.flatMap (s.entryCodes c.sender .basic) ++ full) with
        | some rc => (s.when (rc == rcNoSpace) fun s => s.raise 205, .rc rc)
        | none =>
          let n := h.entries.length + es.length
          (s.modHamp fun x => { x with opened := x.opened.map fun o =>
            if o.hid == hid then { o with entries := o.entries ++ es } else o }, .ok [word n])

/-! ### Closing, storing, arming (R64, R66, R463, R464) -/

/-- Where a complete list of entries goes: planned with its group, stored in a scene, or armed. -/
inductive Dest where
  | plan (gid gsize stile : Nat)
  | store (scene : Nat)
  | arm (n : Nat)
deriving DecidableEq, Repr

/-- Entries in every scene. -/
def State.sceneEntries (s : State) : Nat :=
  (s.hamp.scenes.map fun x => (x.2.map fun m => m.entries.length).sum).sum

/-- The codes of R64, R66, R81, R91, R224 that reject a list as what it is to become. -/
def State.destCodes (s : State) (sd : Sender) (hid : Nat) (es : List Entry) (d : Dest) : List Nat :=
  (if hid = 0 ∨ es = [] then [rcMalformed] else [])
  ++ (match d with
      | .plan g n _ => if g ≠ 0 ∧ (n = 0 ∨ 64 < n) then [rcMalformed] else []
      | _ => [])
  ++ s.hamperCodes sd (match d with | .arm n => .alarm n | _ => .basic) es ++ s.firCodes es

/-- The bit of ALARM_INn in EVT_ALSTAT.ARMED. -/
def armBit (n : Nat) : FieldRef := ⟨R.EVT_ALSTAT, 4 + n, 4 + n⟩

/-- The Trail an alarm's duration and shape is mapped to: 184 + 2n or 185 + 2n, in order of first
appearance (R464) (DEDUCED, assumption 57). -/
def alarmTrail (n : Nat) (es : List Entry) (u sh : Nat) : Nat := 184 + 2 * n + (durPairs es).idxOf (u, sh)

/-- A Trail's definition written (R77, R78). -/
def trailDef (t dur shape : Nat) (s : State) : State :=
  (s.put (F.PATCH_TRDUR_DUR t) dur).put (F.PATCH_TRCTL_SHAPE t) shape

/-- An alarm Hamper armed for an input. -/
def alarmArm (n : Nat) (es : List Entry) (s : State) : State :=
  let s := s.each (durPairs es) fun p s =>
    trailDef (alarmTrail n es p.1 p.2) (min (s.samplesOf p.1) s.maxRamp) (if p.2 = 3 then 0 else p.2) s
  (s.modHamp fun h => { h with alarms := kset h.alarms n es }).put (armBit n) 1

/-- The members of a group that a new member would complete need more than the 184 Trails (R81) (DEDUCED, assumption 53). -/
def State.groupOver (s : State) (es : List Entry) (gid gsize : Nat) : Bool :=
  let grp := s.hamp.waiting.filter fun m => m.gid == gid
  gid != 0 && grp.length + 1 == gsize && decide (184 < (s.pairs (grp.flatMap (·.entries) ++ es)).length)

/-- A complete Hamper judged as a whole and taken to its destination; a Hamper that is rejected is gone
(R64). `form` are codes of its form, `use` those of R65; `wasOpen` says that it was an open Hamper (DEDUCED, assumption 51; DEDUCED, assumption 54). -/
def hamperTake (c : Cmd) (code hid : Nat) (es : List Entry) (form use : List Nat) (wasOpen : Bool) (d : Dest)
    (s : State) : State × Rep :=
  let overrun := match d with
    | .plan g n _ => s.groupOver es g n
    | _ => false
  let rc64 := s.destCodes c.sender hid es d ++ form ++ (if overrun then [rcNoSpace] else [])
  let rc66 := match d with
    | .plan g n st => if s.groupClash g n st then [rcRefused] else []
    | _ => []
  let gone := s.when wasOpen (closeHid hid)
  match worst (rc64 ++ rc66 ++ use) with
  | some rc =>
    let s := (gone.when (worst rc64).isSome fun s => s.raise 203).when (rc == rcNoSpace && use.contains rcNoSpace) fun s => s.raise 205
    let s := match d with
      | .plan g _ _ =>
        if overrun && rc66 == [] then
          dropMembers rcNoSpace (s.hamp.waiting.filter fun m => m.gid == g) 0
            (s.modHamp fun h => { h with waiting := h.waiting.filter fun m => m.gid != g })
        else s
      | _ => s
    (s, .rc rc)
  | none =>
    match d with
    | .plan g n st =>
      let m : Member :=
        { hid := hid, gid := g, gsize := n, stile := st, entries := es, sender := c.sender
          tok := some (s.tokOf c code), internal := false }
      let r := gone.takeMember m
      (r.1, .sched r.2)
    | .store k =>
      let old := kgetD s.hamp.scenes k []
      if s.ddrBytes = 0 ∨ 64 ≤ old.length ∨ 4194304 < s.sceneEntries + es.length then (s, .rc rcNoSpace)
      else
        let m : Member :=
          { hid := hid, gid := 0, gsize := 1, stile := 0, entries := es, sender := c.sender, tok := none, internal := false }
        (gone.modHamp fun h => { h with scenes := kset h.scenes k (old ++ [m]) }, .rc rcDone)
    | .arm n => (alarmArm n es gone, .rc rcDone)

/-- HAMPER_CLOSE (DEDUCED, assumption 54). -/
def hamperCloseBody (c : Cmd) (s : State) : State × Rep :=
  let hid := bits (cw c 1) 15 0
  match s.openHid hid with
  | none => (s, .rc rcRefused)
  | some h =>
    let d : Dest := if bit (cw c 2) 16 then .store (bits (cw c 2) 15 8)
      else .plan (bits (cw c 1) 31 16) (bits (cw c 2) 6 0) (wide (cw c 3) (cw c 4))
    hamperTake c 0x0802 hid (h.entries.map (s.firCopy h.entries)) [] [] true d s

/-- ARM_ALARM (DEDUCED, assumption 51). -/
def armAlarmBody (c : Cmd) (s : State) : State × Rep :=
  let n := bits (cw c 1) 17 16
  if bit (cw c 1) 18 then
    ((s.modHamp fun h => { h with alarms := kdel h.alarms n }).put (armBit n) 0, .rc rcDone)
  else match s.openHid (bits (cw c 1) 15 0) with
  | none => (s, .rc rcRefused)
  | some h => hamperTake c 0x0805 h.hid (h.entries.map (s.firCopy h.entries)) [] [] true (.arm n) s

/-- A raw Hamper taken from its bytes (R60, R61, R64, R65): STORE ignores the group (R463), and an alarm Hamper does
not count toward the 64 (R91) (DEDUCED, assumption 51). -/
def hamperRawRun (data : List Byte) (c : Cmd) (s : State) : State × Rep :=
  let ws := bytesWords data
  let w (i : Nat) : Word := ws.getD i 0
  let hid := bits (w 0) 15 0
  let es := entriesOf (ws.drop 8)
  let es := es.map (s.firCopy es)
  let ctl := cw c 3
  let d : Dest := if bit ctl 8 then .store (bits ctl 7 0) else if bit ctl 9 then .arm (bits ctl 11 10)
    else .plan (bits (w 0) 31 16) (bits (w 4) 6 0) (wide (w 2) (w 3))
  let alone := bit ctl 8
  let form := if crcWords (ws.take 7 ++ ws.drop 8) ≠ w 7 ∨ 65536 < bits (w 1) 16 0 ∨ data.length ≠ 32 + 16 * bits (w 1) 16 0
      ∨ (alone = false ∧ bits (w 0) 31 16 ≠ 0 ∧ (bits (w 4) 6 0 = 0 ∨ 64 < bits (w 4) 6 0)) then [rcMalformed] else []
  let counts := match d with | .arm _ => false | _ => true
  let use := (if 0xF000 ≤ hid ∨ s.hidInUse hid = true then [rcRefused] else [])
    ++ (if counts && decide (64 ≤ s.hamperCount) then [rcNoSpace] else [])
  hamperTake c 0x0F02 hid es form use false d s

/-- HAMPER_RAW. -/
def hamperRawBody (c : Cmd) (s : State) : State × Rep :=
  let off := bits (cw c 1) 23 0
  let n := (cw c 2).toNat
  if bit (cw c 1) 31 && n != 0 then (s, .bulk n)
  else if off % 4 ≠ 0 then (s, .rc rcMalformed)
  else if 0x1000000 < off + n then (s, .rc rcRefused)
  else hamperRawRun (s.bytes (bk6 off) n) c s

/-! ### Scenes (R463) -/

/-- An entry as a recall takes it: a default ramp is that of a scene recall (R78). -/
def sceneEntry (e : Entry) : Entry := if e.dflt then { e with ramp := .dur sceneDefault.1 sceneDefault.2 } else e

/-- The scene's members as one group of a recall (DEDUCED, assumption 52). -/
def sceneMembers (ms : List Member) (gid stile : Nat) (c : Cmd) (s : State) : List Member :=
  let low := (ms.map (·.hid)).min?.getD 0
  ms.map fun m => { m with
    gid := gid, gsize := ms.length, stile := stile, sender := c.sender
    tok := if m.hid = low then some (s.tokOf c 0x0804) else none }

/-- SCENE_RECALL (DEDUCED, assumption 52). -/
def sceneRecallBody (c : Cmd) (s : State) : State × Rep :=
  let k := bits (cw c 1) 7 0
  let gid := bits (cw c 1) 31 16
  let stile := wide (cw c 2) (cw c 3)
  if bit (cw c 1) 8 then (s.modHamp fun h => { h with scenes := kdel h.scenes k }, .rc rcDone)
  else if c.words.length < 3 then (s, .rc rcMalformed)
  else
    let ms := (kgetD s.hamp.scenes k []).map fun m => { m with entries := m.entries.map sceneEntry }
    let es := ms.flatMap (·.entries)
    let codes := ms.flatMap fun m => s.hamperCodes c.sender .basic m.entries
    let codes := codes ++ s.firCodes es ++ (if 184 < (s.pairs es).length then [rcNoSpace] else [])
    let hids := ms.map (·.hid)
    let clash := ms = [] ∨ hids.any s.hidInUse = true ∨ hids.eraseDups.length ≠ hids.length
      ∨ (gid ≠ 0 ∧ (s.hamp.waiting.any fun m => m.gid == gid) = true)
    let full := decide (64 < s.hamperCount + ms.length)
    match worst (codes ++ (if clash then [rcRefused] else []) ++ (if full then [rcNoSpace] else [])) with
    | some rc =>
      ((s.when (worst codes).isSome fun s => s.raise 203).when (rc == rcNoSpace && full) fun s => s.raise 205, .rc rc)
    | none =>
      let r := s.submit (sceneMembers ms gid stile c s) stile
      (r.1, .sched r.2)

/-! ### Cancelling (R67) -/

/-- HAMPER_CANCEL. -/
def hamperCancelBody (c : Cmd) (s : State) : State × Rep :=
  let id := bits (cw c 1) 15 0
  let byGid := bit (cw c 1) 16
  let hit (m : Member) : Bool := if byGid then id != 0 && m.gid == id else m.hid == id
  let plans := s.hamp.plans.filter fun p => !p.loading && p.members.any hit
  let gids := (s.hamp.waiting.filter hit).map (·.gid)
  let waits := s.hamp.waiting.filter fun m => gids.contains m.gid
  let isOpen := !byGid && s.hamp.opened.any fun h => h.hid == id
  if plans = [] ∧ waits = [] ∧ isOpen = false then (s, .rc rcRefused)
  else
    let s := s.modHamp fun h => { h with
      plans := h.plans.filter fun p => p.loading || !p.members.any hit
      waiting := h.waiting.filter fun m => !gids.contains m.gid
      opened := h.opened.filter fun o => byGid || o.hid != id }
    let s := s.each plans fun p s => dropMembers rcSuperseded p.members p.p s
    let s := dropMembers rcSuperseded waits 0 s
    ((s.raise 202).replan, .rc rcDone)

/-! ### The commands -/

/-- HAMPER_OPEN (R65, R461). -/
def execHamperOpen (c : Cmd) (s : State) : Host.Outcome State Fault Refusal := .next (silwen 0x0800 1 false hamperOpenBody c s)
/-- HAMPER_ADD (R462). -/
def execHamperAdd (c : Cmd) (s : State) : Host.Outcome State Fault Refusal := .next (silwen 0x0801 1 false hamperAddBody c s)
/-- HAMPER_CLOSE (R64–R75, R461). -/
def execHamperClose (c : Cmd) (s : State) : Host.Outcome State Fault Refusal := .next (silwen 0x0802 4 false hamperCloseBody c s)
/-- HAMPER_CANCEL (R67). -/
def execHamperCancel (c : Cmd) (s : State) : Host.Outcome State Fault Refusal := .next (silwen 0x0803 1 false hamperCancelBody c s)
/-- SCENE_RECALL (R463). -/
def execSceneRecall (c : Cmd) (s : State) : Host.Outcome State Fault Refusal := .next (silwen 0x0804 1 false sceneRecallBody c s)
/-- ARM_ALARM (R91, R464). -/
def execArmAlarm (c : Cmd) (s : State) : Host.Outcome State Fault Refusal := .next (silwen 0x0805 1 false armAlarmBody c s)
/-- HAMPER_RAW (R60–R66, R461). -/
def execHamperRaw (c : Cmd) (s : State) : Host.Outcome State Fault Refusal := .next (silwen 0x0F02 3 true hamperRawBody c s)

end Sys2Proof.Machine
end

