-- ==== Sys2Proof/Machine/Commit.lean ====
section
/-! DEFINITION. Hampers from their load start to their commit (R68–R75, R77–R93, R192, R222), and the
qualification, loading and commit of alarm Hampers (R92, R230). -/

namespace Sys2Proof.Machine

/-! ### Preparation (R68, R192, R222) -/

/-- Whether the unit of an entry is isolated by fault handling (R75, R415). -/
def State.isolatedUnit (s : State) (e : Entry) : Bool :=
  let at3 (u i : Nat) : Bool := (kget s.flt.units (unitKey u i)).any fun h => decide (3 ≤ h.level) && !h.done
  match e.tgt with
  | 0x20 => at3 4 e.obj
  | 0x21 => at3 4 (e.obj % 32)
  | 0x30 => at3 5 e.obj
  | 0x40 => match s.stream e.obj with
    | some c => c.evPorts.all fun p => at3 6 p
    | none => false
  | _ => false

/-- Whether a role runs a module instance. -/
def roleRuns (r : Role) (inst : Nat) : Bool :=
  let within (b : Nat) : Bool := decide (b ≤ inst ∧ inst < b + 8)
  match r with
  | .players g => within (1792 + 8 * g)
  | .gens g => within (1856 + 8 * g)
  | .strips g _ _ => within (8 * g)
  | .buses g _ _ => within (1024 + 8 * g)
  | .outs g _ _ => within (1536 + 8 * g)
  | .fir o => inst == 1536 + o
  | .oem i => inst == i
  | _ => false

/-- The parameter block of an instance prepared for a commit at Stile `p` (R231): the new copy is the parameters
in force with the entries' values over them, the other copy stays as it is in force; D and SHAPE are those of
the first entry that names a Trail. A block prepared again before its Stile is written in the same copy
(DEDUCED, assumption 59). -/
def State.parBlock (s : State) (es : List Entry) (p inst : Nat) : ParBlock :=
  let mine := es.filter fun e => e.tgt == 0x10 && e.obj == inst
  let inForce : KMap Word := (s.path.params.filter fun x => x.1 / 65536 == inst).map fun x => (x.1 % 65536, x.2)
  let news := mine.foldl (fun m e => ksetD m e.fld (s.applied e.obj e.fld e.val) (paramDefault inst e.fld)) inForce
  let d := ((mine.find? fun e => e.ramp != .none).map fun e =>
    s.rampOf (es.filter fun x => x.tgt == 0x50) e.ramp).getD (0, 0)
  let again := (kget s.disp.blocks inst).any fun b => decide (0 < (b.stile - word s.mti).toInt)
  let old := ((kget s.disp.blocks inst).map ParBlock.new).getD false
  let nw := if again then old else !old
  { new := nw, dur := word d.1, stile := word p, shape := d.2
    copy0 := if nw then inForce else news, copy1 := if nw then news else inForce }

/-- The fields of an instance in the order in which a copy holds them: ascending (DEDUCED, assumption 59). -/
def State.blockFields (s : State) (inst : Nat) : List Nat :=
  if modKind inst = some .oem then
    List.range ((((kget s.mods.oemPlaced inst).bind fun p => kget s.mods.oem p.mod).map (·.nparam)).getD 0)
  else (List.range 0x61).flatMap fun h => ((List.range 0x20).map (256 * h + ·)).filter fun f => (paramRow s.rateCode inst f).isSome

/-- A parameter block in its cluster's bank: the header and the two copies (R231). -/
def blockStore (inst : Nat) (s : State) : State :=
  match kget s.disp.blocks inst with
  | none => s
  | some b =>
    let fs := s.blockFields inst
    let copy (m : KMap Word) : List Word := fs.map fun f => kgetD m f (paramDefault inst f)
    s.setBytes (s.bankPlace inst 1)
      (([word (flag b.new), b.dur, b.stile, word b.shape] ++ copy b.copy0 ++ copy b.copy1).flatMap wordBytes)

/-- STOFF and STRND of every item that runs an instance the entries target, and the parameter blocks of those
instances (R192, R231) (DEDUCED, assumption 59). -/
def stileWords (es : List Entry) (p : Nat) (s : State) : State :=
  let insts := ((es.filter fun e => e.tgt == 0x10).map (·.obj)).eraseDups
  let hs := (s.disp.roles.filter fun x => insts.any (roleRuns x.2)).map (·.1)
  let s := s.modDisp fun d => { d with
    desc := hs.foldl (fun m h => ksetD (ksetD m (16 * h + 9) (word (p - s.roundAt p)) 0) (16 * h + 10) (word (s.roundAt p)) 0) d.desc
    blocks := insts.foldl (fun m i => kset m i (s.parBlock es p i)) d.blocks }
  s.each insts blockStore

/-- A stage's shadow set prepared: the active set's words, then the entries (R68, R131). -/
def stageLoad (isMatrix : Bool) (es : List Entry) (s : State) : State :=
  let mine := es.filter fun e => e.tgt == (if isMatrix then 2 else 1)
  if mine = [] then s
  else
    let b := !s.activeB isMatrix
    let s := s.copyMem (setBase isMatrix (!b)) (setBase isMatrix b) (setSize isMatrix)
    s.each mine fun e s =>
      if e.fld = 0 then s.setCoef isMatrix b e.obj (coefOf (e.val.extractLsb' 0 24))
      else
        let w := (s.coefWord isMatrix b e.obj).toNat
        s.setMemWord (setBase isMatrix b + 4 * e.obj) (word (setField w 24 24 (bits e.val 0 0)))

/-- The entries of a member that stay at its load start. -/
def State.keptEntries (s : State) (m : Member) : List Entry :=
  m.entries.filter fun e => !(s.sealed e && !s.alarmCred m.sender) && !s.isolatedUnit e

/-- The load start of a plan: entries R222 or an isolated unit discards are dropped and reported, and the
shadows are prepared. -/
def planLoad (pl : Plan) (s : State) : State :=
  let s := s.each pl.members fun m s =>
    let n := (m.entries.filter fun e => s.sealed e && !s.alarmCred m.sender).length
    s.when (n != 0) fun s => s.notice 0x81 0 (word (m.hid + 65536 * n))
  let ms := pl.members.map fun m => { m with entries := s.keptEntries m }
  let gone := (pl.members.map fun m => m.entries.length).sum - (ms.map fun m => m.entries.length).sum
  let pl' : Plan := { pl with members := ms, loading := true, discarded := pl.discarded + gone }
  let s := s.modHamp fun h => { h with plans := h.plans.map fun q => if q = pl then pl' else q }
  stileWords pl'.entries pl.p (stageLoad true pl'.entries (stageLoad false pl'.entries s))

/-- The plan a HID is a member of. -/
def State.planOf (s : State) (hid : Nat) : Option Plan := s.hamp.plans.find? fun p => p.members.any fun m => m.hid == hid

/-- HAMPER_LOAD_START: at Stile p − Λ. -/
def loadStartOp (hid : Nat) (s : State) : State :=
  match s.planOf hid with
  | some pl => if !pl.loading && decide (pl.p ≤ s.mti + pl.lam) then planLoad pl s else s
  | none => s

/-! ### Entries at their Stile -/

/-- The Trail of each duration and shape, allocated and started at a sample number: free generators for a
scheduled Hamper (R81), those reserved for its input for an alarm Hamper (R464) (DEDUCED, assumption 57). -/
def poolTrails (es : List Entry) (alarm : Option Nat) (n : Nat) (s : State) : State × List ((Nat × Nat) × Nat) :=
  (s.pairs es).foldl (fun acc p =>
    match match alarm with
      | some a => some (alarmTrail a es p.1 p.2)
      | none => acc.1.freeTrail n with
    | some t =>
      let d := acc.1.rampOf [] (.dur p.1 p.2)
      (trailStart t n d.1 d.2 (trailDef t d.1 d.2 acc.1), acc.2 ++ [(p, t)])
    | none => acc) (s, [])

/-- The named Trails of entries started (R77, R81). -/
def namedTrails (es : List Entry) (n : Nat) (s : State) : State :=
  s.each (s.named es) fun t s => let d := s.rampOf [] (.trail t); trailStart t n d.1 d.2 s

/-- The Trail an entry runs on, 0 where it takes none. -/
def trailOf (m : List ((Nat × Nat) × Nat)) : Ramp → Nat
  | .trail t => t
  | .dur u sh => ((m.find? fun x => x.1 == (u, sh)).map (·.2)).getD 0
  | .none => 0

/-- The transition of a stage, on the Trail of its first entry in list order (R82); one of tap changes only that names
no Trail takes the minimum of a gain (DESIGN CHOICE, assumption 92). -/
def stageCommit (isMatrix : Bool) (es : List Entry) (m : List ((Nat × Nat) × Nat)) (n : Nat) (s : State) : State :=
  match es.filter fun e => e.tgt == (if isMatrix then 2 else 1) with
  | [] => s
  | e :: rest =>
    let d := max (s.rampOf [] e.ramp).1 s.minRamp
    transStart isMatrix ((e :: rest).map (·.obj)).eraseDups n d (trailOf m e.ramp) s

/-- The sinks a SELECT changes: both of a loop pair (R341). -/
def State.pairSinks (s : State) (k : Nat) : List Nat :=
  if 1536 ≤ k ∧ k < 1568 ∧ s.on (F.AMP_PAIR_PAIRED ((k - 1536) / 2 * 2)) = true then
    [1536 + (k - 1536) / 2 * 2, 1536 + (k - 1536) / 2 * 2 + 1]
  else [k]

/-- One entry of the other targets at sample number `n` and Stile `p`: the state, whether a MODE was
deferred (R30), and whether the entry was held (R70) (DEDUCED, assumption 60). -/
def entryCommit (n p : Nat) (e : Entry) (s : State) : State × Bool × Bool :=
  let d := s.rampOf [] e.ramp
  match e.tgt with
  | 0x03 =>
    if e.fld = 0x10 then
      let r := selCommit e.obj e.val n s
      (r.1, r.2, false)
    else (s.each (s.pairSinks e.obj) fun k s => muxChange k (applySrc s.rateClass e.val.toNat) n d.1 d.2 s, false, false)
  | 0x20 => (tdmMaskCommit e.obj e.fld p e.val s, false, false)
  | 0x21 =>
    let r := asrcCommit e.obj e.fld e.val s
    (r.1, false, r.2)
  | 0x30 => (ampCommit e.obj e.fld e.val n s, false, false)
  | 0x40 => (streamCommit e.obj (bit e.val 0) e.remove p s, false, false)
  | _ => (s, false, false)

/-- How a module parameter of an entry changes. -/
def State.changeOf (s : State) (e : Entry) : Option Change := (paramRow s.rateCode e.obj e.fld).map (·.chg)

/-- Module-parameter entries: TYPE of a generator after its other fields, ACT fields together, RUN after every other
field (R220, R228, R229). -/
def paramsCommit (es : List Entry) (toks : List (Nat × Tok)) (late : Bool) (n : Nat) (s : State) : State :=
  let mine := es.filter fun e => e.tgt == 0x10
  let acts := mine.filter fun e => s.changeOf e == some .act
  let runs := mine.filter fun e => s.changeOf e == some .run
  let isType (e : Entry) : Bool := modKind e.obj == some .gen && e.fld == 0
  let rest := mine.filter fun e => s.changeOf e != some .act && s.changeOf e != some .run
  let olds := ((acts.map fun e => e.obj - 1536).eraseDups).map fun o => (o, s.acts o)
  let one (tok : Option Tok) (e : Entry) (s : State) : State :=
    let d := s.rampOf [] e.ramp
    paramCommit e (s.entryDur [] e) d.2 n tok late s
  let s := s.each (rest.filter fun e => !isType e) fun e s => one none e s
  let s := s.each (rest.filter isType) fun e s => one none e s
  let s := s.each acts fun e s => s.setParam e.obj e.fld (s.applied e.obj e.fld e.val)
  let s := s.each runs fun e s => one ((toks.find? fun t => t.1 == e.obj).map (·.2)) e s
  let s := s.each olds fun o s => mixChange o.1 o.2 n s
  if mine.any fun e => e.fld == 0x5000 && modKind e.obj == some .out then buildTemplate s else s

/-- Entries taking effect at Stile `p`: the state, whether a MODE was deferred, and the number of entries
held (R68–R70). -/
def commitEntries (es : List Entry) (alarm : Option Nat) (toks : List (Nat × Tok)) (late : Bool) (p : Nat) (s : State) :
    State × Bool × Nat :=
  let n := s.sampleAt p
  let es := es.filter (objValid s.rateClass)
  let s := s.each (es.filter fun e => e.tgt == 0x50) fun e s =>
    if e.fld = 0 then s.put (F.PATCH_TRDUR_DUR e.obj) (min (bits e.val 23 0) s.maxRamp)
    else s.put (F.PATCH_TRCTL_SHAPE e.obj) (Limit.apply (.above 2 0) (bits e.val 1 0))
  let t := poolTrails es alarm n s
  let s := namedTrails es n t.1
  let s := stageCommit true es t.2 n (stageCommit false es t.2 n s)
  let eff := lastWins es
  let r := eff.foldl (fun (acc : State × Bool × Nat) e =>
    let x := entryCommit n p e acc.1
    (x.1, acc.2.1 || x.2.1, acc.2.2 + flag x.2.2)) (s, false, 0)
  (paramsCommit eff toks (late || r.2.1) n r.1, r.2)

/-! ### The commit (R68, R75, R94) -/

/-- The tag a PLAY_MESSAGE hands to its playback (R116, R228, R453). -/
def Member.playTok (m : Member) : Option (Nat × Tok) :=
  match m.tok with
  | some t =>
    if m.internal && t.code == 0x0C02 then
      (m.entries.find? fun e => e.fld == 4 && e.val == 1#32).map fun e => (e.obj, t)
    else none
  | none => none

/-- A plan committed: its entries, but for those of a unit isolated since its load, then events 200 and 201 and
the final notifications (DEDUCED, assumption 58; DEDUCED, assumption 60). -/
def planCommit (pl : Plan) (s : State) : State :=
  let s := s.modHamp fun h => { h with plans := h.plans.filter fun q => q != pl }
  let toks := pl.members.filterMap Member.playTok
  let es := pl.entries.filter fun e => !s.isolatedUnit e
  let discarded := pl.discarded + (pl.entries.length - es.length)
  let r := commitEntries es none toks pl.late pl.p s
  let late := pl.late || r.2.1
  let s := r.1.raise 200
  let s := s.when late fun s => s.raise 201
  s.each pl.members fun m s =>
    if m.playTok.isSome then s else s.memberFinal m rcDone late pl.p (pl.held + r.2.2) discarded

/-- HAMPER_COMMIT: at the planned Stile of a plan whose load has started (DESIGN CHOICE, assumption 7; DESIGN CHOICE, assumption 80). -/
def hamperCommitOp (hid : Nat) (s : State) : State :=
  match s.planOf hid with
  | some pl => if pl.loading && decide (pl.p ≤ s.mti) then planCommit pl s else s
  | none => s

/-! ### Alarm Hampers (R92, R93, R230) -/

/-- A change of the qualified level of ALARM_INn; an edge in a selected direction with EN counts, raises
its event and sets its commit Stile (R92, R230) (DEDUCED, assumption 61). -/
def alarmQualifyOp (n : Nat) (lvl : Bool) (s : State) : State :=
  let f : FieldRef := ⟨R.EVT_ALSTAT, n, n⟩
  if s.on f = lvl ∨ s.asleep = true then s
  else
    let s := alarmPin n lvl (s.put f (flag lvl))
    let e := s.get (F.EVT_ALCFG_EDGE n)
    let dir := e == 2 || (if lvl then e == 0 || e == 3 else e == 1)
    if s.on (F.EVT_ALCFG_EN n) && dir then
      let s := (s.put ⟨R.EVT_ALSTAT, 8 + n, 8 + n⟩ 1).raise (184 + n)
      if s.follows then s
      else
        let p := s.roundAt s.mti + 2 * s.roundLen
        (s.modHamp fun h => { h with alarmEdges := h.alarmEdges ++ [(n, p)] }).send
          [.alarm (s.roundAt s.mti) [(Fin.ofNat 4 n, p)]]
    else s

/-- A plan that shares a unit with an alarm Hamper committing at `p`, and does not commit before, re-planned with
the alarm Hamper as the earlier one; moved, it abandons a preparation (R92). -/
def State.alarmMove (s : State) (es : List Entry) (p : Nat) (pl : Plan) : Plan :=
  let shared := (s.unitsOf pl.entries).filter (s.unitsOf es).contains
  if shared = [] ∨ pl.p + s.roundLen ≤ p then pl
  else
    let q := shared.foldl (fun q u => max q (s.after1 pl.lam p es u)) pl.p
    if q = pl.p then pl else { pl with p := q, late := true, loading := false }

/-- The alarm loader in the round that begins at this Stile: alarm Hampers that commit at the next one. -/
def alarmLoad (here : Nat) (s : State) : State :=
  let p := here + s.roundLen
  s.each (s.hamp.alarmEdges.filter fun e => e.2 == p) fun e s =>
    match kget s.hamp.alarms e.1 with
    | none => s
    | some es =>
      let s := stileWords es p s
      if s.standby then s
      else (s.modHamp fun h => { h with plans := h.plans.map (s.alarmMove es p) }).replan

/-- ALARM_HAMPER_COMMIT: the oldest edge of an input whose Stile has come. Hampers prepared for that Stile commit
before it: the alarm Hamper's entries are applied last (R92). -/
def alarmCommitOp (n : Nat) (s : State) : State :=
  match s.hamp.alarmEdges.find? fun e => e.1 == n && decide (e.2 ≤ s.mti) with
  | none => s
  | some x =>
    let s := s.modHamp fun h => { h with alarmEdges := h.alarmEdges.erase x }
    match kget s.hamp.alarms n with
    | none => s
    | some es =>
      let s := s.each (s.hamp.plans.filter fun q => q.loading && decide (q.p ≤ x.2)) planCommit
      let s := (commitEntries (es.filter fun e => !s.isolatedUnit e) (some n) [] false x.2 s).1
      { s.raise 204 with night := { s.night with lastAlarm := some s.time.dur } }

/-! ### The commands -/

/-- HAMPER_LOAD_START (R68, R72, R192, R222). -/
def execHamperLoadStart (hid : BitVec 16) (s : State) : Host.Outcome State Fault Refusal := .next (loadStartOp hid.toNat s)
/-- HAMPER_COMMIT (R68–R70, R75). -/
def execHamperCommit (hid : BitVec 16) (s : State) : Host.Outcome State Fault Refusal := .next (hamperCommitOp hid.toNat s)
/-- ALARM_QUALIFY (R230). -/
def execAlarmQualify (n : Fin 4) (level : Bool) (s : State) : Host.Outcome State Fault Refusal := .next (alarmQualifyOp n level s)
/-- ALARM_HAMPER_COMMIT (R92, R93). -/
def execAlarmHamperCommit (n : Fin 4) (s : State) : Host.Outcome State Fault Refusal := .next (alarmCommitOp n s)

end Sys2Proof.Machine
end

