-- ==== Sys2Proof/Machine/CoreRun.lean ====
section
/-! DEFINITION. How a core runs the operations of a bundle (R154–R158, R165–R182): the operations given to
it, stores, the end of the bundle, interrupts and faults. -/

namespace Sys2Proof.Machine

/-! ### Stops and ends (R172, R174, R181) -/

/-- The bit of CLU_FAULTk that records a cause (DEDUCED, assumption 65). -/
def causeBit : CoreCause → Nat
  | .ill => 0 | .addr => 1 | .eccD => 2 | .eccI => 3 | .tmo => 4

/-- The item of core `k` stopped on a fault: nothing of the faulting bundle is written (R181). -/
def coreStop (k : Nat) (cause : CoreCause) (a : Word) (s : State) : State :=
  let c := s.core k
  let c := { c with pend := c.pend.filter fun p => p.origin != c.bn }
  let c := { c.drain with stores := [], ctl := .none, fault := none, faulted := true }
  let s := s.setCore k c
  let s := (s.setBit (R.CLU_FAULT (k / 8) (k % 8)) (causeBit cause) true).incField (F.CLU_FAULT_FCNT (k / 8) (k % 8))
  let s := s.put (F.CLU_FPC_FPC (k / 8) (k % 8)) (bits c.pc 16 0)
  let s := if cause = .addr then s.setReg (R.CLU_FADDR (k / 8) (k % 8)) a else s
  coreItemMissed k ((s.setBit (R.CLU_STAT (k / 8)) (8 + k % 8) true).raise k)

/-- The item of core `k` ended by DONE: its flags counted, a pending ABORT discarded, the item complete; an
item ended from an ABORT or URGENT handler counts as missed (R172, R174, R179, R180) (DEDUCED, assumption 64). -/
def coreEnd (k : Nat) (s : State) : State :=
  let c := (s.core k).drain
  let s := s.setCore k { c with pendAbort := false, ended := true, handler := none, outer := [], after := none }
  let s := if bits (c.S 0x40) 7 0 = 0 then s else s.incSat (R.CLU_SATCNT (k / 8) (k % 8))
  let mine := (kget s.disp.items c.item).any fun it => it.st == .running && it.core == k
  if c.ending then coreItemMissed k s
  else if mine then itemDone c.item s
  else freeCore k s

/-! ### The end of a bundle (R154–R157, R166) -/

/-- Whether the bundle is at the LE of an active level. -/
def CoreSt.atLE (c : CoreSt) : Bool := (List.range (min 4 c.depth)).any fun l => c.S (0x38 + l) == c.pc

/-- Whether the bundle transfers control with delay slots. -/
def CoreCtl.isBranch : CoreCtl → Bool
  | .branch _ => true
  | .reti => true
  | .done => true
  | _ => false

/-- Whether the bundle starts a loop. -/
def CoreCtl.isLoop : CoreCtl → Bool
  | .loop _ _ => true
  | _ => false

/-- Whether the bundle is a delay slot (DEDUCED, assumption 63). -/
def CoreSt.inDelay (c : CoreSt) : Bool :=
  match c.after with
  | none => false
  | some (_, .skip _) => false
  | some _ => true

/-- Whether the bundle raises a fault of R157 or stands as a branch in a delay slot (R166) (DEDUCED, assumption 63). -/
def CoreSt.misplaced (c : CoreSt) : Bool :=
  (c.ctl.isBranch && c.inDelay)
  || (c.ctl.isLoop && decide (4 ≤ c.depth))
  || (c.atLE && (c.ctl.isBranch || c.ctl.isLoop || c.inDelay || decide (0 < c.setup)))

/-- The loop ends at a bundle (R156), on the registers `c` the bundle sees: writes to the registers of the
levels, and the next bundle (DEDUCED, assumption 63). -/
def loopEnd (c : CoreSt) : Nat → Nat → CoreSt → CoreSt
  | 0, _, t => { t with pc := c.pc + 8 }
  | _, 0, t => { t with pc := c.pc + 8 }
  | fuel + 1, d + 1, t =>
    if c.S (0x38 + d) ≠ c.pc then { t with pc := c.pc + 8 }
    else if 1 < (c.S (0x30 + d)).toNat then { t.apply (.sys (0x30 + d) (c.S (0x30 + d) - 1)) with pc := c.S (0x34 + d) }
    else if c.S (0x30 + d) = 1 then loopEnd c fuel d (t.apply (.sys 0x3C (word d)))
    else { t with pc := c.pc + 8 }

/-- A loop started: level LDEPTH takes its registers; a count of 0 continues at LE + 8 after the set-up
slots, with no level more (R155) (DEDUCED, assumption 63). -/
def loopStart (c : CoreSt) (count : Nat) (le : Word) (t : CoreSt) : CoreSt :=
  let d := c.depth
  let ws : List CoreWrite := [.sys (0x30 + d) (word count), .sys (0x34 + d) (c.pc + 24), .sys (0x38 + d) le]
  let t := ws.foldl CoreSt.apply t
  if count = 0 then { t with setup := 2, after := some (2, .skip (le + 8)) }
  else { t.apply (.sys 0x3C (word (d + 1))) with setup := 2 }

/-- A flow operation taken by an earlier bundle, `after`, carried out or its delay slot counted (R165, R166,
R172). -/
def flowAfter (k : Nat) (after : Option (Nat × After)) (t : CoreSt) (s : State) : State :=
  match after with
  | none => s.setCore k t
  | some (2, x) => s.setCore k { t with after := some (1, x) }
  | some (_, .skip x) => s.setCore k { t with after := none, pc := x }
  | some (_, .jump x) => s.setCore k { t with after := none, pc := x }
  | some (_, .reti) =>
    let t := t.apply (.sys 0x40 (t.S 0x42))
    s.setCore k { t.leave with after := none, pc := t.S 0x41 }
  | some (_, .done) => coreEnd k (s.setCore k t)

/-- What follows a bundle that completed, on a core `c` before it and `t` with its writes applied. -/
def coreFlow (k : Nat) (c t : CoreSt) (s : State) : State :=
  let t := { t with ctl := .none, inBundle := false, stores := [], setup := t.setup - 1 }
  let t := loopEnd c 4 (min 4 c.depth) t
  match c.ctl with
  | .branch x => s.setCore k { t with after := some (2, .jump x) }
  | .done => s.setCore k { t with after := some (2, .done) }
  | .reti =>
    let x : After := match c.handler with
      | some .abort => .done
      | some .urgent => .done
      | _ => .reti
    s.setCore k { t with after := some (2, x) }
  | .loop n le => flowAfter k c.after (loopStart c n le t) s
  | .lexit n => flowAfter k c.after (t.apply (.sys 0x3C (word (t.depth - n)))) s
  | .brk => flowAfter k c.after (if c.ih then t else { t with pendDebug := some 0 }) s
  | .none => flowAfter k c.after t s

/-- A store of a bundle carried out: to a register of the mailbox unit as a write of the cluster, or to
memory (R139, R154). -/
def storeOne (k : Nat) (x : CoreStore) (s : State) : State :=
  if x.isReg then
    s.each (bytesWords x.bytes).zipIdx fun w s => mbxRegWrite (BitVec.ofNat 6 (0x10 + k / 8)) (x.addr + 4 * w.2 - 0x40030000) w.1 s
  else s.setBytes x.addr x.bytes

/-- The end of the bundle of core `k`: a fault stops the item; else the stores, the writes now due and the
flow of control take effect (DESIGN CHOICE, assumption 5). -/
def bundleEnd (k : Nat) (s : State) : State :=
  let c := s.core k
  match (if c.misplaced then c.fails .ill 0 else c).fault with
  | some (cause, a) => coreStop k cause a s
  | none =>
    let s := s.each (c.stores.filter fun x => x.rank == 1) fun x s => storeOne k x s
    let s := s.each (c.stores.filter fun x => x.rank != 1) fun x s => storeOne k x s
    let s := s.incWrap (R.CLU_ISSUE (k / 8) (k % 8))
    coreFlow k c c.advance s

/-- Whether the bundle at a core's pc holds an uncorrectable error (R142, R404). -/
def State.badFetch (s : State) (k : Nat) : Bool :=
  s.memx.poison.contains (0x20000000 + k * 0x100000 + bits (s.core k).pc 16 3 * 8)

/-- One operation of the bundle at the core's pc, on a core that runs an item: what it reads, computes and
emits, and with the last operation the end of the bundle; an uncorrectable error on the fetch stops the item
(R142, R158, R166) (DESIGN CHOICE, assumption 5). -/
def runOp (a : At) (f : State → CoreSt → State × CoreSt) (s : State) : State :=
  let k := a.core.val
  let c := s.core k
  if !c.running || c.ended || c.faulted then s
  else if !c.inBundle && s.badFetch k then coreStop k .eccI 0 s
  else
    let r := f s c
    let s := r.1.setCore k { r.2 with inBundle := true, begun := true }
    if a.last then bundleEnd k s else s

/-- An operation that touches its core only. -/
def runLocal (a : At) (f : CoreSt → CoreSt) (s : State) : State := runOp a (fun s c => (s, f c)) s

/-- The rank of a memory slot among the slots of a bundle. -/
def slotRank : MSlot → Nat
  | .m0 => 1
  | .m1 => 2

/-! ### Interrupts (R175–R180) -/

/-- INTERRUPT_ENTRY: the highest pending interrupt entered (R175, R176). -/
def interruptEntryOp (k : Nat) (s : State) : State :=
  let c := s.core k
  if c.open && c.irq.isSome then s.setCore k (c.enter s.time.dur) else s

/-- Whether core `k` has overrun a time of R179: 10 µs without entering a requested ABORT, or 2 µs in an
URGENT handler. -/
def State.overdue (s : State) (k : Nat) : Bool :=
  let c := s.core k
  let past (t us : Nat) : Bool := decide (t + us * 1000 * 2 ^ 32 ≤ s.time.dur)
  (c.pendAbort && past c.abortAt 10) || ((c.handler.toList ++ c.outer).contains .urgent && past c.urgentAt 2)

/-- HANDLER_TIMEOUT: an ABORT not entered or an URGENT handler not ended in time stops the item and
restarts the core (R179). -/
def handlerTimeoutOp (k : Nat) (s : State) : State :=
  let c := s.core k
  if c.running && !c.faulted && s.overdue k then coreRestartOp k (coreStop k .tmo 0 s)
  else s

/-- DEBUG raised on a core, held until it is entered (R175). -/
def coreDbgreqOp (k : Nat) (s : State) : State :=
  let c := s.core k
  if c.pendDebug.isSome then s else s.setCore k { c with pendDebug := some 1 }

/-- URGENT raised on a core with its cause code (R175). -/
def coreUrgentOp (k : Nat) (u : BitVec 8) (s : State) : State := s.setCore k { s.core k with pendUrgent := some u }

/-- ILLEGAL_BUNDLE: a bundle that R165 calls illegal does not execute (R165, R181). -/
def illegalBundleOp (k : Nat) (b : BitVec 64) (s : State) : State :=
  let c := s.core k
  if c.running && !c.ended && !c.faulted && !c.inBundle && (decodeBundle b).isNone then
    coreStop k (if s.badFetch k then .eccI else .ill) 0 s
  else s

/-! ### The commands -/

/-- CORE_DBGREQ (R175). -/
def execCoreDbgreq (k : Fin 48) (s : State) : Host.Outcome State Fault Refusal := .next (coreDbgreqOp k s)
/-- CORE_URGENT_RAISE (R175). -/
def execCoreUrgentRaise (k : Fin 48) (ucode : BitVec 8) (s : State) : Host.Outcome State Fault Refusal := .next (coreUrgentOp k ucode s)
/-- INTERRUPT_ENTRY (R176). -/
def execInterruptEntry (k : Fin 48) (s : State) : Host.Outcome State Fault Refusal := .next (interruptEntryOp k s)
/-- HANDLER_TIMEOUT (R179). -/
def execHandlerTimeout (k : Fin 48) (s : State) : Host.Outcome State Fault Refusal := .next (handlerTimeoutOp k s)
/-- ILLEGAL_BUNDLE (R165). -/
def execIllegalBundle (k : Fin 48) (bundle : BitVec 64) (s : State) : Host.Outcome State Fault Refusal := .next (illegalBundleOp k bundle s)

end Sys2Proof.Machine
end

