-- ==== Sys2Proof/Machine/CoreVec.lean ====
section
/-! DEFINITION. The vector slot of a core (R146–R150, R159, R160). -/

namespace Sys2Proof.Machine

/-! ### Multiplies (R146, R147) -/

/-- The second factor of a multiply in lane `i`. -/
def vmY (f : VM) (c : CoreSt) (i : Nat) : Int :=
  (lane (c.D f.dy) (if f.bcast then f.k.val else i)).toInt

/-- The exact 48-bit products of R146. -/
def vmProducts (f : VM) (c : CoreSt) : List Int := lanes fun i => (lane (c.D f.dx) i).toInt * vmY f c i

/-- The rounded extended products of R147. -/
def vmExtended (f : VM) (c : CoreSt) : List Int := lanes fun i => roundMode c.rnd ((c.W f.dx).getD i 0 * vmY f c i) 24

/-- Eight values taken into an accumulator with saturation: the lanes and the lanes that saturated. -/
def accLanes (vs : List Int) : List Acc × List Bool :=
  (vs.map fun v => BitVec.ofInt 56 (satTo 56 v).1, vs.map fun v => (satTo 56 v).2)

/-- A multiply's result: seen by the accumulate chain one bundle later and by other reads after three; its SAT one
bundle later (DEDUCED, assumption 62). -/
def CoreSt.emitMac (c : CoreSt) (aa : Nat) (vs : List Int) : CoreSt :=
  let r := accLanes vs
  ((c.emit 0 1 (.accE aa r.1)).emit 0 3 (.acc aa r.1)).sat 0 1 r.2

/-- A result written to an accumulator that every read sees `l` bundles later. -/
def CoreSt.emitAcc (c : CoreSt) (rank l aa : Nat) (vs : List Int) : CoreSt :=
  let r := accLanes vs
  ((c.emit rank l (.accE aa r.1)).emit rank l (.acc aa r.1)).sat rank l r.2

/-- A multiply with an accumulation: `sign` 0 writes, 1 adds, −1 subtracts. -/
def macOp (f : VM) (sign : Int) (ps : List Int) (c : CoreSt) : CoreSt :=
  let old (i : Nat) : Int := (lane (c.AE f.aa) i).toInt
  c.emitMac f.aa (lanes fun i => if sign = 0 then ps.getD i 0 else old i + sign * ps.getD i 0)

/-! ### Lane operations (R150) -/

/-- Eight 24-bit results written one bundle later. -/
def CoreSt.emitD (c : CoreSt) (rank l dd : Nat) (vs : List Sample) : CoreSt := c.emit rank l (.d dd vs)

/-- Eight results saturated to 24 bits, with their flags. -/
def CoreSt.emitSat (c : CoreSt) (rank l dd : Nat) (vs : List Int) : CoreSt :=
  (c.emitD rank l dd (vs.map fun v => BitVec.ofInt 24 (satTo 24 v).1)).sat rank l (vs.map fun v => (satTo 24 v).2)

/-- A saturating lane operation. -/
def satLanes (f : VA) (op : Int → Int → Int) (c : CoreSt) : CoreSt :=
  c.emitSat 0 1 f.dd (lanes fun i => op (lane (c.D f.dx) i).toInt (lane (c.D f.dy) i).toInt)

/-- A lane operation that never saturates. -/
def plainLanes (f : VA) (op : Nat → Sample → Sample → Sample) (c : CoreSt) : CoreSt :=
  c.emitD 0 1 f.dd (lanes fun i => op i (lane (c.D f.dx) i) (lane (c.D f.dy) i))

/-- A comparison of CMP by its F (R160). -/
def cmpHolds (f : Nat) (x y : Int) : Bool :=
  if f = 0 then decide (x = y) else if f = 1 then decide (x ≠ y) else if f = 2 then decide (x < y)
  else if f = 3 then decide (x ≤ y) else if f = 4 then decide (y < x) else decide (y ≤ x)

/-- CMP: CF of each lane; F of 6 or 7 is an illegal bundle (R160, R165). -/
def cmpOp (f : VA) (c : CoreSt) : CoreSt :=
  if 6 ≤ f.f.val then c.fails .ill 0
  else c.emit 0 1 (.cf (laneFlags (lanes fun i => cmpHolds f.f (lane (c.D f.dx) i).toInt (lane (c.D f.dy) i).toInt)))

/-! ### Accumulator operations (R148, R149) -/

/-- The values of an extraction with exponent `e`, before saturation (R148). -/
def extraction (c : CoreSt) (aa : Nat) (s : BitVec 3) (e : Int) : List Int :=
  lanes fun i => scaleRound c.rnd (lane (c.A aa) i).toInt (s.toInt + e)

/-- The high and the low register of eight double words. -/
def pairOfInts (vs : List Int) : List Sample × List Sample :=
  (vs.map fun v => BitVec.ofInt 24 (v / 2 ^ 24), vs.map fun v => BitVec.ofInt 24 v)

/-- RDA: a 24-bit extraction, seen two bundles later. -/
def rdaOp (f : VX) (c : CoreSt) : CoreSt := c.emitSat 0 2 f.dd (extraction c f.aa f.s (-23))

/-- RDAD: a 48-bit extraction into a pair. -/
def rdadOp (f : VX) (c : CoreSt) : CoreSt :=
  let vs := extraction c f.aa f.s 1
  let p := pairOfInts (vs.map fun v => (satTo 48 v).1)
  let m := f.dd.val / 2 * 2
  ((c.emitD 0 2 m p.1).emitD 0 2 (m + 1) p.2).sat 0 2 (vs.map fun v => (satTo 48 v).2)

/-- An accumulator written from two accumulators. -/
def accOp (f : VX) (op : Int → Int → Int) (c : CoreSt) : CoreSt :=
  c.emitAcc 0 1 f.aa (lanes fun i => op (lane (c.A f.aa) i).toInt (lane (c.A f.ab) i).toInt)

/-! ### The commands -/

/-- MUL (R146). -/
def execMul (a : At) (f : VM) (s : State) : Host.Outcome State Fault Refusal := .next (runLocal a (fun c => macOp f 0 (vmProducts f c) c) s)
/-- MAC (R146). -/
def execMac (a : At) (f : VM) (s : State) : Host.Outcome State Fault Refusal := .next (runLocal a (fun c => macOp f 1 (vmProducts f c) c) s)
/-- MSU (R146). -/
def execMsu (a : At) (f : VM) (s : State) : Host.Outcome State Fault Refusal := .next (runLocal a (fun c => macOp f (-1) (vmProducts f c) c) s)
/-- MULX (R147). -/
def execMulx (a : At) (f : VM) (s : State) : Host.Outcome State Fault Refusal := .next (runLocal a (fun c => macOp f 0 (vmExtended f c) c) s)
/-- MACX (R147). -/
def execMacx (a : At) (f : VM) (s : State) : Host.Outcome State Fault Refusal := .next (runLocal a (fun c => macOp f 1 (vmExtended f c) c) s)
/-- MSUX (R147). -/
def execMsux (a : At) (f : VM) (s : State) : Host.Outcome State Fault Refusal := .next (runLocal a (fun c => macOp f (-1) (vmExtended f c) c) s)
/-- ADD (R150). -/
def execAdd (a : At) (f : VA) (s : State) : Host.Outcome State Fault Refusal := .next (runLocal a (satLanes f fun x y => x + y) s)
/-- SUB (R150). -/
def execSub (a : At) (f : VA) (s : State) : Host.Outcome State Fault Refusal := .next (runLocal a (satLanes f fun x y => x - y) s)
/-- MIN. -/
def execMin (a : At) (f : VA) (s : State) : Host.Outcome State Fault Refusal :=
  .next (runLocal a (plainLanes f fun _ x y => if y.toInt < x.toInt then y else x) s)
/-- MAX. -/
def execMax (a : At) (f : VA) (s : State) : Host.Outcome State Fault Refusal :=
  .next (runLocal a (plainLanes f fun _ x y => if x.toInt < y.toInt then y else x) s)
/-- AND. -/
def execAnd (a : At) (f : VA) (s : State) : Host.Outcome State Fault Refusal := .next (runLocal a (plainLanes f fun _ x y => x &&& y) s)
/-- OR. -/
def execOr (a : At) (f : VA) (s : State) : Host.Outcome State Fault Refusal := .next (runLocal a (plainLanes f fun _ x y => x ||| y) s)
/-- XOR. -/
def execXor (a : At) (f : VA) (s : State) : Host.Outcome State Fault Refusal := .next (runLocal a (plainLanes f fun _ x y => x ^^^ y) s)
/-- ABS (R150). -/
def execAbs (a : At) (f : VA) (s : State) : Host.Outcome State Fault Refusal :=
  .next (runLocal a (satLanes f fun x _ => if x < 0 then -x else x) s)
/-- NEG (R150). -/
def execNeg (a : At) (f : VA) (s : State) : Host.Outcome State Fault Refusal := .next (runLocal a (satLanes f fun x _ => -x) s)
/-- SHL (R150). -/
def execShl (a : At) (f : VA) (s : State) : Host.Outcome State Fault Refusal :=
  .next (runLocal a (satLanes f fun x _ => x * 2 ^ (f.f.val + 1)) s)
/-- SHR (R149). -/
def execShr (a : At) (f : VA) (s : State) : Host.Outcome State Fault Refusal :=
  .next (runLocal a (fun c => plainLanes f (fun _ x _ => BitVec.ofInt 24 (roundMode c.rnd x.toInt (f.f.val + 1))) c) s)
/-- SLD (R160). -/
def execSld (a : At) (f : VA) (s : State) : Host.Outcome State Fault Refusal :=
  .next (runLocal a (fun c => c.emitD 0 1 f.dd (lanes fun i =>
    if i + f.f.val < 8 then lane (c.D f.dx) (i + f.f.val) else lane (c.D f.dy) (i + f.f.val - 8))) s)
/-- CMP (R160). -/
def execCmp (a : At) (f : VA) (s : State) : Host.Outcome State Fault Refusal := .next (runLocal a (cmpOp f) s)
/-- SEL (R160). -/
def execSel (a : At) (f : VA) (s : State) : Host.Outcome State Fault Refusal :=
  .next (runLocal a (fun c => plainLanes f (fun i x y => if c.cf i then x else y) c) s)
/-- BCAST (R160). -/
def execBcast (a : At) (f : VA) (s : State) : Host.Outcome State Fault Refusal :=
  .next (runLocal a (fun c => c.emitD 0 1 f.dd (lanes fun _ => lane (c.D f.dx) f.f)) s)
/-- RDA (R148). -/
def execRda (a : At) (f : VX) (s : State) : Host.Outcome State Fault Refusal := .next (runLocal a (rdaOp f) s)
/-- RDAD (R148). -/
def execRdad (a : At) (f : VX) (s : State) : Host.Outcome State Fault Refusal := .next (runLocal a (rdadOp f) s)
/-- LDA (R160). -/
def execLda (a : At) (f : VX) (s : State) : Host.Outcome State Fault Refusal :=
  .next (runLocal a (fun c => c.emitAcc 0 1 f.aa (lanes fun i => (lane (c.D f.dd) i).toInt * 2 ^ 23)) s)
/-- LDAD (R149, R160). -/
def execLdad (a : At) (f : VX) (s : State) : Host.Outcome State Fault Refusal :=
  .next (runLocal a (fun c => c.emitAcc 0 1 f.aa (lanes fun i => roundMode c.rnd ((c.W f.dd).getD i 0) 1)) s)
/-- ADDA (R146). -/
def execAdda (a : At) (f : VX) (s : State) : Host.Outcome State Fault Refusal := .next (runLocal a (accOp f fun x y => x + y) s)
/-- SUBA (R146). -/
def execSuba (a : At) (f : VX) (s : State) : Host.Outcome State Fault Refusal := .next (runLocal a (accOp f fun x y => x - y) s)
/-- MOVA. -/
def execMova (a : At) (f : VX) (s : State) : Host.Outcome State Fault Refusal := .next (runLocal a (accOp f fun _ y => y) s)
/-- CLRA. -/
def execClra (a : At) (f : VX) (s : State) : Host.Outcome State Fault Refusal := .next (runLocal a (accOp f fun _ _ => 0) s)
/-- SHA (R149). -/
def execSha (a : At) (f : VX) (s : State) : Host.Outcome State Fault Refusal :=
  .next (runLocal a (fun c => accOp f (fun _ y => scaleRound c.rnd y f.s.toInt) c) s)
/-- NEGA. -/
def execNega (a : At) (f : VX) (s : State) : Host.Outcome State Fault Refusal := .next (runLocal a (accOp f fun _ y => -y) s)

end Sys2Proof.Machine
end

