-- ==== Sys2Proof/Machine/CoreMem.lean ====
section
/-! DEFINITION. The memory slots of a core: loads, stores, pointers and moves (R139, R140, R144,
R148, R151–R154, R162). -/

namespace Sys2Proof.Machine

/-! ### Reaching memory (R139, R140, R152) -/

/-- The mailbox unit as a master reads it: the channels posted and acknowledged are computed (R95). -/
def State.mbxRead (s : State) (off : Nat) : Word :=
  if 0x40030000 + off = R.MBX_POSTED then s.chansIn 1
  else if 0x40030000 + off = R.MBX_ACKED then s.chansIn 3
  else s.reg (0x40030000 + off)

/-- Whether a block register is one a core of cluster `c` may read: the mailbox unit, CNT_DSTAT with the
cluster's permission (R430), its own CLU block (R139). -/
def State.coreReads (s : State) (c a : Nat) : Bool :=
  decide (0x40030000 ≤ a ∧ a < 0x40040000)
  || (a == R.CNT_DSTAT && s.get F.CNT_CFG_PERM / 2 ^ c % 2 == 1)
  || decide (0x40A00000 + c * 0x10000 ≤ a ∧ a < 0x40A00000 + (c + 1) * 0x10000)

/-- What a core reads in a block register (DEDUCED, assumption 67). -/
def State.coreReg (s : State) (a : Nat) : Word :=
  if 0x40030000 ≤ a ∧ a < 0x40040000 then s.mbxRead (a - 0x40030000) else s.reg a

/-- What a core address of core `k` reaches. -/
def State.coreTarget (s : State) (k : Nat) (c : CoreSt) (a : Word) : CoreTarget :=
  coreMap k (c.S 0x46).toNat s.ddrBytes a

/-- Whether an access of `n` bytes by core `k` is one it may issue (R139, R140). -/
def State.coreMay (s : State) (k : Nat) (c : CoreSt) (store : Bool) (n : Nat) (a : Word) : Bool :=
  match s.coreTarget k c a with
  | .localMem _ => true
  | .shared _ => true
  | .reg r =>
    (List.range (n / 4)).all fun i =>
      if store then decide (0x40030000 ≤ r + 4 * i ∧ r + 4 * i < 0x40040000) else s.coreReads (k / 8) (r + 4 * i)
  | .bad => false

/-- Core cycles lost on an access through the fabric (R168) (DESIGN CHOICE, assumption 66). -/
def coreStall (k : Nat) (s : State) : State :=
  (s.setReg (R.CLU_STALL (k / 8) (k % 8)) (s.reg (R.CLU_STALL (k / 8) (k % 8)) + word (Config.stallCycles s.free))).fresh

/-- One element of `n` bytes loaded: the state, the core with an uncorrectable error noted, and the number
read (R130, R142, R404) (DEDUCED, assumption 67). -/
def loadOne (k n : Nat) (a : Word) (s : State) (c : CoreSt) : State × CoreSt × Nat :=
  let bad (x : Nat) : Bool := (List.range ((n + 7) / 8)).any fun i => s.memx.poison.contains (x / 8 * 8 + 8 * i)
  match s.coreTarget k c a with
  | .localMem x => (s, if bad x then c.fails .eccD 0 else c, bytesNat (s.bytes x n))
  | .shared x =>
    let t := coreStall k (s.touch x)
    if bad x then (poisonLog (0x10 + k / 8) x t, c.fails .eccD 0, 0) else (t.foundAt x n, c, bytesNat (t.found x n))
  | .reg r => (s, c, (List.range (n / 4)).foldr (fun i v => (s.coreReg (r + 4 * i)).toNat + 2 ^ 32 * v) 0)
  | .bad => (s, c, 0)

/-- Elements loaded in ascending order. -/
def loadAll (k n : Nat) : List Word → State → CoreSt → State × CoreSt × List Nat
  | [], s, c => (s, c, [])
  | a :: as, s, c =>
    let r := loadOne k n a s c
    let q := loadAll k n as r.1 r.2.1
    (q.1, q.2.1, r.2.2 :: q.2.2)

/-- The element addresses of an access of `count` elements of `n` bytes (R151–R153). -/
def accessAddrs (c : CoreSt) (x : Mem) (n count : Nat) : List Word :=
  elemAddrs (c.S x.pp).toNat (c.S (0x10 + x.pp)).toNat (c.P x.pp) n count

/-- The update of the pointer of an access by its mode (R151, R153). -/
def ptrStep (x : Mem) (size : Nat) (c : CoreSt) : CoreSt :=
  if x.md = 0 then c
  else
    let a : Int := ((c.P x.pp).toNat : Int) + ptrUpdate x.md size (c.S (0x20 + x.pp)).toInt
    c.emit (slotRank x.slot) 1 (.p x.pp (wrapAddr (c.S x.pp).toNat (c.S (0x10 + x.pp)).toNat a))

/-- A load of `count` elements of `n` bytes, its values given to `f`, its pointer updated. -/
def loadOp (k : Nat) (x : Mem) (n count : Nat) (f : List Nat → CoreSt → CoreSt) (s : State) (c : CoreSt) : State × CoreSt :=
  let as := accessAddrs c x n count
  match as.find? fun a => !s.coreMay k c false n a with
  | some a => (s, c.fails .addr a)
  | none =>
    let r := loadAll k n as s c
    (r.1, ptrStep x (n * count) (f r.2.2 r.2.1))

/-- A store of elements of `n` bytes, carried out at the end of the bundle (DEDUCED, assumption 62; DEDUCED, assumption 67). -/
def storeOp (k : Nat) (x : Mem) (n : Nat) (vs : List Nat) (s : State) (c : CoreSt) : State × CoreSt :=
  let as := accessAddrs c x n vs.length
  match as.find? fun a => !s.coreMay k c true n a with
  | some a => (s, c.fails .addr a)
  | none =>
    let one (p : Word × Nat) : List CoreStore :=
      match s.coreTarget k c p.1 with
      | .localMem y => [⟨slotRank x.slot, false, y, natBytes n p.2⟩]
      | .shared y => [⟨slotRank x.slot, false, y, natBytes n p.2⟩]
      | .reg y => [⟨slotRank x.slot, true, y, natBytes n p.2⟩]
      | .bad => []
    let far := as.any fun a => match s.coreTarget k c a with
      | .shared _ => true
      | _ => false
    (if far then coreStall k s else s,
      ptrStep x (n * vs.length) { c with stores := c.stores ++ (as.zip vs).flatMap one })

/-! ### Containers (R150, R152) -/

/-- The sample of a 32-bit container. -/
def sampleOf (n : Nat) : Sample := BitVec.ofNat 24 (n / 256)
/-- The container of a sample. -/
def ofSample (v : Sample) : Nat := v.toNat * 256
/-- The high and the low part of a double word in its container. -/
def hiOf (n : Nat) : Sample := BitVec.ofNat 24 (n / 2 ^ 40)
def loOf (n : Nat) : Sample := BitVec.ofNat 24 (n / 2 ^ 16)
/-- The container of a double word. -/
def ofDouble (v : Int) : Nat := (BitVec.ofInt 48 v).toNat * 2 ^ 16
/-- The container of a raw accumulator, sign-extended. -/
def ofAcc (v : Acc) : Nat := (v.signExtend 64).toNat

/-- A sign-extended sample as a P register holds it. -/
def wordOf (v : Sample) : Word := v.signExtend 32

/-- A P register written one bundle later. -/
def CoreSt.emitP (c : CoreSt) (slot : MSlot) (pd : Nat) (v : Word) : CoreSt := c.emit (slotRank slot) 1 (.p pd v)

/-- MOVS: the P register and the system register exchanged in the directions given; direction 3 is an
illegal bundle (R144, R162, R165) (DEDUCED, assumption 62). -/
def movsOp (k : Nat) (slot : MSlot) (pq dir n : Nat) (c : CoreSt) : CoreSt :=
  if 3 ≤ dir then c.fails .ill 0
  else
    let v := c.P pq
    let c' := if dir = 1 then c else c.emitP slot pq (c.sysRead k n)
    if dir = 0 then c'
    else match sysMask n v with
      | some w => c'.emit (slotRank slot) 2 (.sys n w)
      | none => c'

/-! ### The commands -/

/-- LDV. -/
def execLdv (a : At) (x : Mem) (dd : Fin 32) (s : State) : Host.Outcome State Fault Refusal :=
  .next (runOp a (loadOp a.core x 4 8 fun vs c => c.emitD (slotRank x.slot) 2 dd (vs.map sampleOf)) s)
/-- LDB. -/
def execLdb (a : At) (x : Mem) (dd : Fin 32) (s : State) : Host.Outcome State Fault Refusal :=
  .next (runOp a (loadOp a.core x 4 1 fun vs c => c.emitD (slotRank x.slot) 2 dd (lanes fun _ => sampleOf (vs.headD 0))) s)
/-- LDL. -/
def execLdl (a : At) (x : Mem) (dd : Fin 32) (k : Fin 8) (s : State) : Host.Outcome State Fault Refusal :=
  .next (runOp a (loadOp a.core x 4 1 fun vs c => c.emit (slotRank x.slot) 2 (.dLane dd k (sampleOf (vs.headD 0)))) s)
/-- LDVD. -/
def execLdvd (a : At) (x : Mem) (dd : Fin 32) (s : State) : Host.Outcome State Fault Refusal :=
  .next (runOp a (loadOp a.core x 8 8 fun vs c =>
    (c.emitD (slotRank x.slot) 2 (dd.val / 2 * 2) (vs.map hiOf)).emitD (slotRank x.slot) 2 (dd.val / 2 * 2 + 1) (vs.map loOf)) s)
/-- STV. -/
def execStv (a : At) (x : Mem) (dd : Fin 32) (s : State) : Host.Outcome State Fault Refusal :=
  .next (runOp a (fun s c => storeOp a.core x 4 ((c.D dd).map ofSample) s c) s)
/-- STL. -/
def execStl (a : At) (x : Mem) (dd : Fin 32) (k : Fin 8) (s : State) : Host.Outcome State Fault Refusal :=
  .next (runOp a (fun s c => storeOp a.core x 4 [ofSample (lane (c.D dd) k)] s c) s)
/-- STVD: the pair unsaturated. -/
def execStvd (a : At) (x : Mem) (dd : Fin 32) (s : State) : Host.Outcome State Fault Refusal :=
  .next (runOp a (fun s c => storeOp a.core x 8 ((c.W dd).map ofDouble) s c) s)
/-- STA: a 24-bit extraction (R148). -/
def execSta (a : At) (x : Mem) (aa : Fin 8) (sh : BitVec 3) (s : State) : Host.Outcome State Fault Refusal :=
  .next (runOp a (fun s c =>
    let vs := (extraction c aa sh (-23)).map fun v => satTo 24 v
    let r := storeOp a.core x 4 (vs.map fun v => ofSample (BitVec.ofInt 24 v.1)) s c
    (r.1, r.2.sat (slotRank x.slot) 1 (vs.map fun v => v.2))) s)
/-- STAD: a 48-bit extraction (R148). -/
def execStad (a : At) (x : Mem) (aa : Fin 8) (sh : BitVec 3) (s : State) : Host.Outcome State Fault Refusal :=
  .next (runOp a (fun s c =>
    let vs := (extraction c aa sh 1).map fun v => satTo 48 v
    let r := storeOp a.core x 8 (vs.map fun v => ofDouble v.1) s c
    (r.1, r.2.sat (slotRank x.slot) 1 (vs.map fun v => v.2))) s)
/-- STAR: the raw accumulator. -/
def execStar (a : At) (x : Mem) (aa : Fin 8) (s : State) : Host.Outcome State Fault Refusal :=
  .next (runOp a (fun s c => storeOp a.core x 8 ((c.A aa).map ofAcc) s c) s)
/-- LDAR: the raw accumulator, seen by every read two bundles later. -/
def execLdar (a : At) (x : Mem) (aa : Fin 8) (s : State) : Host.Outcome State Fault Refusal :=
  .next (runOp a (loadOp a.core x 8 8 fun vs c =>
    let l : List Acc := vs.map fun v => BitVec.ofNat 56 v
    (c.emit (slotRank x.slot) 2 (.accE aa l)).emit (slotRank x.slot) 2 (.acc aa l)) s)
/-- LDW. -/
def execLdw (a : At) (x : Mem) (pq : Fin 16) (s : State) : Host.Outcome State Fault Refusal :=
  .next (runOp a (loadOp a.core x 4 1 fun vs c => c.emit (slotRank x.slot) 2 (.p pq (word (vs.headD 0)))) s)
/-- STW. -/
def execStw (a : At) (x : Mem) (pq : Fin 16) (s : State) : Host.Outcome State Fault Refusal :=
  .next (runOp a (fun s c => storeOp a.core x 4 [(c.P pq).toNat] s c) s)
/-- MOVD. -/
def execMovd (a : At) (slot : MSlot) (dd dx : Fin 32) (s : State) : Host.Outcome State Fault Refusal :=
  .next (runLocal a (fun c => c.emitD (slotRank slot) 1 dd (c.D dx)) s)
/-- MOVP. -/
def execMovp (a : At) (slot : MSlot) (pd px : Fin 16) (s : State) : Host.Outcome State Fault Refusal :=
  .next (runLocal a (fun c => c.emitP slot pd (c.P px)) s)
/-- ADDP. -/
def execAddp (a : At) (slot : MSlot) (pd : Fin 16) (imm : BitVec 10) (s : State) : Host.Outcome State Fault Refusal :=
  .next (runLocal a (fun c => c.emitP slot pd (c.P pd + imm.signExtend 32)) s)
/-- ADDPP. -/
def execAddpp (a : At) (slot : MSlot) (pd px py : Fin 16) (s : State) : Host.Outcome State Fault Refusal :=
  .next (runLocal a (fun c => c.emitP slot pd (c.P px + c.P py)) s)
/-- MOVI. -/
def execMovi (a : At) (slot : MSlot) (pd : Fin 16) (imm : BitVec 10) (s : State) : Host.Outcome State Fault Refusal :=
  .next (runLocal a (fun c => c.emitP slot pd (imm.signExtend 32)) s)
/-- GETL. -/
def execGetl (a : At) (slot : MSlot) (pd : Fin 16) (dx : Fin 32) (k : Fin 8) (s : State) : Host.Outcome State Fault Refusal :=
  .next (runLocal a (fun c => c.emitP slot pd (wordOf (lane (c.D dx) k))) s)
/-- PUTL. -/
def execPutl (a : At) (slot : MSlot) (dd : Fin 32) (k : Fin 8) (px : Fin 16) (s : State) : Host.Outcome State Fault Refusal :=
  .next (runLocal a (fun c => c.emit (slotRank slot) 1 (.dLane dd k ((c.P px).setWidth 24))) s)
/-- MOVS (R144). -/
def execMovs (a : At) (slot : MSlot) (pq : Fin 16) (dir : Fin 4) (sys : BitVec 7) (s : State) : Host.Outcome State Fault Refusal :=
  .next (runLocal a (movsOp a.core slot pq dir sys.toNat) s)

end Sys2Proof.Machine
end

