-- ==== Sys2Proof/Machine/CoreCtl.lean ====
section
/-! DEFINITION. The control operations of slot M1 and the long operations of a core (R155–R157,
R162–R164, R172, R178). -/

namespace Sys2Proof.Machine

/-- What the bundle does to the flow of control at its end. -/
def CoreSt.flow (c : CoreSt) (x : CoreCtl) : CoreSt := { c with ctl := x }

/-- A branch taken or not: either way the two bundles after it are its delay slots (R166). -/
def CoreSt.branchIf (c : CoreSt) (taken : Bool) (target : Word) : CoreSt :=
  c.flow (.branch (if taken then target else c.pc + 24))

/-- This bundle + 8 × off. -/
def CoreSt.target (c : CoreSt) (off : BitVec 11) : Word := c.pc + 8 * off.signExtend 32

/-- The branch conditions (R163); `none` for an illegal one. -/
def CoreSt.cond (c : CoreSt) (n : Nat) : Option Bool :=
  match n with
  | 0 => some true
  | 1 => some ((List.range 8).any c.cf)
  | 2 => some ((List.range 8).all c.cf)
  | 3 => some (!(List.range 8).any c.cf)
  | 4 => some (c.cf 0)
  | 5 => some (!c.cf 0)
  | _ => none

/-- BR; a condition above 5 is an illegal bundle. -/
def brOp (n : Nat) (off : BitVec 11) (c : CoreSt) : CoreSt :=
  match c.cond n with
  | some b => c.branchIf b (c.target off)
  | none => c.fails .ill 0

/-- A call: P15 takes the bundle after the delay slots (DEDUCED, assumption 62). -/
def callOp (t : Word) (c : CoreSt) : CoreSt := (c.emit 2 1 (.p 15 (c.pc + 24))).branchIf true t

/-- LOOP and LOOPI: the body begins after the set-up slots (R155). -/
def loopOp (count endOff : Nat) (c : CoreSt) : CoreSt := c.flow (.loop count (c.pc + 24 + word (8 * endOff)))

/-! ### The commands -/

/-- BR. -/
def execBr (a : At) (cond : Fin 16) (off : BitVec 11) (s : State) : Host.Outcome State Fault Refusal := .next (runLocal a (brOp cond off) s)
/-- BRZ. -/
def execBrz (a : At) (pp : Fin 16) (off : BitVec 11) (s : State) : Host.Outcome State Fault Refusal :=
  .next (runLocal a (fun c => c.branchIf (c.P pp == 0) (c.target off)) s)
/-- BRNZ. -/
def execBrnz (a : At) (pp : Fin 16) (off : BitVec 11) (s : State) : Host.Outcome State Fault Refusal :=
  .next (runLocal a (fun c => c.branchIf (c.P pp != 0) (c.target off)) s)
/-- CALL. -/
def execCall (a : At) (off : BitVec 11) (s : State) : Host.Outcome State Fault Refusal := .next (runLocal a (fun c => callOp (c.target off) c) s)
/-- JR. -/
def execJr (a : At) (pp : Fin 16) (s : State) : Host.Outcome State Fault Refusal :=
  .next (runLocal a (fun c => c.branchIf true (c.P pp &&& 0xFFFFFFF8#32)) s)
/-- LOOP (R155). -/
def execLoop (a : At) (pc : Fin 16) (endOff : BitVec 11) (s : State) : Host.Outcome State Fault Refusal :=
  .next (runLocal a (fun c => loopOp (bits (c.P pc) 15 0) endOff.toNat c) s)
/-- FENCE: every store of an earlier bundle is visible already in one step a bundle, so it only holds the
core for some cycles (R168, R172). -/
def execFence (a : At) (s : State) : Host.Outcome State Fault Refusal := .next (runOp a (fun s c => (coreStall a.core s, c)) s)
/-- DONE (R172). -/
def execDone (a : At) (s : State) : Host.Outcome State Fault Refusal := .next (runLocal a (fun c => c.flow .done) s)
/-- RETI (R178, R179). -/
def execReti (a : At) (s : State) : Host.Outcome State Fault Refusal := .next (runLocal a (fun c => c.flow .reti) s)
/-- BRK (R163). -/
def execBrk (a : At) (s : State) : Host.Outcome State Fault Refusal := .next (runLocal a (fun c => c.flow .brk) s)
/-- LEXIT: argument + 1 levels end from the next bundle (R157, R163). -/
def execLexit (a : At) (n : Fin 8) (s : State) : Host.Outcome State Fault Refusal := .next (runLocal a (fun c => c.flow (.lexit (n.val + 1))) s)
/-- SETRND (R163). -/
def execSetrnd (a : At) (r : Fin 8) (s : State) : Host.Outcome State Fault Refusal :=
  .next (runLocal a (fun c => c.emit 2 1 (.rnd (BitVec.ofNat 2 r.val))) s)
/-- CLRSAT (R163). -/
def execClrsat (a : At) (s : State) : Host.Outcome State Fault Refusal := .next (runLocal a (fun c => c.emit 2 1 .satClr) s)
/-- LMOVI (R164). -/
def execLmovi (a : At) (pd : Fin 16) (imm : BitVec 28) (s : State) : Host.Outcome State Fault Refusal :=
  .next (runLocal a (fun c => c.emit 2 1 (.p pd (imm.signExtend 32))) s)
/-- LMOVU (R164). -/
def execLmovu (a : At) (pd : Fin 16) (imm : BitVec 28) (s : State) : Host.Outcome State Fault Refusal :=
  .next (runLocal a (fun c => c.emit 2 1 (.p pd (word (imm.toNat * 16)))) s)
/-- LOOPI (R155, R164). -/
def execLoopi (a : At) (count : BitVec 16) (endOff : BitVec 12) (s : State) : Host.Outcome State Fault Refusal :=
  .next (runLocal a (loopOp count.toNat endOff.toNat) s)
/-- LJMP (R164). -/
def execLjmp (a : At) (target : BitVec 14) (s : State) : Host.Outcome State Fault Refusal :=
  .next (runLocal a (fun c => c.branchIf true (word (8 * target.toNat))) s)
/-- LCALL (R164). -/
def execLcall (a : At) (target : BitVec 14) (s : State) : Host.Outcome State Fault Refusal :=
  .next (runLocal a (callOp (word (8 * target.toNat))) s)

end Sys2Proof.Machine
end

