-- ==== Sys2Proof/Machine/Bus.lean ====
section
/-! DEFINITION. Accesses by internal address (R8, R9, R121, R139, R141, R185, R391–R395, R467): register
writes and reads of every block, memory, the SPI target, PEEK and POKE, DMA descriptors. -/

namespace Sys2Proof.Machine

/-! ### Registers with behaviour of their own -/

/-- A write to the CLU block of a cluster. -/
def cluRegWrite (c off : Nat) (v : Word) (s : State) : State :=
  if 0x100 ≤ off ∧ off < 0x120 then
    let k := 8 * c + (off - 0x100) / 4
    (s.when (bit v 1) (coreRestartOp k)).when (bit v 0) (coreDbgreqOp k)
  else s.writeReg (0x40A00000 + c * 0x10000 + off) v

/-- A write to the DISP block: a swap requested, a handle armed or disarmed. -/
def dispRegWrite (off : Nat) (v : Word) (s : State) : State :=
  if off = 0 then (if bit v 0 then s.put F.DISP_STAT_TSWPEND 1 else s)
  else if off = 0x10 then (if bit v 16 then dispDisarmOp (bits v 9 0) s else dispArmOp (bits v 9 0) s)
  else s.writeReg (0x40070000 + off) v

/-- A descriptor word written (R185). -/
def descWrite (off : Nat) (v : Word) (s : State) : State :=
  s.modDisp fun d => { d with desc := ksetD d.desc (off / 4) v 0 }

/-- A crosspoint index as PTADR applies it (R63): one that names no crosspoint is the last of its stage. -/
def xpApplied (isMatrix : Bool) (xp : Nat) : Nat :=
  if isMatrix then (if 262144 ≤ xp ∨ 768 ≤ xp % 1024 then 255 * 1024 + 767 else xp) else min (512 * 1024 - 1) xp

/-- A write to the PATCH block: patch entries; mixer controls and Trails change only through Hampers (DEDUCED, assumption 68). -/
def patchRegWrite (off : Nat) (v : Word) (s : State) : State :=
  if 0x10000 ≤ off ∧ off < 0x20000 then
    let e := (off - 0x10000) / 16
    match off % 16 with
    | 0 =>
      if s.on (F.PATCH_PTSTAT_RUN e) then s
      else (s.put (F.PATCH_PTADR_STAGE e) (bits v 31 31)).put (F.PATCH_PTADR_XP e) (xpApplied (bit v 31) (bits v 18 0))
    | 4 => s.put (F.PATCH_PTGAIN_TARGET e) (BitVec.ofInt 24 (coefOf (v.setWidth 24))).toNat
    | 8 => patchGo e v s
    | _ => s.writeReg (0x40200000 + off) v
  else s.writeReg (0x40200000 + off) v

/-- A write to a block register at internal address `a` by master `m` (R8, R9, R392). -/
def regWriteOp (m : Master) (a : Nat) (v : Word) (s : State) : State :=
  let a := a / 4 * 4
  let off := a % 0x10000
  match (a - 0x40000000) / 0x10000 with
  | 0x01 => (s.writeReg a v).when (a == R.PWR_BANKSLP) fun s => s.setBit R.PWR_BANKSLP 5 true
  | 0x02 => evtRegWrite m off v s
  | 0x03 => mbxRegWrite m off v s
  | 0x05 => if off = 0 then bankPowerWriteOp v s else if off = 0x200 then ramblerWrite v s else s.writeReg a v
  | 0x06 => cntRegWrite off v s
  | 0x07 => dispRegWrite off v s
  | 0x08 => if off < 0x80 then timeRegWrite off v s else descWrite off v s
  | 0x09 => refsRegWrite off v s
  | 0x40 => netRegWrite off v s
  | 0x58 => supvRegWrite off v s
  | 0x60 => tndRegWrite off v s
  | b =>
    if 0x20 ≤ b ∧ b < 0x30 then patchRegWrite (a - 0x40200000) v s
    else if 0x30 ≤ b ∧ b < 0x32 then tdmRegWrite ((a - 0x40300000) / 0x1000) (a % 0x1000) v s
    else if 0x50 ≤ b ∧ b < 0x52 then ampRegWrite ((a - 0x40500000) / 0x1000) (a % 0x1000) v s
    else if 0xA0 ≤ b ∧ b < 0xA6 then cluRegWrite (b - 0xA0) off v s
    else s.writeReg a v

/-- A block register read (R8, R59, R95, R136, R392): the state the read leaves, and the word (DEDUCED, assumption 85; DESIGN CHOICE, assumption 105). -/
def regReadOp (a : Nat) (s : State) : State × Word :=
  let a := a / 4 * 4
  let fade (w : Word) (f : Option Fade) : Word :=
    match f with
    | some f => word (setField w.toNat 23 0 (f.remain s.now))
    | none => w
  if a = R.TIME_CAPW0 then
    let r := capPop s
    (r.1.setReg R.TIME_CAPW0 r.2.1, r.2.1)
  else if a = R.TIME_LMTIL then (s, s.mtil)
  else if 0x40030000 ≤ a ∧ a < 0x40040000 then (s, s.mbxRead (a - 0x40030000))
  else if 0x40080080 ≤ a ∧ a < 0x40090000 then (s, kgetD s.disp.desc ((a - 0x40080000) / 4) 0)
  else if a = R.SEC_STAT then (s, word (setField (s.reg a).toNat 1 1 (flag s.pins.tamperIn)))
  else if a = R.SUM_LOAD then (s.fresh, word (setField (s.reg a).toNat 9 0 (min 1023 (s.quot (s.loadInForce * 1000) s.sumBudget))))
  else if R.PATCH_TRSTAT 0 ≤ a ∧ a < R.PATCH_TRSTAT 256 then
    let t := kget s.path.trails ((a - R.PATCH_TRSTAT 0) / 4)
    (s, fade (if t.isSome then 0x80000000#32 else 0) (t.map TrailRun.fade))
  else if 0x40210000 ≤ a ∧ a < 0x40220000 ∧ a % 16 = 12 then
    (s, fade (s.reg a) ((kget s.path.patches ((a - 0x40210000) / 16)).map PatchRun.fade))
  else (s, s.reg a)

/-! ### Words at any internal address -/

/-- Whether an address is a block register. -/
def isReg (a : Nat) : Bool := decide (0x40000000 ≤ a ∧ a < 0x41000000)

/-- The core whose instruction memory holds an address, while it runs an item (R141). -/
def State.imemBusy (s : State) (a : Nat) : Bool :=
  decide (0x20000000 ≤ a ∧ a < 0x23000000 ∧ a % 0x100000 < 0x20000) && (s.core ((a - 0x20000000) / 0x100000)).running

/-- Bytes written to memory by a master, held for a running core's instruction memory (R141, R405). -/
def memPut (m a : Nat) (vs : List Byte) (s : State) : State :=
  if s.imemBusy a then s.modMem fun x => { x with imem := x.imem ++ [(a, vs)] } else memStore m a vs s

/-- A word written by master `m`. -/
def wordWrite (m : Master) (a : Nat) (v : Word) (s : State) : State :=
  if isReg a then regWriteOp m a v s else memPut m.toNat (a / 4 * 4) (wordBytes v) s

/-- A word read by master `m`; a poisoned one is logged, and what is then read is a free value (R404) (DEDUCED, assumption 69; DEDUCED, assumption 85). -/
def wordRead (m : Master) (a : Nat) (s : State) : State × Word :=
  if isReg a then regReadOp a s
  else if s.memx.poison.contains (a / 8 * 8) then ((poisonLog m.toNat a s).fresh, Config.undefWord s.free)
  else
    let r := memLoad m.toNat (a / 4 * 4) 4 s
    (r.1, word (bytesNat r.2))

/-- What a master reaches (R121, R139, R394, R442): the PCIe host BAR0 and BK6, the SPI host MB4–MB7, the
cores the mailbox unit, Debug nothing once it is closed (DEDUCED, assumption 70). -/
def State.reaches (s : State) (m : Master) (a : Nat) : Bool :=
  let mbx := decide (0x40030000 ≤ a ∧ a < 0x40040000)
  if m = 0x01 then mbx || decide (0x6000000 ≤ a ∧ a < 0x7000000)
  else if m = 0x02 then decide (0x40031000 ≤ a ∧ a < 0x40032000)
  else if 0x10#6 ≤ m ∧ m < 0x16#6 then mbx
  else if m = 0x2F then decide (s.sec.otp.lc < 2)
  else true

/-- REGISTER_WRITE: a word written by a master. An address its path never reaches is ignored; one outside
R391 is a decode error (R393) (DEDUCED, assumption 85). -/
def registerWriteOp (m : Master) (a : Nat) (v : Word) (s : State) : State :=
  if !s.reaches m a then s
  else if !s.decoded a then s.viaPort m (decodeErrorOp m.toNat a)
  else s.viaPort m (wordWrite m a v)

/-! ### The SPI target (R121) -/

/-- The words of a transaction written at rising addresses, from the start without its two low bits (DEDUCED, assumption
75); a last partial word is discarded. -/
def spiWriteOp (a : Nat) (data : List Byte) (s : State) : State :=
  s.each (bytesWords (data.take (data.length / 4 * 4))).zipIdx fun w s =>
    let at' := a / 4 * 4 + 4 * w.2
    if 0x1000 ≤ at' ∧ at' < 0x2000 then s.viaPort 0x02 (mbxRegWrite 0x02 at' w.1) else s

/-- A word the SPI host reads at an offset: the registers of MB4–MB7 and the global ones. -/
def State.spiWord (s : State) (off : Nat) : Word :=
  if (0x1000 ≤ off ∧ off < 0x2000) ∨ (0x8000 ≤ off ∧ off < 0x10000) then s.mbxRead off else 0

/-- A read transaction of `n` words at rising addresses: the words returned are kept as the target's last
output. -/
def spiReadOp (a n : Nat) (s : State) : State :=
  if s.asleep then s
  else { s with mbx := { s.mbx with spiOut := (List.range n).map fun i => s.spiWord (a / 4 * 4 + 4 * i) } }

/-! ### PEEK and POKE (R394, R467) -/

/-- The internal address of two payload words, stripped of its low bits (DEDUCED, assumption 75). -/
def pkAddr (c : Cmd) : Nat := (wide (cw c 1) (cw c 2)) % 2 ^ 40 / 4 * 4

/-- The master that carries out PEEK and POKE for a sender: the control core that serves it (R103) (DEDUCED, assumption 70). -/
def ccOf (sd : Sender) : Master :=
  match sd with
  | .master m => ((hostChans m.toNat).map fun h => BitVec.ofNat 6 h.2.2.2).getD 0x08
  | .node _ => 0x08

/-- Words read at rising addresses. -/
def readWords (m : Master) (a : Nat) : Nat → State → State × List Word
  | 0, s => (s, [])
  | n + 1, s =>
    let r := wordRead m a s
    let q := readWords m (a + 4) n r.1
    (q.1, r.2 :: q.2)

/-- Words written at rising addresses. -/
def writeWords (m : Master) (a : Nat) (vs : List Word) (s : State) : State :=
  s.each vs.zipIdx fun w s => wordWrite m (a + 4 * w.2) w.1 s

/-- Whether every word of a range is decoded, one by one. -/
def State.wordsDecoded (s : State) (a n : Nat) : Bool := (List.range n).all fun i => s.decoded (a + 4 * i)

/-- PEEK (DEDUCED, assumption 75). -/
def peekBody (c : Cmd) (s : State) : State × Rep :=
  let n := clampNat 1 60 (cw c 3).toNat
  if !s.wordsDecoded (pkAddr c) n then (s, .rc rcRefused)
  else
    let r := readWords (ccOf c.sender) (pkAddr c) n s
    (r.1, .ok r.2)

/-- POKE: in a pair it is applied at the next round-start Stile on both chips (R357) (DEDUCED, assumption 75). -/
def pokeBody (c : Cmd) (s : State) : State × Rep :=
  let n := clampNat 1 59 (cw c 3).toNat
  if c.words.length < 3 + n then (s, .rc rcMalformed)
  else if !s.wordsDecoded (pkAddr c) n then (s, .rc rcRefused)
  else
    let vs := (c.words.drop 3).take n
    if s.on F.TND_CTL_EN && s.get F.TND_LINK_LANES != 0 then
      (s.modTnd fun t => { t with pokes := t.pokes ++ [(pkAddr c, vs)] }, .rc rcDone)
    else (writeWords (ccOf c.sender) (pkAddr c) vs s, .rc rcDone)

/-! ### DMA (R394, R404) -/

/-- The first poisoned 64-bit word of a range (DEDUCED, assumption 36). -/
def State.firstPoison (s : State) (a n : Nat) : Option Nat :=
  (s.memx.poison.filter fun w => decide (a < w + 8 ∧ w < a + n)).foldl
    (fun x w => match x with
      | none => some w
      | some y => some (min y w)) none

/-- Words moved one by one, where a range lies in block registers (DEDUCED, assumption 36). -/
def dmaWords (m : Master) (src dst : Nat) : Nat → State → State
  | 0, s => s
  | n + 1, s =>
    let r := wordRead m src s
    dmaWords m (src + 4) (dst + 4) n (wordWrite m dst r.2 r.1)

/-- DMA_DESCRIPTOR: taken while the channel issues, not from abort point B of a sleep entry on (R381); both ranges checked before the first access; a poisoned read stops the channel after the
bytes before it (DEDUCED, assumption 36). -/
def dmaOp (ch : Nat) (d : DmaDesc) (s : State) : State :=
  let m : Master := BitVec.ofNat 6 (0x20 + ch)
  let src := d.src.toNat
  let dst := d.dst.toNat
  let stop (s : State) : State := s.modMem fun x => { x with dmaErr := x.dmaErr ++ [ch] }
  if s.memx.dmaErr.contains ch || !s.readerRuns then s
  else if !s.decodedRange src d.len || !s.decodedRange dst d.len then stop s
  else
    let bad := if isReg src then none else s.firstPoison src d.len
    let n := match bad with
      | some w => w - src
      | none => d.len
    let s :=
      if isReg src || isReg dst then dmaWords m src dst (n / 4) s
      else
        let r := memLoad m.toNat src n s
        memPut m.toNat dst r.2 r.1
    match bad with
    | some w => stop (poisonLog m.toNat w s)
    | none => s

/-! ### The commands -/

/-- REGISTER_WRITE (R8, R9). -/
def execRegisterWrite (m : Master) (addr : BitVec 40) (v : Word) (s : State) : Host.Outcome State Fault Refusal :=
  .next (registerWriteOp m addr.toNat v s)
/-- SPI_WRITE (R121). -/
def execSpiWrite (addr : BitVec 24) (data : List Byte) (s : State) : Host.Outcome State Fault Refusal :=
  .next (spiWriteOp addr.toNat data s)
/-- SPI_READ (R121). -/
def execSpiRead (addr : BitVec 24) (n : Nat) (s : State) : Host.Outcome State Fault Refusal := .next (spiReadOp addr.toNat n s)
/-- PEEK (R394, R467). -/
def execPeek (c : Cmd) (s : State) : Host.Outcome State Fault Refusal := .next (silwen 0x0F00 3 true peekBody c s)
/-- POKE (R351, R394, R467). -/
def execPoke (c : Cmd) (s : State) : Host.Outcome State Fault Refusal := .next (silwen 0x0F01 3 true pokeBody c s)
/-- DMA_DESCRIPTOR (R394). -/
def execDmaDescriptor (ch : Fin 4) (d : DmaDesc) (s : State) : Host.Outcome State Fault Refusal := .next (dmaOp ch d s)

end Sys2Proof.Machine
end

