-- ==== Sys2Proof/Machine/RoundTick.lean ====
section
/-! DEFINITION. ROUND_TICK (R48, R49): what happens at a round-start Stile, in its order. -/

namespace Sys2Proof.Machine

/-- POKEs held for this Stile in a pair applied (R357). -/
def pokesApply (s : State) : State :=
  let l := s.tnd.pokes
  s.modTnd (fun t => { t with pokes := [] }) |>.each l fun x s => writeWords 0x08 x.1 x.2 s

/-- The runs, newest first, that a sample from number `b` on still belongs to: neither over nor overtaken by then
(R50). `done` are the keys that a newer run has taken over. -/
def recent {α : Type} (key : α → Nat) (fade : α → Fade) (b : Nat) : List Nat → List α → List α
  | _, [] => []
  | done, x :: xs =>
    let rest := recent key fade b (if (fade x).start ≤ b then key x :: done else done) xs
    if done.contains (key x) || (fade x).over b then rest else x :: rest

/-- Ended runs that no sample in the engine belongs to any more forgotten (R50). -/
def forgetRuns (s : State) : State :=
  let b := s.procBase
  let s := s.modPath fun p => { p with
    sel := p.sel.map fun x => (x.1, { x.2 with past := recent (fun _ => 0) (fun r : Bool × Fade × Nat × Nat => r.2.1) b [] x.2.past })
    movePast := recent Move.key Move.fade b [] p.movePast
    parPast := recent Prod.fst (fun r : Nat × ParRun => r.2.fade) b [] p.parPast }
  { s with mods := { s.mods with
      mixPast := recent Prod.fst (fun r : Nat × MixFade => r.2.fade) b [] s.mods.mixPast
      lvlRamp := s.mods.lvlRamp.filter fun r => decide (b < r.2.1 + s.minRamp) } }

/-- The engine at the Stile `k`: the round before gives way, the extents in force are taken (R133), a hold of
the patch unit ends (R413) (DEDUCED, assumption 74). -/
def engineTick (k : Nat) (s : State) : State :=
  let b := s.sampleAt k
  let s := forgetRuns (s.modEng fun e => { e with lastTick := some k, base := b, discard := e.discard - 1 })
  let hold := s.sig.hold.filter fun h => decide (s.procBase < h.1 + s.roundLen)
  let s := s.modPath fun p => { p with patchPast := p.patchPast.filter fun r => match r.cut with
    | some c => decide (s.procBase < c)
    | none => !r.fade.over s.procBase }
  { s with sig := { s.sig with
      prev := s.sig.cur, cur := [], hold := hold
      nstrip := s.get F.SUM_EXTS_NSTRIP, nbus := s.get F.SUM_EXTS_NBUS, nout := s.get F.SUM_EXTM_NOUT } }

/-- A requested time step at this Stile, except on a chip that takes the active's (R40, R41, R358): a
handover begun or passed by it is abandoned, and a stepping REALIGN ends. -/
def stepTick (s : State) : State :=
  if s.follows || s.time.stepReq.isNone then s
  else
    let rejected := s.get F.TIME_CTL_MODE == 1
    let s := timeStepApply s
    let s := match s.tnd.handover with
      | some h => if !rejected && !h.done && (h.begun || decide (h.h ≤ s.mti)) then handoverAbandon h s else s
      | none => s
    realignTick rejected s

/-- The highest fraction of a round the summing engine was busy, a free value below 1001 ‰ (SUM_LOAD) (DEDUCED, assumption 69). -/
def busyTick (s : State) : State :=
  (s.put F.SUM_LOAD_BUSYMAX (max (s.get F.SUM_LOAD_BUSYMAX) (Config.undefNat s.free % 1001))).fresh

/-- What the blocks decide at the Stile `k` (R26, R92, R245, R279, R332, R377, R415); no selector works beyond the class (R32). -/
def blocksTick (k : Nat) (meas : RoundMeas) (s : State) : State :=
  let n := s.eng.base
  let s := netRxTick k (tdmTick k n s)
  let s := if s.follows then s else s.each (List.range (s.cap 1024)) fun j s => selDecide j n s
  faultTick (paceStart (ampTick meas (alarmLoad k s)))

/-- The template swapped and the round released, unless a standby takes the active's records, the release
has stopped for sleep, or the round was not gathered (R41, R49, R186, R187, R358, R381). -/
def releaseTick (s : State) : State :=
  let s := templateSwap s
  if s.follows || s.pwr.noRelease || decide (2 ≤ s.eng.discard) then s else busyTick (templateRelease s)

/-- ROUND_TICK: nothing before the next round-start Stile is reached. A step that leaves the MTI between two
round-start Stiles ends the tick: the next one resumes the rounds (R41) (DESIGN CHOICE, assumption 2; DEDUCED, assumption 74; DESIGN CHOICE, assumption 80). -/
def roundTickOp (meas : RoundMeas) (s : State) : State :=
  match s.eng.lastTick with
  | none => s
  | some last =>
    let k := s.roundAt s.mti
    if !s.eng.running || k == last then s
    else
      let s := if s.pwr.noRelease then s else netTxTick k s
      let s := clockModeApply (pokesApply (engineTick k s))
      let steps := !s.follows && s.time.stepReq.isSome && s.get F.TIME_CTL_MODE != 1
      let s := stepTick s
      if steps && s.eng.lastTick != some s.mti then s
      else
        let t := releaseTick (blocksTick ((s.eng.lastTick).getD k) meas s)
        linkTick (if steps then t.eng.lastTick else none) s t

/-! ### The command -/

/-- ROUND_TICK (R48). -/
def execRoundTick (meas : RoundMeas) (s : State) : Host.Outcome State Fault Refusal := .next (roundTickOp meas s)

end Sys2Proof.Machine
end

