-- ==== Sys2Proof/Machine/Remote.lean ====
section
/-! DEFINITION. Silwen commands by their codes, bulk segments, remote datagrams, and the items a standby takes
from its active (R110, R357, R447, R454). -/

namespace Sys2Proof.Machine

/-! ### Commands by code (R449–R467) -/

/-- The length its fields need, whether it is an expert command, and the effect of the command of a code; the
op of a command that has several stands in word 1 (DEDUCED, assumption 72). -/
def silwenRow (code : Nat) (c : Cmd) : Option (Nat × Bool × (Cmd → State → State × Rep)) :=
  let op := bits (cw c 1) 1 0
  match code with
  | 0x0100 => some (0, false, helloBody)
  | 0x0101 => some (1, false, getInfoBody)
  | 0x0102 => some (1, false, resetEngineBody)
  | 0x0103 => some (1, false, setNodeBody)
  | 0x0104 => some (2, false, getLatencyBody)
  | 0x0200 => some (1, false, setPaceBody)
  | 0x0201 => some (1, false, sleepBody)
  | 0x0202 => some (0, false, getPowerBody)
  | 0x0203 => some (2, false, setBankPowerBody)
  | 0x0300 => some (0, false, getTimeBody)
  | 0x0301 => some (2, false, setClockModeBody)
  | 0x0302 => some (12, false, setRefPriorityBody)
  | 0x0303 => some (1, false, realignBody)
  | 0x0304 => some (1, false, setRateBody)
  | 0x0305 => some (1, false, setRoundBody)
  | 0x0306 => if op % 2 = 0 then some (3, false, captureConfigureBody) else some (2, false, captureReadBody)
  | 0x0400 => some (12, false, netPortCfgBody)
  | 0x0401 => some (10, false, streamAddBody true 0x0401)
  | 0x0402 => some (9, false, streamAddBody false 0x0402)
  | 0x0403 => some (1, false, streamRemoveBody)
  | 0x0404 => some (3, false, ptpCfgBody)
  | 0x0405 => some (1, false, t1sCfgBody)
  | 0x0500 => some (3, false, routeBody)
  | 0x0501 => some (2, false, routeBackupBody)
  | 0x0502 => some (1, false, getRouteBody)
  | 0x0600 => some (3, false, setSendBody)
  | 0x0601 => some (3, false, setMatrixBody)
  | 0x0602 => some (1, false, setHeadroomBody)
  | 0x0700 => some (4, false, setParamBody)
  | 0x0701 => some (2, false, getParamBody)
  | 0x0702 => some (3, true, loadModuleBody)
  | 0x0703 => some (1, false, placeBody)
  | 0x0800 => some (1, false, hamperOpenBody)
  | 0x0801 => some (1, false, hamperAddBody)
  | 0x0802 => some (4, false, hamperCloseBody)
  | 0x0803 => some (1, false, hamperCancelBody)
  | 0x0804 => some (1, false, sceneRecallBody)
  | 0x0805 => some (1, false, armAlarmBody)
  | 0x0900 => some (4, false, tdmCfgBody)
  | 0x0901 => some (3, false, tdmSlotmaskBody)
  | 0x0902 => some (2, false, asrcCfgBody)
  | 0x0A00 => some (11, false, ampCfgBody)
  | 0x0A01 => some (1, false, ampPairBody)
  | 0x0A02 => some (1, false, lineBaselineBody)
  | 0x0A03 => some (3, false, quietSweepBody)
  | 0x0A04 => some (5, false, railCfgBody)
  | 0x0B00 => some (1, false, tandemCfgBody)
  | 0x0B01 => some (2, false, handoverBody)
  | 0x0B02 => some (0, false, tandemStatusBody)
  | 0x0C00 => some (1, false, ramblerCfgBody)
  | 0x0C01 =>
    match op with
    | 0 => some (3, false, msgCreateBody)
    | 1 => some (3, false, msgAppendBody)
    | 2 => some (1, false, msgDeleteBody)
    | _ => some (1, false, msgQueryBody)
  | 0x0C02 => some (1, false, playMessageBody)
  | 0x0D00 => if op % 2 = 0 then some (2, false, eventRouteSetBody) else some (2, false, eventRouteClearBody)
  | 0x0D01 => some (1, false, faultLogBody)
  | 0x0D02 => some (1, false, counterDumpBody)
  | 0x0D03 => some (5, false, nightCfgBody)
  | 0x0E00 =>
    match op with
    | 0 => some (1, false, lcAdvanceBody)
    | 1 => some (13, true, lcDigestBody)
    | 2 => some (1, true, lcRevokeBody)
    | _ => some (3, true, lcMacBody)
  | 0x0E01 =>
    match op with
    | 0 => some (1, false, nonceBody)
    | 1 => some (9, false, presentBody)
    | _ => some (1, false, dropBody)
  | 0x0E02 => some (1, false, expertEnableBody)
  | 0x0F00 => some (3, true, peekBody)
  | 0x0F01 => some (3, true, pokeBody)
  | 0x0F02 => some (3, true, hamperRawBody)
  | _ => none

/-- A Silwen message taken by its code (R113, R449). -/
def silwenTake (code : Nat) (c : Cmd) (s : State) : State :=
  match silwenRow code c with
  | some (n, x, body) => silwen code n x body c s
  | none => silwenUnknown c s

/-! ### Bulk segments (R110, R454) -/

/-- A command executed with its bulk data. -/
def bulkRun (code : Nat) (data : List Byte) (c : Cmd) (s : State) : State × Rep :=
  match code with
  | 0x0700 => setParamRun data c s
  | 0x0702 => loadModuleRun data c s
  | 0x0C01 => msgAppendRun data c s
  | 0x0F02 => hamperRawRun data c s
  | _ => (s, .rc rcMalformed)

/-- The acknowledgement of a bulk message on the bulk channel of its sender, where it stands POSTED (DESIGN CHOICE, assumption 71). -/
def ackBulk (sd : Sender) (code : Nat) (s : State) : State :=
  match cmdChan sd with
  | some n => if s.chan (n + 3) = 1 then (s.setReg (R.MBX_ACK (n + 3)) (word code)).setChan (n + 3) 3 else s
  | none => s

/-- The words a segment carries when `left` bytes are still missing (DESIGN CHOICE, assumption 71). -/
def segWords (left : Nat) : Nat := min 62 ((left + 3) / 4)

/-- What the firmware acknowledges a bulk message with before it looks at its segment, where it does: ABORTED for an
orphan, NOT_BOUND for a stamp that is not the bound sender's (R102, R107). -/
def State.bulkTurned (s : State) (sd : Sender) : Option Nat :=
  match cmdChan sd with
  | some c =>
    let n := c + 3
    if s.chan n ≠ 1 then none
    else if s.on (F.MBX_STAT_ORPHAN n) then some rcAborted
    else if s.get F.MBX_MODE_MODE != 1 && s.get (F.MBX_STAMP_SENDER n) != s.get (F.MBX_BIND_SENDER n) then some rcNotBound
    else none
  | none => none

/-- A segment of a command that has asked for bulk data: out of order or of a wrong length it is acknowledged
MALFORMED, the first one's number is where the order starts, the last one executes the command (R111, R454)
(DESIGN CHOICE, assumption 71). -/
def bulkTake (sd : Sender) (tag seg : Nat) (ws : List Word) (b : BulkRun) (s : State) : State :=
  let k := Sender.key sd
  if seg ≠ b.next.getD seg ∨ ws.length ≠ segWords (b.need - b.data.length) then ackBulk sd rcMalformed s
  else
    let s := ackBulk sd rcDone s
    let data := (b.data ++ ws.flatMap wordBytes).take b.need
    if data.length < b.need then
      s.modBox k fun x => { x with bulk := kset x.bulk tag { b with next := some (seg + 1), data := data } }
    else
      let s := s.modBox k fun x => { x with bulk := kdel x.bulk tag }
      answerCmd b.cmd b.code data s (bulkRun b.code data b.cmd s)

/-- BULK_SEGMENT: turned away under R102 and R107, else taken only for a command that has asked for it (R111) (DESIGN CHOICE, assumption 71). -/
def bulkSegmentOp (sd : Sender) (tag seg : Nat) (ws : List Word) (s : State) : State :=
  if s.boot.phase ≠ .running ∨ s.asleep = true then s
  else match s.bulkTurned sd with
  | some code => ackBulk sd code s
  | none =>
    match kget (s.outbox (Sender.key sd)).bulk tag with
    | none => s
    | some b => bulkTake sd tag seg ws b s

/-- BULK_TIMEOUT: no segment for 1 s. -/
def bulkTimeoutOp (sd : Sender) (tag : Nat) (s : State) : State :=
  let k := Sender.key sd
  match kget (s.outbox k).bulk tag with
  | none => s
  | some b => holdReply b.cmd b.code (.rc rcMalformed) (s.modBox k fun x => { x with bulk := kdel x.bulk tag })

/-! ### Remote datagrams (R447, R448) -/

/-- The bytes a datagram's tag covers: node, reserved bits, sequence number, message (DEDUCED, assumption 73). -/
def datagramBytes (node : BitVec 16) (seq : BitVec 64) (code : BitVec 16) (tag : BitVec 8) (ws : List Word) : List Byte :=
  natBytes 2 node.toNat ++ natBytes 2 0 ++ natBytes 8 seq.toNat
    ++ (word (code.toNat + 2 ^ 16 * ws.length + 2 ^ 24 * tag.toNat) :: ws).flatMap wordBytes

/-- Whether a datagram is one to execute: not after a wipe, its tag correct, its sequence number new (DEDUCED, assumption 73). -/
def State.datagramOk (s : State) (node : BitVec 16) (seq : BitVec 64) (msg : List Byte) (mac : BitVec 128) : Bool :=
  match s.sec.keys with
  | none => false
  | some k =>
    !s.sec.shut
      && mac == BitVec.ofNat 128 (((Config.hmac384 k.2.2 msg).take 4).foldr (fun w v => w.toNat + 2 ^ 32 * v) 0)
      && (s.sec.replay.find? fun r => r.1 == node.toNat).all fun r => decide (r.2 < seq.toNat)

/-- The last accepted sequence numbers with a node's; the least recent of 64 nodes is replaced. -/
def replayNote (node seq : Nat) (l : List (Nat × Nat)) : List (Nat × Nat) :=
  let l := (l.filter fun r => r.1 != node) ++ [(node, seq)]
  l.drop (l.length - 64)

/-- REMOTE_DATAGRAM (DEDUCED, assumption 73). -/
def remoteOp (node : BitVec 16) (seq : BitVec 64) (code : BitVec 16) (tag : BitVec 8) (ws : List Word) (mac : BitVec 128)
    (s : State) : State :=
  if s.boot.phase ≠ .running ∨ s.asleep = true then s
  else if !s.datagramOk node seq (datagramBytes node seq code tag ws) mac then s.incSat R.SEC_AUTHFAIL
  else
    let s := { s with sec := { s.sec with replay := replayNote node.toNat seq.toNat s.sec.replay } }
    silwenTake code.toNat { sender := .node node, tag := tag, words := ws } s

/-! ### Copied items (R76, R357) -/

/-- A copied Hamper planned at the Stile of the active; a Stile planned anew replaces the old one, and a
preparation it comes too early for is abandoned (DEDUCED, assumption 60). -/
def copyHamper (hid stile : Nat) (es : List Entry) (tok : Option Tok) (s : State) : State :=
  let m : Member := ⟨hid, 0, 1, stile, es, .master 0x30, tok, decide (0xF000 ≤ hid), 0⟩
  match s.planOf hid with
  | some pl =>
    let moved (q : Plan) : Plan := { q with p := stile, loading := q.loading && decide (stile ≤ s.mti + q.lam) }
    s.modHamp fun h => { h with plans := h.plans.map fun q => if q = pl then moved q else q }
  | none => (closeHid hid s).modHamp fun h => { h with plans := h.plans ++ [⟨[m], stile, s.mti, s.lead es.length, stile, false, false, 0, 0⟩] }

/-- The table of outstanding tags of a sender replaced. -/
def copyTags (sd : Sender) (l : List (Nat × Nat)) (s : State) : State :=
  s.modTnd fun t => { t with tags := (t.tags.filter fun x => x.1 != sd) ++ [(sd, l)] }

/-- TANDEM_COPY_ITEM: a standby applies what the active sent it. -/
def copyItemOp (i : CopyItem) (s : State) : State :=
  if !s.standby then s
  else match i with
  | .hamper hid stile ws owner =>
    copyHamper hid.toNat stile ws
      (owner.map fun o => { sender := o.1, tag := o.2.1, code := o.2.2.toNat, gen := (s.outbox (Sender.key o.1)).gen }) s
  | .command code c data =>
    match silwenRow code.toNat c with
    | none => s
    | some (n, _, body) =>
      if c.words.length < n then s
      else
        let r := body c s
        match r.2 with
        | .bulk _ => (bulkRun code.toNat data c r.1).1
        | .reply _ _ _ => r.1
  | .poke addr ws => s.modTnd fun t => { t with pokes := t.pokes ++ [(addr.toNat, ws)] }
  | .clusterWord ch w v => if 18 ≤ ch.val ∧ ch.val < 24 then s.setReg (R.MBX_BUF ch w) v else s
  | .tags sd l => copyTags sd (l.map fun x => (x.1.toNat, x.2.toNat)) s

/-! ### The commands -/

/-- BULK_SEGMENT (R110, R454). -/
def execBulkSegment (sender : Sender) (tag : BitVec 8) (seg : BitVec 16) (words : List Word) (s : State) :
    Host.Outcome State Fault Refusal := .next (bulkSegmentOp sender tag.toNat seg.toNat words s)
/-- BULK_TIMEOUT (R454). -/
def execBulkTimeout (sender : Sender) (tag : BitVec 8) (s : State) : Host.Outcome State Fault Refusal :=
  .next (bulkTimeoutOp sender tag.toNat s)
/-- REMOTE_DATAGRAM (R447). -/
def execRemoteDatagram (node : BitVec 16) (seq : BitVec 64) (code : BitVec 16) (tag : BitVec 8) (words : List Word)
    (mac : BitVec 128) (s : State) : Host.Outcome State Fault Refusal := .next (remoteOp node seq code tag words mac s)
/-- TANDEM_COPY_ITEM (R357). -/
def execTandemCopyItem (i : CopyItem) (s : State) : Host.Outcome State Fault Refusal := .next (copyItemOp i s)

end Sys2Proof.Machine
end

