-- ==== Sys2Proof/Machine/Dispatch.lean ====
section
/-! DEFINITION. The one dispatch of the commands: each arm is one call of the command's own meaning. -/

namespace Sys2Proof.Machine

/-- What a command does to the state beside the queue. -/
def exec (i : Instr) (s : State) : Host.Outcome State Fault Refusal :=
  match i with
  | .porst bootSel => Sys2Proof.Machine.execPorst bootSel s
  | .sysrst bootSel => Sys2Proof.Machine.execSysrst bootSel s
  | .tempMeasure tj => Sys2Proof.Machine.execTempMeasure tj s
  | .bootImageVerify flash => Sys2Proof.Machine.execBootImageVerify flash s
  | .pcieDownloadPost len => Sys2Proof.Machine.execPcieDownloadPost len s
  | .spiDownloadMessage words => Sys2Proof.Machine.execSpiDownloadMessage words s
  | .firmwareStart => Sys2Proof.Machine.execFirmwareStart s
  | .engineStartBoot => Sys2Proof.Machine.execEngineStartBoot s
  | .tamperWipe => Sys2Proof.Machine.execTamperWipe s
  | .tamperWipeDone => Sys2Proof.Machine.execTamperWipeDone s
  | .hello c => Sys2Proof.Machine.execHello c s
  | .getInfo c => Sys2Proof.Machine.execGetInfo c s
  | .resetEngine c => Sys2Proof.Machine.execResetEngine c s
  | .setNode c => Sys2Proof.Machine.execSetNode c s
  | .getLatency c => Sys2Proof.Machine.execGetLatency c s
  | .setPace c => Sys2Proof.Machine.execSetPace c s
  | .sleep c => Sys2Proof.Machine.execSleep c s
  | .getPower c => Sys2Proof.Machine.execGetPower c s
  | .setBankPower c => Sys2Proof.Machine.execSetBankPower c s
  | .getTime c => Sys2Proof.Machine.execGetTime c s
  | .setClockMode c => Sys2Proof.Machine.execSetClockMode c s
  | .setRefPriority c => Sys2Proof.Machine.execSetRefPriority c s
  | .realign c => Sys2Proof.Machine.execRealign c s
  | .setEngineRate c => Sys2Proof.Machine.execSetEngineRate c s
  | .setRound c => Sys2Proof.Machine.execSetRound c s
  | .captureCfgConfigure c => Sys2Proof.Machine.execCaptureCfgConfigure c s
  | .captureCfgRead c => Sys2Proof.Machine.execCaptureCfgRead c s
  | .netPortCfg c => Sys2Proof.Machine.execNetPortCfg c s
  | .streamRxAdd c => Sys2Proof.Machine.execStreamRxAdd c s
  | .streamTxAdd c => Sys2Proof.Machine.execStreamTxAdd c s
  | .streamRemove c => Sys2Proof.Machine.execStreamRemove c s
  | .ptpCfg c => Sys2Proof.Machine.execPtpCfg c s
  | .t1sCfg c => Sys2Proof.Machine.execT1sCfg c s
  | .route c => Sys2Proof.Machine.execRoute c s
  | .routeBackup c => Sys2Proof.Machine.execRouteBackup c s
  | .getRoute c => Sys2Proof.Machine.execGetRoute c s
  | .setSend c => Sys2Proof.Machine.execSetSend c s
  | .setMatrix c => Sys2Proof.Machine.execSetMatrix c s
  | .setBusHeadroom c => Sys2Proof.Machine.execSetBusHeadroom c s
  | .setParam c => Sys2Proof.Machine.execSetParam c s
  | .getParam c => Sys2Proof.Machine.execGetParam c s
  | .loadModule c => Sys2Proof.Machine.execLoadModule c s
  | .place c => Sys2Proof.Machine.execPlace c s
  | .hamperOpen c => Sys2Proof.Machine.execHamperOpen c s
  | .hamperAdd c => Sys2Proof.Machine.execHamperAdd c s
  | .hamperClose c => Sys2Proof.Machine.execHamperClose c s
  | .hamperCancel c => Sys2Proof.Machine.execHamperCancel c s
  | .sceneRecall c => Sys2Proof.Machine.execSceneRecall c s
  | .armAlarm c => Sys2Proof.Machine.execArmAlarm c s
  | .hamperRaw c => Sys2Proof.Machine.execHamperRaw c s
  | .tdmCfg c => Sys2Proof.Machine.execTdmCfg c s
  | .tdmSlotmask c => Sys2Proof.Machine.execTdmSlotmask c s
  | .asrcCfg c => Sys2Proof.Machine.execAsrcCfg c s
  | .ampCfg c => Sys2Proof.Machine.execAmpCfg c s
  | .ampPair c => Sys2Proof.Machine.execAmpPair c s
  | .lineBaseline c => Sys2Proof.Machine.execLineBaseline c s
  | .quietSweep c => Sys2Proof.Machine.execQuietSweep c s
  | .railCfg c => Sys2Proof.Machine.execRailCfg c s
  | .tandemCfg c => Sys2Proof.Machine.execTandemCfg c s
  | .handover c => Sys2Proof.Machine.execHandover c s
  | .tandemStatus c => Sys2Proof.Machine.execTandemStatus c s
  | .ramblerCfg c => Sys2Proof.Machine.execRamblerCfg c s
  | .msgStoreCreate c => Sys2Proof.Machine.execMsgStoreCreate c s
  | .msgStoreAppend c => Sys2Proof.Machine.execMsgStoreAppend c s
  | .msgStoreDelete c => Sys2Proof.Machine.execMsgStoreDelete c s
  | .msgStoreQuery c => Sys2Proof.Machine.execMsgStoreQuery c s
  | .playMessage c => Sys2Proof.Machine.execPlayMessage c s
  | .eventRouteSet c => Sys2Proof.Machine.execEventRouteSet c s
  | .eventRouteClear c => Sys2Proof.Machine.execEventRouteClear c s
  | .faultLogRead c => Sys2Proof.Machine.execFaultLogRead c s
  | .counterDumpCfg c => Sys2Proof.Machine.execCounterDumpCfg c s
  | .nightTestCfg c => Sys2Proof.Machine.execNightTestCfg c s
  | .lifecycleAdvance c => Sys2Proof.Machine.execLifecycleAdvance c s
  | .lifecycleSlotDigest c => Sys2Proof.Machine.execLifecycleSlotDigest c s
  | .lifecycleRevokeSlot c => Sys2Proof.Machine.execLifecycleRevokeSlot c s
  | .lifecycleSetMac c => Sys2Proof.Machine.execLifecycleSetMac c s
  | .credentialNonce c => Sys2Proof.Machine.execCredentialNonce c s
  | .credentialPresent c => Sys2Proof.Machine.execCredentialPresent c s
  | .credentialDrop c => Sys2Proof.Machine.execCredentialDrop c s
  | .expertEnable c => Sys2Proof.Machine.execExpertEnable c s
  | .peek c => Sys2Proof.Machine.execPeek c s
  | .poke c => Sys2Proof.Machine.execPoke c s
  | .bulkSegment sender tag seg words => Sys2Proof.Machine.execBulkSegment sender tag seg words s
  | .bulkTimeout sender tag => Sys2Proof.Machine.execBulkTimeout sender tag s
  | .remoteDatagram node seq code tag words mac => Sys2Proof.Machine.execRemoteDatagram node seq code tag words mac s
  | .nonceExpiry m => Sys2Proof.Machine.execNonceExpiry m s
  | .credentialLockoutEnd m => Sys2Proof.Machine.execCredentialLockoutEnd m s
  | .mbxBufWrite m n w v => Sys2Proof.Machine.execMbxBufWrite m n w v s
  | .mbxPost m n => Sys2Proof.Machine.execMbxPost m n s
  | .mbxTake m n => Sys2Proof.Machine.execMbxTake m n s
  | .mbxAck m n v => Sys2Proof.Machine.execMbxAck m n v s
  | .mbxClr m n => Sys2Proof.Machine.execMbxClr m n s
  | .mbxSreset m v => Sys2Proof.Machine.execMbxSreset m v s
  | .mbxLock m => Sys2Proof.Machine.execMbxLock m s
  | .masterReset m => Sys2Proof.Machine.execMasterReset m s
  | .controlCoreRestart cc => Sys2Proof.Machine.execControlCoreRestart cc s
  | .ccWatchdogExpiry cc => Sys2Proof.Machine.execCcWatchdogExpiry cc s
  | .outboundPost m => Sys2Proof.Machine.execOutboundPost m s
  | .spiWrite addr data => Sys2Proof.Machine.execSpiWrite addr data s
  | .spiRead addr n => Sys2Proof.Machine.execSpiRead addr n s
  | .registerWrite m addr v => Sys2Proof.Machine.execRegisterWrite m addr v s
  | .timeSnap => Sys2Proof.Machine.execTimeSnap s
  | .timeStepRequest v => Sys2Proof.Machine.execTimeStepRequest v s
  | .timeModeWrite v => Sys2Proof.Machine.execTimeModeWrite v s
  | .timeRateWrite v => Sys2Proof.Machine.execTimeRateWrite v s
  | .timeRoundWrite v => Sys2Proof.Machine.execTimeRoundWrite v s
  | .timeCapw0Read => Sys2Proof.Machine.execTimeCapw0Read s
  | .timeCapFlush => Sys2Proof.Machine.execTimeCapFlush s
  | .gpEdgeCapture pin rising sub => Sys2Proof.Machine.execGpEdgeCapture pin rising sub s
  | .timeCounterTick n => Sys2Proof.Machine.execTimeCounterTick n s
  | .roundTick meas => Sys2Proof.Machine.execRoundTick meas s
  | .selectorFadeEnd j => Sys2Proof.Machine.execSelectorFadeEnd j s
  | .selectorRestoreHoldEnd j => Sys2Proof.Machine.execSelectorRestoreHoldEnd j s
  | .hamperLoadStart hid => Sys2Proof.Machine.execHamperLoadStart hid s
  | .hamperCommit hid => Sys2Proof.Machine.execHamperCommit hid s
  | .alarmQualify n level => Sys2Proof.Machine.execAlarmQualify n level s
  | .alarmHamperCommit n => Sys2Proof.Machine.execAlarmHamperCommit n s
  | .trailEnd t => Sys2Proof.Machine.execTrailEnd t s
  | .muxCrossfadeEnd sink => Sys2Proof.Machine.execMuxCrossfadeEnd sink s
  | .stageTransitionEnd isMatrix => Sys2Proof.Machine.execStageTransitionEnd isMatrix s
  | .stageRefillEnd isMatrix => Sys2Proof.Machine.execStageRefillEnd isMatrix s
  | .patchRampEnd e => Sys2Proof.Machine.execPatchRampEnd e s
  | .patchRampGo m e v => Sys2Proof.Machine.execPatchRampGo m e v s
  | .paramInterpEnd inst field => Sys2Proof.Machine.execParamInterpEnd inst field s
  | .engineRateRamp => Sys2Proof.Machine.execEngineRateRamp s
  | .engineRestart => Sys2Proof.Machine.execEngineRestart s
  | .rateChangeComplete => Sys2Proof.Machine.execRateChangeComplete s
  | .sinkSourceValid sink => Sys2Proof.Machine.execSinkSourceValid sink s
  | .itemStart => Sys2Proof.Machine.execItemStart s
  | .itemComplete h => Sys2Proof.Machine.execItemComplete h s
  | .joinComplete h => Sys2Proof.Machine.execJoinComplete h s
  | .sumBlockComplete isMatrix => Sys2Proof.Machine.execSumBlockComplete isMatrix s
  | .roundDeadline => Sys2Proof.Machine.execRoundDeadline s
  | .barrierClose => Sys2Proof.Machine.execBarrierClose s
  | .dispTswap => Sys2Proof.Machine.execDispTswap s
  | .dispArm h => Sys2Proof.Machine.execDispArm h s
  | .dispDisarm h => Sys2Proof.Machine.execDispDisarm h s
  | .dispEventSlot e => Sys2Proof.Machine.execDispEventSlot e s
  | .coreRestart k => Sys2Proof.Machine.execCoreRestart k s
  | .coreDbgreq k => Sys2Proof.Machine.execCoreDbgreq k s
  | .coreUrgentRaise k ucode => Sys2Proof.Machine.execCoreUrgentRaise k ucode s
  | .interruptEntry k => Sys2Proof.Machine.execInterruptEntry k s
  | .handlerTimeout k => Sys2Proof.Machine.execHandlerTimeout k s
  | .illegalBundle k bundle => Sys2Proof.Machine.execIllegalBundle k bundle s
  | .mul a f => Sys2Proof.Machine.execMul a f s
  | .mac a f => Sys2Proof.Machine.execMac a f s
  | .msu a f => Sys2Proof.Machine.execMsu a f s
  | .mulx a f => Sys2Proof.Machine.execMulx a f s
  | .macx a f => Sys2Proof.Machine.execMacx a f s
  | .msux a f => Sys2Proof.Machine.execMsux a f s
  | .add a f => Sys2Proof.Machine.execAdd a f s
  | .sub a f => Sys2Proof.Machine.execSub a f s
  | .min a f => Sys2Proof.Machine.execMin a f s
  | .max a f => Sys2Proof.Machine.execMax a f s
  | .and a f => Sys2Proof.Machine.execAnd a f s
  | .or a f => Sys2Proof.Machine.execOr a f s
  | .xor a f => Sys2Proof.Machine.execXor a f s
  | .abs a f => Sys2Proof.Machine.execAbs a f s
  | .neg a f => Sys2Proof.Machine.execNeg a f s
  | .shl a f => Sys2Proof.Machine.execShl a f s
  | .shr a f => Sys2Proof.Machine.execShr a f s
  | .sld a f => Sys2Proof.Machine.execSld a f s
  | .cmp a f => Sys2Proof.Machine.execCmp a f s
  | .sel a f => Sys2Proof.Machine.execSel a f s
  | .bcast a f => Sys2Proof.Machine.execBcast a f s
  | .rda a f => Sys2Proof.Machine.execRda a f s
  | .rdad a f => Sys2Proof.Machine.execRdad a f s
  | .lda a f => Sys2Proof.Machine.execLda a f s
  | .ldad a f => Sys2Proof.Machine.execLdad a f s
  | .adda a f => Sys2Proof.Machine.execAdda a f s
  | .suba a f => Sys2Proof.Machine.execSuba a f s
  | .mova a f => Sys2Proof.Machine.execMova a f s
  | .clra a f => Sys2Proof.Machine.execClra a f s
  | .sha a f => Sys2Proof.Machine.execSha a f s
  | .nega a f => Sys2Proof.Machine.execNega a f s
  | .ldv a x dd => Sys2Proof.Machine.execLdv a x dd s
  | .ldb a x dd => Sys2Proof.Machine.execLdb a x dd s
  | .ldl a x dd k => Sys2Proof.Machine.execLdl a x dd k s
  | .ldvd a x dd => Sys2Proof.Machine.execLdvd a x dd s
  | .stv a x dd => Sys2Proof.Machine.execStv a x dd s
  | .stl a x dd k => Sys2Proof.Machine.execStl a x dd k s
  | .stvd a x dd => Sys2Proof.Machine.execStvd a x dd s
  | .sta a x aa vs => Sys2Proof.Machine.execSta a x aa vs s
  | .stad a x aa vs => Sys2Proof.Machine.execStad a x aa vs s
  | .star a x aa => Sys2Proof.Machine.execStar a x aa s
  | .ldar a x aa => Sys2Proof.Machine.execLdar a x aa s
  | .ldw a x pq => Sys2Proof.Machine.execLdw a x pq s
  | .stw a x pq => Sys2Proof.Machine.execStw a x pq s
  | .movd a slot dd dx => Sys2Proof.Machine.execMovd a slot dd dx s
  | .movp a slot pd px => Sys2Proof.Machine.execMovp a slot pd px s
  | .addp a slot pd imm => Sys2Proof.Machine.execAddp a slot pd imm s
  | .addpp a slot pd px py => Sys2Proof.Machine.execAddpp a slot pd px py s
  | .movi a slot pd imm => Sys2Proof.Machine.execMovi a slot pd imm s
  | .getl a slot pd dx k => Sys2Proof.Machine.execGetl a slot pd dx k s
  | .putl a slot dd k px => Sys2Proof.Machine.execPutl a slot dd k px s
  | .movs a slot pq dir sys => Sys2Proof.Machine.execMovs a slot pq dir sys s
  | .br a cond off => Sys2Proof.Machine.execBr a cond off s
  | .brz a pp off => Sys2Proof.Machine.execBrz a pp off s
  | .brnz a pp off => Sys2Proof.Machine.execBrnz a pp off s
  | .call a off => Sys2Proof.Machine.execCall a off s
  | .jr a pp => Sys2Proof.Machine.execJr a pp s
  | .loop a pc endOff => Sys2Proof.Machine.execLoop a pc endOff s
  | .fence a => Sys2Proof.Machine.execFence a s
  | .done a => Sys2Proof.Machine.execDone a s
  | .reti a => Sys2Proof.Machine.execReti a s
  | .brk a => Sys2Proof.Machine.execBrk a s
  | .lexit a n => Sys2Proof.Machine.execLexit a n s
  | .setrnd a r => Sys2Proof.Machine.execSetrnd a r s
  | .clrsat a => Sys2Proof.Machine.execClrsat a s
  | .lmovi a pd imm => Sys2Proof.Machine.execLmovi a pd imm s
  | .lmovu a pd imm => Sys2Proof.Machine.execLmovu a pd imm s
  | .loopi a count endOff => Sys2Proof.Machine.execLoopi a count endOff s
  | .ljmp a target => Sys2Proof.Machine.execLjmp a target s
  | .lcall a target => Sys2Proof.Machine.execLcall a target s
  | .tdmEnable p en => Sys2Proof.Machine.execTdmEnable p en s
  | .tdmMaskgo p => Sys2Proof.Machine.execTdmMaskgo p s
  | .tdmMaskMove p => Sys2Proof.Machine.execTdmMaskMove p s
  | .tdmFrame p f => Sys2Proof.Machine.execTdmFrame p f s
  | .tdmSyncLock p => Sys2Proof.Machine.execTdmSyncLock p s
  | .asrcLock p out => Sys2Proof.Machine.execAsrcLock p out s
  | .asrcRelock c => Sys2Proof.Machine.execAsrcRelock c s
  | .tdmClockLost p => Sys2Proof.Machine.execTdmClockLost p s
  | .tdmCaptureStart p => Sys2Proof.Machine.execTdmCaptureStart p s
  | .netEnable v => Sys2Proof.Machine.execNetEnable v s
  | .netFrameRx port f => Sys2Proof.Machine.execNetFrameRx port f s
  | .netFrameTx port residence => Sys2Proof.Machine.execNetFrameTx port residence s
  | .pauseExpiry x => Sys2Proof.Machine.execPauseExpiry x s
  | .pauseWatchdog x => Sys2Proof.Machine.execPauseWatchdog x s
  | .pauseHoldoffEnd x => Sys2Proof.Machine.execPauseHoldoffEnd x s
  | .loopProbe => Sys2Proof.Machine.execLoopProbe s
  | .addressAgeOut mac => Sys2Proof.Machine.execAddressAgeOut mac s
  | .netLinkDown port => Sys2Proof.Machine.execNetLinkDown port s
  | .netLinkUp port speed => Sys2Proof.Machine.execNetLinkUp port speed s
  | .streamLegDown vs legB => Sys2Proof.Machine.execStreamLegDown vs legB s
  | .t1sFrameTx q r => Sys2Proof.Machine.execT1sFrameTx q r s
  | .t1sCarrierLost q => Sys2Proof.Machine.execT1sCarrierLost q s
  | .bmcaRun inst a b parent => Sys2Proof.Machine.execBmcaRun inst a b parent s
  | .pdelayExchange x delay => Sys2Proof.Machine.execPdelayExchange x delay s
  | .refMeasure cands => Sys2Proof.Machine.execRefMeasure cands s
  | .candidateLoss c => Sys2Proof.Machine.execCandidateLoss c s
  | .refSwitchMeasured delta => Sys2Proof.Machine.execRefSwitchMeasured delta s
  | .refSwitchEnd settled => Sys2Proof.Machine.execRefSwitchEnd settled s
  | .realignWrite v => Sys2Proof.Machine.execRealignWrite v s
  | .realignDone => Sys2Proof.Machine.execRealignDone s
  | .ampStart ch => Sys2Proof.Machine.execAmpStart ch s
  | .ampPolarityCheck ch reversed => Sys2Proof.Machine.execAmpPolarityCheck ch reversed s
  | .ampOscEnable ch => Sys2Proof.Machine.execAmpOscEnable ch s
  | .ampStartCheck ch toggled => Sys2Proof.Machine.execAmpStartCheck ch toggled s
  | .ampStopRampEnd ch => Sys2Proof.Machine.execAmpStopRampEnd ch s
  | .ampFbopen ch => Sys2Proof.Machine.execAmpFbopen ch s
  | .ampLooperr ch => Sys2Proof.Machine.execAmpLooperr ch s
  | .ampCurrentLimit ch consecutive => Sys2Proof.Machine.execAmpCurrentLimit ch consecutive s
  | .ampProbe ch => Sys2Proof.Machine.execAmpProbe ch s
  | .ampProbeEnd ch limited z => Sys2Proof.Machine.execAmpProbeEnd ch limited z s
  | .ampReturnEnd ch => Sys2Proof.Machine.execAmpReturnEnd ch s
  | .supvInterval lines groups => Sys2Proof.Machine.execSupvInterval lines groups s
  | .quietSweepStart => Sys2Proof.Machine.execQuietSweepStart s
  | .supvSweepGo => Sys2Proof.Machine.execSupvSweepGo s
  | .sweepPointEnd points => Sys2Proof.Machine.execSweepPointEnd points s
  | .quietSweepEnd => Sys2Proof.Machine.execQuietSweepEnd s
  | .playbackEnd player => Sys2Proof.Machine.execPlaybackEnd player s
  | .generatorSweepEnd g => Sys2Proof.Machine.execGeneratorSweepEnd g s
  | .roleInChange level => Sys2Proof.Machine.execRoleInChange level s
  | .takeover => Sys2Proof.Machine.execTakeover s
  | .tandemDecideRecord r => Sys2Proof.Machine.execTandemDecideRecord r s
  | .tandemInputRecord ok inputs => Sys2Proof.Machine.execTandemInputRecord ok inputs s
  | .tandemAlarmRecord ok edges => Sys2Proof.Machine.execTandemAlarmRecord ok edges s
  | .tandemEndRecord r => Sys2Proof.Machine.execTandemEndRecord r s
  | .tandemRecordDeadline => Sys2Proof.Machine.execTandemRecordDeadline s
  | .tandemCopyItem vi => Sys2Proof.Machine.execTandemCopyItem vi s
  | .handoverBegin => Sys2Proof.Machine.execHandoverBegin s
  | .handoverCheck peerChanged => Sys2Proof.Machine.execHandoverCheck peerChanged s
  | .handoverSwitch => Sys2Proof.Machine.execHandoverSwitch s
  | .tandemLaneLoss lane => Sys2Proof.Machine.execTandemLaneLoss lane s
  | .tandemLaneReturn lane reversed inverted => Sys2Proof.Machine.execTandemLaneReturn lane reversed inverted s
  | .tandemLinkDownTimeout => Sys2Proof.Machine.execTandemLinkDownTimeout s
  | .resyncCopyDone protocolOk => Sys2Proof.Machine.execResyncCopyDone protocolOk s
  | .tandemEnable => Sys2Proof.Machine.execTandemEnable s
  | .failSilent => Sys2Proof.Machine.execFailSilent s
  | .paceTransitionEnd => Sys2Proof.Machine.execPaceTransitionEnd s
  | .sleepRampStart => Sys2Proof.Machine.execSleepRampStart s
  | .sleepReleaseStop => Sys2Proof.Machine.execSleepReleaseStop s
  | .sleepDrainDone => Sys2Proof.Machine.execSleepDrainDone s
  | .sleepBlockStop => Sys2Proof.Machine.execSleepBlockStop s
  | .sleepEntered => Sys2Proof.Machine.execSleepEntered s
  | .wakeAddress addr => Sys2Proof.Machine.execWakeAddress addr s
  | .alarmWake n rising => Sys2Proof.Machine.execAlarmWake n rising s
  | .retentionWake xinCount => Sys2Proof.Machine.execRetentionWake xinCount s
  | .bankZeroDone b => Sys2Proof.Machine.execBankZeroDone b s
  | .bankPowerWrite m v => Sys2Proof.Machine.execBankPowerWrite m v s
  | .scrubLine t corrected words => Sys2Proof.Machine.execScrubLine t corrected words s
  | .ddrPatrolScrub corrected bad => Sys2Proof.Machine.execDdrPatrolScrub corrected bad s
  | .ramblerRegion failed => Sys2Proof.Machine.execRamblerRegion failed s
  | .ramblerPassEnd => Sys2Proof.Machine.execRamblerPassEnd s
  | .ramblerEnable v => Sys2Proof.Machine.execRamblerEnable v s
  | .decodeError m addr => Sys2Proof.Machine.execDecodeError m addr s
  | .poisonRead m addr => Sys2Proof.Machine.execPoisonRead m addr s
  | .faultDetect cause u inst detail => Sys2Proof.Machine.execFaultDetect cause u inst detail s
  | .faultHandlingEnd u inst => Sys2Proof.Machine.execFaultHandlingEnd u inst s
  | .faultOutStretchEnd => Sys2Proof.Machine.execFaultOutStretchEnd s
  | .evtSwset m v => Sys2Proof.Machine.execEvtSwset m v s
  | .evtPendClear host w v => Sys2Proof.Machine.execEvtPendClear host w v s
  | .gpEventEdge p => Sys2Proof.Machine.execGpEventEdge p s
  | .counterSweep => Sys2Proof.Machine.execCounterSweep s
  | .cntRead id => Sys2Proof.Machine.execCntRead id s
  | .counterDumpLatch => Sys2Proof.Machine.execCounterDumpLatch s
  | .counterDumpDone => Sys2Proof.Machine.execCounterDumpDone s
  | .nightTestStart => Sys2Proof.Machine.execNightTestStart s
  | .nightTestDrillReturn => Sys2Proof.Machine.execNightTestDrillReturn s
  | .nightTestEnd => Sys2Proof.Machine.execNightTestEnd s
  | .peerStateReport roleIn state => Sys2Proof.Machine.execPeerStateReport roleIn state s
  | .probeFailureCountClear ch => Sys2Proof.Machine.execProbeFailureCountClear ch s
  | .tamperInRelease => Sys2Proof.Machine.execTamperInRelease s
  | .lifecycleReset => Sys2Proof.Machine.execLifecycleReset s
  | .suppliesValid => Sys2Proof.Machine.execSuppliesValid s
  | .dmaDescriptor ch d => Sys2Proof.Machine.execDmaDescriptor ch d s
  | .priorityMixerCrossfadeEnd o => Sys2Proof.Machine.execPriorityMixerCrossfadeEnd o s
  | .syncInterval inst kind => Sys2Proof.Machine.execSyncInterval inst kind s

end Sys2Proof.Machine
end

