-- ==== Sys2Proof/Machine/Step.lean ====
section
/-! DEFINITION. One step of the block: the command at the front of the queue, or nothing. -/

namespace Sys2Proof.Machine

/-- One step: the command at the front of the queue is taken and carried out; on an empty queue the block
idles (DESIGN CHOICE, assumption 1; DESIGN CHOICE, assumption 2; DESIGN CHOICE, assumption 80). -/
def step (s : State) : Host.Outcome State Fault Refusal :=
  match s.pending with
  | [] => .next s
  | c :: rest => exec c { s with pending := rest }

/-- The state with the command a word spells at the front of its queue (DESIGN CHOICE, assumption 1). -/
def State.withFetchWord (s : State) (nbits w : Nat) : State :=
  match Sys2Proof.decodeTableWord nbits w with
  | some c => { s with pending := c :: s.pending }
  | none => s

end Sys2Proof.Machine
end

