-- ==== Sys2Proof/Safety.lean ====
section
/-! DEFINITION. What the claims about every step are stated in: the form memory and the register file keep,
and states in which the block serves the host or its engine runs. -/

namespace Sys2Proof.Machine

/-- Memory is in canonical form. -/
def State.memOk (s : State) : Prop := Memory.wf s.mem = true

/-- The register file is in canonical form: addresses strictly rising, no word equal to the reset value of
its register. -/
def State.regsOk (s : State) : Prop := (kSorted s.regs && s.regs.all fun c => c.2 != resetWord c.1) = true

/-- The parts of the state, one for each field. -/
inductive Part where
  | pending | regs | held | mem | pins | time | eng | box | hamp | path | mods | disp | sig | cores | ev
  | flt | boot | sec | mbx | tdm | net | ref | supv | tnd | pwr | memx | cnt | night | link | free
deriving DecidableEq, Repr

/-- A part is the same in two states. -/
def Part.same (p : Part) (s t : State) : Prop :=
  match p with
  | .pending => t.pending = s.pending
  | .regs => t.regs = s.regs
  | .held => t.held = s.held
  | .mem => t.mem = s.mem
  | .pins => t.pins = s.pins
  | .time => t.time = s.time
  | .eng => t.eng = s.eng
  | .box => t.box = s.box
  | .hamp => t.hamp = s.hamp
  | .path => t.path = s.path
  | .mods => t.mods = s.mods
  | .disp => t.disp = s.disp
  | .sig => t.sig = s.sig
  | .cores => t.cores = s.cores
  | .ev => t.ev = s.ev
  | .flt => t.flt = s.flt
  | .boot => t.boot = s.boot
  | .sec => t.sec = s.sec
  | .mbx => t.mbx = s.mbx
  | .tdm => t.tdm = s.tdm
  | .net => t.net = s.net
  | .ref => t.ref = s.ref
  | .supv => t.supv = s.supv
  | .tnd => t.tnd = s.tnd
  | .pwr => t.pwr = s.pwr
  | .memx => t.memx = s.memx
  | .cnt => t.cnt = s.cnt
  | .night => t.night = s.night
  | .link => t.link = s.link
  | .free => t.free = s.free

/-- Every part but the queue and the counter of free values: what a reset of R435 may write. -/
def resetParts : List Part :=
  [.regs, .held, .mem, .pins, .time, .eng, .box, .hamp, .path, .mods, .disp, .sig, .cores, .ev, .flt,
   .boot, .sec, .mbx, .tdm, .net, .ref, .supv, .tnd, .pwr, .memx, .cnt, .night, .link]

/-- The parts of the state a command may write: a part outside its list is left as it was (`resetParts`
for the resets of R435, which restart the whole chip). -/
def touches (i : Instr) : List Part :=
  match i with
  | .porst .. | .sysrst .. | .tempMeasure .. | .wakeAddress .. | .alarmWake .. | .lifecycleReset => resetParts
  | .bootImageVerify .. => [.regs, .mem, .disp, .ev, .boot, .memx]
  | .pcieDownloadPost .. => [.boot]
  | .spiDownloadMessage .. => [.regs, .disp, .ev, .boot]
  | .firmwareStart => [.regs, .held, .mem, .boot, .sec]
  | .engineStartBoot
    => [.regs, .held, .mem, .eng, .box, .mods, .disp, .sig, .cores, .ev, .flt, .boot, .tdm, .net, .memx, .free]
  | .tamperWipe => [.regs, .pins, .disp, .ev]
  | .tamperWipeDone => [.regs, .mem, .sec, .memx]
  | .hello .. => [.regs, .box, .disp, .ev, .boot, .sec, .link]
  | .getInfo .. | .getPower .. => [.regs, .box, .disp, .ev, .link, .free]
  | .resetEngine .. | .setEngineRate .. => [.regs, .eng, .box, .disp, .ev, .link]
  | .setNode .. => [.regs, .box, .disp, .ev, .boot, .link]
  | .getLatency .. | .getTime .. | .setRound .. | .getRoute .. | .getParam .. | .tandemStatus ..
  | .msgStoreQuery .. | .eventRouteSet .. | .eventRouteClear .. | .faultLogRead ..
    => [.regs, .box, .disp, .ev, .link]
  | .setPace .. | .sleep .. | .paceTransitionEnd => [.regs, .box, .disp, .ev, .pwr, .link]
  | .setBankPower .. => [.regs, .mem, .box, .disp, .ev, .memx, .link]
  | .setClockMode .. | .captureCfgConfigure .. | .captureCfgRead .. => [.regs, .time, .box, .disp, .ev, .link]
  | .setRefPriority .. | .realignWrite .. => [.regs, .held, .time, .box, .disp, .ev, .ref, .link]
  | .realign .. | .candidateLoss .. => [.regs, .time, .box, .disp, .ev, .ref, .link]
  | .netPortCfg .. => [.regs, .held, .box, .disp, .sig, .ev, .net, .link]
  | .streamRxAdd .. | .streamTxAdd .. => [.regs, .box, .hamp, .disp, .ev, .net, .link]
  | .streamRemove .. | .route .. | .routeBackup .. | .setParam .. | .hamperOpen .. | .hamperAdd ..
  | .hamperClose .. | .hamperCancel .. | .sceneRecall .. | .armAlarm .. | .hamperRaw .. | .playMessage ..
    => [.regs, .box, .hamp, .disp, .ev, .link]
  | .ptpCfg .. | .realignDone => [.regs, .box, .disp, .ev, .ref, .link]
  | .t1sCfg .. => [.regs, .box, .disp, .ev, .net, .link]
  | .setSend .. => [.regs, .box, .hamp, .path, .disp, .ev, .link]
  | .setMatrix .. => [.regs, .box, .path, .disp, .ev, .link]
  | .setBusHeadroom .. | .asrcCfg .. | .ampPair .. | .counterDumpCfg ..
    => [.regs, .held, .box, .disp, .ev, .link]
  | .loadModule .. => [.regs, .box, .path, .mods, .disp, .ev, .link]
  | .place .. => [.regs, .box, .mods, .disp, .ev, .link, .free]
  | .tdmCfg .. => [.regs, .held, .box, .disp, .ev, .flt, .tdm, .link]
  | .tdmSlotmask .. => [.regs, .box, .disp, .ev, .tdm, .link]
  | .ampCfg .. => [.regs, .held, .box, .hamp, .disp, .ev, .link]
  | .lineBaseline .. | .quietSweep .. => [.regs, .box, .disp, .ev, .supv, .link]
  | .railCfg .. => [.regs, .held, .box, .disp, .ev, .supv, .link]
  | .tandemCfg .. => [.regs, .held, .box, .disp, .ev, .tnd, .link]
  | .handover .. => [.regs, .box, .disp, .ev, .tnd, .link]
  | .ramblerCfg .. => [.regs, .box, .disp, .ev, .memx, .link]
  | .msgStoreCreate .. | .msgStoreAppend .. | .msgStoreDelete .. => [.regs, .box, .mods, .disp, .ev, .link]
  | .nightTestCfg .. => [.regs, .box, .disp, .ev, .night, .link]
  | .lifecycleAdvance .. => [.regs, .mem, .box, .disp, .ev, .boot, .sec, .memx, .link]
  | .lifecycleSlotDigest .. | .lifecycleRevokeSlot .. | .lifecycleSetMac .. | .credentialPresent ..
  | .credentialDrop .. | .expertEnable .. => [.regs, .box, .disp, .ev, .sec, .link]
  | .credentialNonce .. => [.regs, .box, .disp, .ev, .sec, .link, .free]
  | .peek .. => [.regs, .time, .box, .disp, .ev, .link, .free]
  | .poke .. | .registerWrite ..
    => [.regs, .held, .mem, .time, .box, .path, .disp, .sig, .cores, .ev, .flt, .sec, .mbx, .tdm, .net,
      .ref, .supv, .tnd, .memx, .link]
  | .bulkSegment .. => [.regs, .box, .hamp, .path, .mods, .disp, .ev, .link]
  | .bulkTimeout .. => [.box]
  | .remoteDatagram .. | .tandemCopyItem ..
    => [.regs, .held, .mem, .time, .eng, .box, .hamp, .path, .mods, .disp, .sig, .cores, .ev, .flt,
      .boot, .sec, .mbx, .tdm, .net, .ref, .supv, .tnd, .pwr, .memx, .night, .link, .free]
  | .nonceExpiry .. | .credentialLockoutEnd .. => [.sec]
  | .mbxBufWrite .. | .mbxLock .. | .timeSnap | .timeRateWrite .. | .timeRoundWrite .. | .dispTswap
  | .evtPendClear .. | .cntRead .. | .probeFailureCountClear .. => [.regs]
  | .mbxPost .. | .mbxTake .. | .mbxAck .. | .mbxClr .. | .streamLegDown .. | .evtSwset .. | .gpEventEdge ..
    => [.regs, .disp, .ev]
  | .mbxSreset .. | .masterReset .. | .spiWrite .. => [.regs, .box, .disp, .ev, .sec, .mbx, .memx]
  | .controlCoreRestart .. | .ccWatchdogExpiry ..
    => [.regs, .eng, .box, .hamp, .disp, .ev, .flt, .boot, .sec, .mbx, .supv, .tnd, .pwr, .memx, .night]
  | .outboundPost .. => [.regs, .box, .disp, .ev]
  | .spiRead .. => [.mbx]
  | .timeStepRequest .. | .timeModeWrite .. => [.regs, .time]
  | .timeCapw0Read | .timeCapFlush | .gpEdgeCapture .. => [.regs, .time, .disp, .ev]
  | .timeCounterTick .. => [.time]
  | .roundTick ..
    => [.regs, .held, .mem, .time, .eng, .box, .hamp, .path, .mods, .disp, .sig, .cores, .ev, .flt,
      .sec, .mbx, .tdm, .net, .ref, .supv, .tnd, .pwr, .memx, .night, .link, .free]
  | .selectorFadeEnd .. | .stageTransitionEnd .. => [.regs, .path]
  | .selectorRestoreHoldEnd .. => [.regs, .box, .path, .disp, .ev, .flt]
  | .hamperLoadStart .. => [.regs, .mem, .box, .hamp, .disp, .ev, .flt, .memx]
  | .hamperCommit ..
    => [.regs, .held, .mem, .box, .hamp, .path, .mods, .disp, .sig, .ev, .flt, .tdm, .net, .supv,
      .memx, .link, .free]
  | .alarmQualify .. => [.regs, .pins, .hamp, .disp, .ev, .link]
  | .alarmHamperCommit ..
    => [.regs, .held, .mem, .box, .hamp, .path, .mods, .disp, .sig, .ev, .flt, .tdm, .net, .supv,
      .memx, .night, .link, .free]
  | .trailEnd .. | .muxCrossfadeEnd .. => [.path]
  | .stageRefillEnd .. => [.mem, .path]
  | .patchRampEnd .. => [.regs, .mem, .box, .path, .memx, .link]
  | .patchRampGo .. => [.regs, .box, .path, .link]
  | .paramInterpEnd .. => [.regs, .path, .disp, .free]
  | .engineRateRamp | .sinkSourceValid .. => [.eng]
  | .engineRestart
    => [.regs, .held, .mem, .eng, .box, .hamp, .path, .mods, .disp, .sig, .cores, .ev, .flt, .tdm,
      .net, .supv, .tnd, .memx, .night, .link, .free]
  | .rateChangeComplete => [.eng, .box, .link]
  | .itemStart => [.regs, .held, .disp, .cores]
  | .itemComplete .. => [.regs, .mem, .box, .path, .mods, .disp, .sig, .cores, .ev, .flt, .memx, .free]
  | .joinComplete .. | .sumBlockComplete .. => [.regs, .mem, .disp, .sig, .cores, .memx]
  | .roundDeadline | .tdmClockLost .. | .netLinkDown .. | .t1sCarrierLost .. | .ampStartCheck ..
  | .ampFbopen .. | .ampLooperr .. | .ampCurrentLimit .. | .tandemLaneLoss .. | .faultDetect ..
    => [.regs, .mem, .time, .eng, .box, .path, .disp, .sig, .cores, .ev, .flt, .sec, .mbx, .tdm, .net,
      .supv, .tnd, .memx, .link]
  | .barrierClose => [.regs, .disp, .ev, .flt, .tnd, .link, .free]
  | .dispArm .. => [.regs, .disp]
  | .dispDisarm .. | .dispEventSlot .. => [.disp]
  | .coreRestart .. => [.regs, .mem, .disp, .sig, .cores, .flt, .memx]
  | .coreDbgreq .. | .coreUrgentRaise .. | .interruptEntry .. => [.cores]
  | .handlerTimeout .. => [.regs, .mem, .disp, .sig, .cores, .ev, .flt, .memx]
  | .illegalBundle .. => [.regs, .mem, .disp, .sig, .cores, .ev, .memx]
  | .mul .. | .mac .. | .msu .. | .mulx .. | .macx .. | .msux .. | .add .. | .sub .. | .min .. | .max ..
  | .and .. | .or .. | .xor .. | .abs .. | .neg .. | .shl .. | .shr .. | .sld .. | .cmp .. | .sel ..
  | .bcast .. | .rda .. | .rdad .. | .lda .. | .ldad .. | .adda .. | .suba .. | .mova .. | .clra ..
  | .sha .. | .nega .. | .ldv .. | .ldb .. | .ldl .. | .ldvd .. | .stv .. | .stl .. | .stvd .. | .sta ..
  | .stad .. | .star .. | .ldar .. | .ldw .. | .stw .. | .movd .. | .movp .. | .addp .. | .addpp ..
  | .movi .. | .getl .. | .putl .. | .movs .. | .br .. | .brz .. | .brnz .. | .call .. | .jr .. | .loop ..
  | .fence .. | .done .. | .reti .. | .brk .. | .lexit .. | .setrnd .. | .clrsat .. | .lmovi .. | .lmovu ..
  | .loopi .. | .ljmp .. | .lcall ..
    => [.regs, .mem, .box, .path, .mods, .disp, .sig, .cores, .ev, .flt, .sec, .mbx, .memx, .free]
  | .tdmEnable .. => [.regs, .held, .disp, .ev, .flt, .tdm]
  | .tdmMaskgo .. | .tdmMaskMove .. => [.regs, .tdm]
  | .tdmFrame .. | .poisonRead ..
    => [.regs, .mem, .time, .eng, .box, .path, .disp, .sig, .cores, .ev, .flt, .sec, .mbx, .tdm, .net,
      .supv, .tnd, .memx, .link, .free]
  | .tdmSyncLock .. | .asrcRelock .. => [.regs, .disp, .ev, .flt, .tdm]
  | .asrcLock .. => [.regs, .disp, .ev, .flt]
  | .tdmCaptureStart .. => [.regs, .held, .tdm]
  | .netEnable .. => [.regs, .held, .box, .disp, .sig, .ev, .net]
  | .netFrameRx .. | .netFrameTx .. | .t1sFrameTx .. => [.regs, .time, .disp, .ev, .net, .free]
  | .pauseExpiry .. | .pauseHoldoffEnd .. | .loopProbe | .syncInterval .. => [.regs, .net]
  | .pauseWatchdog .. => [.regs, .disp, .ev, .net]
  | .addressAgeOut .. => [.net]
  | .netLinkUp .. => [.regs, .disp, .ev, .flt, .net]
  | .bmcaRun .. => [.regs, .disp, .ev, .ref]
  | .pdelayExchange .. => [.ref]
  | .refMeasure .. => [.regs, .time, .box, .disp, .ev, .ref, .supv, .tnd, .night, .link, .free]
  | .refSwitchMeasured .. => [.regs, .time, .box, .disp, .ev, .ref]
  | .refSwitchEnd .. => [.regs, .box, .disp, .ev, .ref]
  | .ampStart .. => [.regs, .held, .box, .disp, .ev, .flt, .supv, .link]
  | .ampPolarityCheck .. => [.regs, .box, .disp, .ev, .flt, .supv]
  | .ampOscEnable .. | .ampProbe .. | .supvSweepGo => [.supv]
  | .ampStopRampEnd .. | .ampReturnEnd .. => [.regs, .box, .disp, .ev, .flt, .supv, .link]
  | .ampProbeEnd .. => [.regs, .box, .disp, .ev, .flt, .supv, .link, .free]
  | .supvInterval .. => [.regs, .box, .disp, .ev, .supv, .tnd, .night, .link, .free]
  | .quietSweepStart => [.regs, .supv, .night]
  | .sweepPointEnd .. => [.regs, .supv, .free]
  | .quietSweepEnd => [.regs, .box, .supv, .tnd, .night, .link]
  | .playbackEnd .. => [.box, .path, .mods, .link]
  | .generatorSweepEnd .. | .priorityMixerCrossfadeEnd .. => [.mods]
  | .roleInChange .. => [.regs, .pins, .box, .disp, .ev, .supv, .tnd]
  | .takeover => [.regs, .time, .box, .disp, .ev, .net, .ref, .supv, .tnd, .link]
  | .tandemDecideRecord .. => [.regs, .time, .eng, .hamp, .path, .disp, .sig, .ev, .tdm, .supv, .tnd, .night]
  | .tandemInputRecord .. => [.regs, .disp, .sig, .ev, .tnd]
  | .tandemAlarmRecord .. => [.regs, .hamp, .disp, .ev]
  | .tandemEndRecord ..
    => [.regs, .mem, .time, .eng, .box, .path, .mods, .disp, .sig, .cores, .ev, .flt, .sec, .mbx, .tdm,
      .net, .supv, .tnd, .memx, .link, .free]
  | .tandemRecordDeadline | .handoverBegin | .tandemLinkDownTimeout | .resyncCopyDone ..
    => [.regs, .box, .disp, .ev, .supv, .tnd]
  | .handoverCheck .. => [.regs, .box, .disp, .ev, .supv, .tnd, .night, .link]
  | .handoverSwitch => [.regs, .time, .box, .disp, .ev, .net, .ref, .supv, .tnd, .night, .link]
  | .tandemLaneReturn .. => [.regs, .time, .box, .disp, .ev, .flt, .tnd]
  | .tandemEnable => [.regs, .held, .time, .box, .disp, .ev, .supv, .tnd]
  | .failSilent => [.regs, .eng, .flt, .tnd]
  | .sleepRampStart => [.regs, .eng, .box, .disp, .ev, .flt, .supv, .pwr, .memx, .night]
  | .sleepReleaseStop | .sleepDrainDone | .sleepBlockStop
    => [.regs, .held, .eng, .box, .disp, .ev, .flt, .tdm, .supv, .pwr, .link]
  | .sleepEntered
    => [.regs, .held, .mem, .eng, .box, .path, .mods, .disp, .sig, .ev, .flt, .sec, .mbx, .tdm, .supv,
      .pwr, .memx, .link]
  | .retentionWake ..
    => [.regs, .held, .mem, .time, .eng, .box, .hamp, .mods, .disp, .sig, .cores, .ev, .flt, .tdm,
      .net, .ref, .supv, .pwr, .memx, .night, .link, .free]
  | .bankZeroDone .. => [.regs, .box, .memx, .link]
  | .bankPowerWrite .. => [.regs, .mem, .box, .memx, .link]
  | .scrubLine .. | .ddrPatrolScrub .. => [.regs, .disp, .ev, .memx, .free]
  | .ramblerRegion .. => [.regs, .disp, .ev, .memx, .night]
  | .ramblerPassEnd => [.regs, .supv, .tnd, .memx, .night]
  | .ramblerEnable .. => [.regs, .memx]
  | .decodeError .. => [.regs, .disp, .ev, .memx]
  | .faultHandlingEnd .. | .faultOutStretchEnd => [.regs, .flt]
  | .counterSweep => [.cnt]
  | .counterDumpLatch => [.regs, .mem, .memx, .cnt]
  | .counterDumpDone => [.regs, .mem, .disp, .ev, .memx, .cnt]
  | .nightTestStart => [.regs, .disp, .ev, .supv, .tnd, .memx, .night]
  | .nightTestDrillReturn => [.tnd, .night]
  | .nightTestEnd => [.regs, .box, .disp, .ev, .flt, .supv, .tnd, .night]
  | .peerStateReport .. => [.regs, .time, .box, .disp, .ev, .tnd]
  | .tamperInRelease => [.regs, .pins]
  | .suppliesValid => [.pwr]
  | .dmaDescriptor ..
    => [.regs, .held, .mem, .time, .box, .path, .disp, .sig, .cores, .ev, .flt, .sec, .mbx, .tdm, .net,
      .ref, .supv, .tnd, .memx, .link, .free]

/-- The firmware takes commands: it runs, and the chip is in no sleep state (R104, R384, R441). -/
def State.serving (s : State) : Prop := s.boot.phase = .running ∧ s.asleep = false

/-- A core runs an item and has not stopped. -/
def State.coreRuns (s : State) (k : Nat) : Prop :=
  (s.core k).running = true ∧ (s.core k).ended = false ∧ (s.core k).faulted = false

/-- A core runs an item, and the bundle at its pc can be fetched where no operation of it has been given yet (R142). -/
def State.coreReady (s : State) (k : Nat) : Prop :=
  s.coreRuns k ∧ ((s.core k).inBundle = true ∨ s.badFetch k = false)

/-- The command completes in this state: exec answers a next state, and `P` holds of it. -/
def Completes (i : Instr) (s : State) (P : State → Prop) : Prop := ∃ t, exec i s = .next t ∧ P t

/-- The firmware takes a Silwen command of a code, acknowledges it DONE and executes it (R102, R107, R113,
R351, R380, R451). -/
def State.takes (s : State) (c : Cmd) (code minL : Nat) (expertOnly : Bool) : Bool :=
  s.boot.phase == .running && !s.asleep && ackCode c expertOnly s == rcDone && decide (minL ≤ c.words.length)
    && !(s.standby && !standbyTakes code) && !(s.sleeping && !sleepTakes code)

/-- The reply held last for the sender of a command (R111, R114). -/
def State.answered (t : State) (c : Cmd) (code rc value : Nat) (ws : List Word) : Prop :=
  (t.outbox (Sender.key c.sender)).replies.getLast? = some ⟨code, c.tag, word (rc + 65536 * value) :: ws⟩

/-- The reply held last for the sender of a command is DONE without words. -/
def State.repliedDone (t : State) (c : Cmd) (code : Nat) : Prop := t.answered c code rcDone 0 []

/-- The reply held last for the sender of a command is SCHEDULED with a Stile, and its tag stays outstanding. -/
def State.repliedScheduled (t : State) (c : Cmd) (code stile : Nat) : Prop :=
  t.answered c code rcScheduled 0 (mtiWords stile)
    ∧ kget (t.outbox (Sender.key c.sender)).tags c.tag.toNat = some code

/-- A plan of these entries stands, asked for at this Stile, and the command was answered with its planned
Stile (R72, R75, R453). -/
def State.planned (t : State) (c : Cmd) (code : Nat) (es : List Entry) (stile : Nat) : Prop :=
  ∃ pl ∈ t.hamp.plans, pl.entries = es ∧ pl.s = stile ∧ t.repliedScheduled c code pl.p

/-- A basic command's entries are taken as one Hamper: nothing rejects them, and a Hamper and its HID are free
(R64, R65, R453). -/
def State.freeFor (s : State) (c : Cmd) (es : List Entry) : Bool :=
  s.hamperCodes c.sender .basic es == [] && s.firCodes es == [] && decide (s.hamperCount < 64) && !s.hidInUse s.freshHid

/-- The code of a Silwen command, the payload words its fields need, whether it is an expert command, and its message; none for
every command that is no Silwen message (R449–R467). -/
def silwenOf (i : Instr) : Option (Nat × Nat × Bool × Cmd) :=
  match i with
  | .hello c => some (0x0100, 0, false, c)
  | .getInfo c => some (0x0101, 1, false, c)
  | .resetEngine c => some (0x0102, 1, false, c)
  | .setNode c => some (0x0103, 1, false, c)
  | .getLatency c => some (0x0104, 2, false, c)
  | .setPace c => some (0x0200, 1, false, c)
  | .sleep c => some (0x0201, 1, false, c)
  | .getPower c => some (0x0202, 0, false, c)
  | .setBankPower c => some (0x0203, 2, false, c)
  | .getTime c => some (0x0300, 0, false, c)
  | .setClockMode c => some (0x0301, 2, false, c)
  | .setRefPriority c => some (0x0302, 12, false, c)
  | .realign c => some (0x0303, 1, false, c)
  | .setEngineRate c => some (0x0304, 1, false, c)
  | .setRound c => some (0x0305, 1, false, c)
  | .captureCfgConfigure c => some (0x0306, 3, false, c)
  | .captureCfgRead c => some (0x0306, 2, false, c)
  | .netPortCfg c => some (0x0400, 12, false, c)
  | .streamRxAdd c => some (0x0401, 10, false, c)
  | .streamTxAdd c => some (0x0402, 9, false, c)
  | .streamRemove c => some (0x0403, 1, false, c)
  | .ptpCfg c => some (0x0404, 3, false, c)
  | .t1sCfg c => some (0x0405, 1, false, c)
  | .route c => some (0x0500, 3, false, c)
  | .routeBackup c => some (0x0501, 2, false, c)
  | .getRoute c => some (0x0502, 1, false, c)
  | .setSend c => some (0x0600, 3, false, c)
  | .setMatrix c => some (0x0601, 3, false, c)
  | .setBusHeadroom c => some (0x0602, 1, false, c)
  | .setParam c => some (0x0700, 4, false, c)
  | .getParam c => some (0x0701, 2, false, c)
  | .loadModule c => some (0x0702, 3, true, c)
  | .place c => some (0x0703, 1, false, c)
  | .hamperOpen c => some (0x0800, 1, false, c)
  | .hamperAdd c => some (0x0801, 1, false, c)
  | .hamperClose c => some (0x0802, 4, false, c)
  | .hamperCancel c => some (0x0803, 1, false, c)
  | .sceneRecall c => some (0x0804, 1, false, c)
  | .armAlarm c => some (0x0805, 1, false, c)
  | .hamperRaw c => some (0x0F02, 3, true, c)
  | .tdmCfg c => some (0x0900, 4, false, c)
  | .tdmSlotmask c => some (0x0901, 3, false, c)
  | .asrcCfg c => some (0x0902, 2, false, c)
  | .ampCfg c => some (0x0A00, 11, false, c)
  | .ampPair c => some (0x0A01, 1, false, c)
  | .lineBaseline c => some (0x0A02, 1, false, c)
  | .quietSweep c => some (0x0A03, 3, false, c)
  | .railCfg c => some (0x0A04, 5, false, c)
  | .tandemCfg c => some (0x0B00, 1, false, c)
  | .handover c => some (0x0B01, 2, false, c)
  | .tandemStatus c => some (0x0B02, 0, false, c)
  | .ramblerCfg c => some (0x0C00, 1, false, c)
  | .msgStoreCreate c => some (0x0C01, 3, false, c)
  | .msgStoreAppend c => some (0x0C01, 3, false, c)
  | .msgStoreDelete c => some (0x0C01, 1, false, c)
  | .msgStoreQuery c => some (0x0C01, 1, false, c)
  | .playMessage c => some (0x0C02, 1, false, c)
  | .eventRouteSet c => some (0x0D00, 2, false, c)
  | .eventRouteClear c => some (0x0D00, 2, false, c)
  | .faultLogRead c => some (0x0D01, 1, false, c)
  | .counterDumpCfg c => some (0x0D02, 2, false, c)
  | .nightTestCfg c => some (0x0D03, 5, false, c)
  | .lifecycleAdvance c => some (0x0E00, 1, false, c)
  | .lifecycleSlotDigest c => some (0x0E00, 13, true, c)
  | .lifecycleRevokeSlot c => some (0x0E00, 1, true, c)
  | .lifecycleSetMac c => some (0x0E00, 3, true, c)
  | .credentialNonce c => some (0x0E01, 1, false, c)
  | .credentialPresent c => some (0x0E01, 9, false, c)
  | .credentialDrop c => some (0x0E01, 1, false, c)
  | .expertEnable c => some (0x0E02, 1, false, c)
  | .peek c => some (0x0F00, 3, true, c)
  | .poke c => some (0x0F01, 3, true, c)
  | _ => none

/-- A master reaches the registers: its port does not hang and the chip is awake (R384, R393) (DEDUCED, assumption 70). -/
def State.portOpen (s : State) (m : Master) : Bool :=
  !s.memx.hung.contains m.toNat && decide (s.get F.PWR_STAT_STATE < 4)

/-- A master reaches the channel: the SPI host only MB4 to MB7 (R121). -/
def chanOpen (m : Master) (n : Nat) : Bool := m != 2 || (decide (4 ≤ n) && decide (n ≤ 7))

/-- Where an operation of a core's bundle runs; none for every other command. -/
def coreAt (i : Instr) : Option At :=
  match i with
  | .mul a .. | .mac a .. | .msu a .. | .mulx a .. | .macx a .. | .msux a .. | .add a .. | .sub a ..
  | .min a .. | .max a .. | .and a .. | .or a .. | .xor a .. | .abs a .. | .neg a .. | .shl a ..
  | .shr a .. | .sld a .. | .cmp a .. | .sel a .. | .bcast a .. | .rda a .. | .rdad a .. | .lda a ..
  | .ldad a .. | .adda a .. | .suba a .. | .mova a .. | .clra a .. | .sha a .. | .nega a .. | .ldv a ..
  | .ldb a .. | .ldl a .. | .ldvd a .. | .stv a .. | .stl a .. | .stvd a .. | .sta a .. | .stad a ..
  | .star a .. | .ldar a .. | .ldw a .. | .stw a .. | .movd a .. | .movp a .. | .addp a .. | .addpp a ..
  | .movi a .. | .getl a .. | .putl a .. | .movs a .. | .br a .. | .brz a .. | .brnz a .. | .call a ..
  | .jr a .. | .loop a .. | .fence a .. | .done a .. | .reti a .. | .brk a .. | .lexit a .. | .setrnd a ..
  | .clrsat a .. | .lmovi a .. | .lmovu a .. | .loopi a .. | .ljmp a .. | .lcall a .. => some a
  | _ => none

/-- A core with writes of its bundle in progress: for each its slot's rank, the number of bundles after which it is
seen, and the write (R166, R167). -/
def CoreSt.opened (c : CoreSt) (ws : List (Nat × Nat × CoreWrite)) : CoreSt :=
  { c with
    pend := ws.foldl (fun l w => pendInsert ⟨c.bn + w.2.1, w.1, c.bn, w.2.2⟩ l) c.pend
    inBundle := true, begun := true }

/-- The operation leaves these writes in flight on its core, and nothing else of the state changes. -/
def State.writes (s : State) (i : Instr) (k : Nat) (ws : List (Nat × Nat × CoreWrite)) : Prop :=
  exec i s = .next (s.setCore k ((s.core k).opened ws))

/-- A value held in the signed range of `w` bits. -/
def heldIn (w : Nat) (v : Int) : Int := max (-(2 ^ (w - 1))) (min (2 ^ (w - 1) - 1) v)

/-- The SAT flags of the lanes whose values leave the signed range of `w` bits, where there are any (R145). -/
def satWrites (w rank l : Nat) (vs : List Int) : List (Nat × Nat × CoreWrite) :=
  if vs.any (fun v => v != heldIn w v) then [(rank, l, .satOr (laneFlags (vs.map fun v => v != heldIn w v)))] else []

/-- A multiply's writes: the accumulate chain sees them one bundle later, every other read after three (R166). -/
def macWrites (aa : Nat) (vs : List Int) : List (Nat × Nat × CoreWrite) :=
  [(0, 1, .accE aa (vs.map fun v => BitVec.ofInt 56 (heldIn 56 v))), (0, 3, .acc aa (vs.map fun v => BitVec.ofInt 56 (heldIn 56 v)))]
    ++ satWrites 56 0 1 vs

/-- An accumulator's writes that every read sees one bundle later. -/
def accWrites (aa : Nat) (vs : List Int) : List (Nat × Nat × CoreWrite) :=
  [(0, 1, .accE aa (vs.map fun v => BitVec.ofInt 56 (heldIn 56 v))), (0, 1, .acc aa (vs.map fun v => BitVec.ofInt 56 (heldIn 56 v)))]
    ++ satWrites 56 0 1 vs

/-- Eight results held in 24 bits. -/
def satDWrites (l dd : Nat) (vs : List Int) : List (Nat × Nat × CoreWrite) :=
  (0, l, .d dd (vs.map fun v => BitVec.ofInt 24 (heldIn 24 v))) :: satWrites 24 0 l vs

/-- The signed value of lane `i` of a D register, and of an accumulator. -/
def CoreSt.x (c : CoreSt) (r i : Nat) : Int := (lane (c.D r) i).toInt
def CoreSt.ax (c : CoreSt) (r i : Nat) : Int := (lane (c.A r) i).toInt

/-- The pointer's write of an access (R151, R153). -/
def ptrWrites (x : Mem) (size : Nat) (c : CoreSt) : List (Nat × Nat × CoreWrite) :=
  if x.md = 0 then []
  else [(slotRank x.slot, 1, .p x.pp (wrapAddr (c.S x.pp).toNat (c.S (0x10 + x.pp)).toNat
    (((c.P x.pp).toNat : Int) + if x.md = 1 then (c.S (0x20 + x.pp)).toInt else if x.md = 2 then (size : Int) else -(size : Int))))]

/-- The internal address a core address of core `k` reaches in memory; none for a register or an address the core does
not have (R139). -/
def State.coreMem (s : State) (k : Nat) (a : Word) : Option Nat :=
  match s.coreTarget k (s.core k) a with
  | .localMem y => some y
  | .shared y => some y
  | _ => none

/-- Every element of an access lies in the memory of core `k` itself, sound to read. -/
def State.localAccess (s : State) (k : Nat) (x : Mem) (n count : Nat) : Prop :=
  ∀ a ∈ accessAddrs (s.core k) x n count, ∃ y, s.coreTarget k (s.core k) a = .localMem y
    ∧ ∀ i, i < n → (y + i) / 8 * 8 ∉ s.memx.poison

/-- The numbers an access of elements of `n` bytes reads. -/
def State.elements (s : State) (k : Nat) (x : Mem) (n count : Nat) : List Nat :=
  (accessAddrs (s.core k) x n count).map fun a => bytesNat (s.bytes ((s.coreMem k a).getD 0) n)

/-- A core that stands between bundles with nothing in flight and no transfer of control under way, outside the end of
any loop. -/
def CoreSt.calm (c : CoreSt) : Prop :=
  c.pend = [] ∧ c.stores = [] ∧ c.ctl = .none ∧ c.fault = none ∧ c.after = none ∧ c.setup = 0 ∧ c.depth = 0

/-- A step from this state answers a state: the block does not stop. -/
def State.runsOn (s : State) : Prop := ∃ t, step s = .next t

end Sys2Proof.Machine
end

