-- ==== Sys2Proof/Certificates/Slice0/Obligations.lean ====
section
/-! DEFINITION. The statements for the provers, family by family of spec/opcode_table.json. -/

open Sys2Proof Sys2Proof.Machine

/-- The step: the command at the front of the queue runs on the state whose queue is the rest, and an empty
queue lets the block idle (the model's choice, assumption 2). -/
def Obligations.StepRunsFrontOfQueue : Prop :=
  ∀ s : State,
    (∀ (c : Instr) (rest : List Instr), step { s with pending := c :: rest } = exec c { s with pending := rest })
      ∧ (∀ c : Instr, step { s with pending := c :: s.pending } = exec c s)
      ∧ (s.pending = [] → step s = .next s)

/-- The block never stops: every state has a next one, and from a queue of commands every one of them runs.
Where the rules leave a reading open, it is the model's choice (assumption 7). -/
def Obligations.EveryStepAnswers : Prop :=
  ∀ s : State, s.runsOn ∧ ∀ c : Instr, Completes c s fun t => t.pending = s.pending

/-- Reset: memory and the register file keep their canonical form, every register holds the reset value of
its map, no channel holds a message, no core runs, the engine stands, and nothing is queued.
Where the rules leave a reading open, it is the model's choice (assumptions 3, 12 and 13). -/
def Obligations.ResetState : Prop :=
  State.reset.memOk ∧ State.reset.regsOk ∧ State.reset.pending = []
    ∧ (∀ a, State.reset.reg a = resetWord a) ∧ (∀ a, State.reset.byte a = memDefault)
    ∧ State.reset.boot.phase = .rom ∧ State.reset.eng.running = false
    ∧ (∀ n : Fin 32, State.reset.chan n = 0) ∧ (∀ k : Fin 48, (State.reset.core k).running = false)

/-- The canonical form of memory and of the register file is kept by every step, whatever command stands at
the front. -/
def Obligations.StepKeepsCanonicalForm : Prop :=
  ∀ s t : State, step s = .next t → (s.memOk → t.memOk) ∧ (s.regsOk → t.regsOk)

/-- The frame of every command: a part of the state outside the list of `touches` is left as it was. -/
def Obligations.CommandsTouchOnly : Prop :=
  ∀ (i : Instr) (s t : State), exec i s = .next t → ∀ p : Part, p ∉ touches i → p.same s t

/-- Free values are taken once: the counter of free values never goes back, and the queue behind the command
stays as it is. -/
def Obligations.FreeValuesAreTakenOnce : Prop :=
  ∀ s t : State, step s = .next t → s.free ≤ t.free ∧ t.pending = s.pending.tail

/-- The mailbox writes in their place (R95, R98): a buffer write and POST in IDLE, TAKE in POSTED, ACK in TAKEN,
CLR in POSTED or ACKED. A POST is stamped; the firmware acknowledges a command whose code is not assigned at once
(R113), and a retired device's ROM every message (R104).
Where the rules leave a reading open, it is the model's choice (assumptions 9 and 101).
The mailbox writes out of place set SEQERR and do nothing else (R96); a write from a master the channel's
side is not bound to sets BINDERR and does nothing else (R101). After a TAKE the sender can no longer withdraw its
message (R97).
The frame of the mailbox writes (R95, R98): every register but the channel's own and the event's pending words is as it
was, and so is every byte of memory. -/
def Obligations.MailboxWrites : Prop :=
  (∀ (s : State) (m : Master) (n : Fin 32), chanOpen m n = true → s.portOpen m = true →
    (s.bound m n false = true → s.chan n = 0 →
      (∀ (w : Fin 64) (v : Word), Completes (.mbxBufWrite m n w v) s fun t => t = s.setReg (R.MBX_BUF n w) v)
      ∧ (s.boot.phase ≠ .retired → Completes (.mbxPost m n) s fun t =>
          t.get (F.MBX_STAMP_SENDER n) = m.toNat
            ∧ t.get (F.MBX_STAMP_EPOCH n) = s.epoch m.toNat % 256
            ∧ t.get (F.MBX_STAMP_SEQ n) = (s.get (F.MBX_STAMP_SEQ n) + 1) % 65536
            ∧ if s.boot.phase = .running ∧ n.val ∈ [0, 4, 8] ∧ (s.reg (R.MBX_BUF n 0)).toNat % 65536 ∉ assignedCodes then
                t.chan n = 3 ∧ t.reg (R.MBX_ACK n) = word
                  (if s.get F.MBX_MODE_MODE ≠ 1 ∧ m.toNat ≠ s.get (F.MBX_BIND_SENDER n) then rcNotBound
                   else if 62 < (s.reg (R.MBX_BUF n 0)).toNat / 65536 % 256 then rcMalformed else rcUnknown)
              else t.chan n = 1)
      ∧ (s.boot.phase = .retired → Completes (.mbxPost m n) s fun t =>
          t.chan n = 3 ∧ t.reg (R.MBX_ACK n) = word rcRefused))
    ∧ (s.bound m n true = true → s.chan n = 1 → Completes (.mbxTake m n) s fun t => t.chan n = 2)
    ∧ (s.bound m n true = true → s.chan n = 2 → ∀ v : Word, Completes (.mbxAck m n v) s fun t =>
        t.chan n = 3 ∧ t.reg (R.MBX_ACK n) = v)
    ∧ (s.bound m n false = true → s.chan n = 1 ∨ s.chan n = 3 → Completes (.mbxClr m n) s fun t =>
        t.chan n = 0 ∧ t.get (F.MBX_STAT_ORPHAN n) = 0 ∧ t.get (F.MBX_STAT_ABORTED n) = 0))
  ∧ (∀ (s : State) (m : Master) (n : Fin 32), chanOpen m n = true → s.portOpen m = true →
    (s.bound m n false = true →
      (s.chan n ≠ 0 → (∀ (w : Fin 64) (v : Word), exec (.mbxBufWrite m n w v) s = .next (s.put (F.MBX_STAT_SEQERR n) 1))
        ∧ exec (.mbxPost m n) s = .next (s.put (F.MBX_STAT_SEQERR n) 1))
      ∧ (s.chan n = 2 → exec (.mbxClr m n) s = .next (s.put (F.MBX_STAT_SEQERR n) 1)))
    ∧ (s.bound m n true = true →
      (s.chan n ≠ 1 → exec (.mbxTake m n) s = .next (s.put (F.MBX_STAT_SEQERR n) 1))
      ∧ (s.chan n ≠ 2 → ∀ v : Word, exec (.mbxAck m n v) s = .next (s.put (F.MBX_STAT_SEQERR n) 1)))
    ∧ (s.bound m n false = false →
      (∀ (w : Fin 64) (v : Word), exec (.mbxBufWrite m n w v) s = .next (s.put (F.MBX_STAT_BINDERR n) 1))
      ∧ exec (.mbxPost m n) s = .next (s.put (F.MBX_STAT_BINDERR n) 1)
      ∧ exec (.mbxClr m n) s = .next (s.put (F.MBX_STAT_BINDERR n) 1))
    ∧ (s.bound m n true = false →
      exec (.mbxTake m n) s = .next (s.put (F.MBX_STAT_BINDERR n) 1)
      ∧ ∀ v : Word, exec (.mbxAck m n v) s = .next (s.put (F.MBX_STAT_BINDERR n) 1))
    ∧ (∀ (m' : Master) (t : State), chanOpen m' n = true → s.portOpen m' = true → s.bound m n true = true →
        s.bound m' n false = true → s.chan n = 1 → exec (.mbxTake m n) s = .next t →
        exec (.mbxClr m' n) t = .next (t.put (F.MBX_STAT_SEQERR n) 1)))
  ∧ (∀ (s t : State) (m : Master) (n : Fin 32) (i : Instr),
    (i = .mbxPost m n ∨ i = .mbxTake m n ∨ (∃ v, i = .mbxAck m n v) ∨ i = .mbxClr m n) → exec i s = .next t →
      (∀ a, a ∉ [R.MBX_STAT n, R.MBX_ACK n, R.MBX_STAMP n, R.EVT_PEND 2, R.MBX_EVPEND 2] → t.reg a = s.reg a)
      ∧ (∀ a, t.byte a = s.byte a) ∧ t.mbx = s.mbx ∧ t.cores = s.cores ∧ t.box = s.box)

/-- Resets of a master (R105): the epoch advances by one and wraps at 255; a channel it receives on and that holds a
message not yet acknowledged ends ACKED with ABORTED and an empty buffer; a channel it sends on and that is not
IDLE keeps its state and is marked ORPHAN. MBX_SRESET with the writer's own ID is the same reset, with another
value nothing; LOCK sets the lock (R104). The SPI host writes neither (R121).
The bindings after PORST_N and SYSRST_N, the state and lock of every channel, and the epoch of every master, which
advances (R103, R104, R105). -/
def Obligations.MasterResetsAndBindings : Prop :=
  (∀ (s : State) (m : Master),
    Completes (.masterReset m) s (fun t =>
      t.epoch m.toNat = (s.epoch m.toNat + 1) % 256
      ∧ (∀ j, j ≠ m.toNat → t.epoch j = s.epoch j)
      ∧ ∀ n : Fin 32,
        (s.get (F.MBX_BIND_RECEIVER n) = m.toNat → s.chan n = 1 ∨ s.chan n = 2 →
          t.chan n = 3 ∧ t.reg (R.MBX_ACK n) = word rcAborted ∧ t.get (F.MBX_STAT_ABORTED n) = 1
          ∧ ∀ w : Fin 64, t.reg (R.MBX_BUF n w) = 0)
        ∧ (s.get (F.MBX_BIND_RECEIVER n) ≠ m.toNat → t.chan n = s.chan n)
        ∧ (s.get (F.MBX_BIND_RECEIVER n) ≠ m.toNat → s.get (F.MBX_BIND_SENDER n) = m.toNat → s.chan n ≠ 0 →
          t.get (F.MBX_STAT_ORPHAN n) = 1 ∧ ∀ w : Fin 64, t.reg (R.MBX_BUF n w) = s.reg (R.MBX_BUF n w)))
    ∧ (m ≠ 2 → s.portOpen m = true →
        (∀ v : Word, bits v 5 0 = m.toNat → exec (.mbxSreset m v) s = exec (.masterReset m) s)
        ∧ (∀ v : Word, bits v 5 0 ≠ m.toNat → exec (.mbxSreset m v) s = .next s)
        ∧ Completes (.mbxLock m) s fun t => t = s.put F.MBX_LOCK_LOCK 1)
    ∧ (m = 2 → (∀ v : Word, exec (.mbxSreset m v) s = .next s) ∧ exec (.mbxLock m) s = .next s))
  ∧ (∀ (s : State) (b : BitVec 2) (i : Instr), i = .porst b ∨ i = .sysrst b → Completes i s fun t =>
    t.get F.MBX_LOCK_LOCK = 0 ∧ (∀ n : Fin 32, t.chan n = 0)
    ∧ (∀ m ∈ masterIds, t.epoch m = (s.epoch m + 1) % 256)
    ∧ (∀ n : Fin 32, t.reg (R.MBX_BIND n) = word (bindReset n))
    ∧ (∀ n : Fin 32, t.get (F.MBX_BIND_SENDER n) = bindReset n % 64 ∧ t.get (F.MBX_BIND_RECEIVER n) = bindReset n / 256 % 64))

/-- A restart of a control core that the firmware runs on (R105, R109), by the watchdog or as fault handling orders
it: its epoch and the firmware's advance, no tag of the channel it serves stays outstanding, and of its plans only
those that load are kept. It is reported by notice 0x86 in the fault log with event 54, and by event 62 where the
watchdog did it (R414, R419).
Where the rules leave a reading open, it is the model's choice (assumption 102).
The next message held for a host is posted (R119): a reply first, on the reply channel where that is free, else a
final notification, else a queued one, on the notification channel. The message is written to the buffer and the
channel is POSTED by the control core that serves the host (R103, R106, R110, R111). Once the queue falls to 192 with
drops counted, OVERFLOW is queued ahead of the rest.
Where the rules leave a reading open, it is the model's choice (assumption 14). -/
def Obligations.ControlCoresServe : Prop :=
  (∀ (s : State) (cc : Fin 4), s.boot.phase = .running → ∀ i : Instr, i = .controlCoreRestart cc ∨ i = .ccWatchdogExpiry cc →
    Completes i s fun t =>
      t.epoch (8 + cc.val) = (s.epoch (8 + cc.val) + 1) % 256
      ∧ (cc ≠ 3 → ∀ k : Nat, k = (if cc.val = 0 then 1 else if cc.val = 1 then 2 else 0x30) →
          t.boot.fwEpoch = (s.boot.fwEpoch + 1) % 256 ∧ (t.outbox k).tags = []
          ∧ (∀ p ∈ s.hamp.plans, p.loading = true → p ∈ t.hamp.plans)
          ∧ ∀ p ∈ t.hamp.plans, p.loading = true ∨ ∀ x ∈ p.members, Sender.key x.sender ≠ k)
      ∧ (cc = 3 → t.hamp = s.hamp ∧ t.boot = s.boot)
      ∧ (∃ r, t.flt.log.getLast? = some r ∧ bits r.1 23 16 = 0x86 ∧ r.2.1 = word cc.val)
      ∧ t.bitAt (R.EVT_PEND 1) 22 = true
      ∧ (i = .ccWatchdogExpiry cc → t.bitAt (R.EVT_PEND 1) 30 = true))
  ∧ (∀ (s : State) (m : Master) (cn rn nn cc : Nat) (r : Msg) (rs : List Msg), s.boot.phase = .running →
    hostChans m.toNat = some (cn, rn, nn, cc) → r.words.length ≤ 62 →
    ((s.outbox m.toNat).replies = r :: rs → s.chanFree rn = true →
      Completes (.outboundPost m) s fun t => (t.outbox m.toNat).replies = rs ∧ t.chan rn = 1
        ∧ t.get (F.MBX_STAMP_SENDER rn) = cc
        ∧ t.reg (R.MBX_BUF rn 0) = word (r.code % 65536 + 65536 * r.words.length + 2 ^ 24 * r.tag.toNat)
        ∧ ∀ j (h : j < r.words.length), t.reg (R.MBX_BUF rn (j + 1)) = r.words[j])
    ∧ ((s.outbox m.toNat).replies = [] ∨ s.chanFree rn = false → s.chanFree nn = true →
        (s.outbox m.toNat).finals = r :: rs ∨ ((s.outbox m.toNat).finals = [] ∧ (s.outbox m.toNat).queue = r :: rs) →
      Completes (.outboundPost m) s fun t => t.chan nn = 1 ∧ t.get (F.MBX_STAMP_SENDER nn) = cc
        ∧ t.reg (R.MBX_BUF nn 0) = word (r.code % 65536 + 65536 * r.words.length + 2 ^ 24 * r.tag.toNat)
        ∧ (∀ j (h : j < r.words.length), t.reg (R.MBX_BUF nn (j + 1)) = r.words[j])
        ∧ ((s.outbox m.toNat).finals = r :: rs → (t.outbox m.toNat).finals = rs)
        ∧ ((s.outbox m.toNat).finals = [] → (s.outbox m.toNat).drops = 0 → (t.outbox m.toNat).queue = rs)
        ∧ ((s.outbox m.toNat).finals = [] → (s.outbox m.toNat).drops ≠ 0 → rs.length ≤ 192 →
            (t.outbox m.toNat).queue = ⟨0x8008, 0, [s.mtil, word (s.outbox m.toNat).drops]⟩ :: rs
              ∧ (t.outbox m.toNat).drops = 0)))

/-- The resets of R435: PORST_N, SYSRST_N and the reset that ends a life-cycle advance (R443) put the block back to the
ROM, with the mailbox unlocked, keep the fuses and the queue, and record their cause and the boot select. SYSRST_N
keeps BKS and so does the reset after an advance; PORST_N leaves no byte of memory written. Without an advance
LIFECYCLE_RESET does nothing.
Where the rules leave a reading open, it is the model's choice (assumptions 3, 11 and 42). -/
def Obligations.WholeResets : Prop :=
  ∀ (s : State) (b : BitVec 2),
    (∀ i : Instr, i = .porst b ∨ i = .sysrst b ∨ (i = .lifecycleReset ∧ s.boot.pendingLc = true ∧ b = s.pins.bootSel) →
      Completes i s fun t =>
        t.boot.phase = .rom ∧ t.sec.otp = s.sec.otp
        ∧ t.get F.MBX_LOCK_LOCK = 0 ∧ t.get F.SYS_BOOT_SEL = b.toNat ∧ t.pins.bootSel = b
        ∧ t.get F.SYS_RSTCAUSE_CAUSE = (if i = .porst b then 1 else 3)
        ∧ t.eng.running = false ∧ t.cores = [] ∧ t.box = [] ∧ t.hamp.plans = [] ∧ t.pending = s.pending
        ∧ ∀ a, t.byte a = if i ≠ .porst b ∧ inBks a = true then s.byte a else memDefault)
    ∧ (s.boot.pendingLc = false → exec .lifecycleReset s = .next s)

/-- Boot images (R437, R438): a complete download, or the two copies in flash in turn, each copied to BK5, end verified
where a copy passes the checks in their order, with its header's fields and the copy in SYS_BOOT, and otherwise leave
the ROM waiting with FAULT_OUT high and the first check that failed recorded. BLANK refuses flash. In a retired device
the ROM's checks end with the reset bindings, the lock and every posted message REFUSED (R104, R442). Without a
download and without flash as the source nothing is verified.
Where the rules leave a reading open, it is the model's choice (assumption 43).
Downloads of an image (R437): the length posted on MB0 makes the image from BK6 complete; a message on MB4 adds its
words and is acknowledged DONE, and one of fewer than 64 words ends the image. Where the ROM expects no download, the
commands do nothing.
Where the rules leave a reading open, it is the model's choice (assumption 43).
The start of the firmware (R441, R444, R445): with an image verified it runs, the keys are derived where TAMPER_IN
is high outside BLANK, the banks but BK5, which holds the image, are zeroed, and in FIELD the mailbox is locked (R104);
without a verified image nothing happens. SUPPLIES_VALID puts the regulators at Pace 0 and raises both enables (R436,
R482).
Where the rules leave a reading open, it is the model's choice (assumptions 3, 32 and 43). -/
def Obligations.BootAndFirmware : Prop :=
  (∀ (s : State) (flash : List Byte), s.boot.phase = .rom ∨ s.boot.phase = .waiting →
    (∀ (img : List Byte) (copy : Nat),
      s.sec.otp.lc ≠ 3 → s.imgCheck img = 0 →
      ((s.boot.complete = true ∧ img = s.boot.image ∧ copy = 2)
        ∨ (s.boot.complete = false ∧ s.boot.phase = .rom ∧ s.bootSource = 0 ∧ s.sec.otp.lc ≠ 0
          ∧ ((img = flash ∧ copy = 0) ∨ (img = flash.drop 0x1000000 ∧ copy = 1 ∧ s.imgCheck flash ≠ 0)))) →
      Completes (.bootImageVerify flash) s fun t =>
        t.boot.phase = .verified ∧ t.get F.SYS_BOOT_COPY = copy
          ∧ t.get F.SYS_BOOT_VERSION = imgWord img 8 % 65536 ∧ t.get F.SYS_BOOT_KSLOT = imgWord img 0xC % 4
          ∧ (s.bankState 0x5000000 ≠ 2 →
              ∀ j (h : j < img.length), j < 0x1000000 → t.byte (0x5000000 + j) = img[j]))
    ∧ (∀ img : List Byte,
      s.sec.otp.lc ≠ 3 → s.imgCheck img ≠ 0 →
      ((s.boot.complete = true ∧ img = s.boot.image)
        ∨ (s.boot.complete = false ∧ s.boot.phase = .rom ∧ s.bootSource = 0 ∧ s.sec.otp.lc ≠ 0
          ∧ s.imgCheck flash ≠ 0 ∧ img = flash.drop 0x1000000)) →
      Completes (.bootImageVerify flash) s fun t =>
        t.boot.phase = .waiting ∧ t.get F.SYS_BOOT_ERR = s.imgCheck img ∧ t.get F.EVT_FLTSTAT_FOUT = 1)
    ∧ (s.sec.otp.lc = 0 → s.boot.complete = false → s.boot.phase = .rom → s.bootSource = 0 →
      Completes (.bootImageVerify flash) s fun t => t.boot.phase = .waiting ∧ t.get F.EVT_FLTSTAT_FOUT = 1)
    ∧ (s.sec.otp.lc = 3 → Completes (.bootImageVerify flash) s fun t =>
        t.boot.phase = .retired ∧ t.get F.MBX_LOCK_LOCK = 1
        ∧ (∀ n : Fin 32, t.reg (R.MBX_BIND n) = word (bindReset n))
        ∧ ∀ n : Fin 32, s.chan n = 1 → t.chan n = 3 ∧ t.reg (R.MBX_ACK n) = word rcRefused)
    ∧ (s.sec.otp.lc ≠ 3 → s.boot.complete = false → s.boot.phase = .waiting ∨ s.bootSource ≠ 0 →
        exec (.bootImageVerify flash) s = .next s))
  ∧ (∀ s : State,
    (∀ len : Word, s.boot.phase = .waiting ∨ (s.boot.phase = .rom ∧ s.bootSource = 1) →
      Completes (.pcieDownloadPost len) s fun t =>
        t.boot.complete = true ∧ t.boot.image = s.bytes 0x6000000 (min len.toNat 0x1000000)
        ∧ t.boot.phase = s.boot.phase ∧ t.regs = s.regs ∧ t.mem = s.mem)
    ∧ (∀ len : Word, s.boot.phase ≠ .waiting → s.boot.phase ≠ .rom ∨ s.bootSource ≠ 1 →
        exec (.pcieDownloadPost len) s = .next s)
    ∧ (∀ ws : List Word, s.boot.phase = .rom → s.bootSource = 2 → s.boot.complete = false → ws.length ≤ 64 →
      Completes (.spiDownloadMessage ws) s fun t =>
        t.boot.image = s.boot.image ++ ws.flatMap wordBytes ∧ t.boot.complete = decide (ws.length < 64)
        ∧ t.boot.phase = .rom ∧ t.mem = s.mem
        ∧ (s.chan 4 = 1 → t.chan 4 = 3 ∧ t.reg (R.MBX_ACK 4) = word rcDone))
    ∧ (∀ ws : List Word, s.boot.phase ≠ .rom ∨ s.bootSource ≠ 2 ∨ s.boot.complete = true →
        exec (.spiDownloadMessage ws) s = .next s))
  ∧ (∀ s : State,
    (s.boot.phase = .verified → Completes .firmwareStart s fun t =>
      t.boot.phase = .running ∧ t.boot.hello = false ∧ t.sec.otp = s.sec.otp
      ∧ t.get F.SEC_STAT_KEYS = flag (s.pins.tamperIn && s.sec.otp.lc != 0)
      ∧ t.sec.keys = (if s.pins.tamperIn = true ∧ s.sec.otp.lc ≠ 0 then
          some (Config.hmac384 s.sec.otp.oemSecret (labelBytes "EXPERT"),
            Config.hmac384 s.sec.otp.oemSecret (labelBytes "ALARM"),
            Config.hmac384 s.sec.otp.oemSecret (labelBytes "REMOTE")) else none)
      ∧ t.get F.MBX_LOCK_LOCK = (if s.sec.otp.lc = 2 then 1 else s.get F.MBX_LOCK_LOCK)
      ∧ ∀ a, t.byte a = if a < 0x5000000 ∨ (0x6000000 ≤ a ∧ a < 0xE000000) then memDefault else s.byte a)
    ∧ (s.boot.phase ≠ .verified → exec .firmwareStart s = .next s)
    ∧ Completes .suppliesValid s fun t =>
        t.pwr.vsel = 0 ∧ t.pwr.pwrenC = true ∧ t.pwr.pwrenM = true ∧ t.pwr.vmret = false
        ∧ t.regs = s.regs ∧ t.mem = s.mem)

/-- Tamper (R406, R448): TAMPER_IN low begins a wipe with event 188, the wipe's end leaves BKS at zero and no key,
nonce, role or replay state, and the release of the pin ends the hold.
Where the rules leave a reading open, it is the model's choice (assumption 44). -/
def Obligations.TamperWipesBks : Prop :=
  ∀ s : State,
    Completes .tamperWipe s (fun t =>
      t.pins.tamperIn = false ∧ t.get F.MEM_SECSTAT_WIPING = 1
      ∧ (s.get F.MEM_SECSTAT_WIPING = 0 → t.bitAt (R.EVT_PEND 5) 28 = true) ∧ t.mem = s.mem ∧ t.sec = s.sec)
    ∧ (s.get F.MEM_SECSTAT_WIPING = 1 → Completes .tamperWipeDone s fun t =>
      (∀ a, inBks a = true → t.byte a = memDefault) ∧ (∀ a, inBks a = false → t.byte a = s.byte a)
      ∧ t.sec.keys = none ∧ t.sec.nonces = [] ∧ t.sec.alarmRole = [] ∧ t.sec.expertRole = [] ∧ t.sec.replay = []
      ∧ t.sec.shut = true ∧ t.get F.MEM_SECSTAT_WIPING = 0 ∧ t.get F.MEM_SECSTAT_WIPED = 1
      ∧ t.get F.SEC_STAT_TAMPER = 1 ∧ t.get F.SEC_STAT_KEYS = 0
      ∧ ∀ sd : Sender, t.expert sd = false)
    ∧ Completes .tamperInRelease s fun t =>
        t.pins.tamperIn = true ∧ t.get F.MEM_SECSTAT_HELD = 0 ∧ t.mem = s.mem ∧ t.sec = s.sec
          ∧ ∀ a, a ≠ R.MEM_SECSTAT → t.reg a = s.reg a

/-- Identity (R439, R455): HELLO answers the versions, the epochs, the life-cycle state, the TANDEM state and the free
tags, and the first one raises the rollback floor; GET_INFO answers the identity page, the capacities, the costs, and
the declared costs of an OEM module, REFUSED where none is loaded; SET_NODE keeps the node.
Where the rules leave a reading open, it is the model's choice (assumptions 45 and 46).
The message store (R226, R410, R466): CREATE makes an empty message of the created length, APPEND adds bytes from
BK6 or asks for bulk segments, DELETE removes a message that is not played, QUERY answers what it holds. What the store
cannot take is answered with its code and changes nothing; without LPDDR5 every operation is answered NO_SPACE. -/
def Obligations.IdentityAndMessageStore : Prop :=
  (∀ (s : State) (c : Cmd),
    (s.takes c 0x0100 0 false = true → Completes (.hello c) s fun t =>
      t.boot.hello = true
      ∧ t.sec.otp.floor = (if s.boot.hello then s.sec.otp.floor else max s.sec.otp.floor (min 64 s.boot.floor))
      ∧ t.answered c 0x0100 rcDone 0
        [word (Config.silwenLevel % 256 + s.boot.fwEpoch * 2 ^ 8
            + (match c.sender with | .master m => s.epoch m.toNat | .node _ => 0) * 2 ^ 16
            + s.sec.otp.lc * 2 ^ 24 + s.tndState * 2 ^ 26),
          word (s.get F.SYS_BOOT_VERSION + (256 - ((s.outbox (Sender.key c.sender)).tags.filter fun x => x.1 != c.tag.toNat).length) * 65536)])
    ∧ (s.takes c 0x0101 1 false = true →
      (bits (cw c 1) 7 0 = 0 → Completes (.getInfo c) s fun t =>
        t.answered c 0x0101 rcDone 0 ([s.reg R.SYS_ID] ++ s.sec.otp.devId ++
          [s.reg R.SYS_BOOT, loWord s.ownMac.toNat, hiWord s.ownMac.toNat, word s.boot.nodeId]))
      ∧ (bits (cw c 1) 7 0 = 1 → Completes (.getInfo c) s fun t =>
        t.answered c 0x0101 rcDone 0 ((capacities s.rateClass).map word))
      ∧ (bits (cw c 1) 7 0 = 2 → Completes (.getInfo c) s fun t =>
        t.answered c 0x0101 rcDone 0 (((List.range 5).flatMap s.costRow).map word))
      ∧ (3 ≤ bits (cw c 1) 7 0 → Completes (.getInfo c) s fun t =>
        match kget s.mods.oem (bits (cw c 1) 7 0 - 3) with
        | some m => t.answered c 0x0101 rcDone 0
            (((List.range 5).flatMap fun nc => [m.c.getD nc 0, m.r.getD nc 0]).map word)
        | none => t.answered c 0x0101 rcRefused 0 []))
    ∧ (s.takes c 0x0103 1 false = true → Completes (.setNode c) s fun t =>
      t.boot.nodeId = bits (cw c 1) 8 0 ∧ t.repliedDone c 0x0103))
  ∧ (∀ (s : State) (c : Cmd),
    (s.takes c 0x0C01 3 false = true → s.ddrBytes ≠ 0 → kget s.mods.msgs (msgNo c) = none →
      s.family (bits (cw c 2) 2 0) = true → 3 * (cw c 3).toNat ≤ s.freeStore → Completes (.msgStoreCreate c) s fun t =>
        kget t.mods.msgs (msgNo c) = some ⟨bits (cw c 2) 2 0, (cw c 3).toNat, []⟩ ∧ t.repliedDone c 0x0C01)
    ∧ (s.takes c 0x0C01 3 false = true → appendCode c s = rcDone →
      (bit (cw c 2) 31 = false → bits (cw c 2) 23 0 + (cw c 3).toNat ≤ 0x1000000 → Completes (.msgStoreAppend c) s fun t =>
        (kget t.mods.msgs (msgNo c) = (kget s.mods.msgs (msgNo c)).map fun x =>
          { x with data := x.data ++ s.bytes (bk6 (bits (cw c 2) 23 0)) (cw c 3).toNat })
        ∧ t.repliedDone c 0x0C01)
      ∧ (bit (cw c 2) 31 = true → cw c 3 ≠ 0 → Completes (.msgStoreAppend c) s fun t =>
        t.mods = s.mods ∧ ∃ r : BulkRun, kget (t.outbox (Sender.key c.sender)).bulk c.tag.toNat = some r
          ∧ r.need = (cw c 3).toNat ∧ r.data = [] ∧ r.cmd = c)
      ∧ (bit (cw c 2) 31 = false → 0x1000000 < bits (cw c 2) 23 0 + (cw c 3).toNat → Completes (.msgStoreAppend c) s fun t =>
        t.mods = s.mods ∧ t.answered c 0x0C01 rcRefused 0 []))
    ∧ (s.takes c 0x0C01 3 false = true → appendCode c s ≠ rcDone → Completes (.msgStoreAppend c) s fun t =>
        t.mods = s.mods ∧ t.answered c 0x0C01 (appendCode c s) 0 [])
    ∧ (s.takes c 0x0C01 3 false = true → s.ddrBytes ≠ 0 →
      (kget s.mods.msgs (msgNo c)).isSome = true ∨ s.family (bits (cw c 2) 2 0) = false ∨ s.freeStore < 3 * (cw c 3).toNat →
      Completes (.msgStoreCreate c) s fun t => t.mods = s.mods ∧ t.answered c 0x0C01 rcRefused 0 [])
    ∧ (s.ddrBytes = 0 → ∀ i : Instr,
      (i = .msgStoreCreate c ∧ s.takes c 0x0C01 3 false = true) ∨ (i = .msgStoreAppend c ∧ s.takes c 0x0C01 3 false = true)
        ∨ (i = .msgStoreDelete c ∧ s.takes c 0x0C01 1 false = true) ∨ (i = .msgStoreQuery c ∧ s.takes c 0x0C01 1 false = true) →
      Completes i s fun t => t.mods = s.mods ∧ t.answered c 0x0C01 rcNoSpace 0 [])
    ∧ (s.takes c 0x0C01 1 false = true → s.ddrBytes ≠ 0 →
      (kget s.mods.msgs (msgNo c) = none ∨ s.msgInUse (msgNo c) = true → Completes (.msgStoreDelete c) s fun t =>
        t.mods = s.mods ∧ t.answered c 0x0C01 rcRefused 0 [])
      ∧ (kget s.mods.msgs (msgNo c) = none → Completes (.msgStoreQuery c) s fun t =>
        t.mods = s.mods ∧ t.answered c 0x0C01 rcRefused 0 []))
    ∧ (s.takes c 0x0C01 1 false = true → s.ddrBytes ≠ 0 →
      (∀ x : Message, kget s.mods.msgs (msgNo c) = some x →
        (s.msgInUse (msgNo c) = false → Completes (.msgStoreDelete c) s fun t =>
          kget t.mods.msgs (msgNo c) = none ∧ t.repliedDone c 0x0C01)
        ∧ Completes (.msgStoreQuery c) s fun t => t.mods = s.mods ∧ t.answered c 0x0C01 rcDone 0
            [word (x.data.length / 3), word x.len, word x.rate, word (s.freeStore / 1024)])))

/-- The life cycle (R440, R442, R443): an advance moves one step forward, writes what its step carries, wipes BKS and
leaves its reset due; a digest and a MAC address are written once, in FACTORY; a key slot other than the running
image's is revoked for good. What is not permitted is REFUSED and changes nothing of the fuses.
Where the rules leave a reading open, it is the model's choice (assumptions 44 and 47).
Credentials (R120, R444, R446, R448): a nonce is kept as it is told; a response uses the nonce up, and only a right
one grants its role (PRESENT the ALARM role, EXPERT_ENABLE in FIELD expert access), while the eighth wrong one locks
out; without keys or after a wipe they are LOCKED, in a lockout REFUSED; DROP gives a role up; a nonce and a lockout
run out. In BLANK and FACTORY the EXPERT_ENABLE bit alone decides, and the bit takes access away in FIELD.
Where the rules leave a reading open, it is the model's choice (assumptions 32 and 72). -/
def Obligations.LifeCycleAndCredentials : Prop :=
  (∀ (s : State) (c : Cmd),
    (s.takes c 0x0E00 1 false = true →
      (bits (cw c 1) 9 8 = s.sec.otp.lc + 1 → s.on F.TND_CTL_EN = false →
        s.hamp.plans = [] → s.hamp.waiting = [] → (s.sec.otp.lc = 0 → 21 ≤ c.words.length) →
        (s.sec.otp.lc = 2 → s.sec.expertRole.contains (Sender.key c.sender) = true) →
        Completes (.lifecycleAdvance c) s fun t =>
          t.sec.otp.lc = s.sec.otp.lc + 1 ∧ t.get F.SEC_LC_STATE = s.sec.otp.lc + 1 ∧ t.boot.pendingLc = true
          ∧ (s.sec.otp.lc = 0 → kget t.sec.otp.digests 0 = some ((List.range 12).map fun j => cw c (2 + j))
              ∧ t.sec.otp.oemSecret = (List.range 8).map fun j => cw c (14 + j))
          ∧ (s.sec.otp.lc = 2 → t.sec.otp.oemSecret = List.replicate 8 0xFFFFFFFF#32
              ∧ t.sec.otp.devSecret = List.replicate 8 0xFFFFFFFF#32)
          ∧ t.sec.keys = none ∧ t.sec.expertRole = [] ∧ t.sec.alarmRole = []
          ∧ (∀ a, inBks a = true → t.byte a = memDefault) ∧ t.repliedDone c 0x0E00)
      ∧ (bits (cw c 1) 9 8 ≠ s.sec.otp.lc + 1 ∨ s.on F.TND_CTL_EN = true ∨ s.hamp.plans ≠ [] ∨ s.hamp.waiting ≠ []
          ∨ (s.sec.otp.lc = 0 ∧ c.words.length < 21)
          ∨ (s.sec.otp.lc = 2 ∧ s.sec.expertRole.contains (Sender.key c.sender) = false) →
        Completes (.lifecycleAdvance c) s fun t => t.sec = s.sec ∧ t.boot = s.boot ∧ t.answered c 0x0E00 rcRefused 0 []))
    ∧ (s.takes c 0x0E00 13 true = true → Completes (.lifecycleSlotDigest c) s fun t =>
        if s.sec.otp.lc = 1 ∧ bits (cw c 1) 9 8 ≠ 0 ∧ kget s.sec.otp.digests (bits (cw c 1) 9 8) = none then
          kget t.sec.otp.digests (bits (cw c 1) 9 8) = some ((List.range 12).map fun j => cw c (2 + j))
            ∧ t.sec.otp.lc = 1 ∧ t.repliedDone c 0x0E00
        else t.sec = s.sec ∧ t.answered c 0x0E00 rcRefused 0 [])
    ∧ (s.takes c 0x0E00 1 true = true → Completes (.lifecycleRevokeSlot c) s fun t =>
        if (s.sec.otp.lc = 1 ∨ s.sec.otp.lc = 2) ∧ bits (cw c 1) 9 8 ≠ s.get F.SYS_BOOT_KSLOT then
          t.sec.otp.revoked = s.sec.otp.revoked ||| BitVec.ofNat 4 (2 ^ bits (cw c 1) 9 8)
            ∧ t.get F.SEC_LC_REVOKED = t.sec.otp.revoked.toNat ∧ t.repliedDone c 0x0E00
        else t.sec = s.sec ∧ t.answered c 0x0E00 rcRefused 0 [])
    ∧ (s.takes c 0x0E00 3 true = true → Completes (.lifecycleSetMac c) s fun t =>
        if s.sec.otp.lc = 1 ∧ s.sec.otp.mac = 0 then
          t.sec.otp.mac = BitVec.ofNat 48 (wide (cw c 2) (cw c 3)) ∧ t.repliedDone c 0x0E00
        else t.sec = s.sec ∧ t.answered c 0x0E00 rcRefused 0 []))
  ∧ (∀ (s : State) (c : Cmd),
    (s.takes c 0x0E01 1 false = true → s.sec.shut = false → s.sec.keys.isSome = true →
      s.sec.lockouts.contains (Sender.key c.sender) = false → Completes (.credentialNonce c) s fun t =>
        ∃ ws : List Word, ws.length = 4 ∧ kget t.sec.nonces (Sender.key c.sender) = some ws
          ∧ t.answered c 0x0E01 rcDone 0 ws ∧ t.free = s.free + 4)
    ∧ (s.takes c 0x0E01 9 false = true → s.sec.shut = false → s.sec.keys.isSome = true →
      s.sec.lockouts.contains (Sender.key c.sender) = false → bit (cw c 1) 8 = true →
      Completes (.credentialPresent c) s fun t =>
        kget t.sec.nonces (Sender.key c.sender) = none
        ∧ if (kget s.sec.nonces (Sender.key c.sender)).any fun n =>
              s.response c.sender 1 n == some ((List.range 8).map fun j => cw c (2 + j)) then
            t.alarmCred c.sender = true ∧ kget t.sec.wrong (Sender.key c.sender) = none ∧ t.repliedDone c 0x0E01
          else
            t.sec.alarmRole = s.sec.alarmRole ∧ t.answered c 0x0E01 rcRefused 0 []
            ∧ (7 ≤ kgetD s.sec.wrong (Sender.key c.sender) 0 → t.sec.lockouts.contains (Sender.key c.sender) = true)
            ∧ (kgetD s.sec.wrong (Sender.key c.sender) 0 < 7 →
                kgetD t.sec.wrong (Sender.key c.sender) 0 = kgetD s.sec.wrong (Sender.key c.sender) 0 + 1))
    ∧ (s.takes c 0x0E02 1 false = true → s.sec.shut = false → s.sec.keys.isSome = true → s.sec.otp.lc = 2 →
      s.sec.lockouts.contains (Sender.key c.sender) = false → bit (cw c 1) 0 = false → 9 ≤ c.words.length →
      Completes (.expertEnable c) s fun t =>
        kget t.sec.nonces (Sender.key c.sender) = none
        ∧ if (kget s.sec.nonces (Sender.key c.sender)).any fun n =>
              s.response c.sender 0 n == some ((List.range 8).map fun j => cw c (2 + j)) then
            t.expert c.sender = true ∧ kget t.sec.wrong (Sender.key c.sender) = none ∧ t.repliedDone c 0x0E02
          else
            t.sec.expertRole = s.sec.expertRole ∧ t.answered c 0x0E02 rcRefused 0 []
            ∧ (7 ≤ kgetD s.sec.wrong (Sender.key c.sender) 0 → t.sec.lockouts.contains (Sender.key c.sender) = true)
            ∧ (kgetD s.sec.wrong (Sender.key c.sender) 0 < 7 →
                kgetD t.sec.wrong (Sender.key c.sender) 0 = kgetD s.sec.wrong (Sender.key c.sender) 0 + 1))
    ∧ (s.sec.shut = true ∨ s.sec.keys = none →
      (s.takes c 0x0E01 1 false = true → Completes (.credentialNonce c) s fun t =>
        t.sec = s.sec ∧ t.answered c 0x0E01 rcLocked 0 [])
      ∧ (s.takes c 0x0E01 9 false = true → Completes (.credentialPresent c) s fun t =>
        t.sec = s.sec ∧ t.answered c 0x0E01 rcLocked 0 [])
      ∧ (s.takes c 0x0E02 1 false = true → s.sec.shut = true ∨ (s.sec.otp.lc = 2 ∧ bit (cw c 1) 0 = false) →
        Completes (.expertEnable c) s fun t => t.sec = s.sec ∧ t.answered c 0x0E02 rcLocked 0 []))
    ∧ (s.sec.shut = false → s.sec.keys.isSome = true → s.sec.lockouts.contains (Sender.key c.sender) = true →
      (s.takes c 0x0E01 1 false = true → Completes (.credentialNonce c) s fun t =>
        t.sec = s.sec ∧ t.answered c 0x0E01 rcRefused 0 [])
      ∧ (s.takes c 0x0E01 9 false = true → Completes (.credentialPresent c) s fun t =>
        t.sec = s.sec ∧ t.answered c 0x0E01 rcRefused 0 [])
      ∧ (s.takes c 0x0E02 1 false = true → s.sec.otp.lc = 2 → bit (cw c 1) 0 = false → 9 ≤ c.words.length →
        Completes (.expertEnable c) s fun t => t.sec = s.sec ∧ t.answered c 0x0E02 rcRefused 0 []))
    ∧ (s.takes c 0x0E01 1 false = true → s.sec.shut = false → Completes (.credentialDrop c) s fun t =>
        (bit (cw c 1) 8 = true → t.alarmCred c.sender = false ∧ t.sec.expertRole = s.sec.expertRole)
        ∧ (bit (cw c 1) 8 = false → t.sec.expertRole.contains (Sender.key c.sender) = false ∧ t.sec.alarmRole = s.sec.alarmRole)
        ∧ t.repliedDone c 0x0E01)
    ∧ (s.takes c 0x0E02 1 false = true → s.sec.shut = false → s.sec.otp.lc < 2 → Completes (.expertEnable c) s fun t =>
        t.expert c.sender = !bit (cw c 1) 0 ∧ t.repliedDone c 0x0E02)
    ∧ (s.takes c 0x0E02 1 false = true → s.sec.shut = false → s.sec.otp.lc = 2 → bit (cw c 1) 0 = true →
        Completes (.expertEnable c) s fun t => t.expert c.sender = false ∧ t.repliedDone c 0x0E02)
    ∧ (∀ sd : Sender, Completes (.nonceExpiry sd) s fun t =>
        kget t.sec.nonces (Sender.key sd) = none ∧ t.regs = s.regs ∧ t.sec.otp = s.sec.otp)
    ∧ (∀ sd : Sender, Completes (.credentialLockoutEnd sd) s fun t =>
        t.sec.lockouts.contains (Sender.key sd) = false ∧ t.regs = s.regs ∧ t.sec.otp = s.sec.otp))

/-- The rate adjustment (R35): a write is limited to ±500 ppm, at the limit with RATECLAMP; it takes effect at the next
tick, each of which adds 1.25 ns × (1 + ρ), a RATE unit being 2⁻³⁸ (R34). -/
def Obligations.RateTakesEffectAtNextTick : Prop :=
  ∀ (s : State) (v : Word),
    Completes (.timeRateWrite v) s (fun t =>
      (t.reg R.TIME_RATEADJ).toInt = max (-137438953) (min 137438953 v.toInt)
      ∧ (v.toInt < -137438953 ∨ 137438953 < v.toInt → t.get F.TIME_STAT_RATECLAMP = 1)
      ∧ (-137438953 ≤ v.toInt → v.toInt ≤ 137438953 → t.get F.TIME_STAT_RATECLAMP = s.get F.TIME_STAT_RATECLAMP)
      ∧ t.time = s.time ∧ ∀ a, a ≠ R.TIME_RATEADJ → a ≠ R.TIME_STAT → t.reg a = s.reg a)
    ∧ ∀ n : Nat, s.asleep = false →
      (s.time.units + ((n : Int) * (1374389534720 + 5 * (s.reg R.TIME_RATEADJ).toInt)).toNat) / 2 ^ 40 / 1000000000 < 2 ^ 48 →
      Completes (.timeCounterTick n) s fun t =>
        t.time.units = s.time.units + ((n : Int) * (1374389534720 + 5 * (s.reg R.TIME_RATEADJ).toInt)).toNat
        ∧ t.regs = s.regs

/-- The snapshot (R36): every snapshot register shows the same time and its MTI; the time goes on as it was.
What a write holds for a later Stile (R38, R40, R51): a mode, a step with its sign, a round length. The mode, the
time and the round length in force stay.
The commands on time (R456): GET_TIME answers a snapshot of this tick, SET_CLOCK_MODE holds a mode, CAPTURE_CFG
configures the queue, and reads up to fifteen entries of the firmware's.
Edges and reads of the queue (R55, R59): an edge is captured where TIME_CAPCFG captures its direction; a read takes
the oldest entry, which the firmware keeps up to 256, and on an empty queue returns SRC 63 and leaves the rest; event
168 follows the count. -/
def Obligations.TimeIsReadAndWritten : Prop :=
  (∀ s : State, Completes .timeSnap s fun t =>
    (t.reg R.TIME_SSECH).toNat * 2 ^ 32 + (t.reg R.TIME_SSECL).toNat = s.time.sec.toNat
    ∧ (t.reg R.TIME_SNS).toNat = s.time.ns.toNat ∧ t.reg R.TIME_SFRAC = s.time.frac
    ∧ t.reg R.TIME_SMTIL = loWord s.mti ∧ t.reg R.TIME_SMTIH = hiWord s.mti ∧ t.time = s.time
    ∧ ∀ a, a ∉ [R.TIME_SSECH, R.TIME_SSECL, R.TIME_SNS, R.TIME_SFRAC, R.TIME_SMTIH, R.TIME_SMTIL] → t.reg a = s.reg a)
  ∧ (∀ (s : State) (v : Word),
    Completes (.timeModeWrite v) s (fun t =>
      t.time.modeReq = some (BitVec.ofNat 2 (bits v 1 0)) ∧ t.get F.TIME_CTL_MPEND = 1
      ∧ t.get F.TIME_CTL_MODE = s.get F.TIME_CTL_MODE ∧ t.mti = s.mti
      ∧ t.get F.TIME_CTL_STHR = (if 999 < bits v 17 8 ∧ bits v 17 8 < 1023 then 999 else bits v 17 8)
      ∧ ∀ a, a ≠ R.TIME_CTL → t.reg a = s.reg a)
    ∧ Completes (.timeStepRequest v) s (fun t =>
      t.get F.TIME_STEPCTL_NEG = bits v 1 1 ∧ t.mti = s.mti
      ∧ (bit v 0 = true → t.get F.TIME_STEPCTL_GO = 1
          ∧ t.time.stepReq = some (s.reg R.TIME_STEPSEC, BitVec.ofNat 30 (s.get F.TIME_STEPNS_NS), bit v 1))
      ∧ (bit v 0 = false → t.time = s.time)
      ∧ ∀ a, a ≠ R.TIME_STEPCTL → t.reg a = s.reg a)
    ∧ Completes (.timeRoundWrite v) s (fun t =>
      t.get F.TIME_ROUND_NHELD = (if bits v 10 8 ≤ 4 then bits v 10 8 else 3)
      ∧ t.get F.TIME_ROUND_NCODE = s.get F.TIME_ROUND_NCODE ∧ t.roundLen = s.roundLen
      ∧ ∀ a, a ≠ R.TIME_ROUND → t.reg a = s.reg a))
  ∧ (∀ (s : State) (c : Cmd),
    (s.takes c 0x0300 0 false = true → Completes (.getTime c) s fun t =>
      t.time = s.time ∧ t.answered c 0x0300 rcDone 0
        [word (s.time.sec.toNat / 2 ^ 32), word s.time.sec.toNat, word s.time.ns.toNat, s.time.frac, hiWord s.mti, loWord s.mti,
          s.reg R.TIME_ROUND, s.reg R.TIME_CTL, s.reg R.REFS_STAT, s.reg R.REFS_ABSL, s.reg R.REFS_ABSH])
    ∧ (s.takes c 0x0301 2 false = true → Completes (.setClockMode c) s fun t =>
      t.time.modeReq = some (BitVec.ofNat 2 (bits (cw c 1) 1 0)) ∧ t.get F.TIME_CTL_MPEND = 1
      ∧ t.get F.TIME_CTL_MODE = s.get F.TIME_CTL_MODE
      ∧ (cw c 2 ≠ 0 → t.get F.TIME_CTL_STHR = sthrOf (cw c 2).toNat) ∧ t.repliedDone c 0x0301)
    ∧ (s.takes c 0x0306 3 false = true → Completes (.captureCfgConfigure c) s fun t =>
      t.reg R.TIME_CAPCFG = cw c 2 ∧ t.get F.TIME_CAPPTP_THRESH = clampNat 1 64 (bits (cw c 3) 14 8)
      ∧ t.get F.TIME_CAPPTP_PTPEN = bits (cw c 3) 3 0
      ∧ t.time.capQ = (if bit (cw c 3) 4 then [] else s.time.capQ) ∧ t.repliedDone c 0x0306)
    ∧ (s.takes c 0x0306 2 false = true → Completes (.captureCfgRead c) s fun t =>
      t.time.fwQ = s.time.fwQ.drop (clampNat 1 15 (bits (cw c 2) 3 0))
      ∧ t.answered c 0x0306 rcDone 0
          (word (s.time.fwQ.take (clampNat 1 15 (bits (cw c 2) 3 0))).length
            :: (s.time.fwQ.take (clampNat 1 15 (bits (cw c 2) 3 0))).flatMap fun e => [e.w0, e.w1, e.w2, e.w3])))
  ∧ (∀ s : State,
    (∀ (p : Fin 16) (rising : Bool) (sub : Fin 3), exec (.gpEdgeCapture p rising sub) s = .next
      (if s.get ⟨R.TIME_CAPCFG, 2 * p.val + 1, 2 * p.val⟩ = 3
          ∨ (s.get ⟨R.TIME_CAPCFG, 2 * p.val + 1, 2 * p.val⟩ = 1 ∧ rising = true)
          ∨ (s.get ⟨R.TIME_CAPCFG, 2 * p.val + 1, 2 * p.val⟩ = 2 ∧ rising = false)
        then capture p rising sub s else s))
    ∧ (∀ (e : CapEntry) (q : List CapEntry), s.time.capQ = e :: q → Completes .timeCapw0Read s fun t =>
      t.time.capQ = q
      ∧ t.time.fwQ = (if s.boot.phase = .running ∧ s.time.fwQ.length < 256 then s.time.fwQ ++ [e] else s.time.fwQ)
      ∧ t.reg R.TIME_CAPW0 = e.w0 ∧ t.reg R.TIME_CAPW1 = e.w1 ∧ t.reg R.TIME_CAPW2 = e.w2
      ∧ t.reg R.TIME_CAPW3 = e.w3 ∧ t.get F.TIME_CAPCNT_COUNT = q.length % 128
      ∧ t.bitAt (R.EVT_PEND 5) 8 = decide (s.get F.TIME_CAPPTP_THRESH ≤ q.length))
    ∧ (s.time.capQ = [] → Completes .timeCapw0Read s fun t =>
      t.time = s.time ∧ t.reg R.TIME_CAPW0 = 63 ∧ ∀ a, a ≠ R.TIME_CAPW0 → t.reg a = s.reg a))

/-- The capture queue when it fills (R56, R57, R58): a full queue drops and counts, with event 169 at the first drop; the
first entry stored after drops carries GAP and their number up to 255; what is lost when a flush or a reset clears the
queue is in no entry. An entry holds the time of its event to half a nanosecond and the MTI then (R34), and stands
behind what earlier ticks stored, among the entries of its own tick by SRC. -/
def Obligations.CaptureQueueFills : Prop :=
  ∀ (s : State) (src sub : Nat) (edge : Bool), src < 64 →
    (64 ≤ s.time.capQ.length →
      (capture src edge sub s).time.capQ = s.time.capQ
      ∧ (capture src edge sub s).time.capLost = s.time.capLost + 1
      ∧ (capture src edge sub s).reg R.TIME_CAPOVF = word (min 4294967295 ((s.reg R.TIME_CAPOVF).toNat + 1))
      ∧ (s.time.capLost = 0 → (capture src edge sub s).bitAt (R.EVT_PEND 5) 9 = true))
    ∧ (s.time.capQ.length < 64 → ∃ (e : CapEntry) (k : Nat), k ≤ s.time.capQ.length ∧
      (capture src edge sub s).time.capQ = s.time.capQ.take k ++ e :: s.time.capQ.drop k
      ∧ (s.time.capTick ≠ s.time.t32 + 1 → k = s.time.capQ.length)
      ∧ s.time.capQ.length ≤ k + s.time.capSame
      ∧ (∀ x, (s.time.capQ.drop k).head? = some x → src < bits x.w0 5 0)
      ∧ (∀ x, (s.time.capQ.take k).getLast? = some x → s.time.capQ.length < k + s.time.capSame → bits x.w0 5 0 ≤ src
          ∨ s.time.capTick ≠ s.time.t32 + 1)
      ∧ (capture src edge sub s).time.capLost = 0
      ∧ bits e.w0 5 0 = src ∧ bits e.w0 6 6 = flag edge
      ∧ bits e.w0 7 7 = flag (decide (s.time.capLost ≠ 0)) ∧ bits e.w0 15 8 = min 255 s.time.capLost
      ∧ bits e.w0 31 16 * 2 ^ 32 + e.w1.toNat = (s.time.t32 / 2 ^ 31 + sub) / 2000000000 % 2 ^ 48
      ∧ bits e.w2 29 0 * 2 + bits e.w2 30 30 = (s.time.t32 / 2 ^ 31 + sub) % 2000000000
      ∧ bits e.w2 31 31 = flag s.time.capStep
      ∧ e.w3 = word (mtiOf ((s.time.t32 / 2 ^ 31 + sub) * 2 ^ 31) s.fs))
    ∧ Completes .timeCapFlush s (fun t =>
      t.time.capQ = [] ∧ t.time.capLost = 0 ∧ t.reg R.TIME_CAPOVF = s.reg R.TIME_CAPOVF
      ∧ t.get F.TIME_CAPCNT_COUNT = 0)
    ∧ ∀ b : BitVec 2, Completes (.porst b) s fun t => t.time.capQ = [] ∧ t.time.capLost = 0

/-- The round tick (R38, R48, R133): nothing before the next round-start Stile is reached, or while the engine stands;
at it, with no step asked for and no POKE held, a held clock mode takes effect and the extents in force are taken.
Where the rules leave a reading open, it is the model's choice (assumptions 2 and 74). -/
def Obligations.RoundTickAtRoundStart : Prop :=
  ∀ (s : State) (meas : RoundMeas) (last : Nat),
    (s.eng.running = false → exec (.roundTick meas) s = .next s)
    ∧ (s.eng.lastTick = some last → s.roundAt s.mti = last → exec (.roundTick meas) s = .next s)
    ∧ (s.eng.running = true → s.eng.lastTick = some last → s.roundAt s.mti ≠ last → s.time.stepReq = none →
      s.tnd.pokes = [] → Completes (.roundTick meas) s fun t =>
        t.sig.nstrip = s.get F.SUM_EXTS_NSTRIP ∧ t.sig.nbus = s.get F.SUM_EXTS_NBUS ∧ t.sig.nout = s.get F.SUM_EXTM_NOUT
        ∧ t.time.modeReq = none
        ∧ (∀ m : BitVec 2, s.time.modeReq = some m → t.get F.TIME_CTL_MODE = m.toNat ∧ t.get F.TIME_CTL_MPEND = 0)
        ∧ t.tnd.pokes = [] ∧ t.eng.lastTick = some (s.roundAt s.mti))

/-- The ends of what the patch unit runs on the sample count (R27, R28, R79, R89): a selector's fade leaves it wholly on
its multiplexer; a restore hold that has run, the primary still good, begins the revert where REVERT is 1 and is only
over where it is 0; a Trail's generator is free; a multiplexer stands on its new source. Before its end has come each
of them changes nothing.
Where the rules leave a reading open, it is the model's choice (assumption 91).
The ends of what modules run (R90, R220, R228, R229): an interpolation stands on its destination, a playback's
tag completes when its last play, or the fade-out of a stopped one, has ended, a generator's sweep ends or
begins again, a priority mixer's crossfade is over. -/
def Obligations.FadesTrailsAndModules : Prop :=
  (∀ s : State,
    (∀ (j : Fin 1024) (f : Fade) (x : Nat × Nat), (s.sel j).fade = some (f, x) →
      (f.over s.now = false → exec (.selectorFadeEnd j) s = .next s)
      ∧ (f.over s.now = true → (s.sel j).deferMode = none → Completes (.selectorFadeEnd j) s fun t =>
        t.get (F.PATCH_FOSTAT_SEL j) = (if s.get (F.PATCH_FOSTAT_SEL j) = 3 then 1 else 0)
        ∧ (t.sel j).fade = none ∧ ∀ a, a ≠ R.PATCH_FOSTAT j → t.reg a = s.reg a))
    ∧ (∀ (j : Fin 1024) (f : Nat), (s.sel j).holdFrom = some f → s.get (F.PATCH_FOCTL_MODE j) = 0 →
      s.get (F.PATCH_FOSTAT_SEL j) = 1 → s.pLost j = false → s.follows = false →
      (f + s.samplesOf (1000 * s.get (F.PATCH_FOCTL_HOLD j)) ≤ s.sampleAt (s.roundAt s.mti) →
        (s.on (F.PATCH_FOCTL_REVERT j) = true → Completes (.selectorRestoreHoldEnd j) s fun t =>
          t.get (F.PATCH_FOSTAT_SEL j) = 2 ∧ t.get (F.PATCH_FOSTAT_SWITCHED j) = 1 ∧ t.get (F.PATCH_FOSTAT_HOLDING j) = 0
          ∧ (t.sel j).fade = some (⟨s.sampleAt (s.roundAt s.mti), s.selFade j, 1⟩, 0, 1) ∧ (t.sel j).holdFrom = none)
        ∧ (s.on (F.PATCH_FOCTL_REVERT j) = false → Completes (.selectorRestoreHoldEnd j) s fun t =>
          t.get (F.PATCH_FOSTAT_HOLDING j) = 0 ∧ t.path = s.path ∧ ∀ a, a ≠ R.PATCH_FOSTAT j → t.reg a = s.reg a))
      ∧ (s.sampleAt (s.roundAt s.mti) < f + s.samplesOf (1000 * s.get (F.PATCH_FOCTL_HOLD j)) →
        exec (.selectorRestoreHoldEnd j) s = .next s))
    ∧ (∀ (g : BitVec 8) (r : TrailRun), kget s.path.trails g.toNat = some r →
      (r.fade.over s.now = false → exec (.trailEnd g) s = .next s)
      ∧ (r.fade.over s.now = true → Completes (.trailEnd g) s fun t =>
        kget t.path.trails g.toNat = none ∧ (∀ h, h ≠ g.toNat → kget t.path.trails h = kget s.path.trails h) ∧ t.regs = s.regs))
    ∧ (∀ (k : BitVec 13) (o : OldSrc) (f : Fade), (s.mux k.toNat).old = some (o, f) →
      (f.over s.now = false → exec (.muxCrossfadeEnd k) s = .next s)
      ∧ (f.over s.now = true → Completes (.muxCrossfadeEnd k) s fun t =>
        t.mux k.toNat = ⟨(s.mux k.toNat).src, none, some (o, f)⟩ ∧ (∀ j, j ≠ k.toNat → t.mux j = s.mux j) ∧ t.regs = s.regs)))
  ∧ (∀ s : State,
    (∀ (n : BitVec 12) (f : BitVec 16) (x : Move), kget s.path.moves (paramKey n.toNat f.toNat) = some x →
      x.fade.over s.now = true → kget s.path.par n.toNat = none → Completes (.paramInterpEnd n f) s fun t =>
        kget t.path.moves (paramKey n.toNat f.toNat) = none ∧ t.param n.toNat f.toNat = s.param n.toNat f.toNat
        ∧ t.regs = s.regs)
    ∧ (∀ (p : Fin 64) (b : Playback) (f : Nat), kget s.mods.players p = some b → b.fadeFrom = some f →
      f + s.minRamp ≤ s.now → Completes (.playbackEnd p) s fun t => kget t.mods.players p = none
        ∧ ∀ k : Tok, b.tok = some k → k.gen = (s.outbox (Sender.key k.sender)).gen →
            kget (s.outbox (Sender.key k.sender)).tags k.tag.toNat = some k.code →
            kget (t.outbox (Sender.key k.sender)).tags k.tag.toNat = none)
    ∧ (∀ (p : Fin 64) (b : Playback) (x : Message), kget s.mods.players p = some b → b.fadeFrom = none →
      kget s.mods.msgs b.msg = some x → b.loops = 1 → s.rateCode = 1 → b.start + x.len ≤ s.now →
      Completes (.playbackEnd p) s fun t =>
        kget t.mods.players p = none ∧ t.param (1792 + p) 4 = 0
        ∧ ∀ k : Tok, b.tok = some k → k.gen = (s.outbox (Sender.key k.sender)).gen →
            kget (s.outbox (Sender.key k.sender)).tags k.tag.toNat = some k.code →
            kget (t.outbox (Sender.key k.sender)).tags k.tag.toNat = none)
    ∧ (∀ (g : Fin 32) (r : GenRun) (n : Nat) (a b w : Word), kget s.mods.gens g = some r → r.sweep = some (n, a, b, w) →
      n + (w.toNat * s.fs + 999999) / 1000000 ≤ s.now → Completes (.generatorSweepEnd g) s fun t =>
        kget t.mods.gens g = some (if s.param (1856 + g) 5 = 1 then
            { r with sweep := some (n + (w.toNat * s.fs + 999999) / 1000000, s.paramActive (1856 + g) 1,
              s.paramActive (1856 + g) 3, s.param (1856 + g) 4) }
          else { r with sweep := none, ended := true }))
    ∧ (∀ (o : BitVec 8) (x : MixFade), kget s.mods.mixers o.toNat = some x → x.fade.over s.now = true →
      Completes (.priorityMixerCrossfadeEnd o) s fun t => kget t.mods.mixers o.toNat = none ∧ t.path = s.path))

/-- The end of a stage transition (R82): the sets of the stage change roles and the refill is due; at its end the
shadow set holds the active set's words.
The patch table (R83, R85): GO at expert level starts a ramp on a free entry at the round being gathered, from the
gain the crosspoint has; without GO the duration is kept between its bounds. A ramp that has run frees its entry
and leaves its target in the active set; before its end nothing changes.
Where the rules leave a reading open, it is the model's choice (assumptions 68 and 76). -/
def Obligations.StagesAndPatches : Prop :=
  (∀ (s : State) (isM : Bool),
    (∀ tr : Trans, s.trans isM = some tr → tr.fade.over s.now = true → Completes (.stageTransitionEnd isM) s fun t =>
      t.trans isM = none ∧ t.activeB isM = !tr.oldB ∧ t.activeB (!isM) = s.activeB (!isM)
      ∧ (if isM then t.path.matrixRefill else t.path.sendRefill).isSome = true ∧ t.mem = s.mem)
    ∧ (∀ tr : Trans, s.trans isM = some tr → tr.fade.over s.now = false → exec (.stageTransitionEnd isM) s = .next s)
    ∧ (∀ e : Nat, (if isM then s.path.matrixRefill else s.path.sendRefill) = some e → e ≤ s.mti → s.memOk →
      s.bankState (setBase isM (!s.activeB isM)) ≠ 2 → Completes (.stageRefillEnd isM) s fun t =>
        (if isM then t.path.matrixRefill else t.path.sendRefill) = none
        ∧ (∀ j, j < setSize isM →
            t.byte (setBase isM (!s.activeB isM) + j) = s.byte (setBase isM (s.activeB isM) + j))
        ∧ (∀ a, a < setBase isM (!s.activeB isM) ∨ setBase isM (!s.activeB isM) + setSize isM ≤ a → t.byte a = s.byte a)
        ∧ t.regs = s.regs))
  ∧ (∀ (s : State) (m : Master) (e : BitVec 12),
    (∀ v : Word, bit v 31 = true → kget s.path.patches e.toNat = none →
      s.patchOf (s.on (F.PATCH_PTADR_STAGE e.toNat)) (s.get (F.PATCH_PTADR_XP e.toNat)) = none →
      Completes (.patchRampGo m e v) s fun t => ∃ r : PatchRun, kget t.path.patches e.toNat = some r
        ∧ r.isMatrix = s.on (F.PATCH_PTADR_STAGE e.toNat) ∧ r.xp = s.get (F.PATCH_PTADR_XP e.toNat)
        ∧ r.target = coefLimit (BitVec.ofNat 24 (s.get (F.PATCH_PTGAIN_TARGET e.toNat))).toInt
        ∧ r.frm = s.gainAt r.isMatrix r.xp (s.sampleAt (s.roundAt s.mti) - 1)
        ∧ r.fade.shape = (if bits v 25 24 = 2 then 2 else 0) ∧ r.tok = none
        ∧ r.fade.start = s.sampleAt (s.roundAt s.mti) ∧ r.fade.dur = clampNat s.minRamp s.maxRamp (bits v 23 0)
        ∧ t.get (F.PATCH_PTSTAT_RUN e.toNat) = 1 ∧ t.mem = s.mem)
    ∧ (∀ v : Word, bit v 31 = false → Completes (.patchRampGo m e v) s fun t =>
        t.get (F.PATCH_PTRMP_DUR e.toNat) = clampNat s.minRamp s.maxRamp (bits v 23 0) % 2 ^ 24
        ∧ t.path = s.path ∧ ∀ a, a ≠ R.PATCH_PTRMP e.toNat → t.reg a = s.reg a)
    ∧ (∀ r : PatchRun, kget s.path.patches e.toNat = some r →
      (r.fade.over s.now = false → exec (.patchRampEnd e) s = .next s)
      ∧ (r.fade.over s.now = true → s.bankState 0 ≠ 2 → 4 * r.xp < setSize r.isMatrix →
        Completes (.patchRampEnd e) s fun t =>
          kget t.path.patches e.toNat = none ∧ t.get (F.PATCH_PTSTAT_RUN e.toNat) = 0
          ∧ (t.coefWord r.isMatrix (s.activeB r.isMatrix) r.xp).extractLsb' 0 24 = BitVec.ofInt 24 r.target
          ∧ (t.coefWord r.isMatrix (s.activeB r.isMatrix) r.xp).extractLsb' 24 8
              = (s.coefWord r.isMatrix (s.activeB r.isMatrix) r.xp).extractLsb' 24 8)))

/-- Starting (R171, R180, R190, R191, R192, R197): the first free core, in ascending number, for which an item is ready
starts that item at its entry, with the entry parameters in P0 to P3, STOFF, the round and the loops cleared, an
interrupt that waits being entered before the first bundle; with no such core the summing engine starts the lowest
block of a stage. Nothing starts outside a round or after the deadline.
Completion (R184, R188): a running item, a join and the running block of a stage are done with it, the item's core
is free, and a successor that waited for this one alone is ready. An item whose bundles are given one by one completes
with its own DONE and not by the command.
Where the rules leave a reading open, it is the model's choice (assumption 64). -/
def Obligations.ItemsOfARound : Prop :=
  (∀ s : State,
    (∀ (k h : Nat) (it : Item), s.disp.inRound = true → s.disp.deadline = false →
      ((List.range 48).findSome? fun k => if s.coreFree k then (s.readyFor k).map fun x => (k, x) else none)
        = some (k, h, it) → Completes .itemStart s fun t =>
        (t.core k).running = true ∧ (t.core k).ended = false ∧ (t.core k).item = h
        ∧ ((s.core k).irq = none → (t.core k).pc = word (bits (it.desc.getD 0 0) 16 0 / 8 * 8))
        ∧ (∀ x, (s.core k).irq = some x → (t.core k).pc = (t.core k).S 0x44 + x.2.1
            ∧ (t.core k).S 0x41 = word (bits (it.desc.getD 0 0) 16 0 / 8 * 8) ∧ (t.core k).S 0x43 = x.2.2
            ∧ (t.core k).handler = some x.1)
        ∧ (∀ j : Fin 4, kgetD (t.core k).p j 0 = it.desc.getD (5 + j) 0)
        ∧ (∀ j : Fin 16, kgetD (t.core k).sys (0x10 + j) 0 = 0) ∧ kgetD (t.core k).sys 0x3C 0 = 0
        ∧ kgetD (t.core k).sys 0x49 0 = word s.roundLen ∧ kgetD (t.core k).sys 0x4A 0 = word s.disp.rmti
        ∧ kgetD (t.core k).sys 0x48 0
            = word (if it.desc.getD 10 0 = word s.disp.rmti then bits (it.desc.getD 9 0) 4 0 else 31)
        ∧ t.bitAt (R.CLU_STAT (k / 8)) (k % 8) = true
        ∧ kget t.disp.items h = some { it with st := .running, core := k }
        ∧ ∀ j, j ≠ k → t.core j = s.core j)
    ∧ (∀ (h : Nat) (it : Item), s.disp.inRound = true → s.disp.deadline = false →
      ((List.range 48).findSome? fun k => if s.coreFree k then (s.readyFor k).map fun x => (k, x) else none) = none →
      s.readyBlock = some (h, it) → Completes .itemStart s fun t =>
        kget t.disp.items h = (kget s.disp.items h).map (fun x => { x with st := .running })
        ∧ t.cores = s.cores ∧ t.regs = s.regs)
    ∧ (s.disp.inRound = false ∨ s.disp.deadline = true → exec .itemStart s = .next s))
  ∧ (∀ (s : State) (i : Instr) (n : Nat) (it : Item), kget s.disp.items n = some it →
    ((∃ h : BitVec 10, i = .itemComplete h ∧ n = h.toNat ∧ it.st = .running ∧ dKind it.desc = 0
        ∧ (it.core < 48 → (s.core it.core).begun = false))
      ∨ (∃ h : BitVec 10, i = .joinComplete h ∧ n = h.toNat ∧ it.st = .ready ∧ dKind it.desc = 3)
      ∨ (∃ isM : Bool, i = .sumBlockComplete isM
          ∧ (s.disp.items.find? fun p => p.2.st == .running && dKind p.2.desc == if isM then 2 else 1) = some (n, it)) →
      Completes i s fun t =>
        (kget t.disp.items n).map Item.st = some .done
        ∧ (it.st = .running → it.core < 48 → (t.core it.core).running = false)
        ∧ ∀ (j : Nat) (b : Item), it.oneshot = false → dSuccs it.desc = [j] → j ≠ n → kget s.disp.items j = some b →
            b.oneshot = false → b.count = 1 → b.st = .waiting → (kget t.disp.items j).map Item.st = some .ready)
    ∧ (∀ h : BitVec 10, i = .itemComplete h → n = h.toNat → it.core < 48 → (s.core it.core).begun = true →
        exec i s = .next s))

/-- The deadline and the barrier (R196, R197, R202): once MARGIN before the round's outputs has come, every item of the
round that is not done is missed and each core that runs one is asked to abort, unless fault handling has stopped it
already; the barrier closes once, when nothing is left, reports what was missed, and in the active of a pair sends the END
record (R356). Before that, and a second time, nothing happens.
Where the rules leave a reading open, it is the model's choice (assumptions 16, 17 and 79).
What is asked of the dispatcher between rounds (R187, R193, R194): a swap, a one-shot handle armed or disarmed, an
event's slot, whose handle waits for the next tick unless its item is still in the round. A handle of the active
template, or one that is not one-shot, only sets ARMERR; ALARM_IN events and a following chip use no slot (R203).
Where the rules leave a reading open, it is the model's choice (assumptions 64 and 79). -/
def Obligations.RoundsAndRequests : Prop :=
  (∀ s : State,
    (s.disp.inRound = true → s.disp.deadline = false → s.deadlineDue = true → Completes .roundDeadline s fun t =>
      t.disp.deadline = true
      ∧ (∀ h : Nat, ∀ it ∈ kget t.disp.items h, it.st = .done ∨ it.st = .missed)
      ∧ ∀ (h : Nat) (it : Item), (h, it) ∈ s.disp.items → it.st = .running → dKind it.desc = 0 → it.core < 48 →
          ((t.core it.core).pendAbort = true ∨ (t.core it.core).running = false)
            ∧ (s.flt.units = [] → (t.core it.core).pendAbort = true))
    ∧ (s.disp.inRound = false ∨ s.disp.deadline = true ∨ s.deadlineDue = false → exec .roundDeadline s = .next s)
    ∧ (s.disp.inRound = true → s.disp.barrier = false →
      (s.disp.items.all fun p => p.2.st == .done || p.2.st == .missed) = true →
      (s.disp.missed = [] → Completes .barrierClose s fun t => t.disp.barrier = true
        ∧ (∀ a, a ≠ R.TND_BGPOS → t.reg a = s.reg a) ∧ (s.sends = false → t.regs = s.regs ∧ t.link = s.link)
        ∧ (s.sends = true → ∃ r : EndRec, t.link = s.link ++ [.fin s.procMti r] ∧ r.misses = []
          ∧ r.released = s.disp.relEv ∧ r.reactions = s.flt.reacted ∧ r.image = Config.imageBytes))
      ∧ (∀ (h : Nat) (dl : Bool) (rest : KMap Bool), s.disp.missed = (h, dl) :: rest → Completes .barrierClose s fun t =>
        t.disp.barrier = true ∧ t.get F.DISP_STAT_MISSED = 1
        ∧ t.reg R.DISP_MISSRND = word (min 4294967295 ((s.reg R.DISP_MISSRND).toNat + 1))
        ∧ t.reg R.DISP_MISSITEM = word (min 4294967295 ((s.reg R.DISP_MISSITEM).toNat + (rest.length + 1)))
        ∧ t.reg R.DISP_LASTMISS = word s.disp.rmti ∧ t.reg R.DISP_LASTH = word (h + 2 ^ 16 * flag dl)
        ∧ t.bitAt (R.EVT_PEND 1) 24 = true))
    ∧ (s.disp.inRound = false ∨ s.disp.barrier = true
        ∨ (s.disp.items.any fun p => p.2.st != .done && p.2.st != .missed) = true → exec .barrierClose s = .next s))
  ∧ (∀ s : State,
    Completes .dispTswap s (fun t => t.get F.DISP_STAT_TSWPEND = 1 ∧ t.disp = s.disp ∧ ∀ a, a ≠ R.DISP_STAT → t.reg a = s.reg a)
    ∧ (∀ h : BitVec 10,
      (s.bitAt (R.DISP_TMASK (h.toNat / 32)) (h.toNat % 32) = false → bit (s.descWord h.toNat 0) 30 = true →
        Completes (.dispArm h) s fun t => h.toNat ∈ t.disp.delay ∧ (∀ j ∈ s.disp.delay, j ∈ t.disp.delay) ∧ t.regs = s.regs)
      ∧ (s.bitAt (R.DISP_TMASK (h.toNat / 32)) (h.toNat % 32) = true ∨ bit (s.descWord h.toNat 0) 30 = false →
        Completes (.dispArm h) s fun t => t = s.put F.DISP_STAT_ARMERR 1)
      ∧ Completes (.dispDisarm h) s fun t => h.toNat ∉ t.disp.delay
          ∧ (∀ j ∈ s.disp.delay, j ≠ h.toNat → j ∈ t.disp.delay) ∧ t.regs = s.regs)
    ∧ (∀ (e : BitVec 8) (n : Fin 32), s.on (F.EVT_ROUTE_DISP e.toNat) = true → s.on (F.DISP_EVSLOT_EN n) = true →
      s.get (F.DISP_EVSLOT_EVENT n) = e.toNat → (e.toNat < 184 ∨ 188 ≤ e.toNat) → s.follows = false →
      bit (kgetD s.disp.desc (16 * s.get (F.DISP_EVSLOT_HANDLE n)) 0) 30 = true →
      Completes (.dispEventSlot e) s fun t =>
        ((s.disp.inRound && !s.disp.barrier && (kget s.disp.items (s.get (F.DISP_EVSLOT_HANDLE n))).isSome) = false →
          s.get (F.DISP_EVSLOT_HANDLE n) ∈ t.disp.evRel)
        ∧ ((s.disp.inRound && !s.disp.barrier && (kget s.disp.items (s.get (F.DISP_EVSLOT_HANDLE n))).isSome) = true →
          s.get (F.DISP_EVSLOT_HANDLE n) ∉ s.disp.evRel → s.get (F.DISP_EVSLOT_HANDLE n) ∉ t.disp.evRel)
        ∧ (∀ h ∈ s.disp.evRel, h ∈ t.disp.evRel) ∧ t.regs = s.regs)
    ∧ (∀ e : BitVec 8, (184 ≤ e.toNat ∧ e.toNat < 188) ∨ s.follows = true → exec (.dispEventSlot e) s = .next s)
    ∧ (∀ e : BitVec 8, s.on (F.EVT_ROUTE_DISP e.toNat) = false → exec (.dispEventSlot e) s = .next s))

/-- Restarts asked for (R51, R52, R455): RESET_ENGINE and SET_ENGINE_RATE put one on the schedule at the first
round-start Stile four rounds and 0.5 ms ahead, and are refused while a Hamper or a handover is scheduled; the rate
in force is DONE; a rate or a round length the placed modules do not admit is REFUSED (R136, R207); SET_ROUND holds the
round length it admits, and the one in force stays.
Where the rules leave a reading open, it is the model's choice (assumption 23).
GET_LATENCY (R18, R455): a source that the sink selects itself has the delays of its ends, the round of R18 and the
two rounds of an external sink; to digital zero, which a source that is not valid is applied as (R13), no path leads. A
sink that does not exist is MALFORMED, one beyond the rate class REFUSED.
Where the rules leave a reading open, it is the model's choice (assumptions 23, 24 and 95). -/
def Obligations.EngineAndLatency : Prop :=
  (∀ (s : State) (c : Cmd),
    (s.takes c 0x0102 1 false = true →
      (s.scheduled = false → Completes (.resetEngine c) s fun t =>
        t.eng.restart = some ⟨s.restartStile, none, bit (cw c 1) 0, false, some (s.tokOf c 0x0102)⟩
        ∧ t.eng.running = s.eng.running ∧ t.answered c 0x0102 rcScheduled 0 [])
      ∧ (s.scheduled = true → Completes (.resetEngine c) s fun t => t.eng = s.eng ∧ t.answered c 0x0102 rcRefused 0 []))
    ∧ (s.takes c 0x0304 1 false = true → s.scheduled = false →
      (min 5 (bits (cw c 1) 2 0) = s.rateCode → Completes (.setEngineRate c) s fun t => t.eng = s.eng ∧ t.repliedDone c 0x0304)
      ∧ (min 5 (bits (cw c 1) 2 0) ≠ s.rateCode → (s.put F.TIME_ROUND_FS (min 5 (bits (cw c 1) 2 0))).admits = true →
        Completes (.setEngineRate c) s fun t =>
          t.eng.restart = some ⟨s.restartStile, some (min 5 (bits (cw c 1) 2 0)), false, false, some (s.tokOf c 0x0304)⟩
          ∧ t.rateCode = s.rateCode ∧ t.answered c 0x0304 rcScheduled 0 [])
      ∧ (min 5 (bits (cw c 1) 2 0) ≠ s.rateCode → (s.put F.TIME_ROUND_FS (min 5 (bits (cw c 1) 2 0))).admits = false →
        Completes (.setEngineRate c) s fun t => t.eng = s.eng ∧ t.answered c 0x0304 rcRefused 0 []))
    ∧ (s.takes c 0x0304 1 false = true → s.scheduled = true → Completes (.setEngineRate c) s fun t =>
        t.eng = s.eng ∧ t.answered c 0x0304 rcRefused 0 [])
    ∧ (s.takes c 0x0305 1 false = true →
      (s.put F.TIME_ROUND_NCODE (if bits (cw c 1) 2 0 ≤ 4 then bits (cw c 1) 2 0 else 3)).admits = true →
      Completes (.setRound c) s fun t =>
        t.get F.TIME_ROUND_NHELD = (if bits (cw c 1) 2 0 ≤ 4 then bits (cw c 1) 2 0 else 3)
        ∧ t.roundLen = s.roundLen ∧ t.repliedDone c 0x0305)
    ∧ (s.takes c 0x0305 1 false = true →
      (s.put F.TIME_ROUND_NCODE (if bits (cw c 1) 2 0 ≤ 4 then bits (cw c 1) 2 0 else 3)).admits = false →
      Completes (.setRound c) s fun t => t.reg R.TIME_ROUND = s.reg R.TIME_ROUND ∧ t.answered c 0x0305 rcRefused 0 []))
  ∧ (∀ (s : State) (c : Cmd), s.takes c 0x0104 2 false = true →
    (sinkExists (bits (cw c 2) 12 0) = false → Completes (.getLatency c) s fun t => t.answered c 0x0104 rcMalformed 0 [])
    ∧ (sinkExists (bits (cw c 2) 12 0) = true → sinkValid s.rateClass (bits (cw c 2) 12 0) = false →
      Completes (.getLatency c) s fun t => t.answered c 0x0104 rcRefused 0 [])
    ∧ (sinkExists (bits (cw c 2) 12 0) = true → sinkValid s.rateClass (bits (cw c 2) 12 0) = true →
      (applySrc s.rateClass (bits (cw c 1) 12 0) = 8191 → Completes (.getLatency c) s fun t =>
        t.answered c 0x0104 rcDone 0 [0, 0, 2])
      ∧ (bits (cw c 1) 12 0 ≠ 8191 → srcValid s.rateClass (bits (cw c 1) 12 0) = true →
        (s.mux (bits (cw c 2) 12 0)).src = bits (cw c 1) 12 0 →
        Completes (.getLatency c) s fun t => ∃ l : Int,
          l = ((if roundDelayed (bits (cw c 2) 12 0) (bits (cw c 1) 12 0) then s.roundLen * 65536 else 0 : Nat) : Int)
            + ((if bits (cw c 2) 12 0 < 1568 then 2 * s.roundLen * 65536 else 0 : Nat) : Int)
            + (s.inLat (bits (cw c 1) 12 0)).1 + (s.outLat (bits (cw c 2) 12 0)).1
          ∧ t.answered c 0x0104 rcDone 0 [word (l.toNat / 65536), word (l.toNat % 65536),
              word (flag ((s.inLat (bits (cw c 1) 12 0)).2 || (s.outLat (bits (cw c 2) 12 0)).2))])))

/-- A restart carried out (R53, R54, R498): 0.25 ms ahead of it every sink ramps down; at it the engine starts anew with
nothing running in the signal path, at the new rate where one was asked for; a sink is released once its source is
valid; the tag completes when the ports run or after one second. The first start after a boot starts it once.
Where the rules leave a reading open, it is the model's choice (assumptions 23 and 74). -/
def Obligations.EngineRestarts : Prop :=
  ∀ s : State,
    (∀ r : Restart, s.eng.restart = some r →
      (r.ramping = false → r.stile ≤ s.mti + s.samplesOf 25 → Completes .engineRateRamp s fun t =>
        t.eng.down = some (s.now, s.samplesOf 25) ∧ t.eng.restart = some { r with ramping := true } ∧ t.regs = s.regs)
      ∧ (s.mti < r.stile → exec .engineRestart s = .next s)
      ∧ (r.stile ≤ s.mti → Completes .engineRestart s fun t =>
        t.eng.running = true ∧ t.eng.restart = none ∧ t.eng.settling.isSome = true ∧ t.eng.gate = some []
        ∧ t.path.trails = [] ∧ t.path.moves = [] ∧ t.path.par = [] ∧ t.path.patches = [] ∧ t.mods.players = []
        ∧ (∀ k, (t.mux k).old = none) ∧ t.disp.items = []
        ∧ (∀ n : Nat, r.rate = some n → t.rateCode = n % 8)
        ∧ (r.clear = true → t.mods.placed = [] ∧ t.net.streams = [] ∧ ∀ k, (t.mux k).src = muxReset k)))
    ∧ (∀ (n : Nat) (tok : Option Tok), s.eng.settling = some (n, tok) →
      (s.portsRun = true ∨ n + s.fs ≤ s.now → Completes .rateChangeComplete s fun t =>
        t.eng.settling = none ∧ t.eng.running = s.eng.running
        ∧ ∀ k : Tok, tok = some k → k.gen = (s.outbox (Sender.key k.sender)).gen → kget (s.outbox (Sender.key k.sender)).tags k.tag.toNat = some k.code →
            kget (t.outbox (Sender.key k.sender)).tags k.tag.toNat = none)
      ∧ (s.portsRun = false → s.now < n + s.fs → exec .rateChangeComplete s = .next s))
    ∧ (∀ (k : BitVec 13) (m : KMap Nat), s.eng.gate = some m → sinkExists k.toNat = true → kget m k.toNat = none →
      srcValid s.rateClass (s.mux k.toNat).src = true → s.srcLost (s.mux k.toNat).src = false →
      Completes (.sinkSourceValid k) s fun t => t.eng.gate = some (kset m k.toNat s.now) ∧ t.regs = s.regs)
    ∧ (s.boot.phase = .running → s.boot.engineStarted = false → Completes .engineStartBoot s fun t =>
        t.eng.running = true ∧ t.eng.gate = some [] ∧ t.boot.engineStarted = true)
    ∧ (s.boot.engineStarted = true → exec .engineStartBoot s = .next s)

/-- Open Hampers (R65, R461, R462, R463, R464): OPEN opens a free HID, ADD appends the entries a command embeds and answers
the count, CLOSE plans or stores them, ARM_ALARM arms or disarms an input. With 64 Hampers open or pending OPEN answers
NO_SPACE with event 205 (R94), and for a HID that is in use or of the firmware's own range REFUSED.
Where the rules leave a reading open, it is the model's choice (assumptions 50, 51 and 54).
Raw Hampers and scenes (R60, R61, R78, R461, R463): HAMPER_RAW asks for bulk segments, or takes the Hamper at its
offset in BK6, whose CRC, length, count and entries are right, into a plan; a misaligned offset is malformed.
SCENE_RECALL plans the scene's members, default ramps being those of a recall, or deletes it.
Where the rules leave a reading open, it is the model's choice (assumptions 50, 51 and 52). -/
def Obligations.HampersAreFilled : Prop :=
  (∀ (s : State) (c : Cmd),
    (s.takes c 0x0800 1 false = true →
      (s.hamperCount < 64 → bits (cw c 1) 15 0 < 0xF000 → s.hidInUse (bits (cw c 1) 15 0) = false →
        Completes (.hamperOpen c) s fun t =>
          t.hamp.opened = s.hamp.opened ++ [⟨bits (cw c 1) 15 0, c.sender, []⟩] ∧ t.repliedDone c 0x0800)
      ∧ (64 ≤ s.hamperCount → Completes (.hamperOpen c) s fun t => t.hamp = s.hamp
          ∧ t.bitAt (R.EVT_PEND 6) 13 = true ∧ t.answered c 0x0800 rcNoSpace 0 [])
      ∧ (s.hamperCount < 64 → 0xF000 ≤ bits (cw c 1) 15 0 ∨ s.hidInUse (bits (cw c 1) 15 0) = true →
        Completes (.hamperOpen c) s fun t => t.hamp = s.hamp ∧ t.answered c 0x0800 rcRefused 0 []))
    ∧ (s.takes c 0x0801 1 false = true → ∀ (h : OpenHamper) (es : List Entry), s.openHid (bits (cw c 1) 15 0) = some h →
      embedEntries (bits (cw c 1) 31 16) { c with words := c.words.drop 1 } s = some es →
      embedMin (bits (cw c 1) 31 16) { c with words := c.words.drop 1 } ≤ c.words.length - 1 →
      (es.map (s.firCopy (h.entries ++ es))).flatMap (s.entryCodes c.sender .basic) = [] →
      h.entries.length + es.length ≤ 65536 → Completes (.hamperAdd c) s fun t =>
        t.openHid (bits (cw c 1) 15 0) = some { h with entries := h.entries ++ es.map (s.firCopy (h.entries ++ es)) }
        ∧ t.answered c 0x0801 rcDone 0 [word (h.entries.length + es.length)])
    ∧ (s.takes c 0x0802 4 false = true → ∀ h : OpenHamper, s.openHid (bits (cw c 1) 15 0) = some h →
      s.destCodes c.sender (bits (cw c 1) 15 0) (h.entries.map (s.firCopy h.entries)) (.store (bits (cw c 2) 15 8)) = [] →
      (bit (cw c 2) 16 = false → bits (cw c 1) 31 16 = 0 →
        (∀ p ∈ s.hamp.plans, ∀ m ∈ p.members, m.hid ≠ bits (cw c 1) 15 0) → Completes (.hamperClose c) s fun t =>
          t.planned c 0x0802 (h.entries.map (s.firCopy h.entries)) (wide (cw c 3) (cw c 4))
          ∧ t.openHid (bits (cw c 1) 15 0) = none)
      ∧ (bit (cw c 2) 16 = true → s.ddrBytes ≠ 0 → (kgetD s.hamp.scenes (bits (cw c 2) 15 8) []).length < 64 →
        s.sceneEntries + h.entries.length ≤ 4194304 → Completes (.hamperClose c) s fun t =>
          (kgetD t.hamp.scenes (bits (cw c 2) 15 8) []).map (fun m => m.entries)
            = (kgetD s.hamp.scenes (bits (cw c 2) 15 8) []).map (fun m => m.entries) ++ [h.entries.map (s.firCopy h.entries)]
          ∧ t.hamp.plans = s.hamp.plans ∧ t.repliedDone c 0x0802))
    ∧ (s.takes c 0x0805 1 false = true →
      (bit (cw c 1) 18 = true → Completes (.armAlarm c) s fun t =>
        kget t.hamp.alarms (bits (cw c 1) 17 16) = none ∧ t.get (armBit (bits (cw c 1) 17 16)) = 0 ∧ t.repliedDone c 0x0805)
      ∧ (bit (cw c 1) 18 = false → ∀ h : OpenHamper, s.openHid (bits (cw c 1) 15 0) = some h →
        s.destCodes c.sender h.hid (h.entries.map (s.firCopy h.entries)) (.arm (bits (cw c 1) 17 16)) = [] →
        Completes (.armAlarm c) s fun t =>
          kget t.hamp.alarms (bits (cw c 1) 17 16) = some (h.entries.map (s.firCopy h.entries))
          ∧ t.get (armBit (bits (cw c 1) 17 16)) = 1 ∧ t.openHid h.hid = none ∧ t.repliedDone c 0x0805)))
  ∧ (∀ (s : State) (c : Cmd),
    (s.takes c 0x0F02 3 true = true →
      (bit (cw c 1) 31 = true → cw c 2 ≠ 0 → Completes (.hamperRaw c) s fun t => t.hamp = s.hamp ∧
        ∃ r : BulkRun, kget (t.outbox (Sender.key c.sender)).bulk c.tag.toNat = some r ∧ r.need = (cw c 2).toNat)
      ∧ (bit (cw c 1) 31 = false → bits (cw c 1) 23 0 % 4 ≠ 0 → Completes (.hamperRaw c) s fun t =>
        t.hamp = s.hamp ∧ t.answered c 0x0F02 rcMalformed 0 [])
      ∧ (bit (cw c 1) 31 = false → bits (cw c 1) 23 0 % 4 = 0 → bits (cw c 1) 23 0 + (cw c 2).toNat ≤ 0x1000000 →
        bit (cw c 3) 8 = false → bit (cw c 3) 9 = false → s.hamperCount < 64 →
        ∀ (ws : List Word) (es : List Entry), ws = bytesWords (s.bytes (bk6 (bits (cw c 1) 23 0)) (cw c 2).toNat) →
        bits (ws.getD 1 0) 16 0 ≤ 65536 → es = (entriesOf (ws.drop 8)).map (s.firCopy (entriesOf (ws.drop 8))) →
        crcWords (ws.take 7 ++ ws.drop 8) = ws.getD 7 0 → (cw c 2).toNat = 32 + 16 * bits (ws.getD 1 0) 16 0 →
        bits (ws.getD 0 0) 31 16 = 0 → bits (ws.getD 0 0) 15 0 < 0xF000 → s.hidInUse (bits (ws.getD 0 0) 15 0) = false →
        s.destCodes c.sender (bits (ws.getD 0 0) 15 0) es (.store 0) = [] → Completes (.hamperRaw c) s fun t =>
          t.planned c 0x0F02 es (wide (ws.getD 2 0) (ws.getD 3 0))))
    ∧ (s.takes c 0x0804 1 false = true →
      (bit (cw c 1) 8 = true → Completes (.sceneRecall c) s fun t =>
        kget t.hamp.scenes (bits (cw c 1) 7 0) = none ∧ t.hamp.plans = s.hamp.plans ∧ t.repliedDone c 0x0804)
      ∧ (bit (cw c 1) 8 = false → c.words.length < 3 → Completes (.sceneRecall c) s fun t =>
        t.hamp = s.hamp ∧ t.answered c 0x0804 rcMalformed 0 [])
      ∧ (bit (cw c 1) 8 = false → 3 ≤ c.words.length → ∀ ms : List Member,
        ms = (kgetD s.hamp.scenes (bits (cw c 1) 7 0) []).map (fun m => { m with entries := m.entries.map sceneEntry }) →
        ms ≠ [] → (∀ m ∈ ms, s.hamperCodes c.sender .basic m.entries = [] ∧ s.hidInUse m.hid = false) →
        s.firCodes (ms.flatMap fun m => m.entries) = [] → (s.pairs (ms.flatMap fun m => m.entries)).length ≤ 184 →
        (ms.map fun m => m.hid).eraseDups.length = ms.length →
        (∀ w ∈ s.hamp.waiting, bits (cw c 1) 31 16 = 0 ∨ w.gid ≠ bits (cw c 1) 31 16) → s.hamperCount + ms.length ≤ 64 →
        Completes (.sceneRecall c) s fun t => ∃ pl ∈ t.hamp.plans,
          pl.members.length = ms.length ∧ (∀ m ∈ ms, ∀ e ∈ m.entries, e ∈ pl.entries)
          ∧ pl.s = wide (cw c 2) (cw c 3) ∧ t.repliedScheduled c 0x0804 pl.p)))

/-- HAMPER_CANCEL (R67): an open Hamper of the HID is gone; no plan whose load has not started keeps a member of the HID
or GID, and event 202 is raised; with none to cancel it is refused and nothing changes.
The load start and the commit of a plan (R68, R72, R75, R89): the load starts Λ ahead of the planned Stile, and at that
Stile the plan leaves with event 200; a SELECT it holds stands in its multiplexer. Neither comes before its time.
Where the rules leave a reading open, it is the model's choice (assumptions 58 and 60). -/
def Obligations.PlansRunOrAreCancelled : Prop :=
  (∀ (s : State) (c : Cmd), s.takes c 0x0803 1 false = true →
    ((∃ p ∈ s.hamp.plans, p.loading = false ∧ ∃ m ∈ p.members,
        if bit (cw c 1) 16 then m.gid = bits (cw c 1) 15 0 ∧ m.gid ≠ 0 else m.hid = bits (cw c 1) 15 0) →
      Completes (.hamperCancel c) s fun t => t.repliedDone c 0x0803 ∧ t.bitAt (R.EVT_PEND 6) 10 = true
        ∧ ∀ p ∈ t.hamp.plans, ∀ m ∈ p.members,
          (if bit (cw c 1) 16 then m.gid = bits (cw c 1) 15 0 ∧ m.gid ≠ 0 else m.hid = bits (cw c 1) 15 0) → p.loading = true)
    ∧ (∀ h : OpenHamper, bit (cw c 1) 16 = false → s.openHid (bits (cw c 1) 15 0) = some h →
      Completes (.hamperCancel c) s fun t => t.repliedDone c 0x0803 ∧ t.openHid (bits (cw c 1) 15 0) = none)
    ∧ ((∀ p ∈ s.hamp.plans, p.loading = false → ∀ m ∈ p.members, m.hid ≠ bits (cw c 1) 15 0) →
      (∀ m ∈ s.hamp.waiting, m.hid ≠ bits (cw c 1) 15 0) →
      bit (cw c 1) 16 = false → s.openHid (bits (cw c 1) 15 0) = none → Completes (.hamperCancel c) s fun t =>
        t.hamp = s.hamp ∧ t.answered c 0x0803 rcRefused 0 []))
  ∧ (∀ (s : State) (hid : BitVec 16) (pl : Plan), s.planOf hid.toNat = some pl →
    (pl.loading = false → pl.p ≤ s.mti + pl.lam → Completes (.hamperLoadStart hid) s fun t =>
      ∃ q : Plan, t.planOf hid.toNat = some q ∧ q.loading = true ∧ q.p = pl.p
        ∧ q.members.map (fun m => m.hid) = pl.members.map (fun m => m.hid))
    ∧ (pl.loading = true ∨ s.mti + pl.lam < pl.p → exec (.hamperLoadStart hid) s = .next s)
    ∧ (pl.loading = true → pl.p ≤ s.mti → Completes (.hamperCommit hid) s fun t =>
      pl ∉ t.hamp.plans ∧ t.bitAt (R.EVT_PEND 6) 8 = true
      ∧ ∀ e : Entry, pl.entries = [e] → e.tgt = 3 → e.fld = 0 → e.obj < 1536 → objValid s.rateClass e = true →
          (t.mux e.obj).src = applySrc s.rateClass e.val.toNat)
    ∧ (pl.loading = false ∨ s.mti < pl.p → exec (.hamperCommit hid) s = .next s))

/-- Planning (R10, R72, R73): wherever a plan is put after others, its Stile is neither before its commit MTI nor before
the Stile it had, and a lead time is at least four rounds.
Where the rules leave a reading open, it is the model's choice (assumption 56). -/
def Obligations.PlansNeverMoveEarlier : Prop :=
  ∀ (s : State) (done : List Plan) (pl : Plan),
    pl.s ≤ (s.settle done pl).p ∧ pl.p ≤ (s.settle done pl).p ∧ pl.t + pl.lam ≤ (s.settle done pl).p
    ∧ (s.settle done pl).members = pl.members
    ∧ ∀ n : Nat, 4 * s.roundLen ≤ s.lead n ∧ s.lead n % s.roundLen = 0

/-- Alarm inputs (R92, R230): a change of a qualified level in the selected direction counts, with its event, and its
alarm Hamper commits two rounds after the round begun, but on a standby; the commit takes the edge and raises event
204, and without an armed Hamper it only takes the edge.
Where the rules leave a reading open, it is the model's choice (assumptions 57 and 61). -/
def Obligations.AlarmInputsCommit : Prop :=
  ∀ (s : State) (n : Fin 4),
    (∀ l : Bool, s.on ⟨R.EVT_ALSTAT, n, n⟩ = l ∨ s.asleep = true → exec (.alarmQualify n l) s = .next s)
    ∧ (∀ l : Bool, s.on ⟨R.EVT_ALSTAT, n, n⟩ ≠ l → s.asleep = false → Completes (.alarmQualify n l) s fun t =>
      t.on ⟨R.EVT_ALSTAT, n, n⟩ = l
      ∧ (s.on (F.EVT_ALCFG_EN n) = true →
          (s.get (F.EVT_ALCFG_EDGE n) = 2 ∨ (l = true ∧ (s.get (F.EVT_ALCFG_EDGE n) = 0 ∨ s.get (F.EVT_ALCFG_EDGE n) = 3))
            ∨ (l = false ∧ s.get (F.EVT_ALCFG_EDGE n) = 1)) →
          t.get ⟨R.EVT_ALSTAT, 8 + n, 8 + n⟩ = 1 ∧ t.bitAt (R.EVT_PEND 5) (24 + n) = true
          ∧ (s.follows = false → t.hamp.alarmEdges = s.hamp.alarmEdges ++ [(n.val, s.roundAt s.mti + 2 * s.roundLen)])))
    ∧ (∀ x : Nat × Nat, (s.hamp.alarmEdges.find? fun e => e.1 == n.val && decide (e.2 ≤ s.mti)) = some x →
      (kget s.hamp.alarms n = none → Completes (.alarmHamperCommit n) s fun t =>
        t.hamp.alarmEdges = s.hamp.alarmEdges.erase x ∧ t.regs = s.regs ∧ t.path = s.path)
      ∧ (∀ es : List Entry, kget s.hamp.alarms n = some es → Completes (.alarmHamperCommit n) s fun t =>
        t.hamp.alarmEdges = s.hamp.alarmEdges.erase x ∧ t.night.lastAlarm = some s.time.dur
        ∧ t.bitAt (R.EVT_PEND 6) 12 = true))

/-- Commands taken as one Hamper (R453, R459, R460, R466): ROUTE, ROUTE_BACKUP, SET_PARAM and PLAY_MESSAGE are answered
SCHEDULED with the Stile of the plan their entries stand in; a SET_PARAM whose coefficients are to come asks for
them, one whose pairs are all ignored is DONE, and a malformed one is answered so; PLAY_MESSAGE on a player that is
not placed is REFUSED.
Where the rules leave a reading open, it is the model's choice (assumptions 28 and 29).
The gains of sends and the matrix (R83, R88, R124, R459): the command takes a patch entry and is answered with the
Stile its ramp starts at; a send that changes its tap is a Hamper; with no entry free it is NO_SPACE with event 205
(R94). A headroom is held for the next engine start (R127); one of no bus or output is MALFORMED or REFUSED (R16).
Where the rules leave a reading open, it is the model's choice (assumptions 29 and 76). -/
def Obligations.RoutingCommands : Prop :=
  (∀ (s : State) (c : Cmd),
    (s.takes c 0x0500 3 false = true → s.freeFor c (routeEntries c s) = true → Completes (.route c) s fun t =>
      t.planned c 0x0500 (routeEntries c s) 0)
    ∧ (s.takes c 0x0501 2 false = true → s.freeFor c (backupEntries c) = true → Completes (.routeBackup c) s fun t =>
      t.planned c 0x0501 (backupEntries c) 0)
    ∧ (s.takes c 0x0700 4 false = true →
      (c.words.length < 1 + 3 * clampNat 1 20 (bits (cw c 1) 23 16) → Completes (.setParam c) s fun t =>
        t.hamp = s.hamp ∧ t.answered c 0x0700 rcMalformed 0 [])
      ∧ (1 + 3 * clampNat 1 20 (bits (cw c 1) 23 16) ≤ c.words.length →
        (wantsFir c = true → firWords c s ≠ 0 → Completes (.setParam c) s fun t => t.hamp = s.hamp ∧
          ∃ r : BulkRun, kget (t.outbox (Sender.key c.sender)).bulk c.tag.toNat = some r ∧ r.need = 4 * firWords c s)
        ∧ (wantsFir c = false ∨ firWords c s = 0 → paramEntries c [] s ≠ [] → s.freeFor c (paramEntries c [] s) = true →
          Completes (.setParam c) s fun t => t.planned c 0x0700 (paramEntries c [] s) 0)
        ∧ (wantsFir c = false ∨ firWords c s = 0 → paramEntries c [] s = [] → Completes (.setParam c) s fun t =>
          t.hamp = s.hamp ∧ t.repliedDone c 0x0700)))
    ∧ (s.takes c 0x0C02 1 false = true →
      (s.isPlaced (1792 + bits (cw c 1) 5 0) = true → bit (cw c 1) 8 = true ∨ 7 ≤ c.words.length →
        s.freeFor c (playEntries c) = true → Completes (.playMessage c) s fun t =>
          t.planned c 0x0C02 (playEntries c) (if bit (cw c 1) 8 then 0 else wide (cw c 6) (cw c 7)))
      ∧ (s.isPlaced (1792 + bits (cw c 1) 5 0) = false → Completes (.playMessage c) s fun t =>
          t.hamp = s.hamp ∧ t.answered c 0x0C02 rcRefused 0 [])))
  ∧ (∀ (s : State) (c : Cmd),
    (s.takes c 0x0600 3 false = true →
      (bit (cw c 2) 17 = false ∨ bit (cw c 2) 16 = bit (s.coefWord false (s.activeB false) (sendXp c)) 24 →
        (sendEntries false c s).flatMap (s.entryCodes c.sender .basic) = [] →
        (∀ k : Nat, s.patchOf false (sendXp c) = some k ∨ (s.patchOf false (sendXp c) = none ∧ s.patchFree = some k) →
          Completes (.setSend c) s fun t =>
            (∃ r : PatchRun, kget t.path.patches k = some r ∧ r.isMatrix = false ∧ r.xp = sendXp c
              ∧ r.target = coefLimit (gainField (cw c 2) (bit (cw c 2) 18 && s.expert c.sender)))
            ∧ t.answered c 0x0600 rcScheduled 0 (mtiWords (s.roundAt s.mti)))
        ∧ (s.patchOf false (sendXp c) = none → s.patchFree = none → Completes (.setSend c) s fun t =>
            t.path = s.path ∧ t.bitAt (R.EVT_PEND 6) 13 = true ∧ t.answered c 0x0600 rcNoSpace 0 []))
      ∧ (bit (cw c 2) 17 = true → bit (cw c 2) 16 = !bit (s.coefWord false (s.activeB false) (sendXp c)) 24 →
        s.freeFor c (sendEntries true c s) = true → Completes (.setSend c) s fun t =>
          t.planned c 0x0600 (sendEntries true c s) 0))
    ∧ (s.takes c 0x0601 3 false = true → (matrixEntries c s).flatMap (s.entryCodes c.sender .basic) = [] →
      (∀ k : Nat, s.patchOf true (matrixXp c) = some k ∨ (s.patchOf true (matrixXp c) = none ∧ s.patchFree = some k) →
        Completes (.setMatrix c) s fun t =>
          (∃ r : PatchRun, kget t.path.patches k = some r ∧ r.isMatrix = true ∧ r.xp = matrixXp c
            ∧ r.target = coefLimit (gainField (cw c 2) (bit (cw c 2) 18 && s.expert c.sender)))
          ∧ t.answered c 0x0601 rcScheduled 0 (mtiWords (s.roundAt s.mti)))
      ∧ (s.patchOf true (matrixXp c) = none → s.patchFree = none → Completes (.setMatrix c) s fun t =>
          t.path = s.path ∧ t.bitAt (R.EVT_PEND 6) 13 = true ∧ t.answered c 0x0601 rcNoSpace 0 []))
    ∧ (s.takes c 0x0602 1 false = true →
      (bit (cw c 1) 15 = false → bits (cw c 1) 8 0 < 512 / (if s.rateClass = 2 then 2 else 1) →
        Completes (.setBusHeadroom c) s fun t =>
          kget t.held (R.SUM_HRB (bits (cw c 1) 8 0)) = some (word (min 6 (bits (cw c 1) 18 16)))
          ∧ t.get (F.SUM_HRB_H (bits (cw c 1) 8 0)) = s.get (F.SUM_HRB_H (bits (cw c 1) 8 0)) ∧ t.repliedDone c 0x0602)
      ∧ (bit (cw c 1) 15 = true → bits (cw c 1) 8 0 < 256 / (if s.rateClass = 2 then 2 else 1) →
        Completes (.setBusHeadroom c) s fun t =>
          kget t.held (R.SUM_HRM (bits (cw c 1) 8 0)) = some (word (min 6 (bits (cw c 1) 18 16))) ∧ t.repliedDone c 0x0602)
      ∧ (bit (cw c 1) 15 = true → 256 ≤ bits (cw c 1) 8 0 → Completes (.setBusHeadroom c) s fun t =>
          t.held = s.held ∧ t.answered c 0x0602 rcMalformed 0 [])
      ∧ (bits (cw c 1) 8 0 < (if bit (cw c 1) 15 then 256 else 512) →
        (if bit (cw c 1) 15 then 256 else 512) / (if s.rateClass = 2 then 2 else 1) ≤ bits (cw c 1) 8 0 →
        Completes (.setBusHeadroom c) s fun t => t.held = s.held ∧ t.answered c 0x0602 rcRefused 0 [])))

/-- What the routing and the modules hold is read back (R459, R460): GET_ROUTE answers the multiplexer of a sink and, for
a strip, its selector's registers; GET_PARAM the active value, and for the coefficients of an FIR their CRC. An index of no range is malformed, one outside the
rate class refused (R16).
Modules (R133, R188, R207, R232, R460): PLACE adds or removes an instance, writes the extents and asks for a swap of
the template, or answers why the placement is not admitted; LOAD_MODULE stores an image in a module whose instances
are not placed, or asks for its bytes; of a module with a placed instance it is REFUSED.
Where the rules leave a reading open, it is the model's choice (assumptions 31, 87 and 104). -/
def Obligations.RoutesAndModules : Prop :=
  (∀ (s : State) (c : Cmd),
    (s.takes c 0x0502 1 false = true →
      (sinkExists (bits (cw c 1) 12 0) = false → Completes (.getRoute c) s fun t => t.answered c 0x0502 rcMalformed 0 [])
      ∧ (sinkExists (bits (cw c 1) 12 0) = true → sinkValid s.rateClass (bits (cw c 1) 12 0) = false →
        Completes (.getRoute c) s fun t => t.answered c 0x0502 rcRefused 0 [])
      ∧ (sinkExists (bits (cw c 1) 12 0) = true → sinkValid s.rateClass (bits (cw c 1) 12 0) = true →
        Completes (.getRoute c) s fun t => t.path = s.path ∧ t.answered c 0x0502 rcDone 0
          (word ((s.mux (bits (cw c 1) 12 0)).src + flag (!srcValid s.rateClass (s.mux (bits (cw c 1) 12 0)).src) * 2 ^ 16
              + flag (s.mux (bits (cw c 1) 12 0)).old.isSome * 2 ^ 17)
            :: if 2048 ≤ bits (cw c 1) 12 0 ∧ bits (cw c 1) 12 0 < 4096 then
                [s.reg (R.PATCH_FOCTL (bits (cw c 1) 12 0 % 1024)), s.reg (R.PATCH_FOSTAT (bits (cw c 1) 12 0 % 1024))] else [])))
    ∧ (s.takes c 0x0701 2 false = true →
      (modKind (bits (cw c 1) 11 0) = none ∨ paramRow s.rateCode (bits (cw c 1) 11 0) (bits (cw c 2) 15 0) = none →
        Completes (.getParam c) s fun t => t.answered c 0x0701 rcMalformed 0 [])
      ∧ ((modKind (bits (cw c 1) 11 0)).isSome = true →
        (paramRow s.rateCode (bits (cw c 1) 11 0) (bits (cw c 2) 15 0)).isSome = true →
        instValid s.rateClass (bits (cw c 1) 11 0) = false →
        Completes (.getParam c) s fun t => t.answered c 0x0701 rcRefused 0 []))
    ∧ (s.takes c 0x0701 2 false = true → (paramRow s.rateCode (bits (cw c 1) 11 0) (bits (cw c 2) 15 0)).isSome = true →
      (modKind (bits (cw c 1) 11 0)).isSome = true → instValid s.rateClass (bits (cw c 1) 11 0) = true →
      (modKind (bits (cw c 1) 11 0) ≠ some .out ∨ bits (cw c 2) 15 0 ≠ 0x5002 → Completes (.getParam c) s fun t =>
        t.path = s.path ∧ t.answered c 0x0701 rcDone 0 [s.paramActive (bits (cw c 1) 11 0) (bits (cw c 2) 15 0)])
      ∧ (modKind (bits (cw c 1) 11 0) = some .out → bits (cw c 2) 15 0 = 0x5002 → Completes (.getParam c) s fun t =>
        t.answered c 0x0701 rcDone 0 [crcWords (s.firSet (bits (cw c 1) 11 0 - 1536))])))
  ∧ (∀ (s : State) (c : Cmd),
    (s.takes c 0x0703 1 false = true → ∀ k : ModKind, modKind (bits (cw c 1) 11 0) = some k → k ≠ .oem →
      instValid s.rateClass (bits (cw c 1) 11 0) = true →
      (bit (cw c 1) 31 = false → s.isPlaced (bits (cw c 1) 11 0) = false →
        placeCode (bits (cw c 1) 11 0) (s.mods.placed ++ [bits (cw c 1) 11 0]) s.mods.oemPlaced s = rcDone →
        Completes (.place c) s fun t => t.mods.placed = s.mods.placed ++ [bits (cw c 1) 11 0]
          ∧ t.get F.SUM_EXTS_NSTRIP = t.placedStrips % 2 ^ 11 ∧ t.get F.DISP_STAT_TSWPEND = 1
          ∧ t.repliedDone c 0x0703)
      ∧ (bit (cw c 1) 31 = true → s.isPlaced (bits (cw c 1) 11 0) = true → Completes (.place c) s fun t =>
          t.isPlaced (bits (cw c 1) 11 0) = false ∧ t.get F.DISP_STAT_TSWPEND = 1 ∧ t.repliedDone c 0x0703)
      ∧ (bit (cw c 1) 31 = !s.isPlaced (bits (cw c 1) 11 0) → Completes (.place c) s fun t =>
          t.mods = s.mods ∧ t.repliedDone c 0x0703)
      ∧ (∀ rc : Nat, bit (cw c 1) 31 = false → s.isPlaced (bits (cw c 1) 11 0) = false → rc ≠ rcDone →
        placeCode (bits (cw c 1) 11 0) (s.mods.placed ++ [bits (cw c 1) 11 0]) s.mods.oemPlaced s = rc →
        Completes (.place c) s fun t => t.mods = s.mods ∧ t.answered c 0x0703 rc 0 []))
    ∧ (s.takes c 0x0703 1 false = true → modKind (bits (cw c 1) 11 0) = none → Completes (.place c) s fun t =>
        t.mods = s.mods ∧ t.answered c 0x0703 rcMalformed 0 [])
    ∧ (s.takes c 0x0703 1 false = true → modKind (bits (cw c 1) 11 0) = some .oem →
      (s.expert c.sender = false → Completes (.place c) s fun t => t.mods = s.mods ∧ t.answered c 0x0703 rcLocked 0 [])
      ∧ (s.expert c.sender = true → bit (cw c 1) 31 = true → Completes (.place c) s fun t =>
          kget t.mods.oemPlaced (bits (cw c 1) 11 0) = none ∧ t.repliedDone c 0x0703)
      ∧ (s.expert c.sender = true → bit (cw c 1) 31 = false → 5 ≤ c.words.length →
          5 + ((oemPlaceOf c).preds.length + (oemPlaceOf c).succs.length + 1) / 2 ≤ c.words.length →
          (kget s.mods.oem (oemPlaceOf c).mod).isSome = true →
          placeCode (bits (cw c 1) 11 0) s.mods.placed (kset s.mods.oemPlaced (bits (cw c 1) 11 0) (oemPlaceOf c)) s = rcDone →
          Completes (.place c) s fun t => kget t.mods.oemPlaced (bits (cw c 1) 11 0) = some (oemPlaceOf c)
            ∧ t.mods.placed = s.mods.placed ∧ t.repliedDone c 0x0703))
    ∧ (s.takes c 0x0702 3 true = true →
      (bit (cw c 1) 31 = true → (cw c 2).toNat ≤ 0x1000000 → (∀ p ∈ s.mods.oemPlaced, p.2.mod ≠ bits (cw c 1) 5 0) →
        Completes (.loadModule c) s fun t =>
          if 256 < Config.moduleHeader (s.bytes (bk6 (bits (cw c 3) 23 0)) (cw c 2).toNat) 1 then
            t.mods = s.mods ∧ t.answered c 0x0702 rcRefused 0 []
          else (kget t.mods.oem (bits (cw c 1) 5 0)).map OemModule.image
              = some (s.bytes (bk6 (bits (cw c 3) 23 0)) (cw c 2).toNat)
            ∧ t.answered c 0x0702 rcDone 0 [word (bits (cw c 1) 5 0)])
      ∧ (bit (cw c 1) 31 = true → (∃ p ∈ s.mods.oemPlaced, p.2.mod = bits (cw c 1) 5 0) →
        Completes (.loadModule c) s fun t => t.mods = s.mods ∧ t.answered c 0x0702 rcRefused 0 [])
      ∧ (bit (cw c 1) 31 = false → cw c 2 ≠ 0 → Completes (.loadModule c) s fun t => t.mods = s.mods ∧
          ∃ r : BulkRun, kget (t.outbox (Sender.key c.sender)).bulk c.tag.toNat = some r ∧ r.need = (cw c 2).toNat)))

/-- States of a TDM port (R244, R246, R248, R249, R254): EN starts acquisition and its end takes the port to OFF; a
synchronous port runs after 64 good frames, an asynchronous one when both its converters, each tracked for 10 ms, are
locked; a relock, of a converter whose position has strayed, takes it back to acquisition with a ramp to zero; a clock
without an edge for four frame periods takes it to LOST, once, with its count.
Where the rules leave a reading open, it is the model's choice (assumptions 93 and 94). -/
def Obligations.TdmPortStates : Prop :=
  ∀ (s : State) (p : Fin 32),
    (s.on (F.TDM_CFG_EN p) = false → Completes (.tdmEnable p true) s fun t =>
      t.get (F.TDM_CFG_EN p) = 1 ∧ t.tdmState p = 1 ∧ (t.port p).good = 0 ∧ (t.port p).inq = []
      ∧ t.get (F.ASRC_STAT_LOCKED p) = 0 ∧ t.get (F.ASRC_STAT_LOCKED (32 + p)) = 0)
    ∧ (s.on (F.TDM_CFG_EN p) = true → exec (.tdmEnable p true) s = .next s)
    ∧ (Completes (.tdmEnable p false) s fun t =>
      t.get (F.TDM_CFG_EN p) = 0 ∧ t.tdmState p = 0 ∧ t.get (F.TDM_RATE_RATE p) = 0 ∧ (t.port p).live = false
      ∧ ∀ q, q ≠ p.val → t.port q = s.port q)
    ∧ (s.tdmState p = 1 → s.tdmAsync p = false → 64 ≤ (s.port p).good → Completes (.tdmSyncLock p) s fun t =>
      t.tdmState p = 2 ∧ (t.port p).align = 0)
    ∧ (s.tdmState p ≠ 1 ∨ s.tdmAsync p = true ∨ (s.port p).good < 64 → exec (.tdmSyncLock p) s = .next s)
    ∧ (∀ c : Fin 64, c.val % 32 = p.val →
      (s.tdmAsync p = true → s.tdmState p ≠ 0 → s.tracked c = true → Completes (.asrcLock p (decide (32 ≤ c.val))) s fun t =>
        t.get (F.ASRC_STAT_LOCKED c) = 1
        ∧ t.tdmState p = (if s.tdmState p = 1 ∧ s.on (F.ASRC_STAT_LOCKED ((c.val + 32) % 64)) = true then 2 else s.tdmState p))
      ∧ (s.tdmAsync p = false ∨ s.tdmState p = 0 ∨ s.tracked c = false → exec (.asrcLock p (decide (32 ≤ c.val))) s = .next s)
      ∧ (s.on (F.ASRC_STAT_LOCKED c) = true → s.strayed c = true → Completes (.asrcRelock c) s fun t =>
        t.get (F.ASRC_STAT_LOCKED c) = 0 ∧ t.get (F.ASRC_STAT_RELOCKEV c) = 1
        ∧ t.get (F.ASRC_STAT_RELOCK c) = min 65535 (s.get (F.ASRC_STAT_RELOCK c) + 1)
        ∧ (if c.val < 32 then (t.port p).rampDown else (t.port p).outDown) = some (s.now, s.minRamp)
        ∧ t.tdmState p = (if s.tdmState p = 2 then 1 else s.tdmState p))
      ∧ (s.on (F.ASRC_STAT_LOCKED c) = false ∨ s.strayed c = false → exec (.asrcRelock c) s = .next s))
    ∧ (∀ e : Nat, (s.port p).lastEdge = some e →
      (s.fourPeriods p).1 ≤ (s.time.dur - e) * (s.fourPeriods p).2 → s.tdmState p = 1 ∨ s.tdmState p = 2 →
      Completes (.tdmClockLost p) s fun t =>
        t.tdmState p = 3 ∧ t.get (F.TDM_STAT_LOSTEV p) = 1 ∧ t.get (F.TDM_RATE_RATE p) = 0
        ∧ (t.reg (R.TDM_LOST p)).toNat = satInc32 (s.reg (R.TDM_LOST p)).toNat ∧ (t.port p).inq = [])
    ∧ (s.tdmState p = 0 ∨ s.tdmState p = 3 ∨ (s.port p).lastEdge = none
        ∨ (∃ e : Nat, (s.port p).lastEdge = some e ∧ (s.time.dur - e) * (s.fourPeriods p).2 < (s.fourPeriods p).1) →
      exec (.tdmClockLost p) s = .next s)

/-- Frames of a TDM port (R236, R238, R243, R246, R247, R252, R253, R254): pins without an active edge are no frame; a
short frame is counted and the fourth in a row loses the port; a frame in LOST starts acquisition anew; a good one in
acquisition counts, and in a synchronous port in RUNNING its slots go into the buffer as the input sample of its place,
unless its edge comes more than two sample periods early or late, which is a slip of one frame. A Hamper's mask moves
with the frame from which it holds.
Where the rules leave a reading open, it is the model's choice (assumption 95).
Masks and capture of a TDM port (R242, R256): GO marks both pending masks, which move at an active edge more than two
bit clocks later; capture begins at an active edge, at the start of its ring, with the MTI.
The commands of the TDM ports (R240, R242, R465): TDM_CFG is refused where an enabled port carries a channel of it,
in force or held, and otherwise enables or ends the port; TDM_SLOTMASK writes both masks and GO; ASRC_CFG writes a
converter. -/
def Obligations.TdmFramesAndConfiguration : Prop :=
  (∀ (s : State) (p : Fin 32) (f : TdmFrame),
    (s.tdmState p = 0 ∨ s.frameAt p f = none → exec (.tdmFrame p f) s = .next s)
    ∧ ∀ (din : List Bool) (clocks : Nat), s.frameAt p f = some (din, clocks) →
      (s.tdmState p = 3 → Completes (.tdmFrame p f) s fun t => t.tdmState p = 1)
      ∧ (s.tdmState p = 1 ∨ s.tdmState p = 2 → clocks < s.frameBits p → Completes (.tdmFrame p f) s fun t =>
        (t.reg (R.TDM_FRMERR p)).toNat = satInc32 (s.reg (R.TDM_FRMERR p)).toNat ∧ t.get (F.TDM_STAT_FRMERR p) = 1
        ∧ (t.port p).good = 0
        ∧ ((s.port p).bad < 3 → t.tdmState p = s.tdmState p ∧ (t.port p).bad = (s.port p).bad + 1)
        ∧ (3 ≤ (s.port p).bad → t.tdmState p = 3 ∧ t.get (F.TDM_STAT_LOSTEV p) = 1))
      ∧ (s.tdmState p = 1 → s.frameBits p ≤ clocks → s.rateOk p f.len = true → Completes (.tdmFrame p f) s fun t =>
        t.tdmState p = 1 ∧ (t.port p).good = (s.port p).good + 1 ∧ (t.port p).bad = 0
        ∧ t.reg (R.TDM_FRMERR p) = s.reg (R.TDM_FRMERR p))
      ∧ (s.tdmState p = 2 → s.tdmAsync p = false → s.frameBits p ≤ clocks →
        (-2 * (sec32 : Int) ≤ s.wander p → s.wander p ≤ 2 * (sec32 : Int) → Completes (.tdmFrame p f) s fun t =>
          t.tdmState p = 2 ∧ (t.port p).align = (s.port p).align ∧ t.get (F.TDM_STAT_SLIP p) = s.get (F.TDM_STAT_SLIP p)
          ∧ (t.port p).count = (s.port p).count + 1
          ∧ (∃ g : InFrame, (t.port p).inq = (s.port p).inq ++ [g] ∧ g.num = s.framePeriod p + 2
            ∧ g.slots = (List.range (s.slotCount p)).map fun k => slotSample (s.slotBits p) (s.slotIn p k din))
          ∧ (∀ h : HampMask, (s.port p).hampRx = [h] → h.num ≤ s.framePeriod p + 2 →
              (t.port p).rxMask = h.mask ∧ (t.port p).hampRx = [])
          ∧ (∀ h : HampMask, (s.port p).hampTx = [h] → h.num + 2 * s.roundLen ≤ s.framePeriod p →
              (t.port p).txMask = h.mask ∧ (t.port p).hampTx = []))
        ∧ (2 * (sec32 : Int) < s.wander p → Completes (.tdmFrame p f) s fun t =>
          (t.port p).align = (s.port p).align + 1 ∧ t.on (F.TDM_STAT_SLIP p) = true
          ∧ (t.reg (R.TDM_RXURUN p)).toNat = satInc32 (s.reg (R.TDM_RXURUN p)).toNat
          ∧ (t.reg (R.TDM_TXORUN p)).toNat = satInc32 (s.reg (R.TDM_TXORUN p)).toNat)
        ∧ (s.wander p < -2 * (sec32 : Int) → Completes (.tdmFrame p f) s fun t =>
          (t.port p).align = (s.port p).align - 1 ∧ t.on (F.TDM_STAT_SLIP p) = true
          ∧ (t.port p).inq = (s.port p).inq
          ∧ (t.reg (R.TDM_TXURUN p)).toNat = satInc32 (s.reg (R.TDM_TXURUN p)).toNat
          ∧ (t.reg (R.TDM_RXORUN p)).toNat = satInc32 (s.reg (R.TDM_RXORUN p)).toNat)))
  ∧ (∀ (s : State) (p : Fin 32),
    (Completes (.tdmMaskgo p) s fun t => t.get (F.TDM_STAT_MASKPEND p) = 1
      ∧ t.port p = { s.port p with goAt := some s.time.dur } ∧ (∀ q, q ≠ p.val → t.port q = s.port q)
      ∧ ∀ a, a ≠ R.TDM_STAT p → t.reg a = s.reg a)
    ∧ (s.on (F.TDM_STAT_MASKPEND p) = true → s.goRipe p = true → Completes (.tdmMaskMove p) s fun t =>
      t.get (F.TDM_STAT_MASKPEND p) = 0
      ∧ (t.port p).rxMask = s.reg (R.TDM_RXMASK p) ∧ (t.port p).txMask = s.reg (R.TDM_TXMASK p)
      ∧ (∀ q, q ≠ p.val → t.port q = s.port q) ∧ ∀ a, a ≠ R.TDM_STAT p → t.reg a = s.reg a)
    ∧ (s.on (F.TDM_STAT_MASKPEND p) = false ∨ s.goRipe p = false → exec (.tdmMaskMove p) s = .next s)
    ∧ (s.on (F.TDM_CAPCTL_EN p) = true → (s.port p).capOn = false → Completes (.tdmCaptureStart p) s fun t =>
      (t.port p).capOn = true ∧ t.reg (R.TDM_CAPWP p) = 0 ∧ t.reg (R.TDM_CAPMTI p) = s.mtil ∧ t.mem = s.mem)
    ∧ (s.on (F.TDM_CAPCTL_EN p) = false ∨ (s.port p).capOn = true → exec (.tdmCaptureStart p) s = .next s))
  ∧ (∀ (s : State) (c : Cmd),
    (s.takes c 0x0900 4 false = true →
      (bit (cw c 2) 31 = false → Completes (.tdmCfg c) s fun t =>
        t.get (F.TDM_CFG_EN (bits (cw c 1) 4 0)) = 0 ∧ t.tdmState (bits (cw c 1) 4 0) = 0 ∧ t.repliedDone c 0x0900)
      ∧ (bit (cw c 2) 31 = true → (∃ (rx : Bool) (q ch : Nat), q < 32 ∧ q ≠ bits (cw c 1) 4 0 ∧ s.on (F.TDM_CFG_EN q) = true
          ∧ ch ∈ mapChans s.rateClass (if rx then cw c 3 else cw c 4)
          ∧ (ch ∈ s.portChans rx q ∨ ch ∈ mapChans s.rateClass (s.heldReg (mapReg rx q)))) →
        Completes (.tdmCfg c) s fun t => t.tdm = s.tdm ∧ t.held = s.held ∧ t.answered c 0x0900 rcRefused 0 [])
      ∧ (bit (cw c 2) 31 = true →
        (∀ (rx : Bool) (q ch : Nat), q < 32 → q ≠ bits (cw c 1) 4 0 → s.on (F.TDM_CFG_EN q) = true →
          ch ∈ mapChans s.rateClass (if rx then cw c 3 else cw c 4) →
          ch ∉ s.portChans rx q ∧ ch ∉ mapChans s.rateClass (s.heldReg (mapReg rx q))) →
        (s.on (F.TDM_CFG_EN (bits (cw c 1) 4 0)) = false → Completes (.tdmCfg c) s fun t =>
          t.get (F.TDM_CFG_EN (bits (cw c 1) 4 0)) = 1 ∧ t.tdmState (bits (cw c 1) 4 0) = 1 ∧ t.repliedDone c 0x0900)
        ∧ (s.on (F.TDM_CFG_EN (bits (cw c 1) 4 0)) = true → Completes (.tdmCfg c) s fun t =>
          t.tdm = s.tdm ∧ t.repliedDone c 0x0900)))
    ∧ (s.takes c 0x0901 3 false = true → Completes (.tdmSlotmask c) s fun t =>
        t.reg (R.TDM_RXMASK (bits (cw c 1) 4 0)) = cw c 2 ∧ t.reg (R.TDM_TXMASK (bits (cw c 1) 4 0)) = cw c 3
        ∧ t.get (F.TDM_STAT_MASKPEND (bits (cw c 1) 4 0)) = 1
        ∧ (t.port (bits (cw c 1) 4 0)).goAt = some s.time.dur ∧ t.repliedDone c 0x0901)
    ∧ (s.takes c 0x0902 2 false = true → Completes (.asrcCfg c) s fun t =>
        t.get (F.ASRC_CTL_HOLD (bits (cw c 1) 5 0)) = bits (cw c 2) 0 0
        ∧ t.get (F.ASRC_CTL_BW (bits (cw c 1) 5 0)) = clampNat 5 200 (bits (cw c 2) 15 8)
        ∧ t.get (F.ASRC_CTL_DLY (bits (cw c 1) 5 0)) = s.get (F.ASRC_CTL_DLY (bits (cw c 1) 5 0)) ∧ t.repliedDone c 0x0902))

/-- The network's ports (R257, R258, R259, R271, R287, R457): NET_CTL.EN takes the held mode in force, and EN = 0 takes
both links down; a link comes up at the speed of its interface, one an SGMII PHY cannot have is an error; a link
that goes down empties its queue and its PAUSE state. NET_PORT_CFG and T1S_CFG write what they carry.
PAUSE (R268, R269): a PAUSE frame halts the port for its quanta, one of zero ends the pause, one that is not
enabled or in the hold-off is counted and ignored; a pause ends at its time; the watchdog ends one that lasts, and
its hold-off ends at its time. -/
def Obligations.NetworkPorts : Prop :=
  (∀ s : State,
    (∀ v : Word,
      (bit v 31 = true → Completes (.netEnable v) s fun t => t.get F.NET_CTL_EN = 1
        ∧ t.get F.NET_CTL_MODE = (if bits v 1 0 ≤ 1 then bits v 1 0 else 0)
        ∧ (s.netOn = false → t.get F.NET_STAT_FWDBLK = 0))
      ∧ (bit v 31 = false → Completes (.netEnable v) s fun t => t.get F.NET_CTL_EN = 0
        ∧ t.get (F.NET_PSTAT_LINK 0) = 0 ∧ t.get (F.NET_PSTAT_LINK 1) = 0))
    ∧ (∀ p : Fin 4, p.val < 2 →
      (s.on (F.NET_PSTAT_LINK p) = true → Completes (.netLinkDown p) s fun t =>
        t.get (F.NET_PSTAT_LINK p) = 0 ∧ t.get (F.NET_PSTAT_SPD p) = 0 ∧ t.queue p = [] ∧ t.pauseOf p = {}
        ∧ t.get (F.NET_PSTAT_LINKEV p) = 1 ∧ (∀ l ∈ t.net.learned, l.2 ≠ p.val) ∧ ∀ q, q ≠ p.val → t.queue q = s.queue q)
      ∧ (s.on (F.NET_PSTAT_LINK p) = false → exec (.netLinkDown p) s = .next s)
      ∧ (∀ v : BitVec 4, s.netOn = true →
        (s.get (F.NET_PCFG_IF p) = 3 → v ≠ 1 → v ≠ 2 → Completes (.netLinkUp p v) s fun t =>
          t.get (F.NET_PSTAT_SPEEDERR p) = 1 ∧ t.get (F.NET_PSTAT_LINK p) = s.get (F.NET_PSTAT_LINK p))
        ∧ (s.get (F.NET_PCFG_IF p) ≠ 3 ∨ v = 1 ∨ v = 2 → Completes (.netLinkUp p v) s fun t =>
          t.get (F.NET_PSTAT_LINK p) = 1 ∧ t.get (F.NET_PSTAT_SPEEDERR p) = 0
          ∧ t.get (F.NET_PSTAT_SPD p) = (match s.get (F.NET_PCFG_IF p) with | 0 => 4 | 1 => 3 | 2 => 2 | _ => v.toNat)))
      ∧ (∀ v : BitVec 4, s.netOn = false → exec (.netLinkUp p v) s = .next s))
    ∧ (∀ (p : Fin 4) (v : BitVec 4), 2 ≤ p.val →
      (s.on (F.T1S_STAT_ACT (p.val - 2)) = true → Completes (.netLinkDown p) s fun t =>
        t.get (F.T1S_STAT_ACT (p.val - 2)) = 0 ∧ t.queue p = [])
      ∧ (s.on (F.T1S_CFG_EN (p.val - 2)) = true → s.on (F.T1S_STAT_ACT (p.val - 2)) = false →
        Completes (.netLinkUp p v) s fun t => t.get (F.T1S_STAT_ACT (p.val - 2)) = 1))
    ∧ (∀ c : Cmd,
      (s.takes c 0x0400 12 false = true → Completes (.netPortCfg c) s fun t =>
        t.get F.NET_CTL_EN = bits (cw c 1) 31 31 ∧ t.net.ip.head? = some (cw c 4)
        ∧ t.get F.NET_CLASS_CTLPORT = bits (cw c 11) 31 16 ∧ t.get F.NET_CLASS_MDSCP = bits (cw c 11) 5 0
        ∧ (cw c 8 = 0 → bits (cw c 9) 15 0 = 0 → t.net.mac = none) ∧ t.repliedDone c 0x0400)
      ∧ (s.takes c 0x0405 1 false = true → Completes (.t1sCfg c) s fun t =>
        t.get (F.T1S_CFG_EN (bits (cw c 1) 0 0)) = bits (cw c 1) 1 1 ∧ t.repliedDone c 0x0405)))
  ∧ (∀ (s : State) (x : Fin 2),
    (∀ (f : Frame) (q : BitVec 16), f.payload = .macControl 1 q → f.len ≤ 2000 → f.fcsOk = true → s.linkUp x = true →
      (s.on (F.NET_PCFG_PAUSEEN x) = false ∨ (s.pauseOf x).holdoff.isSome = true →
        Completes (.netFrameRx ⟨x, by omega⟩ f) s fun t => t.net = s.net
          ∧ (t.reg R.NET_PAUSEIGN).toNat = satInc32 (s.reg R.NET_PAUSEIGN).toNat)
      ∧ (s.on (F.NET_PCFG_PAUSEEN x) = true → (s.pauseOf x).holdoff = none →
        (q = 0 → Completes (.netFrameRx ⟨x, by omega⟩ f) s fun t =>
          (t.pauseOf x).till = none ∧ t.get (F.NET_PSTAT_PAUSED x) = 0)
        ∧ (q ≠ 0 → Completes (.netFrameRx ⟨x, by omega⟩ f) s fun t =>
          (t.pauseOf x).till = some (s.time.dur
            + q.toNat * 512 * 1000 * 2 ^ 32 / max 1 (spdMbps (s.get (F.NET_PSTAT_SPD x))))
          ∧ t.get (F.NET_PSTAT_PAUSED x) = 1)))
    ∧ ((s.pauseOf x).till = none → exec (.pauseExpiry x) s = .next s)
    ∧ ((s.pauseOf x).since = none → exec (.pauseWatchdog x) s = .next s)
    ∧ ((s.pauseOf x).holdoff = none → exec (.pauseHoldoffEnd x) s = .next s)
    ∧ (∀ e : Nat, (s.pauseOf x).till = some e →
      (e ≤ s.time.dur → Completes (.pauseExpiry x) s fun t => (t.pauseOf x).till = none ∧ t.get (F.NET_PSTAT_PAUSED x) = 0)
      ∧ (s.time.dur < e → exec (.pauseExpiry x) s = .next s))
    ∧ (∀ b : Nat, (s.pauseOf x).since = some b →
      (b + s.get F.NET_PAUSE_LIMIT * 10000 * 2 ^ 32 ≤ s.time.dur → Completes (.pauseWatchdog x) s fun t =>
        t.pauseOf x = ⟨none, none, some (s.time.dur + s.get F.NET_PAUSE_HOLDOFF * 1000000 * 2 ^ 32)⟩
        ∧ t.get (F.NET_PSTAT_PAUSED x) = 0 ∧ t.get (F.NET_PSTAT_HOLDOFF x) = 1 ∧ t.get (F.NET_PSTAT_WDOG x) = 1)
      ∧ (s.time.dur < b + s.get F.NET_PAUSE_LIMIT * 10000 * 2 ^ 32 → exec (.pauseWatchdog x) s = .next s))
    ∧ (∀ e : Nat, (s.pauseOf x).holdoff = some e →
      (e ≤ s.time.dur → Completes (.pauseHoldoffEnd x) s fun t =>
        (t.pauseOf x).holdoff = none ∧ t.get (F.NET_PSTAT_HOLDOFF x) = 0)
      ∧ (s.time.dur < e → exec (.pauseHoldoffEnd x) s = .next s)))

/-- Frames through the switch (R260, R261, R263, R264, R265, R270, R278, R295): what is too long, damaged or a MAC control frame beside PAUSE is counted; in
CHAIN mode a frame for elsewhere is queued once at the other port or dropped and counted in its class; outside CHAIN
mode a packet of a stream is placed at its MTI; the first frame in strict priority leaves, unless the port is down or paused. A
learned address ages out; a loop probe is queued at the ports that are up.
Where the rules leave a reading open, it is the model's choice (assumption 77). -/
def Obligations.SwitchForwardsFrames : Prop :=
  ∀ s : State,
    (∀ (x : Fin 4) (f : Frame), x.val < 2 →
      (s.linkUp x = false → exec (.netFrameRx x f) s = .next s)
      ∧ (s.linkUp x = true → 2000 < f.len → Completes (.netFrameRx x f) s fun t => t.net = s.net
        ∧ (t.reg R.NET_OVERSIZE).toNat = satInc32 (s.reg R.NET_OVERSIZE).toNat)
      ∧ (s.linkUp x = true → f.len ≤ 2000 → f.fcsOk = false → Completes (.netFrameRx x f) s fun t => t.net = s.net
        ∧ (t.reg R.NET_FCSERR).toNat = satInc32 (s.reg R.NET_FCSERR).toNat)
      ∧ (∀ o q, f.payload = .macControl o q → o ≠ 1 → s.linkUp x = true → f.len ≤ 2000 → f.fcsOk = true →
        Completes (.netFrameRx x f) s fun t => t.net = s.net ∧ (t.reg R.NET_PFC).toNat = satInc32 (s.reg R.NET_PFC).toNat)
      ∧ (s.linkUp x = true → f.len ≤ 2000 → f.fcsOk = true → (∀ o q, f.payload ≠ .macControl o q) → s.chain = true →
        f.src ≠ s.ownMac → f.dst ≠ s.ownMac → groupMac f.dst = false → (learn f.src.toNat x s).forwards x f = true →
        ((s.room (s.classF f) f.len).isSome = true → Completes (.netFrameRx x f) s fun t =>
          t.queue (1 - x.val) = s.queue (1 - x.val) ++ [{ id := s.net.nextId, cls := s.classF f, len := f.len
                                                          ptp := (match f.payload with | .ptp k _ _ corr => some (k, corr, x.val) | _ => none) }]
            ∧ t.queue x = s.queue x ∧ t.net.learned = (learn f.src.toNat x s).net.learned
            ∧ ((∀ k a b d, f.payload ≠ .ptp k a b d) → t.regs = s.regs))
        ∧ (s.room (s.classF f) f.len = none → Completes (.netFrameRx x f) s fun t => t.net.queues = s.net.queues
          ∧ (t.reg (dropReg (s.classF f))).toNat = satInc32 (s.reg (dropReg (s.classF f))).toNat))
      ∧ (∀ (src dst : Word) (port : BitVec 16) (dscp : BitVec 6) (pt : BitVec 7) (ts : Word) (seq : BitVec 16)
          (smp : List (List Sample)) (h : Nat) (k : StreamCfg) (leg : Nat),
        f.payload = .rtp src dst port dscp false pt ts seq smp → s.linkUp x = true → f.len ≤ 2000 → f.fcsOk = true →
        s.chain = false → f.dst = s.ownMac → f.ipCsumOk = true → f.udpCsumZeroOrOk = true →
        s.rtpMatch x src dst port.toNat = some (h, k, leg) → (s.room 1 f.len).isSome = true → leg < 2 →
        Completes (.netFrameRx x f) s fun t => t.on (if leg = 1 then F.NET_RXSTAT_LEGB h else F.NET_RXSTAT_LEGA h) = true
          ∧ (pt.toNat ≠ k.pt → t.get ⟨R.NET_RXLATE h, 15, 0⟩ = min 65535 (s.get ⟨R.NET_RXLATE h, 15, 0⟩ + 1))
          ∧ (pt.toNat = k.pt → k.t1s = false → kgetD (s.rx h).got (nearMti (ts - k.off) s.mti) 0 = 0 →
            s.mti < (nearMti (ts - k.off) s.mti + s.lofsSamples k) / s.roundLen * s.roundLen + s.roundLen →
            nearMti (ts - k.off) s.mti + s.lofsSamples k + (smp.length - 1)
              ≤ s.mti + s.samplesOf 2000 + 2 * sppOf s.rateClass k.ptime →
            ∀ i g, smp[i]? = some g →
              kget (t.rx h).buf (nearMti (ts - k.off) s.mti + s.lofsSamples k + i) = some (rtpSamples k g))))
    ∧ (∀ (x : Fin 4) (f : Frame), 2 ≤ x.val → s.on (F.T1S_CFG_EN (x.val - 2)) = false → exec (.netFrameRx x f) s = .next s)
    ∧ (∀ (x : Fin 4) (res : Nat),
      (s.tnd.failed = true ∨ s.linkUp x = false ∨ (x.val < 2 ∧ (s.pauseOf x).till.isSome = true)
        ∨ nextFrame (s.queue x) = none → exec (.netFrameTx x res) s = .next s)
      ∧ (∀ f : QFrame, s.tnd.failed = false → s.linkUp x = true → (x.val < 2 → (s.pauseOf x).till = none) →
        nextFrame (s.queue x) = some f → Completes (.netFrameTx x res) s fun t =>
          t.queue x = (s.queue x).erase f ∧ kget t.net.out x = some (s.asSent x res f)))
    ∧ (∀ mac : BitVec 48, Completes (.addressAgeOut mac) s fun t =>
        t.net = { s.net with learned := s.net.learned.filter fun l => l.1 != mac.toNat } ∧ t.regs = s.regs)
    ∧ (s.chain = false ∨ s.netOn = false → exec .loopProbe s = .next s)
    ∧ (s.chain = true → s.netOn = true → ∀ p : Fin 2, s.linkUp p = true → p.val = 0 ∨ s.linkUp 0 = false →
        (s.room 2 64).isSome = true → Completes .loopProbe s fun t =>
          t.queue p = s.queue p ++ [{ id := s.net.nextId, cls := 2, len := 64 }])
    ∧ (s.chain = true → s.netOn = true → s.linkUp 0 = true → s.linkUp 1 = true → (s.room 2 64).isSome = true →
        ((enqueue 2 64 [0] (fun id _ => { id := id, cls := 2, len := 64 }) s).1.room 2 64).isSome = true →
        Completes .loopProbe s fun t =>
          t.queue 1 = s.queue 1 ++ [{ id := s.net.nextId + 1, cls := 2, len := 64 }])

/-- Streams (R272, R280, R281, R287, R458): a stream command takes a free handle of its direction and puts the start of
the stream on the schedule; it is refused for a stream the rules exclude. STREAM_REMOVE schedules its end. A leg
without packets for 100 ms is down.
Transmission (R285, R289, R297, R298): a T1S port sends the first frame of its queue, or drops it after too many or a late
collision, each counted; a PTP instance whose NET_A port is master sends its Sync and its Announce, with the dataset
of R298, from it, and instance 0 serves the T1S ports when it supplies the reference.
Where the rules leave a reading open, it is the model's choice (assumption 27). -/
def Obligations.StreamsAndT1s : Prop :=
  (∀ (s : State) (c : Cmd),
    (∀ (rx : Bool) (code : Nat), code = (if rx then 0x0401 else 0x0402) →
      s.takes c code (if rx then 10 else 9) false = true →
      (s.streamHandle c rx = none → Completes (if rx then .streamRxAdd c else .streamTxAdd c) s fun t =>
        t.net = s.net ∧ t.answered c code rcNoSpace 0 [])
      ∧ (∀ h : Nat, s.streamHandle c rx = some h →
        (decide (h < 256) ≠ rx → Completes (if rx then .streamRxAdd c else .streamTxAdd c) s fun t =>
          t.net = s.net ∧ t.answered c code rcMalformed 0 [])
        ∧ (decide (h < 256) = rx → (s.stream h).isSome = true ∨ s.streamRefused rx (streamOf c rx h) = true →
          Completes (if rx then .streamRxAdd c else .streamTxAdd c) s fun t =>
            t.net = s.net ∧ t.answered c code rcRefused 0 [])
        ∧ (decide (h < 256) = rx → s.stream h = none → s.streamRefused rx (streamOf c rx h) = false →
          (streamHeld rx h (streamOf c rx h) (bit (cw c 7) 24) s).freeFor c [runEntry h] = true →
          Completes (if rx then .streamRxAdd c else .streamTxAdd c) s fun t =>
            t.stream h = some (streamOf c rx h)
            ∧ ∃ pl ∈ t.hamp.plans, pl.entries = [runEntry h] ∧ pl.s = 0
              ∧ t.answered c code rcScheduled 0 (word h :: mtiWords pl.p))))
    ∧ (s.takes c 0x0403 1 false = true →
      (s.stream (bits (cw c 1) 8 0) = none → Completes (.streamRemove c) s fun t =>
        t.net = s.net ∧ t.answered c 0x0403 rcRefused 0 [])
      ∧ ((s.stream (bits (cw c 1) 8 0)).isSome = true → s.freeFor c [removeEntry c] = true →
        Completes (.streamRemove c) s fun t => t.planned c 0x0403 [removeEntry c] 0))
    ∧ (∀ (h : BitVec 8) (k : StreamCfg) (b : Bool), s.stream h.toNat = some k →
      s.on (if b then F.NET_RXSTAT_LEGB h.toNat else F.NET_RXSTAT_LEGA h.toNat) = true →
      ((∀ n, (if b then (s.rx h.toNat).lastB else (s.rx h.toNat).lastA) = some n → n + s.samplesOf 10000 ≤ s.mti) →
        Completes (.streamLegDown h b) s fun t =>
          t.get (if b then F.NET_RXSTAT_LEGB h.toNat else F.NET_RXSTAT_LEGA h.toNat) = 0)
      ∧ (∀ n, (if b then (s.rx h.toNat).lastB else (s.rx h.toNat).lastA) = some n → s.mti < n + s.samplesOf 10000 →
        exec (.streamLegDown h b) s = .next s)))
  ∧ (∀ s : State,
    (∀ (q : Fin 2) (r : T1sResult),
      (s.tnd.failed = true ∨ s.linkUp (2 + q.val) = false ∨ s.queue (2 + q.val) = [] → exec (.t1sFrameTx q r) s = .next s)
      ∧ (∀ f : QFrame, s.tnd.failed = false → s.linkUp (2 + q.val) = true → nextFrame (s.queue (2 + q.val)) = some f →
        (∀ n, r = .sent n → Completes (.t1sFrameTx q r) s fun t => t.queue (2 + q.val) = (s.queue (2 + q.val)).erase f
          ∧ kget t.net.out (2 + q.val) = some (s.asSent (2 + q.val) 0 f)
          ∧ (t.reg (R.T1S_COLL q)).toNat = min 4294967295 ((s.reg (R.T1S_COLL q)).toNat + n))
        ∧ (r = .excessive → Completes (.t1sFrameTx q r) s fun t => t.queue (2 + q.val) = (s.queue (2 + q.val)).erase f
          ∧ t.net.out = s.net.out ∧ (t.reg (R.T1S_EXCOL q)).toNat = satInc32 (s.reg (R.T1S_EXCOL q)).toNat
          ∧ (t.reg (R.T1S_COLL q)).toNat = min 4294967295 ((s.reg (R.T1S_COLL q)).toNat + 16)
          ∧ t.get (F.T1S_STAT_COLLEV q) = 1)
        ∧ (∀ n, r = .late n → Completes (.t1sFrameTx q r) s fun t => t.queue (2 + q.val) = (s.queue (2 + q.val)).erase f
          ∧ t.net.out = s.net.out ∧ (t.reg (R.T1S_LATECOL q)).toNat = satInc32 (s.reg (R.T1S_LATECOL q)).toNat
          ∧ t.get (F.T1S_STAT_COLLEV q) = 1)))
    ∧ (∀ (i : Fin 3) (k : PtpKind), (s.inst i).en = false → exec (.syncInterval i k) s = .next s)
    ∧ ((s.inst 0).en = true → (s.inst 0).portA = .master → s.chain = false → s.linkUp 0 = true →
        (s.room 0 90).isSome = true → Completes (.syncInterval 0 .sync) s fun t =>
          t.queue 0 = s.queue 0 ++ [{ id := s.net.nextId, cls := 0, len := 90, ptp := some (.sync, 0, 2) }])
    ∧ ((s.inst 0).en = true → (s.inst 2).en = false → s.get F.REFS_STAT_SEL = 0 → ∀ q : Fin 2,
        s.on (F.T1S_CFG_EN q) = true → Completes (.syncInterval 0 .sync) s fun t =>
          t.queue (2 + q.val) = s.queue (2 + q.val) ++ [{ id := 0, cls := 0, len := 90, ptp := some (.sync, 0, 2) }])
    ∧ ((s.inst 0).en = true → (s.inst 0).portA = .master → s.chain = false → s.linkUp 0 = true →
        (s.room 0 110).isSome = true → Completes (.syncInterval 0 .announce) s fun t =>
          t.queue 0 = s.queue 0
            ++ [{ id := s.net.nextId, cls := 0, len := 110, ptp := some (.announce, 0, 2), gm := some (s.announced 0) }]))

/-- PTP (R289, R290, R296, R457): PTP_CFG sets an instance up with its fields limited, or is refused where the rules
exclude it; the best master algorithm decides the parent, and only the port states the role allows; the link delay measured is the
one in use.
REALIGN (R307, R314): one that names an offset that is not zero begins, by a step only in mode 3; one that names none
is DONE at once; at its end the named offsets are zero and the tag completes. A write of its register does the same, without a tag. -/
def Obligations.PtpAndRealignment : Prop :=
  (∀ s : State,
    (∀ c : Cmd, s.takes c 0x0404 3 false = true →
      (bits (cw c 1) 1 0 = 3 → Completes (.ptpCfg c) s fun t => t.ref = s.ref ∧ t.answered c 0x0404 rcMalformed 0 [])
      ∧ (bits (cw c 1) 1 0 ≠ 3 → s.ptpConflict (bits (cw c 1) 1 0) (bits (cw c 1) 6 5) (bit (cw c 1) 11) = true →
        Completes (.ptpCfg c) s fun t => t.ref = s.ref ∧ t.answered c 0x0404 rcRefused 0 [])
      ∧ (bits (cw c 1) 1 0 ≠ 3 → s.ptpConflict (bits (cw c 1) 1 0) (bits (cw c 1) 6 5) (bit (cw c 1) 11) = false →
        Completes (.ptpCfg c) s fun t =>
          (t.inst (bits (cw c 1) 1 0)).en = bit (cw c 1) 11 ∧ (t.inst (bits (cw c 1) 1 0)).role = bits (cw c 1) 6 5
          ∧ (t.inst (bits (cw c 1) 1 0)).profile = min 3 (bits (cw c 1) 4 2)
          ∧ (t.inst (bits (cw c 1) 1 0)).domain = min 127 (bits (cw c 2) 7 0)
          ∧ (t.inst (bits (cw c 1) 1 0)).prio1 = bits (cw c 3) 7 0 ∧ (t.inst (bits (cw c 1) 1 0)).prio2 = bits (cw c 3) 15 8
          ∧ (t.inst (bits (cw c 1) 1 0)).annrx = clampNat 2 10 (bits (cw c 3) 19 16)
          ∧ (bit (cw c 1) 11 = false → (t.inst (bits (cw c 1) 1 0)).portA = .disabled
              ∧ (t.inst (bits (cw c 1) 1 0)).portB = .disabled)
          ∧ (∀ j, j ≠ bits (cw c 1) 1 0 → t.inst j = s.inst j) ∧ t.repliedDone c 0x0404))
    ∧ (∀ (i : Fin 3) (a b : PtpPort) (gm : Option GmData),
      ((s.inst i).en = false → exec (.bmcaRun i a b gm) s = .next s)
      ∧ ((s.inst i).en = true → Completes (.bmcaRun i a b gm) s fun t => (t.inst i).parent = gm ∧
        (t.inst i).portA = (if i.val = 1 then .disabled else rolePort (s.inst i).role a)
        ∧ (t.inst i).portB = (if i.val = 0 then .disabled
            else if i.val = 2 ∧ rolePort (s.inst i).role a = .slave ∧ rolePort (s.inst i).role b = .slave then .passive
            else rolePort (s.inst i).role b)
        ∧ ∀ j, j ≠ i.val → t.inst j = s.inst j))
    ∧ (∀ (x : Fin 2) (delay : Nat),
      ((s.inst 0).p2p = true ∨ (s.inst 1).p2p = true ∨ (s.inst 2).p2p = true
          ∨ (s.get F.NET_CTL_MODE = 1 ∧ (s.inst 0).tcP2p = true) → Completes (.pdelayExchange x delay) s fun t =>
        kget t.ref.linkDelay x = some delay ∧ t.ref.insts = s.ref.insts ∧ t.regs = s.regs)
      ∧ ((s.inst 0).p2p = false → (s.inst 1).p2p = false → (s.inst 2).p2p = false →
          ¬ (s.get F.NET_CTL_MODE = 1 ∧ (s.inst 0).tcP2p = true) → exec (.pdelayExchange x delay) s = .next s)))
  ∧ (∀ s : State,
    (∀ c : Cmd, s.takes c 0x0303 1 false = true →
      (bit (cw c 1) 30 = true → s.get F.TIME_CTL_MODE ≠ 3 → Completes (.realign c) s fun t =>
        t.ref = s.ref ∧ t.answered c 0x0303 rcRefused 0 [])
      ∧ (bit (cw c 1) 30 = false ∨ s.get F.TIME_CTL_MODE = 3 →
        (s.realignNamed (bits (cw c 1) 18 16) = false → Completes (.realign c) s fun t =>
          t.ref.realign = none ∧ t.repliedDone c 0x0303)
        ∧ (s.realignNamed (bits (cw c 1) 18 16) = true → Completes (.realign c) s fun t =>
          t.ref.realign = some ⟨bit (cw c 1) 30, bits (cw c 1) 18 16, clampNat 1 5000 (bits (cw c 1) 12 0), s.time.dur,
            some (s.tokOf c 0x0303)⟩
          ∧ t.get F.REFS_REALIGN_BUSY = 1 ∧ t.answered c 0x0303 rcScheduled 0 [])))
    ∧ (∀ v : Word, bit v 31 = true → bit v 30 = true → s.get F.TIME_CTL_MODE ≠ 3 → exec (.realignWrite v) s = .next s)
    ∧ (∀ v : Word, bit v 31 = true → bit v 30 = false ∨ s.get F.TIME_CTL_MODE = 3 → s.realignNamed (bits v 18 16) = false →
      Completes (.realignWrite v) s fun t => t.ref.realign = none ∧ t.get F.REFS_REALIGN_TGT = bits v 18 16)
    ∧ (∀ v : Word, bit v 31 = true → bit v 30 = false ∨ s.get F.TIME_CTL_MODE = 3 → s.realignNamed (bits v 18 16) = true →
      Completes (.realignWrite v) s fun t =>
        t.ref.realign = some ⟨bit v 30, bits v 18 16, clampNat 1 5000 (bits v 12 0), s.time.dur, none⟩
        ∧ t.get F.REFS_REALIGN_BUSY = 1)
    ∧ (∀ v : Word, bit v 31 = false → Completes (.realignWrite v) s fun t => t.ref = s.ref
        ∧ t.get F.REFS_REALIGN_STEP = bits v 30 30 ∧ t.get F.REFS_REALIGN_TGT = bits v 18 16
        ∧ t.get F.REFS_REALIGN_RATE = clampNat 1 5000 (bits v 12 0) ∧ ∀ a, a ≠ R.REFS_REALIGN → t.reg a = s.reg a)
    ∧ (∀ r : RealignSt, s.ref.realign = some r →
      (r.step = true → exec .realignDone s = .next s)
      ∧ (r.step = false → s.realignReached r = false → exec .realignDone s = .next s)
      ∧ (r.step = false → s.realignReached r = true → Completes .realignDone s fun t => t.ref.realign = none ∧ t.get F.REFS_REALIGN_BUSY = 0
        ∧ (r.tgt % 2 = 1 → t.absorbed = 0) ∧ (r.tgt / 2 % 2 = 1 → t.reg R.REFS_WCOFS = 0)
        ∧ (r.tgt / 4 % 2 = 1 → t.reg R.REFS_PPSOFS = 0)
        ∧ ∀ k : Tok, r.tok = some k → k.gen = (s.outbox (Sender.key k.sender)).gen → kget (s.outbox (Sender.key k.sender)).tags k.tag.toNat = some k.code →
            kget (t.outbox (Sender.key k.sender)).tags k.tag.toNat = none))
    ∧ (s.ref.realign = none → exec .realignDone s = .next s))

/-- References (R39, R300, R301, R302, R304, R305, R308, R456): a candidate measured inside the window waits and is then
qualified, one outside twice in a row is not any more, one that is absent or lost is gone; the loss of the last
qualified one ends in free run; a switch absorbs the measured offset in mode 1, and ends; an acquisition that may step asks for one step of an offset
above the threshold. SET_REF_PRIORITY writes the
settings with their limits.
Where the rules leave a reading open, it is the model's choice (assumptions 30, 84 and 98). -/
def Obligations.ReferencesAreSelected : Prop :=
  ∀ s : State,
    (∀ (cands : List CandMeas) (c : Nat) (m : CandMeas), c < 5 → cands[c]? = some m →
      (m.present = false ∨ s.candPossible c = false → Completes (.refMeasure cands) s fun t =>
        t.get (F.REFS_CSTAT_STATE c) = 0 ∧ t.get (F.REFS_CSTAT_FOFS c) = 0)
      ∧ (m.present = true → s.candPossible c = true →
        (s.get (F.REFS_CSTAT_STATE c) ≤ 1 → Completes (.refMeasure cands) s fun t =>
          t.get (F.REFS_CSTAT_STATE c)
            = (if m.fofs.natAbs ≤ s.get F.REFS_QUAL_WIN * 10 - s.get F.REFS_QUAL_HYST * 10 then 2 else 1))
        ∧ (s.get (F.REFS_CSTAT_STATE c) = 2 → s.on F.REFS_STAT_SWITCHING = false →
          m.fofs.natAbs ≤ s.get F.REFS_QUAL_WIN * 10 - s.get F.REFS_QUAL_HYST * 10 →
          Completes (.refMeasure cands) s fun t => t.get (F.REFS_CSTAT_STATE c)
            = (if min (s.get (F.REFS_CSTAT_WTRREM c)) s.wtrFull ≤ 1 then 3 else 2))
        ∧ (s.get (F.REFS_CSTAT_STATE c) = 3 → m.fofs.natAbs ≤ s.get F.REFS_QUAL_WIN * 10 →
          Completes (.refMeasure cands) s fun t => t.get (F.REFS_CSTAT_STATE c) = 3 ∧ c ∉ t.ref.outside)
        ∧ (s.get (F.REFS_CSTAT_STATE c) = 3 → s.get F.REFS_QUAL_WIN * 10 < m.fofs.natAbs →
          Completes (.refMeasure cands) s fun t =>
            if c ∈ s.ref.outside then t.get (F.REFS_CSTAT_STATE c) = 1
            else t.get (F.REFS_CSTAT_STATE c) = 3 ∧ c ∈ t.ref.outside)))
    ∧ (∀ c : Fin 7, c.val ≠ 6 → Completes (.candidateLoss c) s fun t => t.get (F.REFS_CSTAT_STATE c) = 0
        ∧ (s.standby = false → s.on F.REFS_STAT_SWITCHING = false → s.get F.REFS_STAT_SEL = c.val →
          (∀ d, d < 5 → d ≠ c.val → s.qualified d = false) →
          t.get F.REFS_STAT_SEL = 6 ∧ t.get F.REFS_STAT_FREERUN = 1 ∧ t.get F.REFS_STAT_SWITCHING = 0
          ∧ t.get F.REFS_STAT_SWEV = 1 ∧ t.ref.incoming = none))
    ∧ (exec (.candidateLoss 6) s = .next s)
    ∧ (∀ (d : Int) (c : Nat), s.ref.incoming = some (c, false) → -(2 ^ 63) ≤ d → d < 2 ^ 63 →
      (s.measuredLong c = false → exec (.refSwitchMeasured d) s = .next s)
      ∧ (s.measuredLong c = true → Completes (.refSwitchMeasured d) s fun t => t.ref.incoming = some (c, true)
          ∧ t.absorbed = (if s.standby = false ∧ s.get F.TIME_CTL_MODE = 1 then d else 0)))
    ∧ (∀ d : Int, (∀ c, s.ref.incoming ≠ some (c, false)) →
      (s.standby = true ∨ s.get F.TIME_CTL_MODE = 1 ∨ s.get F.REFS_STAT_SEL = 6 ∨ s.time.acqStep = false →
        exec (.refSwitchMeasured d) s = .next s)
      ∧ (s.standby = false → s.get F.TIME_CTL_MODE ≠ 1 → s.get F.REFS_STAT_SEL ≠ 6 → s.time.acqStep = true →
        Completes (.refSwitchMeasured d) s fun t => t.time.acqStep = false ∧ t.ref = s.ref
          ∧ (d.natAbs ≤ (if s.get F.TIME_CTL_STHR = 0x3FF then 100 else (s.get F.TIME_CTL_STHR + 1) * 1000) →
              t.regs = s.regs ∧ t.time.stepReq = s.time.stepReq)
          ∧ ((if s.get F.TIME_CTL_STHR = 0x3FF then 100 else (s.get F.TIME_CTL_STHR + 1) * 1000) < d.natAbs →
              t.get F.TIME_STEPCTL_GO = 1
              ∧ t.time.stepReq = some (word (d.natAbs / 1000000000), BitVec.ofNat 30 (d.natAbs % 1000000000), decide (0 < d)))))
    ∧ (∀ b : Bool,
      (s.on F.REFS_STAT_SWITCHING = true → s.ref.switchAt + (if b then 1 else 10) * sec32 ≤ s.time.dur →
        Completes (.refSwitchEnd b) s fun t =>
        t.get F.REFS_STAT_SWITCHING = 0 ∧ t.ref.incoming = none ∧ t.get F.REFS_STAT_SEL = s.get F.REFS_STAT_SEL)
      ∧ (s.on F.REFS_STAT_SWITCHING = false ∨ s.time.dur < s.ref.switchAt + (if b then 1 else 10) * sec32 →
        exec (.refSwitchEnd b) s = .next s))
    ∧ (∀ c : Cmd, s.takes c 0x0302 12 false = true → Completes (.setRefPriority c) s fun t =>
        (∀ k, k < 5 → t.get ⟨R.REFS_PRIO, 3 * k + 2, 3 * k⟩ = bits (cw c 1) (3 * k + 2) (3 * k))
        ∧ t.get F.REFS_CTL_FORCE = bits (cw c 2) 2 0 ∧ t.get F.REFS_CTL_REVERT = bits (cw c 2) 4 4
        ∧ t.get F.REFS_QUAL_WIN = clampNat 1 500 (bits (cw c 3) 8 0)
        ∧ t.get F.REFS_QUAL_HYST = min (clampNat 1 500 (bits (cw c 3) 8 0) / 2) (bits (cw c 3) 16 9)
        ∧ t.get F.REFS_QUAL_WTR = clampNat 1 300 (bits (cw c 3) 25 17)
        ∧ t.get F.REFS_DPLL_BW = clampNat 1 100 (bits (cw c 4) 6 0) ∧ t.repliedDone c 0x0302)

/-- The start and stop of an amplifier channel (R324, R326, R327, R328, R329): START from the emission of the first sample
with RUN, the polarity check, the self-oscillation, then RUN or, without a toggle, FAULT with FBOPEN; OFF after the stop
ramp; a loop fault or a comparator that rests in RUN or RETURN is a FAULT. A step out of its turn changes nothing.
Short circuits (R333, R334, R335): the eighth limited cycle in a row enters SHORT and is not counted with the cycles
of shorter runs; probes begin when they are due, a failed one is counted and a good one enters RETURN, whose ramp
ends in RUN; the failure count clears 10 s after the last SHORT.
Where the rules leave a reading open, it is the model's choice (assumptions 19 and 84). -/
def Obligations.Amplifiers : Prop :=
  (∀ (s : State) (ch : Fin 32),
    (∀ n : Nat, (s.amp ch).startDue = some n →
      (s.emissionOf n ≤ s.now → Completes (.ampStart ch) s fun t =>
        t.ampState ch = 1 ∧ (t.amp ch).startDue = none ∧ (t.amp ch).phase = 0 ∧ (t.amp ch).startAt = s.time.dur ∧ t.get (F.AMP_STAT_FBREV ch) = 0
        ∧ (s.ampState ch = 6 → t.get (F.AMP_STAT_FBOPEN ch) = 0 ∧ t.get (F.AMP_STAT_LOOPERR ch) = 0))
      ∧ (s.now < s.emissionOf n → exec (.ampStart ch) s = .next s))
    ∧ ((s.amp ch).startDue = none → exec (.ampStart ch) s = .next s)
    ∧ (∀ r : Bool,
      (s.ampState ch = 1 → (s.amp ch).phase = 0 → (s.amp ch).startAt + 8 * 1000 * 2 ^ 32 ≤ s.time.dur →
        Completes (.ampPolarityCheck ch r) s fun t =>
        (t.amp ch).phase = 1 ∧ t.ampState ch = 1
        ∧ t.get (F.AMP_STAT_FBREV ch) = (if r then 1 else s.get (F.AMP_STAT_FBREV ch)))
      ∧ (s.ampState ch ≠ 1 ∨ (s.amp ch).phase ≠ 0 ∨ s.time.dur < (s.amp ch).startAt + 8 * 1000 * 2 ^ 32 →
        exec (.ampPolarityCheck ch r) s = .next s))
    ∧ (s.ampState ch = 1 → (s.amp ch).phase = 1 → (s.amp ch).startAt + 10 * 1000 * 2 ^ 32 ≤ s.time.dur →
      Completes (.ampOscEnable ch) s fun t => (t.amp ch).phase = 2 ∧ t.regs = s.regs)
    ∧ (s.ampState ch ≠ 1 ∨ (s.amp ch).phase ≠ 1 ∨ s.time.dur < (s.amp ch).startAt + 10 * 1000 * 2 ^ 32 → exec (.ampOscEnable ch) s = .next s)
    ∧ (∀ g : Bool,
      (s.ampState ch = 1 → (s.amp ch).phase = 2 → (s.amp ch).startAt + 20 * 1000 * 2 ^ 32 ≤ s.time.dur →
        Completes (.ampStartCheck ch g) s fun t =>
        if g then t.ampState ch = 2 ∧ (t.amp ch).rampFrom = some s.now
        else t.ampState ch = 6 ∧ t.get (F.AMP_STAT_FBOPEN ch) = 1)
      ∧ (s.ampState ch ≠ 1 ∨ (s.amp ch).phase ≠ 2 ∨ s.time.dur < (s.amp ch).startAt + 20 * 1000 * 2 ^ 32 →
        exec (.ampStartCheck ch g) s = .next s))
    ∧ (∀ n : Nat, (s.amp ch).stopDue = some n →
      (s.emissionOf n + s.samplesOf 1000 ≤ s.now → Completes (.ampStopRampEnd ch) s fun t =>
        t.ampState ch = 0 ∧ (t.amp ch).stopDue = none)
      ∧ (s.now < s.emissionOf n + s.samplesOf 1000 → exec (.ampStopRampEnd ch) s = .next s))
    ∧ ((s.amp ch).stopDue = none → exec (.ampStopRampEnd ch) s = .next s)
    ∧ (s.ampState ch = 2 ∨ s.ampState ch = 4 → Completes (.ampFbopen ch) s fun t =>
        t.ampState ch = 6 ∧ t.get (F.AMP_STAT_FBOPEN ch) = 1)
    ∧ (s.ampState ch = 2 ∨ s.ampState ch = 4 → Completes (.ampLooperr ch) s fun t =>
        t.ampState ch = 6 ∧ t.get (F.AMP_STAT_LOOPERR ch) = 1)
    ∧ (s.ampState ch ≠ 2 → s.ampState ch ≠ 4 →
        exec (.ampFbopen ch) s = .next s ∧ exec (.ampLooperr ch) s = .next s))
  ∧ (∀ (s : State) (ch : Fin 32),
    (∀ k : Bool,
      (s.ampState ch = 2 ∨ s.ampState ch = 4 ∨ (s.ampState ch = 1 ∧ (s.amp ch).phase = 2) →
        (k = true → 7 ≤ (s.amp ch).limRun → Completes (.ampCurrentLimit ch k) s fun t =>
          t.ampState ch = 3 ∧ t.get (F.AMP_STAT_SHORTEV ch) = 1 ∧ t.reg (R.AMP_LIMCNT ch) = (s.amp ch).limBase
          ∧ (t.reg (R.AMP_SHORTS ch)).toNat = satInc32 (s.reg (R.AMP_SHORTS ch)).toNat
          ∧ (t.amp ch).shortAt = s.time.dur ∧ (t.amp ch).probing = false)
        ∧ (k = false ∨ (s.amp ch).limRun < 7 → Completes (.ampCurrentLimit ch k) s fun t =>
          t.ampState ch = s.ampState ch ∧ (t.reg (R.AMP_LIMCNT ch)).toNat = satInc32 (s.reg (R.AMP_LIMCNT ch)).toNat
          ∧ (t.amp ch).limRun = (if k then (s.amp ch).limRun else 0) + 1))
      ∧ (s.ampState ch ≠ 2 → s.ampState ch ≠ 4 → (s.ampState ch = 1 → (s.amp ch).phase ≠ 2) →
        exec (.ampCurrentLimit ch k) s = .next s))
    ∧ (s.ampState ch = 3 → (s.amp ch).probing = false → (s.paired ch = true → (s.amp (partner ch)).probing = false) →
      s.probeDue ch ≤ s.time.dur → Completes (.ampProbe ch) s fun t =>
        (t.amp ch).probing = true ∧ (t.amp ch).lastProbe = some s.time.dur ∧ t.regs = s.regs)
    ∧ (s.ampState ch ≠ 3 ∨ (s.amp ch).probing = true ∨ (s.paired ch = true ∧ (s.amp (partner ch)).probing = true)
        ∨ s.time.dur < s.probeDue ch → exec (.ampProbe ch) s = .next s)
    ∧ (∀ (lim : Bool) (z : BitVec 24), s.ampState ch = 3 → (s.amp ch).probing = true →
      (∀ b, (s.amp ch).lastProbe = some b → b + ms32 2 ≤ s.time.dur) →
      (lim = true ∨ s.probeLow ch z.toNat = true → Completes (.ampProbeEnd ch lim z) s fun t =>
        t.ampState ch = 3 ∧ (t.amp ch).probing = false
        ∧ t.get (F.AMP_PROBEF_CUR ch) = min 255 (s.get (F.AMP_PROBEF_CUR ch) + 1)
        ∧ t.get (F.AMP_PROBEF_TOTAL ch) = min 65535 (s.get (F.AMP_PROBEF_TOTAL ch) + 1))
      ∧ (lim = false → s.probeLow ch z.toNat = false → Completes (.ampProbeEnd ch lim z) s fun t =>
        t.ampState ch = 4 ∧ (t.amp ch).probing = false ∧ (t.amp ch).rampFrom = some s.now
        ∧ t.reg (R.AMP_PROBEF ch) = s.reg (R.AMP_PROBEF ch)))
    ∧ (∀ (lim : Bool) (z : BitVec 24), s.ampState ch ≠ 3 ∨ (s.amp ch).probing = false
        ∨ (∃ b, (s.amp ch).lastProbe = some b ∧ s.time.dur < b + ms32 2) → exec (.ampProbeEnd ch lim z) s = .next s)
    ∧ (s.ampState ch ≠ 4 ∨ (s.amp ch).rampFrom = none → exec (.ampReturnEnd ch) s = .next s)
    ∧ ((s.amp ch).shortEnd = none → exec (.probeFailureCountClear ch) s = .next s)
    ∧ (∀ n : Nat, s.ampState ch = 4 → (s.amp ch).rampFrom = some n →
      (n + s.samplesOf 50000 ≤ s.now → Completes (.ampReturnEnd ch) s fun t => t.ampState ch = 2)
      ∧ (s.now < n + s.samplesOf 50000 → exec (.ampReturnEnd ch) s = .next s))
    ∧ (∀ n : Nat, (s.amp ch).shortEnd = some n →
      (s.ampState ch ≠ 3 → n + ms32 10000 ≤ s.time.dur → Completes (.probeFailureCountClear ch) s fun t =>
        t.get (F.AMP_PROBEF_CUR ch) = 0 ∧ t.get (F.AMP_PROBEF_TOTAL ch) = s.get (F.AMP_PROBEF_TOTAL ch)
        ∧ t.supv = s.supv)
      ∧ (s.ampState ch = 3 ∨ s.time.dur < n + ms32 10000 → exec (.probeFailureCountClear ch) s = .next s)))

/-- Line supervision (R337, R338, R339, R340, R345, R346): once MINT has passed, an interval's measurements are taken from a
channel that measures, with |Z| = |V| / |I| to one place, the line state its ratio stands for, the earth leakage by R339 and
the return leakage by R340, and their flags with hysteresis; a sweep due begins once, takes its points and ends.
Where the rules leave a reading open, it is the model's choice (assumptions 19, 88 and 105).
The commands of the amplifiers (R336, R337, R341, R345, R453, R465): AMP_CFG writes the line limits its mask names and puts
RUN and PILOTON on the schedule, or is refused for a pilot frequency too close to another; AMP_PAIR pairs two channels
that are OFF; a baseline and a quiet sweep are put on the schedule; RAIL_CFG writes a rail group.
Where the rules leave a reading open, it is the model's choice (assumptions 19, 20 and 84). -/
def Obligations.LineSupervision : Prop :=
  (∀ s : State,
    (∀ (lines : List LineMeas) (groups : List GroupMeas), s.intervalDue = false → exec (.supvInterval lines groups) s = .next s)
    ∧ (∀ (lines : List LineMeas) (groups : List GroupMeas) (m : LineMeas), s.intervalDue = true →
      (lines.filter fun x => x.ch == m.ch) = [m] →
      s.standby = false → s.paired m.ch = false → Completes (.supvInterval lines groups) s fun t =>
        t.get (F.AMP_FSW_FLO m.ch) = m.flo.toNat ∧ t.get (F.AMP_FSW_FHI m.ch) = m.fhi.toNat
        ∧ (s.measures m = true → ∀ k, k = s.get (F.AMP_SENSE_RSO m.ch) → 0 < k →
          ∀ num den : Nat, num = 10000 * (m.v * s.get (F.AMP_SCALE_FSV m.ch) * k) →
          den = 2 ^ 46 * (m.iRe.natAbs ^ 2 + m.iIm.natAbs ^ 2) → 0 < den → ∀ z, t.get (F.AMP_ZMAG_VALUE m.ch) = z →
            z < 0xFFFFFF → (z - 1) ^ 2 * den ≤ num ^ 2 ∧ num ^ 2 < (z + 1) ^ 2 * den)
        ∧ (s.measures m = false → t.get (F.AMP_ZMAG_VALUE m.ch) = s.get (F.AMP_ZMAG_VALUE m.ch)
          ∧ t.get (F.AMP_LINE_LSTATE m.ch) = s.get (F.AMP_LINE_LSTATE m.ch))
        ∧ (s.measures m = true → s.on (F.SUPV_EFCFG_EN (m.ch / 8 : Nat)) = true →
          t.get (F.AMP_LINE_EARTH m.ch) = flag (leakFlag (s.on (F.AMP_LINE_EARTH m.ch)) (t.get (F.AMP_LEAK_RLEAK m.ch)))
          ∧ ∀ volt earth num x : Nat, volt = m.v * s.get (F.AMP_SCALE_FSV m.ch) * 100 * s.get (F.SUPV_EFSCALE_KEF (m.ch / 8 : Nat)) →
            earth = 2 ^ 23 * m.earth → 0 < earth → num = s.get (F.SUPV_EFCFG_RREF (m.ch / 8 : Nat)) * (volt - earth) →
            x = t.get (F.AMP_LEAK_RLEAK m.ch) →
              (num < 1000000 * earth → x * earth < num + earth ∧ num < (x + 1) * earth)
              ∧ (1000001 * earth ≤ num → x = 0xFFFFF))
        ∧ (s.measures m = true → (s.amp m.ch).base = none → s.pfBroken m.ch = false → s.on (F.AMP_LINE_VALID m.ch) = true →
          ∀ st, st = ratioState (s.lineZ lines m) (s.get (F.AMP_ZBASE_ZBASE m.ch)) (s.get (F.AMP_ZLIM_DEV m.ch)) →
            (st ≠ 1 → t.get (F.AMP_LINE_LSTATE m.ch) = st ∧ (t.amp m.ch).normals = 0)
            ∧ (st = 1 → (t.amp m.ch).normals = (s.amp m.ch).normals + 1
              ∧ (1 ≤ (s.amp m.ch).normals → t.get (F.AMP_LINE_LSTATE m.ch) = 1))))
    ∧ (∀ (lines : List LineMeas) (groups : List GroupMeas) (m : GroupMeas), s.intervalDue = true →
      (groups.filter fun x => x.g == m.g) = [m] →
      s.on (F.SUPV_EFCFG_EN m.g) = true → Completes (.supvInterval lines groups) s fun t =>
        t.get (F.SUPV_EFSTAT_RETFLT m.g) = flag (leakFlag (s.on (F.SUPV_EFSTAT_RETFLT m.g)) (t.get (F.SUPV_EFSTAT_RETLEAK m.g)))
        ∧ ∀ rb rr den x : Nat, rb = s.get (F.SUPV_EFCFG_RBIAS m.g) → rr = s.get (F.SUPV_EFCFG_RREF m.g) →
          rb * m.v < rr * (m.vdda - m.v) → den = rr * (m.vdda - m.v) - rb * m.v → x = t.get (F.SUPV_EFSTAT_RETLEAK m.g) →
            (rb * m.v * rr < 1000000 * den → x * den < rb * m.v * rr + den ∧ rb * m.v * rr < (x + 1) * den)
            ∧ (1000001 * den ≤ rb * m.v * rr → x = 0xFFFFF))
    ∧ (∀ (at0 : Nat) (mask : Option Word) (tok : Option Tok) (late : Bool) (rest : List (Nat × Option Word × Option Tok × Bool)),
      s.supv.sweep = none → s.supv.sched = (at0, mask, tok, late) :: rest → at0 ≤ s.mti →
      Completes .quietSweepStart s fun t => t.supv.sched = rest ∧ t.get F.SUPV_SWCTL_BUSY = 1
        ∧ t.get F.SUPV_SWCTL_LATE = flag late ∧ t.reg R.SUPV_SWMASK = mask.getD (s.reg R.SUPV_SWMASK)
        ∧ ∃ w : SweepRun, t.supv.sweep = some w ∧ w.point = 0 ∧ w.start = s.now ∧ w.tok = tok ∧ w.late = late
          ∧ ∀ c, s.paired c = false → (c ∈ w.chans ↔ c < 32 ∧ bit (mask.getD (s.reg R.SUPV_SWMASK)) c = true ∧ s.ampState c = 2))
    ∧ (s.supv.sweep.isSome = true → exec .quietSweepStart s = .next s)
    ∧ ((∀ x ∈ s.supv.sched, s.mti < x.1) → exec .quietSweepStart s = .next s)
    ∧ (Completes .supvSweepGo s fun t => t.regs = s.regs
        ∧ t.supv.sched = s.supv.sched ++ [(s.roundAt s.mti + s.roundLen, none, none, false)])
    ∧ (s.supv.sweep = none → (s.night.run = none → exec .quietSweepEnd s = .next s)
        ∧ ∀ points, exec (.sweepPointEnd points) s = .next s)
    ∧ (∀ w : SweepRun, s.supv.sweep = some w → w.point < 16 → s.night.run = none → exec .quietSweepEnd s = .next s)
    ∧ (∀ (w : SweepRun) (points : List PointMeas), s.supv.sweep = some w →
      (w.point < 16 → w.start + (w.point + 1) * (s.fs / 10) ≤ s.now → Completes (.sweepPointEnd points) s fun t =>
        t.supv.sweep = some { w with point := w.point + 1, bad := [] }
        ∧ ∀ p : PointMeas, (points.filter fun x => x.ch == p.ch) = [p] → p.ch.val ∈ w.chans → p.ch.val ∉ w.ended →
          p.ch.val ∉ w.bad → s.paired p.ch = false →
          (∀ b, kget (s.amp p.ch).basePh w.point = some b → (s.amp p.ch).baseSweep = false → w.chans.Nodup →
            (BitVec.ofNat 12 (t.get (F.SUPV_SWRES_PH p.ch w.point))).toInt = clampInt (-2048) 2047 (p.zph.toInt - b))
          ∧ t.get (F.SUPV_SWRES_INVALID p.ch w.point) = flag p.invalid)
      ∧ (16 ≤ w.point ∨ s.now < w.start + (w.point + 1) * (s.fs / 10) → exec (.sweepPointEnd points) s = .next s)
      ∧ (16 ≤ w.point → Completes .quietSweepEnd s fun t => t.supv.sweep = none ∧ t.get F.SUPV_SWCTL_DONE = 1
        ∧ t.get F.SUPV_SWCTL_BUSY = 0
        ∧ ∀ k : Tok, w.tok = some k → k.gen = (s.outbox (Sender.key k.sender)).gen → kget (s.outbox (Sender.key k.sender)).tags k.tag.toNat = some k.code →
            kget (t.outbox (Sender.key k.sender)).tags k.tag.toNat = none)))
  ∧ (∀ (s : State) (c : Cmd),
    (s.takes c 0x0A00 11 false = true →
      (bit (cw c 11) 7 = true → (s.paired (bits (cw c 1) 4 0) = true → bits (cw c 1) 4 0 % 2 = 0) →
        s.pfBreaks (bits (cw c 1) 4 0) (pfClamp s.rateClass (bits (cw c 9) 15 0)) s.pfHeld = true →
        Completes (.ampCfg c) s fun t => t.hamp = s.hamp ∧ t.held = s.held ∧ t.answered c 0x0A00 rcRefused 0 [])
      ∧ (bit (cw c 11) 7 = false ∨ (s.paired (bits (cw c 1) 4 0) = true ∧ bits (cw c 1) 4 0 % 2 = 1)
          ∨ s.pfBreaks (bits (cw c 1) 4 0) (pfClamp s.rateClass (bits (cw c 9) 15 0)) s.pfHeld = false →
        (ampEntries (bits (cw c 1) 4 0) c s = [] → Completes (.ampCfg c) s fun t => t.hamp = s.hamp ∧ t.repliedDone c 0x0A00
          ∧ (bit (cw c 11) 8 = true → t.get (F.AMP_ZLIM_DEV (bits (cw c 1) 4 0)) = clampNat 2 40 (bits (cw c 10) 23 16)
            ∧ t.get (F.AMP_ZLIM_ZMIN (bits (cw c 1) 4 0)) = max 1 (bits (cw c 10) 15 0)))
        ∧ (ampEntries (bits (cw c 1) 4 0) c s ≠ [] → s.freeFor c (ampEntries (bits (cw c 1) 4 0) c s) = true →
          Completes (.ampCfg c) s fun t => t.planned c 0x0A00 (ampEntries (bits (cw c 1) 4 0) c s) 0)))
    ∧ (s.takes c 0x0A01 1 false = true →
      (s.ampState (2 * bits (cw c 1) 3 0) ≠ 0 ∨ s.ampState (2 * bits (cw c 1) 3 0 + 1) ≠ 0 →
        Completes (.ampPair c) s fun t => t.held = s.held ∧ t.answered c 0x0A01 rcRefused 0 [])
      ∧ (s.ampState (2 * bits (cw c 1) 3 0) = 0 → s.ampState (2 * bits (cw c 1) 3 0 + 1) = 0 →
        Completes (.ampPair c) s fun t =>
          t.get (F.AMP_PAIR_PAIRED (2 * bits (cw c 1) 3 0)) = (if bit (cw c 1) 8 then 0 else 1)
          ∧ (bit (cw c 1) 8 = false → t.get (F.AMP_LINE_VALID (2 * bits (cw c 1) 3 0)) = 0
            ∧ t.get (F.AMP_LINE_VALID (2 * bits (cw c 1) 3 0 + 1)) = 0
            ∧ t.reg (R.AMP_LOOP (2 * bits (cw c 1) 3 0 + 1)) = s.reg (R.AMP_LOOP (2 * bits (cw c 1) 3 0)))
          ∧ t.repliedDone c 0x0A01))
    ∧ (s.takes c 0x0A02 1 false = true →
      ((∃ ch, ch < 32 ∧ bit (cw c 1) ch = true ∧ s.ampState ch ≠ 2) → Completes (.lineBaseline c) s fun t =>
        t.supv = s.supv ∧ t.answered c 0x0A02 rcRefused 0 [])
      ∧ ((∀ ch, ch < 32 → bit (cw c 1) ch = true → s.ampState ch = 2) → Completes (.lineBaseline c) s fun t =>
        (∀ ch, ch < 32 → bit (cw c 1) ch = true → (t.amp (s.lineOf ch)).base = some (0, 0, 0))
        ∧ t.supv.jobs = s.supv.jobs ++ [(maskChans (cw c 1), s.tokOf c 0x0A02)] ∧ t.answered c 0x0A02 rcScheduled 0 []))
    ∧ (s.takes c 0x0A03 3 false = true →
      (s.supv.sweep.isSome = true → Completes (.quietSweep c) s fun t =>
        t.supv = s.supv ∧ t.answered c 0x0A03 rcRefused 0 [])
      ∧ (s.supv.sweep = none → Completes (.quietSweep c) s fun t => t.answered c 0x0A03 rcScheduled 0 []
        ∧ t.supv.sched = s.supv.sched ++ [if wide (cw c 1) (cw c 2) ≤ s.mti
            then (s.roundAt s.mti + s.roundLen, some (cw c 3), some (s.tokOf c 0x0A03), true)
            else (wide (cw c 1) (cw c 2), some (cw c 3), some (s.tokOf c 0x0A03), false)]))
    ∧ (s.takes c 0x0A04 5 false = true → Completes (.railCfg c) s fun t =>
        t.get (F.SUPV_RAILCFG_RATIO (bits (cw c 1) 1 0)) = max 1 (bits (cw c 2) 27 16)
        ∧ t.get (F.SUPV_RAILCFG_VNOM (bits (cw c 1) 1 0)) = bits (cw c 2) 11 0
        ∧ t.get (F.SUPV_EFSCALE_KEF (bits (cw c 1) 1 0)) = clampNat 1 1000 (bits (cw c 4) 9 0)
        ∧ t.get F.SUPV_MCFG_METER = bits (cw c 5) 8 8 ∧ t.repliedDone c 0x0A04))

/-- Roles in a tandem pair (R349, R350, R354, R364, R367, R368, R465): EN takes effect with the role of the pin; an active
whose ROLE_IN falls outside a handover becomes a standby, a standby whose ROLE_IN is high is promoted; a handover is
planned, begins, is checked and switches, or is abandoned; a chip fails silent once.
The tandem link (R363, R370, R371): a lane that is lost leaves the mask, and with the last one the link is down and a
standby that followed is STALE; a lane returns; after a second without it the standby begins anew; the copy done,
it catches up.
Where the rules leave a reading open, it is the model's choice (assumptions 25 and 26). -/
def Obligations.TandemRolesAndLanes : Prop :=
  (∀ s : State,
    (∀ b : Bool, (Completes (.roleInChange b) s fun t => t.get F.TND_STAT_ROLEIN = flag b ∧ t.pins.roleIn = b)
      ∧ (s.on F.TND_CTL_EN = false ∨ s.tnd.failed = true → Completes (.roleInChange b) s fun t =>
          t.tnd = { s.tnd with roleAt := if b && !s.pins.roleIn then s.time.t32 else s.tnd.roleAt } ∧ t.tndState = s.tndState)
      ∧ (∀ h : HandSt, s.on F.TND_CTL_EN = true → s.tnd.failed = false → s.tnd.handover = some h →
        Completes (.roleInChange b) s fun t => t.tnd.handover = some { h with mine := !b } ∧ t.tndState = s.tndState)
      ∧ (s.on F.TND_CTL_EN = true → s.tnd.failed = false → s.tnd.handover = none → s.tndState = 1 →
        Completes (.roleInChange b) s fun t => t.tndState = (if b then 1 else 3)))
    ∧ (s.standby = true → s.on F.TND_STAT_ROLEIN = true → s.handing = false → Completes .takeover s fun t =>
        t.tndState = 1 ∧ (t.reg R.TND_TAKEOVERS).toNat = satInc32 (s.reg R.TND_TAKEOVERS).toNat
        ∧ t.reg R.TND_LASTTAKE = s.mtil)
    ∧ (s.standby = false ∨ s.on F.TND_STAT_ROLEIN = false ∨ s.handing = true → exec .takeover s = .next s)
    ∧ (∀ en : Bool, s.tnd.enDue = some en → Completes .tandemEnable s fun t => t.get F.TND_CTL_EN = flag en
        ∧ t.tnd.enDue = none ∧ t.tnd.handover = none
        ∧ (s.tnd.failed = false → t.tndState = (if en then (if s.pins.roleIn then 1 else 3) else 0)))
    ∧ (s.tnd.enDue = none → exec .tandemEnable s = .next s)
    ∧ (s.tnd.failed = false → Completes .failSilent s fun t => t.tndState = 7 ∧ t.get F.TND_STAT_HCODE = 0
        ∧ t.tnd.failed = true ∧ t.eng.running = false ∧ t.eng.restart = none ∧ t.flt.l4 = true)
    ∧ (s.tnd.failed = true → exec .failSilent s = .next s)
    ∧ (∀ (b : Bool) (st : BitVec 4),
      (s.on F.TND_CTL_EN = false → exec (.peerStateReport b st) s = .next s)
      ∧ (s.on F.TND_CTL_EN = true → Completes (.peerStateReport b st) s fun t => t.get F.TND_STAT_PEER = st.toNat
        ∧ t.tnd.peerRole = b ∧ (s.on F.TND_STAT_ROLEIN = true → b = true → s.tnd.bothSince = none →
            t.tnd.bothSince = some s.time.dur)
        ∧ (s.on F.TND_STAT_ROLEIN = false ∨ b = false → t.tnd.bothSince = none)))
    ∧ (∀ c : Cmd,
      (s.takes c 0x0B00 1 false = true →
        (bit (cw c 1) 31 = true → s.on F.TND_CTL_EN = false → s.admitsAs true = false → Completes (.tandemCfg c) s fun t =>
          t.tnd = s.tnd ∧ t.answered c 0x0B00 rcRefused 0 [])
        ∧ (bit (cw c 1) 31 = false ∨ s.on F.TND_CTL_EN = true ∨ s.admitsAs true = true →
          Completes (.tandemCfg c) s fun t => t.get F.TND_CTL_LSWDLY = min 200 (bits (cw c 1) 7 0)
            ∧ t.get F.TND_CTL_EN = s.get F.TND_CTL_EN
            ∧ t.tnd.enDue = (if bit (cw c 1) 31 = s.on F.TND_CTL_EN then none else some (bit (cw c 1) 31))
            ∧ t.repliedDone c 0x0B00))
      ∧ (s.takes c 0x0B01 2 false = true →
        (s.on F.TND_CTL_EN = true → s.tndState = 1 → s.get F.TND_STAT_PEER = 5 → s.tnd.handover = none →
          Completes (.handover c) s fun t =>
            t.tnd.handover = some { h := s.roundFrom (max (wide (cw c 1) (cw c 2)) (s.mti + 64)), tok := some (s.tokOf c 0x0B01) }
            ∧ t.repliedScheduled c 0x0B01 (s.roundFrom (max (wide (cw c 1) (cw c 2)) (s.mti + 64))))
        ∧ (s.on F.TND_CTL_EN = false ∨ s.tndState ≠ 1 ∨ s.get F.TND_STAT_PEER ≠ 5 ∨ s.tnd.handover.isSome = true →
          Completes (.handover c) s fun t => t.tnd = s.tnd ∧ t.answered c 0x0B01 rcRefused 0 []))
      ∧ (s.takes c 0x0B02 0 false = true → Completes (.tandemStatus c) s fun t => t.tnd = s.tnd
        ∧ t.answered c 0x0B02 rcDone 0 [s.reg R.TND_STAT, s.reg R.TND_LINK, s.reg R.TND_DIGCNT, s.reg R.TND_RECCNT,
            s.reg R.TND_TAKEOVERS, s.reg R.TND_LASTTAKE, s.reg R.TND_BGPOS]))
    ∧ (∀ h : HandSt, s.tnd.handover = some h →
      (h.begun = false → h.done = false → h.h ≤ s.mti + 32 → Completes .handoverBegin s fun t =>
        t.tndState = 2 ∧ t.tnd.handover = some { h with begun := true } ∧ t.reg R.TND_HOMTIL = word h.h)
      ∧ (h.begun = true ∨ h.done = true ∨ s.mti + 32 < h.h → exec .handoverBegin s = .next s)
      ∧ (∀ b : Bool, h.begun = true → h.done = false → h.h ≤ s.mti + 4 →
        ((h.mine && b) = true → Completes (.handoverCheck b) s fun t =>
          t.tnd.handover = some { h with peer := true } ∧ t.regs = s.regs)
        ∧ ((h.mine && b) = false → Completes (.handoverCheck b) s fun t =>
          t.tndState = 1 ∧ t.tnd.handover = some { h with done := true, tok := none }))
      ∧ (∀ b : Bool, h.begun = false ∨ h.done = true ∨ s.mti + 4 < h.h → exec (.handoverCheck b) s = .next s)
      ∧ (s.mti < h.h → exec .handoverSwitch s = .next s)
      ∧ (h.h ≤ s.mti → h.done = false → h.mine = true → h.peer = true → Completes .handoverSwitch s fun t =>
        t.tndState = 5 ∧ t.tnd.handover = none
        ∧ ∀ k : Tok, h.tok = some k → k.gen = (s.outbox (Sender.key k.sender)).gen → kget (s.outbox (Sender.key k.sender)).tags k.tag.toNat = some k.code →
            kget (t.outbox (Sender.key k.sender)).tags k.tag.toNat = none)
      ∧ (h.done = false → h.mine = false ∨ h.peer = false → exec .handoverSwitch s = .next s)
      ∧ (h.h ≤ s.mti → h.done = true → Completes .handoverSwitch s fun t => t.tnd.handover = none
        ∧ t.tndState = (if s.on F.TND_STAT_ROLEIN = true then s.tndState else 3)))
    ∧ (s.tnd.handover = none →
      (s.standby = false ∨ s.tndState ≠ 5 ∨ s.on F.TND_STAT_ROLEIN = false ∨ s.handing = false →
        exec .handoverSwitch s = .next s)
      ∧ (∀ b : Bool, exec .handoverBegin s = .next s ∧ exec (.handoverCheck b) s = .next s)
      ∧ (s.standby = true → s.tndState = 5 → s.on F.TND_STAT_ROLEIN = true → s.handing = true →
        Completes .handoverSwitch s fun t => t.tndState = 1)))
  ∧ (∀ s : State,
    (∀ l : Fin 4,
      (s.tnd.lanes.getLsbD l = false → exec (.tandemLaneLoss l) s = .next s)
      ∧ (s.tnd.lanes.getLsbD l = true → Completes (.tandemLaneLoss l) s fun t =>
        (∀ k : Fin 4, t.tnd.lanes.getLsbD k = (s.tnd.lanes.getLsbD k && k != l))
        ∧ (t.tnd.lanes = 0 → t.get F.TND_LINK_LANES = 0 ∧ t.get F.TND_LINK_DOWNEV = 1 ∧ t.tnd.downSince = some s.time.dur
          ∧ t.tndState = (if s.tndState = 4 ∨ s.tndState = 5 then 6 else s.tndState)))
      ∧ (∀ r i : Bool, s.tnd.lanes.getLsbD l = true → exec (.tandemLaneReturn l r i) s = .next s)
      ∧ (∀ r i : Bool, s.tnd.lanes.getLsbD l = false → Completes (.tandemLaneReturn l r i) s fun t =>
        (∀ k : Fin 4, t.tnd.lanes.getLsbD k = (s.tnd.lanes.getLsbD k || k == l)) ∧ t.tnd.downSince = none
        ∧ t.get F.TND_LINK_REV = flag r))
    ∧ (∀ n : Nat, s.tnd.downSince = some n →
      (s.standby = true → n + ms32 1000 < s.time.dur → Completes .tandemLinkDownTimeout s fun t => t.tndState = 3)
      ∧ (s.standby = false ∨ s.time.dur ≤ n + ms32 1000 → exec .tandemLinkDownTimeout s = .next s))
    ∧ (s.tnd.downSince = none → exec .tandemLinkDownTimeout s = .next s)
    ∧ (s.tndState = 3 → s.tnd.lanes ≠ 0 →
      (Completes (.resyncCopyDone true) s fun t => t.tndState = 4 ∧ t.get F.TND_STAT_COMPAT = 0 ∧ t.tnd.copied = true
        ∧ t.tnd.fillFrom = s.now)
      ∧ (Completes (.resyncCopyDone false) s fun t => t.tndState = 3 ∧ t.get F.TND_STAT_COMPAT = 1 ∧ t.tnd = s.tnd))
    ∧ (∀ b : Bool, s.tndState ≠ 3 ∨ s.tnd.lanes = 0 → exec (.resyncCopyDone b) s = .next s))

/-- What a standby takes from its active (R356, R357, R358, R360, R361, R362, R363): a record it can use is held for its
round, one that is bad is counted; a record that is missing
at its time or a digest that differs makes it STALE, a full matching cycle SYNCED, and a block of the chunk that differs is
overwritten; a copied item is applied by a standby only.
Where the rules leave a reading open, it is the model's choice (assumptions 60 and 61). -/
def Obligations.StandbyFollowsRecords : Prop :=
  ∀ s : State,
    (s.follows = false → ∀ (d : DecideRec) (ok : Bool) (ins : List InputRec) (edges : List (Fin 4 × Nat)) (e : EndRec),
      exec (.tandemDecideRecord d) s = .next s ∧ exec (.tandemInputRecord ok ins) s = .next s
      ∧ exec (.tandemAlarmRecord ok edges) s = .next s ∧ exec (.tandemEndRecord e) s = .next s
      ∧ exec .tandemRecordDeadline s = .next s)
    ∧ (s.follows = true → ∀ (d : DecideRec) (ins : List InputRec) (edges : List (Fin 4 × Nat)) (e : EndRec) (i : Instr),
      (d.ok = false ∧ i = .tandemDecideRecord d) ∨ i = .tandemInputRecord false ins ∨ i = .tandemAlarmRecord false edges
        ∨ (e.ok = false ∧ i = .tandemEndRecord e) → Completes i s fun t => t.tnd = s.tnd ∧ t.sig = s.sig
          ∧ (t.reg R.TND_RECCNT).toNat = satInc32 (s.reg R.TND_RECCNT).toNat ∧ t.get F.TND_STAT_RECLOST = 1)
    ∧ (∀ d : DecideRec, s.follows = true → d.ok = true → Completes (.tandemDecideRecord d) s fun t =>
        t.tnd.decide = t.eng.lastTick ∧ t.tnd.streams = d.streams ∧ t.tnd.ports = d.ports
        ∧ (d.stepMti = none → t.sig.lost = d.lostSources ∧ t.eng = s.eng
          ∧ ∀ r : SelRec, (d.selector.filter fun x => x.strip == r.strip) = [r] →
            t.get (F.PATCH_FOSTAT_SEL r.strip) = r.sel ∧ t.get (F.PATCH_FOSTAT_PLOST r.strip) = flag r.plost
            ∧ t.get (F.PATCH_FOSTAT_BLOST r.strip) = flag r.blost ∧ t.get (F.PATCH_FOSTAT_HELD r.strip) = flag r.held
            ∧ t.get (F.PATCH_FOSTAT_HOLDING r.strip) = flag r.holding ∧ t.get (F.PATCH_FOSTAT_FOCNT r.strip) = r.count.toNat
            ∧ (t.sel r.strip).fade
                = r.run.map fun f => ((⟨s.eng.base - f.1, f.2.1, 1⟩ : Fade), f.2.2.1, f.2.2.2)))
    ∧ (∀ ins : List InputRec, s.follows = true → Completes (.tandemInputRecord true ins) s fun t =>
        t.tnd.input = some s.procMti
        ∧ (s.tnd.decide = some s.procMti → t.released = true)
        ∧ (s.tnd.decide ≠ some s.procMti → t.disp = s.disp ∧ ∀ i : InputRec,
          (ins.filter fun x => x.src == i.src) = [i] → kget t.sig.cur i.src = some i.samples))
    ∧ (∀ edges : List (Fin 4 × Nat), s.follows = true → Completes (.tandemAlarmRecord true edges) s fun t =>
        t.hamp.alarmEdges = s.hamp.alarmEdges ++ edges.map (fun e => (e.1.val, e.2)) ∧ t.regs = s.regs)
    ∧ (∀ (e : EndRec) (u : State), s.follows = true → e.ok = true → e.reactions = [] → s.flt.reacted = [] →
        (∀ x ∈ s.disp.missed, x.1 ∈ e.misses) → u = endApply e s →
        Completes (.tandemEndRecord e) s fun t => t.tnd.ended = some s.procMti
          ∧ (e.digest ≠ u.digest (u.ownChunk e.chunk) (u.ownStates e.states) → (t.reg R.TND_DIGCNT).toNat = satInc32 (s.reg R.TND_DIGCNT).toNat
            ∧ (s.tndState = 5 → t.tndState = 6))
          ∧ (e.digest = u.digest (u.ownChunk e.chunk) (u.ownStates e.states) → e.pos + (e.chunk.map fun b => b.2.length).sum < e.image →
            t.tndState = s.tndState ∧ t.reg R.TND_DIGCNT = s.reg R.TND_DIGCNT)
          ∧ (e.digest = u.digest (u.ownChunk e.chunk) (u.ownStates e.states) → u.ownChunk e.chunk = e.chunk →
            u.ownStates e.states = e.states → e.image ≤ e.pos + (e.chunk.map fun b => b.2.length).sum → s.tnd.clean = true → s.tndState = 6 → t.tndState = 5)
          ∧ (∀ (a : BitVec 40) (bs : List Byte), e.chunk = [(a, bs)] → u.bankState a.toNat ≠ 2 →
            t.bytes a.toNat bs.length = bs)
          ∧ (∀ (k : Nat) (v : List Int), e.states = [(k, v)] → kgetD t.mods.dsp k [] = v))
    ∧ (s.follows = true →
      (s.recordLate = false → exec .tandemRecordDeadline s = .next s)
      ∧ (s.recordLate = true → s.released = false → Completes .tandemRecordDeadline s fun t => t.tndState = 6 ∧ t.released = true
        ∧ (t.reg R.TND_RECCNT).toNat = satInc32 (s.reg R.TND_RECCNT).toNat)
      ∧ (s.recordLate = true → s.released = true → s.tnd.ended ≠ some s.procMti → Completes .tandemRecordDeadline s fun t => t.tndState = 6
        ∧ (t.reg R.TND_RECCNT).toNat = satInc32 (s.reg R.TND_RECCNT).toNat)
      ∧ (s.released = true → s.tnd.ended = some s.procMti → exec .tandemRecordDeadline s = .next s))
    ∧ (s.standby = false → ∀ i : CopyItem, exec (.tandemCopyItem i) s = .next s)
    ∧ (s.standby = true →
      (∀ (a : BitVec 40) (ws : List Word), Completes (.tandemCopyItem (.poke a ws)) s fun t =>
        t.tnd.pokes = s.tnd.pokes ++ [(a.toNat, ws)] ∧ t.regs = s.regs ∧ t.mem = s.mem)
      ∧ (∀ (code : BitVec 16) (c : Cmd) (data : List Byte),
        (silwenRow code.toNat c = none → exec (.tandemCopyItem (.command code c data)) s = .next s)
        ∧ (∀ n x body, silwenRow code.toNat c = some (n, x, body) →
          (c.words.length < n → exec (.tandemCopyItem (.command code c data)) s = .next s)
          ∧ (n ≤ c.words.length →
            (∀ rc v ws, (body c s).2 = .reply rc v ws → exec (.tandemCopyItem (.command code c data)) s = .next (body c s).1)
            ∧ (∀ m, (body c s).2 = .bulk m →
              exec (.tandemCopyItem (.command code c data)) s = .next (bulkRun code.toNat data c (body c s).1).1))))
      ∧ (∀ (ch : Fin 32) (w : Fin 64) (v : Word), ch.val < 18 ∨ 24 ≤ ch.val →
        exec (.tandemCopyItem (.clusterWord ch w v)) s = .next s)
      ∧ (∀ (ch : Fin 32) (w : Fin 64) (v : Word), 18 ≤ ch.val → ch.val < 24 →
        Completes (.tandemCopyItem (.clusterWord ch w v)) s fun t => t.reg (R.MBX_BUF ch w) = v
          ∧ ∀ a, a ≠ R.MBX_BUF ch w → t.reg a = s.reg a)
      ∧ (∀ (sd : Sender) (l : List (BitVec 8 × BitVec 16)), Completes (.tandemCopyItem (.tags sd l)) s fun t =>
        (sd, l.map fun x => (x.1.toNat, x.2.toNat)) ∈ t.tnd.tags ∧ t.regs = s.regs)
      ∧ (∀ (hid : BitVec 16) (stile : Nat) (ws : List Entry) (o : Option (Sender × BitVec 8 × BitVec 16)),
        (∀ pl, s.planOf hid.toNat = some pl → Completes (.tandemCopyItem (.hamper hid stile ws o)) s fun t =>
          ∃ q ∈ t.hamp.plans, q.p = stile ∧ q.members = pl.members)
        ∧ (s.planOf hid.toNat = none → Completes (.tandemCopyItem (.hamper hid stile ws o)) s fun t =>
          ∃ pl ∈ t.hamp.plans, pl.p = stile ∧ pl.entries = ws)))

/-- Pace and the requests for power (R376, R377, R378, R380, R390, R455): SET_PACE and SLEEP become the current request or
replace the held one; a transition ends in its Pace; GET_POWER reads the state, with an estimate the spec leaves open;
a junction at 140 °C is a reset.
Where the rules leave a reading open, it is the model's choice (assumptions 40 and 86). -/
def Obligations.PowerRequests : Prop :=
  ∀ s : State,
    (∀ c : Cmd,
      (s.takes c 0x0200 1 false = true →
        (s.powBusy = false → min 3 (bits (cw c 1) 3 0) = s.pace → Completes (.setPace c) s fun t =>
          t.pwr = s.pwr ∧ t.answered c 0x0200 rcDone 0 [word (min 3 (bits (cw c 1) 3 0))])
        ∧ (s.powBusy = false → min 3 (bits (cw c 1) 3 0) ≠ s.pace → Completes (.setPace c) s fun t =>
          t.pwr.current = some (.pace (min 3 (bits (cw c 1) 3 0)) (some (s.tokOf c 0x0200))) ∧ t.pace = s.pace
          ∧ t.answered c 0x0200 rcScheduled 0 [word (s.appliedPace (min 3 (bits (cw c 1) 3 0)))])
        ∧ (s.powBusy = true → Completes (.setPace c) s fun t =>
          t.pwr.held = some (.pace (min 3 (bits (cw c 1) 3 0)) (some (s.tokOf c 0x0200))) ∧ t.pwr.current = s.pwr.current
          ∧ t.get F.PWR_STAT_HELD = 1
          ∧ t.answered c 0x0200 rcScheduled 0 [word (s.appliedPace (min 3 (bits (cw c 1) 3 0)))]))
      ∧ (s.takes c 0x0201 1 false = true →
        (s.on F.TND_CTL_EN = true ∨ s.hamp.plans ≠ [] ∨ s.hamp.waiting ≠ [] ∨ s.bulkRuns = true →
          Completes (.sleep c) s fun t => t.pwr = s.pwr ∧ t.answered c 0x0201 rcRefused 0 [])
        ∧ (s.on F.TND_CTL_EN = false → s.hamp.plans = [] → s.hamp.waiting = [] → s.bulkRuns = false →
          (s.powBusy = false → Completes (.sleep c) s fun t => t.answered c 0x0201 rcScheduled 0 []
            ∧ t.get F.PWR_STAT_BUSY = 1 ∧ t.get F.PWR_STAT_TARGET = (if bit (cw c 1) 0 then 5 else 4)
            ∧ ∃ r : SleepRun, t.pwr.sleep = some r ∧ r.deep = bit (cw c 1) 0 ∧ r.step = 0
              ∧ r.stile = s.roundFrom (s.mti + 4 * s.roundLen) ∧ r.tok = some (s.tokOf c 0x0201))
          ∧ (s.powBusy = true → Completes (.sleep c) s fun t => t.answered c 0x0201 rcScheduled 0 []
            ∧ t.pwr.held = some (.sleep (bit (cw c 1) 0) (some (s.tokOf c 0x0201))) ∧ t.pwr.sleep = s.pwr.sleep)))
      ∧ (s.takes c 0x0202 0 false = true → Completes (.getPower c) s fun t => t.pwr = s.pwr
        ∧ ∃ w : Word, t.answered c 0x0202 rcDone 0 [s.reg R.PWR_STAT, s.reg R.PWR_TEMP, w, s.reg R.MEM_BANKSTAT]))
    ∧ (∀ r : PaceRun, s.pwr.trans = some r →
      (r.endAt ≤ s.time.dur → Completes .paceTransitionEnd s fun t =>
        t.pwr.trans = none ∧ t.get F.PWR_STAT_STATE = r.dest % 16 ∧ t.pwr.held = none
        ∧ (s.pwr.held = none → t.get F.PWR_STAT_BUSY = 0 ∧ t.pwr.sleep = s.pwr.sleep)
        ∧ (∀ p tok, s.pwr.held = some (.pace p tok) → t.pwr.current = some (.pace p tok))
        ∧ (∀ d tok, s.pwr.held = some (.sleep d tok) → t.pwr.sleep.map SleepRun.deep = some d)
        ∧ ∀ k : Tok, r.tok = some k → k.gen = (s.outbox (Sender.key k.sender)).gen → kget (s.outbox (Sender.key k.sender)).tags k.tag.toNat = some k.code →
            kget (t.outbox (Sender.key k.sender)).tags k.tag.toNat = none)
      ∧ (s.time.dur < r.endAt → exec .paceTransitionEnd s = .next s))
    ∧ (s.pwr.trans = none → exec .paceTransitionEnd s = .next s)
    ∧ (∀ tj : BitVec 16,
      (1400 ≤ tj.toInt → Completes (.tempMeasure tj) s fun t => t.get F.PWR_STAT_THRST = 1
        ∧ t.get F.SYS_RSTCAUSE_CAUSE = 2 ∧ t.eng.running = false ∧ t.pending = s.pending)
      ∧ (tj.toInt < 1400 → Completes (.tempMeasure tj) s fun t => t.get F.PWR_TEMP_TJ = tj.toNat
        ∧ (s.pwr.hot = false → t.pwr.hot = decide (10 * (s.get F.PWR_TEMP_WARN : Int) < tj.toInt))
        ∧ (s.pwr.hot = true → t.pwr.hot = decide (10 * (s.get F.PWR_TEMP_WARN : Int) - 50 < tj.toInt))))

/-- Sleep and wake (R381, R382, R383, R384, R386, R387, R388): the steps of a sleep entry follow one another, a wake before
an abort point or a block that refuses abandons it, the last one puts the chip into its sleep state; a wake source that
is armed wakes, by a boot from deep sleep, by RETENTION_WAKE from retention.
Where the rules leave a reading open, it is the model's choice (assumptions 39 and 41). -/
def Obligations.SleepAndWake : Prop :=
  ∀ s : State,
    (∀ r : SleepRun, s.pwr.sleep = some r →
      (r.step = 0 → r.stile ≤ s.mti → Completes .sleepRampStart s fun t =>
        t.pwr.sleep = some { r with step := 1, amps := (List.range 32).filter fun c => s.ampState c == 2 || s.ampState c == 4 }
        ∧ t.eng.down = some (s.sampleAt r.stile, s.samplesOf 1000) ∧ t.night.run = none)
      ∧ (r.step ≠ 0 ∨ s.mti < r.stile → exec .sleepRampStart s = .next s)
      ∧ (r.step = 1 → s.roundFrom (r.stile + s.samplesOf 1000) ≤ s.mti → s.pwr.woken = false →
        Completes .sleepReleaseStop s fun t => t.pwr.sleep = some { r with step := 2 } ∧ t.pwr.noRelease = true)
      ∧ (r.step = 1 → s.roundFrom (r.stile + s.samplesOf 1000) ≤ s.mti → s.pwr.woken = true → s.pwr.held = none →
        Completes .sleepReleaseStop s fun t => t.pwr.sleep = none ∧ t.pwr.noRelease = false ∧ t.get F.PWR_STAT_BUSY = 0
          ∧ t.get F.PWR_SLPSTAT_POINT = 1)
      ∧ (r.step ≠ 1 ∨ s.mti < s.roundFrom (r.stile + s.samplesOf 1000) → exec .sleepReleaseStop s = .next s)
      ∧ (r.step = 2 → s.disp.inRound = false ∨ s.disp.barrier = true → s.pwr.woken = false →
        Completes .sleepDrainDone s fun t => t.pwr.sleep = some { r with step := 3 } ∧ t.regs = s.regs)
      ∧ (r.step = 2 → s.disp.inRound = false ∨ s.disp.barrier = true → s.pwr.woken = true → s.pwr.held = none →
        Completes .sleepDrainDone s fun t => t.pwr.sleep = none ∧ t.pwr.noRelease = false ∧ t.get F.PWR_STAT_BUSY = 0
          ∧ t.get F.PWR_SLPSTAT_POINT = 2)
      ∧ (r.step ≠ 2 ∨ (s.disp.inRound = true ∧ s.disp.barrier = false) → exec .sleepDrainDone s = .next s)
      ∧ (r.step = 3 → r.blocks < 8 → s.blockRefuses r.blocks = none → s.pwr.woken = true → s.pwr.held = none →
        Completes .sleepBlockStop s fun t => t.pwr.sleep = none ∧ t.get F.PWR_STAT_BUSY = 0 ∧ t.get F.PWR_SLPSTAT_POINT = 3)
      ∧ (r.step = 3 → r.blocks = 8 → s.pwr.woken = true → s.pwr.held = none →
        Completes .sleepEntered s fun t => t.pwr.sleep = none ∧ t.get F.PWR_STAT_BUSY = 0 ∧ t.get F.PWR_SLPSTAT_POINT = 3)
      ∧ (r.step = 3 → r.blocks < 8 → s.blockRefuses r.blocks = none → s.pwr.woken = false →
        Completes .sleepBlockStop s fun t => t.pwr.sleep = some { r with blocks := r.blocks + 1 }
          ∧ (r.blocks = 6 → t.get F.DDR_STAT_SREF = 1))
      ∧ (∀ id, r.step = 3 → r.blocks < 8 → s.blockRefuses r.blocks = some id → s.pwr.held = none →
        Completes .sleepBlockStop s fun t => t.pwr.sleep = none ∧ t.get F.PWR_STAT_BUSY = 0
          ∧ t.get F.PWR_SLPSTAT_BLKID = id
          ∧ ∀ k : Tok, r.tok = some k → k.gen = (s.outbox (Sender.key k.sender)).gen → kget (s.outbox (Sender.key k.sender)).tags k.tag.toNat = some k.code →
              kget (t.outbox (Sender.key k.sender)).tags k.tag.toNat = none)
      ∧ (r.step ≠ 3 ∨ 8 ≤ r.blocks → exec .sleepBlockStop s = .next s)
      ∧ (r.step = 3 → r.blocks = 8 → s.pwr.woken = false → Completes .sleepEntered s fun t =>
        t.get F.PWR_STAT_STATE = (if r.deep then 5 else 4) ∧ t.get F.PWR_STAT_BUSY = 0 ∧ t.pwr.sleep = none
        ∧ t.eng.running = false ∧ t.pwr.pwrenC = false ∧ t.pwr.vmret = !r.deep ∧ t.pwr.pwrenM = !r.deep
        ∧ (r.deep = true → ∀ a, a < 0xE000000 → t.byte a = 0))
      ∧ (r.step ≠ 3 ∨ r.blocks ≠ 8 → exec .sleepEntered s = .next s))
    ∧ (s.pwr.sleep = none → exec .sleepRampStart s = .next s ∧ exec .sleepReleaseStop s = .next s
        ∧ exec .sleepDrainDone s = .next s ∧ exec .sleepBlockStop s = .next s ∧ exec .sleepEntered s = .next s)
    ∧ (∀ (a : BitVec 7),
      (a.toNat ≠ s.get F.PWR_WAKECFG_ADDR → exec (.wakeAddress a) s = .next s)
      ∧ (a.toNat = s.get F.PWR_WAKECFG_ADDR →
        (s.get F.PWR_STAT_STATE = 4 → Completes (.wakeAddress a) s fun t => t.pwr.woken = true
          ∧ t.get F.PWR_STAT_WCAUSE = 1 ∧ t.pwr.pwrenC = true ∧ t.pwr.vmret = false)
        ∧ (s.get F.PWR_STAT_STATE = 5 → Completes (.wakeAddress a) s fun t => t.get F.PWR_STAT_WCAUSE = 1
          ∧ t.get F.SYS_RSTCAUSE_CAUSE = 4 ∧ t.eng.running = false ∧ t.get F.PWR_STAT_STATE = 0)
        ∧ (s.get F.PWR_STAT_STATE < 4 → s.sleeping = true → Completes (.wakeAddress a) s fun t => t.pwr.woken = true
          ∧ t.get F.PWR_STAT_WCAUSE = 1)
        ∧ (s.get F.PWR_STAT_STATE < 4 → s.sleeping = false → exec (.wakeAddress a) s = .next s)))
    ∧ (∀ (n : Fin 4) (b : Bool),
      (s.alarmWakes n b = false → Completes (.alarmWake n b) s fun t => t.pins.alarmIn.getLsbD n = b ∧ t.pwr = s.pwr
        ∧ t.regs = s.regs)
      ∧ (s.alarmWakes n b = true → s.get F.PWR_STAT_STATE = 4 → Completes (.alarmWake n b) s fun t =>
        t.pins.alarmIn.getLsbD n = b ∧ t.pwr.woken = true ∧ t.get F.PWR_STAT_WCAUSE = 2)
      ∧ (s.alarmWakes n b = true → s.get F.PWR_STAT_STATE = 5 → Completes (.alarmWake n b) s fun t =>
        t.get F.PWR_STAT_WCAUSE = 2 ∧ t.get F.SYS_RSTCAUSE_CAUSE = 4))
    ∧ (∀ x : Nat,
      (s.get F.PWR_STAT_STATE = 4 → s.pwr.woken = true → Completes (.retentionWake x) s fun t =>
        t.get F.PWR_STAT_STATE = s.pwr.vsel % 16 ∧ t.eng.running = true ∧ t.pwr.woken = false ∧ t.get F.DDR_STAT_SREF = 0)
      ∧ (s.get F.PWR_STAT_STATE ≠ 4 ∨ s.pwr.woken = false → exec (.retentionWake x) s = .next s))

/-- The power of banks (R385, R399, R400, R455): a command or a write moves banks to a mode, BK5 apart; a bank switched on
from off is zeroed first, and its tag waits for that; a bank in use is not switched by the command.
Where the rules leave a reading open, it is the model's choice (assumptions 33 and 34). -/
def Obligations.BankPower : Prop :=
  ∀ s : State,
    (∀ c : Cmd, s.takes c 0x0203 2 false = true → ∀ mode : Nat, mode = (if bits (cw c 2) 1 0 = 3 then 0 else bits (cw c 2) 1 0) →
      (bit (cw c 1) 31 = true → Completes (.setBankPower c) s fun t =>
        t.get F.PWR_BANKSLP_RET = bits (cw c 1 ||| 0x20#32) 13 0 ∧ t.memx = s.memx ∧ t.repliedDone c 0x0203)
      ∧ (bit (cw c 1) 31 = false → mode ≠ 0 →
        (∃ b, b < 14 ∧ bit (cw c 1) b = true ∧ (s.get (bankSt b) = 0 ∨ s.get (bankSt b) = 3) ∧ s.bankUsed b = true) →
        Completes (.setBankPower c) s fun t => t.mem = s.mem ∧ t.memx = s.memx ∧ t.answered c 0x0203 rcRefused 0 [])
      ∧ (bit (cw c 1) 31 = false → (mode = 0
          ∨ ∀ b, b < 14 → bit (cw c 1) b = true → (s.get (bankSt b) = 0 ∨ s.get (bankSt b) = 3) → s.bankUsed b = false) →
        Completes (.setBankPower c) s fun t =>
          (∀ b, b < 14 → b ≠ 5 → bit (cw c 1) b = true → t.get (bankPwr b) = mode
            ∧ t.get (bankSt b) = (if mode ≠ 0 then mode
                else if s.get (bankSt b) = 2 then 3 else if s.get (bankSt b) = 1 then 0 else s.get (bankSt b)))
          ∧ (∀ b, b < 14 → (b = 5 ∨ bit (cw c 1) b = false) → t.get (bankSt b) = s.get (bankSt b))
          ∧ ((∀ b, b < 14 → bit (cw c 1) b = true → t.get (bankSt b) ≠ 3) → t.repliedDone c 0x0203)
          ∧ ((∃ b, b < 14 ∧ bit (cw c 1) b = true ∧ t.get (bankSt b) = 3) → t.answered c 0x0203 rcScheduled 0 [])))
    ∧ (∀ b : Fin 14,
      (s.get (bankSt b) = 3 → Completes (.bankZeroDone b) s fun t => t.get (bankSt b) = 0
        ∧ (∀ j ∈ t.memx.zeroing, b.val ∉ j.1) ∧ t.mem = s.mem)
      ∧ (s.get (bankSt b) ≠ 3 → exec (.bankZeroDone b) s = .next s))
    ∧ (∀ (m : Master) (v : Word),
      (s.portOpen m = false → exec (.bankPowerWrite m v) s = .next s)
      ∧ (s.portOpen m = true → Completes (.bankPowerWrite m v) s fun t =>
        (∀ b, b < 14 → b ≠ 5 → t.get (bankPwr b) = (if bits v (2 * b + 1) (2 * b) = 3 then 0 else bits v (2 * b + 1) (2 * b))
          ∧ (bits v (2 * b + 1) (2 * b) = 2 → t.get (bankSt b) = 2
            ∧ ∀ a, b * 0x1000000 ≤ a → a < (b + 1) * 0x1000000 → t.byte a = 0))
        ∧ t.get (bankSt 5) = s.get (bankSt 5) ∧ t.get (bankPwr 5) = s.get (bankPwr 5)))

/-- Errors in memory and its test (R142, R393, R402, R403, R404, R407, R408, R409, R410, R466): an access to an address that
is not decoded hangs its master and is recorded once; scrubbing counts what it corrects, in a bank or a core, and poisons what it cannot; a
poisoned read is logged, and stops a DMA channel; the Rambler tests rows in turn, repairs from the spares of the bank
and ends its pass.
Where the rules leave a reading open, it is the model's choice (assumptions 37 and 38). -/
def Obligations.MemoryErrorsAndTheRambler : Prop :=
  ∀ s : State,
    (∀ (m : Master) (a : BitVec 40),
      (s.decoded a.toNat = true ∨ m.toNat ∈ s.memx.hung → exec (.decodeError m a) s = .next s)
      ∧ (s.decoded a.toNat = false → m.toNat ∉ s.memx.hung → Completes (.decodeError m a) s fun t =>
        t.memx.hung = s.memx.hung ++ [m.toNat] ∧ t.get F.MTX_DECERR_VALID = 1
        ∧ t.get F.MTX_DECERR_COUNT = min 65535 (s.get F.MTX_DECERR_COUNT + 1)
        ∧ (s.on F.MTX_DECERR_VALID = false → t.get F.MTX_DECERR_MASTER = m.toNat
          ∧ t.reg R.MTX_DECADDRL = word a.toNat ∧ t.get F.MTX_DECADDRH_ADDR = a.toNat / 2 ^ 32)
        ∧ (s.on F.MTX_DECERR_VALID = true → t.get F.MTX_DECERR_MASTER = s.get F.MTX_DECERR_MASTER))
      ∧ (Completes (.poisonRead m a) s fun t => t.get F.MEM_ECCLOG0_VALID = 1
        ∧ (s.on F.MEM_ECCLOG0_VALID = false → t.get F.MEM_ECCLOG0_MASTER = m.toNat ∧ t.reg R.MEM_ECCLOG1 = word a.toNat)
        ∧ (0x20 ≤ m.toNat → m.toNat < 0x24 → m.toNat - 0x20 ∈ t.memx.dmaErr)
        ∧ (m.toNat < 0x18 ∨ 0x1E ≤ m.toNat → a.toNat / 8 * 8 ∈ t.memx.poison ∧ t.mem = s.mem ∧ t.flt = s.flt)
        ∧ (0x18 ≤ m.toNat → m.toNat < 0x1E → s.flt.l4 = false →
          ∃ r ∈ t.flt.log, bits r.1 23 16 = (if m.toNat = 0x18 then 11 else 4) ∧ r.2.2.2 = word a.toNat)))
    ∧ (∀ (x : Fin 15) (n : Nat) (bad fixed : List (BitVec 40)),
      (s.on F.MEM_SCRUB_EN = false → exec (.scrubLine x n ⟨bad, fixed⟩) s = .next s)
      ∧ (2 ≤ s.bankState (x.val * 0x1000000) → fixed = [] → (∀ a ∈ bad, coreHolds a.toNat = none) →
        exec (.scrubLine x n ⟨bad, fixed⟩) s = .next s)
      ∧ (s.on F.MEM_SCRUB_EN = true → Completes (.scrubLine x n ⟨bad, fixed⟩) s fun t => t.mem = s.mem
        ∧ (∀ a ∈ bad, (coreHolds a.toNat).isSome = true → a.toNat / 8 * 8 ∈ t.memx.poison)
        ∧ (∀ (a : BitVec 40) (k : Nat) (im : Bool), fixed = [a] → coreHolds a.toNat = some (k, im) →
          t.get (if im then F.CLU_ECC_ICOR (k / 8) (k % 8) else F.CLU_ECC_DCOR (k / 8) (k % 8))
            = min 65535 (s.get (if im then F.CLU_ECC_ICOR (k / 8) (k % 8) else F.CLU_ECC_DCOR (k / 8) (k % 8)) + 1))
        ∧ (s.bankState (x.val * 0x1000000) < 2 → t.get (F.MEM_ECCCNT_COR x) = min 65535 (s.get (F.MEM_ECCCNT_COR x) + n)
          ∧ ∀ a ∈ bad, x.val * 0x1000000 ≤ a.toNat → a.toNat < x.val * 0x1000000 + (if x.val = 14 then 0x40000 else 0x1000000) →
              a.toNat / 8 * 8 ∈ t.memx.poison)))
    ∧ (∀ (n : Nat) (bad : List (BitVec 40)),
      (s.on F.MEM_SCRUB_EN = false ∨ s.on F.DDR_CFG_ECCEN = false ∨ s.get F.DDR_CFG_DENS = 0 →
        exec (.ddrPatrolScrub n bad) s = .next s)
      ∧ (s.on F.MEM_SCRUB_EN = true → s.on F.DDR_CFG_ECCEN = true → s.get F.DDR_CFG_DENS ≠ 0 →
        Completes (.ddrPatrolScrub n bad) s fun t => t.get F.DDR_ECC_COR = min 65535 (s.get F.DDR_ECC_COR + n)
          ∧ t.mem = s.mem ∧ ∀ a ∈ bad, 0x100000000 ≤ a.toNat → a.toNat < 0x100000000 + s.ddrBytes →
              a.toNat / 8 * 8 ∈ t.memx.poison))
    ∧ (∀ f : Bool,
      (s.ramRuns = false ∨ s.ramRegion s.memx.ramNext = none → exec (.ramblerRegion f) s = .next s)
      ∧ (∀ pos, s.ramRuns = true → s.ramRegion s.memx.ramNext = some pos → pos < 14 * 65536 → Completes (.ramblerRegion f) s fun t =>
        t.memx.ramNext = pos + 1 ∧ t.get F.MEM_RAMSTAT_BANK = pos / 65536 ∧ t.get F.MEM_RAMPOS_ROW = pos % 65536 ∧ t.mem = s.mem
        ∧ (f = false → ∀ b, t.reg (R.MEM_REPAIR b) = s.reg (R.MEM_REPAIR b))
        ∧ (f = true → s.get (F.MEM_REPAIR_USED (pos / 65536)) < 64 →
          t.get (F.MEM_REPAIR_USED (pos / 65536)) = s.get (F.MEM_REPAIR_USED (pos / 65536)) + 1)
        ∧ (f = true → 64 ≤ s.get (F.MEM_REPAIR_USED (pos / 65536)) → t.get F.MEM_RAMSTAT_NOSPARE = 1 ∧ pos ∈ t.memx.ramBad)))
    ∧ (s.ramRuns = true → s.ramRegion s.memx.ramNext = none → s.night.run = none → Completes .ramblerPassEnd s fun t =>
        t.memx.ramNext = 0 ∧ t.get F.MEM_RAMSTAT_PASSES = min 65535 (s.get F.MEM_RAMSTAT_PASSES + 1)
        ∧ (s.on F.MEM_RAMCFG_ONEPASS = true → t.get F.MEM_RAMCFG_EN = 0 ∧ t.get F.MEM_RAMSTAT_DONE = 1)
        ∧ (s.on F.MEM_RAMCFG_ONEPASS = false → t.reg R.MEM_RAMCFG = s.reg R.MEM_RAMCFG))
    ∧ (s.ramRuns = false ∨ (s.ramRegion s.memx.ramNext).isSome = true → exec .ramblerPassEnd s = .next s)
    ∧ (∀ v : Word, Completes (.ramblerEnable v) s fun t => t.get F.MEM_RAMCFG_EN = bits v 31 31
        ∧ t.get F.MEM_RAMCFG_ONEPASS = bits v 30 30 ∧ t.get F.MEM_RAMCFG_REGINT = clampNat 1 1000 (bits v 25 16)
        ∧ t.get F.MEM_RAMCFG_BMASK = bits v 13 0
        ∧ t.memx.ramNext = (if s.on F.MEM_RAMCFG_EN = false ∧ bit v 31 = true then 0 else s.memx.ramNext))
    ∧ (∀ c : Cmd, s.takes c 0x0C00 1 false = true → Completes (.ramblerCfg c) s fun t =>
        t.get F.MEM_RAMCFG_EN = bits (cw c 1) 31 31 ∧ t.get F.MEM_RAMCFG_REGINT = clampNat 1 1000 (bits (cw c 1) 25 16)
        ∧ t.get F.MEM_RAMCFG_BMASK = bits (cw c 1) 13 0 ∧ t.repliedDone c 0x0C00)

/-- A fault (R412, R413, R414, R415, R416, R419): a cause that is not the unit's, or a chip at L4, handles nothing; every
other fault leaves a record of its cause, its unit's number, the round and the detail, and its unit is handled at the
first level of the cause, or one level above its last handling, L3 at most for an amplifier or a port.
Handling and its end (R182, R271, R414, R415, R420): a unit that ran its clean rounds leaves handling, FAULT_OUT's
stretch ends when its time is over, a T1S port without carrier is a fault, and a core restarted by it runs nothing.
Where the rules leave a reading open, it is the model's choice (assumptions 15, 16 and 17). -/
def Obligations.FaultHandling : Prop :=
  (∀ (s : State) (cause : BitVec 8) (u : UnitKind) (i : BitVec 16) (detail : Word),
    (firstLevel cause.toNat u = none ∨ s.flt.l4 = true ∨ unitCount u ≤ i.toNat →
      exec (.faultDetect cause u i detail) s = .next s)
    ∧ (∀ first, firstLevel cause.toNat u = some first → s.flt.l4 = false → i.toNat < unitCount u →
      (∃ t r, exec (.faultDetect cause u i detail) s = .next t ∧ r ∈ t.flt.log ∧ bits r.1 23 16 = cause.toNat
        ∧ r.2.1 = word i.toNat ∧ r.2.2.1 = word (s.roundAt s.mti) ∧ r.2.2.2 = detail)
      ∧ (kget s.flt.units (unitKey (unitCode u) i.toNat) = none →
        (u = .core → kget s.flt.units (unitKey 1 (i.toNat / 8)) = none) →
        Completes (.faultDetect cause u i detail) s fun t =>
          ((kget t.flt.units (unitKey (unitCode u) i.toNat)).map UnitH.level = some first)
          ∧ (first = 4 → t.tnd.failed = true))
      ∧ (∀ h, kget s.flt.units (unitKey (unitCode u) i.toNat) = some h → h.round ≠ s.roundAt s.mti → u = .amp ∨ u = .net →
        Completes (.faultDetect cause u i detail) s fun t =>
          ((kget t.flt.units (unitKey (unitCode u) i.toNat)).map UnitH.level = some (min 3 (max (h.level + 1) first))))))
  ∧ (∀ s : State,
    (∀ (u : UnitKind) (i : BitVec 16),
      (∀ h, kget s.flt.units (unitKey (unitCode u) i.toNat) = some h → h.done = true → s.get F.EVT_FLTCFG_CLEAN ≤ h.clean →
        Completes (.faultHandlingEnd u i) s fun t =>
          kget t.flt.units (unitKey (unitCode u) i.toNat) = none ∧ t.flt.log = s.flt.log
          ∧ ∀ j, j ≠ unitKey (unitCode u) i.toNat → kget t.flt.units j = kget s.flt.units j)
      ∧ ((∀ h ∈ kget s.flt.units (unitKey (unitCode u) i.toNat), h.done = false ∨ h.clean < s.get F.EVT_FLTCFG_CLEAN) →
        exec (.faultHandlingEnd u i) s = .next s))
    ∧ (∀ t0, s.flt.stretch = some t0 →
      (t0 + s.get F.EVT_FLTCFG_STRETCH * 1000000 * 2 ^ 32 ≤ s.time.dur → Completes .faultOutStretchEnd s fun t =>
        t.flt.stretch = none ∧ t.flt.units = s.flt.units
        ∧ (s.flt.units = [] → s.flt.l4 = false → t.get F.EVT_FLTSTAT_FOUT = 0))
      ∧ (s.time.dur < t0 + s.get F.EVT_FLTCFG_STRETCH * 1000000 * 2 ^ 32 → exec .faultOutStretchEnd s = .next s))
    ∧ (s.flt.stretch = none → exec .faultOutStretchEnd s = .next s)
    ∧ (∀ q : Fin 2,
      (s.on (F.T1S_STAT_ACT q) = false ∨ s.flt.l4 = true → exec (.t1sCarrierLost q) s = .next s)
      ∧ (s.on (F.T1S_STAT_ACT q) = true → s.flt.l4 = false → kget s.flt.units (unitKey 6 (2 + q.val)) = none →
        Completes (.t1sCarrierLost q) s fun t => t.get (F.T1S_STAT_ACT q) = 0
          ∧ (kget t.flt.units (unitKey 6 (2 + q.val))).map UnitH.level = some 3
          ∧ ∃ r ∈ t.flt.log, bits r.1 23 16 = 6 ∧ bits r.1 27 24 = 6 ∧ r.2.1 = word (2 + q.val)))
    ∧ (∀ k : Fin 48, Completes (.coreRestart k) s fun t =>
        (t.core k).running = false ∧ (t.core k).ended = true ∧ (t.core k).faulted = false ∧ (t.core k).handler = none
        ∧ (t.core k).pend = [] ∧ (t.core k).pendAbort = false ∧ t.bitAt (R.CLU_STAT (k.val / 8)) (8 + k.val % 8) = false
        ∧ ((s.core k).running = false → (∀ j, j ≠ k.val → t.core j = s.core j) ∧ t.mem = s.mem ∧ t.disp.items = s.disp.items)))

/-- Events and their routes (R419, R421, R422, R423, R424, R425, R466): what raises an event sets its pending bit; a
pending bit is cleared by writing one, level sources apart; a route takes the written bits, its CC bit is the firmware's and
184 to 187 always reach the dispatcher; the log is read from a sequence number on.
Where the rules leave a reading open, it is the model's choice (assumption 15). -/
def Obligations.EventsAndTheLog : Prop :=
  ∀ s : State,
    (∀ (m : Master) (v : Word),
      (s.portOpen m = false ∨ m.toNat < 8 ∨ 12 ≤ m.toNat → exec (.evtSwset m v) s = .next s)
      ∧ (s.portOpen m = true → 8 ≤ m.toNat → m.toNat < 12 → Completes (.evtSwset m v) s fun t =>
        t.reg (R.EVT_PEND 7) = s.reg (R.EVT_PEND 7) ||| v ∧ ∀ w : Fin 7, t.reg (R.EVT_PEND w) = s.reg (R.EVT_PEND w)))
    ∧ (∀ (host : Bool) (w : Fin 8) (v : Word), Completes (.evtPendClear host w v) s fun t =>
        (∀ i : Fin 32, t.bitAt (if host then R.MBX_EVPEND w else R.EVT_PEND w) i
          = (s.bitAt (if host then R.MBX_EVPEND w else R.EVT_PEND w) i && (!bit v i || bit (levelMask w) i)))
        ∧ ∀ a, a ≠ (if host then R.MBX_EVPEND w else R.EVT_PEND w) → t.reg a = s.reg a)
    ∧ (∀ p : Fin 32,
      (s.bitAt R.EVT_GPEN p = false → exec (.gpEventEdge p) s = .next s)
      ∧ (s.bitAt R.EVT_GPEN p = true → Completes (.gpEventEdge p) s fun t =>
        t.bitAt (R.EVT_PEND ((189 + p.val / 4) / 32)) ((189 + p.val / 4) % 32) = true))
    ∧ (∀ c : Cmd, s.takes c 0x0D00 2 false = true →
      (Completes (.eventRouteSet c) s fun t =>
        (∀ e, e < 256 → t.reg (R.EVT_ROUTE e) =
          (if bits (cw c 1) 15 8 ≤ e ∧ e ≤ bits (cw c 1) 15 8 + bits (cw c 1) 23 16 then
            word (bits (cw c 2) 7 0 + s.get (F.EVT_ROUTE_CC e) * 2 ^ 8 + (if 184 ≤ e ∧ e < 188 then 1 else bits (cw c 2) 9 9) * 2 ^ 9)
          else s.reg (R.EVT_ROUTE e)))
        ∧ t.repliedDone c 0x0D00)
      ∧ (Completes (.eventRouteClear c) s fun t => t.repliedDone c 0x0D00
        ∧ (bits (cw c 1) 10 8 ≠ 2 → t.reg (R.MBX_EVPEND (bits (cw c 1) 10 8))
          = s.reg (R.MBX_EVPEND (bits (cw c 1) 10 8)) &&& ~~~(cw c 2 &&& ~~~(levelMask (bits (cw c 1) 10 8))))))
    ∧ (∀ c : Cmd, s.takes c 0x0D01 1 false = true → Completes (.faultLogRead c) s fun t =>
        t.flt = s.flt ∧ ∃ (n : Nat) (gap : Bool) (ws : List Word), t.answered c 0x0D01 rcDone 0 (word (n + flag gap * 65536) :: ws)
          ∧ n ≤ max 1 (bits (cw c 1) 19 16) ∧ ws.length = 4 * n
          ∧ (∀ r, s.flt.log = [r] → bits r.1 15 0 = bits (cw c 1) 15 0 → gap = false ∧ ws = [r.1, r.2.1, r.2.2.1, r.2.2.2]))

/-- The performance counters (R426, R427, R428, R429, R466): the sweep keeps a chained counter's high word, a read gives a
counter of one moment, and a dump latches every counter of its ranges, skips while one is under way and marks itself
COMPLETE last.
Where the rules leave a reading open, it is the model's choice (assumption 48). -/
def Obligations.CountersAreRead : Prop :=
  ∀ s : State,
    (s.on F.CNT_CFG_EN = false ∨ s.readerRuns = false → exec .counterSweep s = .next s)
    ∧ (s.on F.CNT_CFG_EN = true → s.readerRuns = true → Completes .counterSweep s fun t => t.regs = s.regs
        ∧ ∀ id, (id < 1120 ∨ id = 1888) → ∀ a ∈ counterReg id, kgetD t.cnt.prev id 0 = s.reg a
          ∧ kgetD t.cnt.high id 0 = kgetD s.cnt.high id 0 + (if s.reg a < kgetD s.cnt.prev id 0 then 1 else 0))
    ∧ (∀ id : BitVec 12, Completes (.cntRead id) s fun t =>
        t.reg R.CNT_RDLO = word (s.counter id.toNat) ∧ t.reg R.CNT_RDHI = word (s.counter id.toNat / 2 ^ 32)
        ∧ t.reg R.CNT_RDMTI = s.mtil ∧ t.get F.CNT_RD_ID = id.toNat ∧ t.get F.CNT_RD_BUSY = 0
        ∧ (2959 < id.toNat → t.reg R.CNT_RDLO = 0 ∧ t.reg R.CNT_RDHI = 0))
    ∧ (s.on F.CNT_DCFG_EN = false ∨ s.readerRuns = false → exec .counterDumpLatch s = .next s)
    ∧ (s.on F.CNT_DCFG_EN = true → s.readerRuns = true → s.roundAt s.mti / s.roundLen % max 1 (s.get F.CNT_DCFG_P) = 0 →
        (s.cnt.dump.isSome = true → Completes .counterDumpLatch s fun t =>
          t.get F.CNT_DSTAT_SKIP = min 65535 (s.get F.CNT_DSTAT_SKIP + 1) ∧ t.cnt = s.cnt ∧ t.mem = s.mem)
        ∧ (s.cnt.dump = none → Completes .counterDumpLatch s fun t =>
          t.cnt.dump = some (s.cnt.seq, s.roundAt s.mti, s.dumpIds.map s.counter) ∧ t.cnt.seq = (s.cnt.seq + 1) % 2 ^ 32
          ∧ (s.bankState (s.dumpBase s.dumpIds.length s.cnt.half + 12) ≠ 2 →
            t.memWord (s.dumpBase s.dumpIds.length s.cnt.half + 12) = word (s.dumpIds.length % 65536))))
    ∧ (s.cnt.dump = none → exec .counterDumpDone s = .next s)
    ∧ (∀ (seq k : Nat) (vals : List Nat) (b : Nat), s.cnt.dump = some (seq, k, vals) → b = s.dumpBase vals.length s.cnt.half →
        Completes .counterDumpDone s fun t => t.cnt.dump = none ∧ t.cnt.half = 1 - s.cnt.half
          ∧ t.get F.CNT_DSTAT_LAST = s.cnt.half % 2 ∧ t.get F.CNT_DSTAT_VALID = 1 ∧ t.bitAt (R.EVT_PEND 1) 23 = true
          ∧ (s.get (bankSt 6) = 0 → b + 16 < 0x7000000 → t.memWord b = word seq ∧ t.memWord (b + 4) = word k
            ∧ t.memWord (b + 12) = word (vals.length % 65536 + 2 ^ 31)
            ∧ ∀ i, i < vals.length → t.bytes (b + 16 + 8 * i) 8 = natBytes 8 (vals.getD i 0)))
    ∧ (∀ c : Cmd, s.takes c 0x0D02 2 false = true →
        (bit (cw c 1) 30 = true → Completes (.counterDumpCfg c) s fun t =>
          t.answered c 0x0D02 rcDone 0 [word (s.counter (bits (cw c 2) 11 0)), word (s.counter (bits (cw c 2) 11 0) / 2 ^ 32), s.mtil])
        ∧ (bit (cw c 1) 30 = false → c.words.length < 10 → Completes (.counterDumpCfg c) s fun t =>
          t.answered c 0x0D02 rcMalformed 0 [] ∧ t.get F.CNT_DCFG_EN = s.get F.CNT_DCFG_EN)
        ∧ (bit (cw c 1) 30 = false → 10 ≤ c.words.length → Completes (.counterDumpCfg c) s fun t =>
          t.repliedDone c 0x0D02 ∧ t.get F.CNT_DCFG_EN = bits (cw c 1) 31 31
          ∧ (bit (cw c 1) 31 = true → t.get F.CNT_DCFG_P = max 1 (bits (cw c 1) 15 0) ∧ t.get F.CNT_DSTAT_VALID = 0
            ∧ t.get F.CNT_DBASE_OFS ≤ (0x1000000 - 2 * dumpSize t.dumpIds.length) / 64
            ∧ ∀ i : Fin 8, t.get (F.CNT_DRANGE_FIRST i) = bits (cw c (3 + i.val)) 11 0
              ∧ t.get (F.CNT_DRANGE_COUNT i) = min (bits (cw c (3 + i.val)) 28 16) (4096 - bits (cw c (3 + i.val)) 11 0))))

/-- The nightly test (R431, R432, R433, R434, R466): configured for a Stile, it starts there with its selected steps unless
one still runs, sends its second handover ten seconds after the first, and closes with its report once every step has
ended.
Where the rules leave a reading open, it is the model's choice (assumption 49). -/
def Obligations.TheNightlyTest : Prop :=
  ∀ s : State,
    (∀ c : Cmd, s.takes c 0x0D03 5 false = true → Completes (.nightTestCfg c) s fun t =>
        (∃ cfg, t.night.sched = some cfg ∧ cfg.period = min 168 (bits (cw c 3) 7 0) ∧ cfg.steps = bits (cw c 3) 12 8
          ∧ cfg.chans = cw c 4 ∧ cfg.banks = bits (cw c 5) 13 0
          ∧ (s.mti < wide (cw c 1) (cw c 2) → cfg.start = wide (cw c 1) (cw c 2) ∧ cfg.late = false)
          ∧ (wide (cw c 1) (cw c 2) ≤ s.mti → cfg.start = s.roundAt s.mti + s.roundLen ∧ cfg.late = true))
        ∧ t.night.run = s.night.run ∧ t.repliedDone c 0x0D03)
    ∧ (s.night.sched = none → exec .nightTestStart s = .next s)
    ∧ (∀ cfg, s.night.sched = some cfg →
        (s.mti < cfg.start → exec .nightTestStart s = .next s)
        ∧ (cfg.start ≤ s.mti → Completes .nightTestStart s fun t =>
          (cfg.period = 0 → t.night.sched = none)
          ∧ (cfg.period ≠ 0 → t.night.sched = some { cfg with start := cfg.start + cfg.period * 3600 * s.fs, late := false })
          ∧ (s.night.run.isSome = true → t.night.run = s.night.run)
          ∧ (s.night.run = none → t.bitAt (R.EVT_PEND 6) 16 = true ∧ ∃ r, t.night.run = some r ∧ r.cfg = cfg
            ∧ r.ref = (if cfg.steps % 2 = 1 then .running else .skipped)
            ∧ r.earth = (if cfg.steps / 2 % 2 = 1 then .running else .skipped)
            ∧ r.rambler = (if cfg.steps / 8 % 2 = 1 then .running else .skipped)
            ∧ (cfg.steps / 4 % 2 = 0 → r.sweep = .skipped) ∧ (cfg.steps / 16 % 2 = 0 → r.drill = .skipped)
            ∧ (cfg.steps / 8 % 2 = 1 → cfg.banks < 2 ^ 14 → t.get F.MEM_RAMCFG_EN = 1 ∧ t.get F.MEM_RAMCFG_ONEPASS = 1
              ∧ t.get F.MEM_RAMCFG_BMASK = cfg.banks))))
    ∧ (s.night.run = none → exec .nightTestDrillReturn s = .next s ∧ exec .nightTestEnd s = .next s)
    ∧ (∀ r, s.night.run = some r →
        (r.drill ≠ .running ∨ r.drills ≠ 1 ∨ s.standby = true ∨ (r.drillAt.any fun x => decide (x + ms32 10000 ≤ s.time.dur)) = false →
          exec .nightTestDrillReturn s = .next s)
        ∧ (r.drill = .running → r.drills = 1 → s.standby = false →
          (r.drillAt.any fun x => decide (x + ms32 10000 ≤ s.time.dur)) = true →
          (s.on F.TND_CTL_EN = true → s.tndState = 1 → s.get F.TND_STAT_PEER = 5 → s.tnd.handover = none →
            Completes .nightTestDrillReturn s fun t => t.tnd.handover.isSome = true
              ∧ (t.night.run.map fun x => (x.drill, x.drills)) = some (.running, 2))
          ∧ (s.tnd.handover.isSome = true →
            Completes .nightTestDrillReturn s fun t => t.tnd = s.tnd ∧ (t.night.run.map fun x => (x.drill, x.drills)) = some (.pass, 2)))
        ∧ ((r.ref.ended && r.earth.ended && r.sweep.ended && r.rambler.ended && r.drill.ended) = true →
          Completes .nightTestEnd s fun t => t.night.run = none ∧ t.night.sched = s.night.sched ∧ t.bitAt (R.EVT_PEND 6) 17 = true
            ∧ (s.standby = false → ∃ x ∈ t.flt.log, bits x.1 23 16 = 0x85 ∧ bits x.1 27 24 = 15 ∧ x.2.2.2 = nightReport r)))

/-- Operations of a core (R142, R143, R154, R158, R166, R181): on a core that runs no item, or has stopped, they do nothing; an
uncorrectable error on the fetch of their bundle stops the item;
an operation that is not the last of its bundle runs, and no register, pointer, address or byte of memory changes before
the end of the bundle; no other core changes with it. (That operations come one by one is the model's choice, assumption 5.) -/
def Obligations.OperationsOfABundle : Prop :=
  ∀ (s : State) (i : Instr) (a : At), coreAt i = some a →
    (¬ s.coreRuns a.core → exec i s = .next s)
    ∧ (s.coreRuns a.core → (s.core a.core).inBundle = false → s.badFetch a.core = true → Completes i s fun t =>
      (t.core a.core).faulted = true ∧ (t.core a.core).running = false
      ∧ t.bitAt (R.CLU_FAULT (a.core.val / 8) (a.core.val % 8)) 3 = true ∧ t.bitAt (R.CLU_STAT (a.core.val / 8)) (8 + a.core.val % 8) = true
      ∧ t.get (F.CLU_FPC_FPC (a.core.val / 8) (a.core.val % 8)) = bits (s.core a.core).pc 16 0)
    ∧ (s.coreReady a.core → a.last = false → Completes i s fun t =>
      (t.core a.core).inBundle = true ∧ (t.core a.core).pc = (s.core a.core).pc ∧ (t.core a.core).bn = (s.core a.core).bn
      ∧ (t.core a.core).d = (s.core a.core).d ∧ (t.core a.core).acc = (s.core a.core).acc
      ∧ (t.core a.core).p = (s.core a.core).p ∧ (t.core a.core).sys = (s.core a.core).sys
      ∧ t.coreRuns a.core ∧ t.mem = s.mem ∧ ∀ j, j ≠ a.core.val → t.core j = s.core j)

/-- Multiplies and accumulators (R146, R147, R148, R149, R160, R166): products enter, add to or subtract from the
accumulator with saturation at 56 bits, seen by the accumulate chain after one bundle and by other reads after three; an
accumulator's sum, difference, copy, shift or negation and a load of it are seen after one.
Lane operations (R150, R160, R166): sums, differences, absolute values, negations and left shifts are held in 24 bits
and set the SAT flag of a lane that left them; the others never saturate; the result is seen after one bundle.
Where the rules leave a reading open, it is the model's choice (assumptions 5 and 62). -/
def Obligations.VectorOperations : Prop :=
  (∀ (s : State) (a : At), s.coreReady a.core → a.last = false → ∀ c : CoreSt, c = s.core a.core →
    (∀ (f : VM) (y : Nat → Int) (p e : Nat → Int), (∀ i, y i = c.x f.dy (if f.bcast then f.k.val else i)) →
      (∀ i, p i = c.x f.dx i * y i) → (∀ i, e i = roundMode c.rnd ((c.W f.dx).getD i 0 * y i) 24) →
      s.writes (.mul a f) a.core (macWrites f.aa (lanes p))
      ∧ s.writes (.mac a f) a.core (macWrites f.aa (lanes fun i => (lane (c.AE f.aa) i).toInt + p i))
      ∧ s.writes (.msu a f) a.core (macWrites f.aa (lanes fun i => (lane (c.AE f.aa) i).toInt - p i))
      ∧ s.writes (.mulx a f) a.core (macWrites f.aa (lanes e))
      ∧ s.writes (.macx a f) a.core (macWrites f.aa (lanes fun i => (lane (c.AE f.aa) i).toInt + e i))
      ∧ s.writes (.msux a f) a.core (macWrites f.aa (lanes fun i => (lane (c.AE f.aa) i).toInt - e i)))
    ∧ (∀ f : VX,
      s.writes (.lda a f) a.core (accWrites f.aa (lanes fun i => c.x f.dd i * 2 ^ 23))
      ∧ s.writes (.ldad a f) a.core (accWrites f.aa (lanes fun i => roundMode c.rnd ((c.W f.dd).getD i 0) 1))
      ∧ s.writes (.adda a f) a.core (accWrites f.aa (lanes fun i => c.ax f.aa i + c.ax f.ab i))
      ∧ s.writes (.suba a f) a.core (accWrites f.aa (lanes fun i => c.ax f.aa i - c.ax f.ab i))
      ∧ s.writes (.mova a f) a.core (accWrites f.aa (lanes fun i => c.ax f.ab i))
      ∧ s.writes (.clra a f) a.core (accWrites f.aa (lanes fun _ => 0))
      ∧ s.writes (.sha a f) a.core (accWrites f.aa (lanes fun i => scaleRound c.rnd (c.ax f.ab i) f.s.toInt))
      ∧ s.writes (.nega a f) a.core (accWrites f.aa (lanes fun i => -c.ax f.ab i))
      ∧ s.writes (.rda a f) a.core (satDWrites 2 f.dd (lanes fun i => scaleRound c.rnd (c.ax f.aa i) (f.s.toInt - 23)))
      ∧ (∀ vs : List Int, vs = (lanes fun i => scaleRound c.rnd (c.ax f.aa i) (f.s.toInt + 1)) →
        s.writes (.rdad a f) a.core ([(0, 2, .d (f.dd.val / 2 * 2) (vs.map fun v => BitVec.ofInt 24 (heldIn 48 v / 2 ^ 24))),
          (0, 2, .d (f.dd.val / 2 * 2 + 1) (vs.map fun v => BitVec.ofInt 24 (heldIn 48 v)))] ++ satWrites 48 0 2 vs))))
  ∧ (∀ (s : State) (a : At) (f : VA), s.coreReady a.core → a.last = false → ∀ c : CoreSt, c = s.core a.core →
    s.writes (.add a f) a.core (satDWrites 1 f.dd (lanes fun i => c.x f.dx i + c.x f.dy i))
    ∧ s.writes (.sub a f) a.core (satDWrites 1 f.dd (lanes fun i => c.x f.dx i - c.x f.dy i))
    ∧ s.writes (.abs a f) a.core (satDWrites 1 f.dd (lanes fun i => ((c.x f.dx i).natAbs : Int)))
    ∧ s.writes (.neg a f) a.core (satDWrites 1 f.dd (lanes fun i => -c.x f.dx i))
    ∧ s.writes (.shl a f) a.core (satDWrites 1 f.dd (lanes fun i => c.x f.dx i * 2 ^ (f.f.val + 1)))
    ∧ s.writes (.min a f) a.core [(0, 1, .d f.dd (lanes fun i => BitVec.ofInt 24 (Min.min (c.x f.dx i) (c.x f.dy i))))]
    ∧ s.writes (.max a f) a.core [(0, 1, .d f.dd (lanes fun i => BitVec.ofInt 24 (Max.max (c.x f.dx i) (c.x f.dy i))))]
    ∧ s.writes (.and a f) a.core [(0, 1, .d f.dd (lanes fun i => lane (c.D f.dx) i &&& lane (c.D f.dy) i))]
    ∧ s.writes (.or a f) a.core [(0, 1, .d f.dd (lanes fun i => lane (c.D f.dx) i ||| lane (c.D f.dy) i))]
    ∧ s.writes (.xor a f) a.core [(0, 1, .d f.dd (lanes fun i => lane (c.D f.dx) i ^^^ lane (c.D f.dy) i))]
    ∧ s.writes (.shr a f) a.core [(0, 1, .d f.dd (lanes fun i => BitVec.ofInt 24 (roundMode c.rnd (c.x f.dx i) (f.f.val + 1))))]
    ∧ s.writes (.sld a f) a.core [(0, 1, .d f.dd (lanes fun i =>
        if i + f.f.val < 8 then lane (c.D f.dx) (i + f.f.val) else lane (c.D f.dy) (i + f.f.val - 8)))]
    ∧ s.writes (.sel a f) a.core [(0, 1, .d f.dd (lanes fun i => if c.cf i then lane (c.D f.dx) i else lane (c.D f.dy) i))]
    ∧ s.writes (.bcast a f) a.core [(0, 1, .d f.dd (lanes fun _ => lane (c.D f.dx) f.f))]
    ∧ (∀ t : Int → Int → Prop, [DecidableRel t] →
        (f.f = 0 → ∀ x y, t x y ↔ x = y) → (f.f = 1 → ∀ x y, t x y ↔ x ≠ y) → (f.f = 2 → ∀ x y, t x y ↔ x < y) →
        (f.f = 3 → ∀ x y, t x y ↔ x ≤ y) → (f.f = 4 → ∀ x y, t x y ↔ y < x) → (f.f = 5 → ∀ x y, t x y ↔ y ≤ x) →
        f.f.val < 6 → s.writes (.cmp a f) a.core [(0, 1, .cf (laneFlags (lanes fun i => decide (t (c.x f.dx i) (c.x f.dy i)))))])
    ∧ (6 ≤ f.f.val → Completes (.cmp a f) s fun t => (t.core a.core).fault.isSome = true
        ∧ (c.fault = none → (t.core a.core).fault = some (.ill, 0)) ∧ (t.core a.core).pend = c.pend))

/-- Loads and stores (R139, R151, R152, R153, R154, R166): a load from the core's own memory gives its elements after two
bundles, a store waits for the end of the bundle, and the pointer moves by its mode after one; an address the core does
not reach is a fault.
Pointer operations and moves (R144, R160, R162, R166): the result is seen after one bundle, and a system register written
by MOVS after two; direction 3 is an illegal bundle.
Where the rules leave a reading open, it is the model's choice (assumptions 5, 62 and 66). -/
def Obligations.MemorySlots : Prop :=
  (∀ (s : State) (a : At) (x : Mem), s.coreReady a.core → a.last = false → ∀ c : CoreSt, c = s.core a.core →
    ∀ k : Nat, k = slotRank x.slot →
    (s.localAccess a.core x 4 8 → ∀ dd : Fin 32, s.writes (.ldv a x dd) a.core
      ([(k, 2, .d dd ((s.elements a.core x 4 8).map fun n => BitVec.ofNat 24 (n / 256)))] ++ ptrWrites x 32 c))
    ∧ (s.localAccess a.core x 8 8 → (∀ dd : Fin 32, s.writes (.ldvd a x dd) a.core
        ([(k, 2, .d (dd.val / 2 * 2) ((s.elements a.core x 8 8).map fun n => BitVec.ofNat 24 (n / 2 ^ 40))),
          (k, 2, .d (dd.val / 2 * 2 + 1) ((s.elements a.core x 8 8).map fun n => BitVec.ofNat 24 (n / 2 ^ 16)))] ++ ptrWrites x 64 c))
      ∧ (∀ aa : Fin 8, s.writes (.ldar a x aa) a.core
        ([(k, 2, .accE aa ((s.elements a.core x 8 8).map fun n => BitVec.ofNat 56 n)),
          (k, 2, .acc aa ((s.elements a.core x 8 8).map fun n => BitVec.ofNat 56 n))] ++ ptrWrites x 64 c)))
    ∧ (s.localAccess a.core x 4 1 → ∀ n, s.elements a.core x 4 1 = [n] →
      (∀ dd : Fin 32, s.writes (.ldb a x dd) a.core ([(k, 2, .d dd (lanes fun _ => BitVec.ofNat 24 (n / 256)))] ++ ptrWrites x 4 c))
      ∧ (∀ (dd : Fin 32) (l : Fin 8), s.writes (.ldl a x dd l) a.core ([(k, 2, .dLane dd l (BitVec.ofNat 24 (n / 256)))] ++ ptrWrites x 4 c))
      ∧ (∀ pq : Fin 16, s.writes (.ldw a x pq) a.core ([(k, 2, .p pq (word n))] ++ ptrWrites x 4 c)))
    ∧ (∀ (n count : Nat) (i : Instr) (vs : List Nat) (ws : List (Nat × Nat × CoreWrite)), s.localAccess a.core x n count →
      ((n = 4 ∧ count = 8 ∧ ∃ dd : Fin 32, i = .stv a x dd ∧ vs = (c.D dd).map (fun v => v.toNat * 256) ∧ ws = [] ∧ vs.length = 8)
        ∨ (n = 4 ∧ count = 1 ∧ ∃ (dd : Fin 32) (l : Fin 8), i = .stl a x dd l ∧ vs = [(lane (c.D dd) l).toNat * 256] ∧ ws = [])
        ∨ (n = 8 ∧ count = 8 ∧ ∃ dd : Fin 32, i = .stvd a x dd ∧ vs = (c.W dd).map (fun v => (BitVec.ofInt 48 v).toNat * 2 ^ 16) ∧ ws = [])
        ∨ (n = 4 ∧ count = 8 ∧ ∃ (aa : Fin 8) (sh : BitVec 3) (es : List Int), i = .sta a x aa sh
            ∧ es = (lanes fun j => scaleRound c.rnd (c.ax aa j) (sh.toInt - 23))
            ∧ vs = es.map (fun v => (BitVec.ofInt 24 (heldIn 24 v)).toNat * 256) ∧ ws = satWrites 24 k 1 es)
        ∨ (n = 8 ∧ count = 8 ∧ ∃ (aa : Fin 8) (sh : BitVec 3) (es : List Int), i = .stad a x aa sh
            ∧ es = (lanes fun j => scaleRound c.rnd (c.ax aa j) (sh.toInt + 1))
            ∧ vs = es.map (fun v => (BitVec.ofInt 48 (heldIn 48 v)).toNat * 2 ^ 16) ∧ ws = satWrites 48 k 1 es)
        ∨ (n = 8 ∧ count = 8 ∧ ∃ aa : Fin 8, i = .star a x aa ∧ vs = (c.A aa).map (fun v => (v.signExtend 64).toNat) ∧ ws = []
            ∧ vs.length = 8)
        ∨ (n = 4 ∧ count = 1 ∧ ∃ pq : Fin 16, i = .stw a x pq ∧ vs = [(c.P pq).toNat] ∧ ws = [])) →
      Completes i s fun t => t.mem = s.mem
        ∧ t.core a.core = { c.opened (ptrWrites x (n * count) c ++ ws) with
            stores := c.stores ++ ((accessAddrs c x n count).zip vs).map fun p =>
              ⟨k, false, (s.coreMem a.core p.1).getD 0, natBytes n p.2⟩ })
    ∧ (∀ (dd : Fin 32) (y : Word), (accessAddrs c x 4 8).head? = some y → s.coreTarget a.core c y = .bad → c.fault = none →
      Completes (.ldv a x dd) s fun t => (t.core a.core).fault = some (.addr, y) ∧ (t.core a.core).pend = c.pend ∧ t.regs = s.regs))
  ∧ (∀ (s : State) (a : At) (slot : MSlot), s.coreReady a.core → a.last = false → ∀ c : CoreSt, c = s.core a.core →
    ∀ k : Nat, k = slotRank slot →
    (∀ dd dx : Fin 32, s.writes (.movd a slot dd dx) a.core [(k, 1, .d dd (c.D dx))])
    ∧ (∀ pd px py : Fin 16, s.writes (.movp a slot pd px) a.core [(k, 1, .p pd (c.P px))]
      ∧ s.writes (.addpp a slot pd px py) a.core [(k, 1, .p pd (c.P px + c.P py))])
    ∧ (∀ (pd : Fin 16) (imm : BitVec 10), s.writes (.addp a slot pd imm) a.core [(k, 1, .p pd (c.P pd + imm.signExtend 32))]
      ∧ s.writes (.movi a slot pd imm) a.core [(k, 1, .p pd (imm.signExtend 32))])
    ∧ (∀ (pd : Fin 16) (dx : Fin 32) (l : Fin 8), s.writes (.getl a slot pd dx l) a.core [(k, 1, .p pd ((lane (c.D dx) l).signExtend 32))]
      ∧ s.writes (.putl a slot dx l pd) a.core [(k, 1, .dLane dx l ((c.P pd).setWidth 24))])
    ∧ (∀ (pq : Fin 16) (n : BitVec 7) (v : Word), sysMask n.toNat (c.P pq) = some v →
      s.writes (.movs a slot pq 0 n) a.core [(k, 1, .p pq (c.sysRead a.core n.toNat))]
      ∧ s.writes (.movs a slot pq 1 n) a.core [(k, 2, .sys n.toNat v)]
      ∧ s.writes (.movs a slot pq 2 n) a.core [(k, 1, .p pq (c.sysRead a.core n.toNat)), (k, 2, .sys n.toNat v)])
    ∧ (∀ (pq : Fin 16) (n : BitVec 7), sysMask n.toNat (c.P pq) = none → s.writes (.movs a slot pq 1 n) a.core [])
    ∧ (∀ (pq : Fin 16) (n : BitVec 7), c.fault = none → Completes (.movs a slot pq 3 n) s fun t =>
        (t.core a.core).fault = some (.ill, 0) ∧ (t.core a.core).pend = c.pend))

/-- Control operations (R155, R156, R157, R163, R164, R166, R178): each leaves in the bundle what its end will do to the flow
of control (a branch not taken continues after its two delay slots), and calls and long moves write their pointer one bundle later;
FENCE costs time only, and how much the spec leaves open.
Where the rules leave a reading open, it is the model's choice (assumptions 5, 63 and 66). -/
def Obligations.ControlOperations : Prop :=
  ∀ (s : State) (a : At), s.coreReady a.core → a.last = false → ∀ c : CoreSt, c = s.core a.core →
    ∀ flow : CoreCtl → State, (∀ x, flow x = s.setCore a.core { c with ctl := x, inBundle := true, begun := true }) →
    (∀ (n : Fin 16) (off : BitVec 11) (b : Bool), n.val < 6 →
      (n = 0 → b = true) → (n = 1 → b = (List.range 8).any c.cf) → (n = 2 → b = (List.range 8).all c.cf) →
      (n = 3 → b = !(List.range 8).any c.cf) → (n = 4 → b = c.cf 0) → (n = 5 → b = !c.cf 0) →
      exec (.br a n off) s = .next (flow (.branch (if b then c.pc + 8 * off.signExtend 32 else c.pc + 24))))
    ∧ (∀ (n : Fin 16) (off : BitVec 11), 6 ≤ n.val → c.fault = none →
      Completes (.br a n off) s fun t => (t.core a.core).fault = some (.ill, 0) ∧ (t.core a.core).ctl = c.ctl)
    ∧ (∀ (p : Fin 16) (off : BitVec 11),
      exec (.brz a p off) s = .next (flow (.branch (if c.P p = 0 then c.pc + 8 * off.signExtend 32 else c.pc + 24)))
      ∧ exec (.brnz a p off) s = .next (flow (.branch (if c.P p ≠ 0 then c.pc + 8 * off.signExtend 32 else c.pc + 24)))
      ∧ exec (.jr a p) s = .next (flow (.branch (word ((c.P p).toNat / 8 * 8))))
      ∧ exec (.loop a p off) s = .next (flow (.loop ((c.P p).toNat % 65536) (c.pc + 24 + word (8 * off.toNat)))))
    ∧ (∀ (n : BitVec 16) (off : BitVec 12), exec (.loopi a n off) s = .next (flow (.loop n.toNat (c.pc + 24 + word (8 * off.toNat)))))
    ∧ exec (.done a) s = .next (flow .done) ∧ exec (.reti a) s = .next (flow .reti) ∧ exec (.brk a) s = .next (flow .brk)
    ∧ (∀ n : Fin 8, exec (.lexit a n) s = .next (flow (.lexit (n.val + 1)))
      ∧ s.writes (.setrnd a n) a.core [(2, 1, .rnd (BitVec.ofNat 2 n.val))])
    ∧ s.writes (.clrsat a) a.core [(2, 1, .satClr)]
    ∧ (∀ tg : BitVec 14, exec (.ljmp a tg) s = .next (flow (.branch (word (8 * tg.toNat)))))
    ∧ (∀ (i : Instr) (tg : Word), ((∃ off : BitVec 11, i = .call a off ∧ tg = c.pc + 8 * off.signExtend 32)
        ∨ (∃ l : BitVec 14, i = .lcall a l ∧ tg = word (8 * l.toNat))) →
      exec i s = .next (s.setCore a.core { c.opened [(2, 1, .p 15 (c.pc + 24))] with ctl := .branch tg }))
    ∧ (∀ (pd : Fin 16) (imm : BitVec 28), s.writes (.lmovi a pd imm) a.core [(2, 1, .p pd (imm.signExtend 32))]
      ∧ s.writes (.lmovu a pd imm) a.core [(2, 1, .p pd (imm.setWidth 32 <<< 4))])
    ∧ (Completes (.fence a) s fun t => t.core a.core = { c with inBundle := true, begun := true } ∧ t.mem = s.mem ∧ t.free = s.free + 1
        ∧ t.reg (R.CLU_STALL (a.core.val / 8) (a.core.val % 8)) = s.reg (R.CLU_STALL (a.core.val / 8) (a.core.val % 8)) + word (Config.stallCycles s.free)
        ∧ ∀ y, y ≠ R.CLU_STALL (a.core.val / 8) (a.core.val % 8) → t.reg y = s.reg y)

/-- The end of a bundle (R145, R154, R166, R181): with the last operation the writes now due and the stores take effect, the
core moves to the next bundle and CLU_ISSUE counts; later writes stay in flight, an illegal bundle stops the core with its
cause and pc, its bit in CLU_STAT and its event, and stores nothing.
The flow of control at the end of a bundle (R155, R156, R165, R166, R172, R178): two delay slots, then the transfer; RETI
restores STATUS and the pc; a loop sets the registers of its level, its body repeats its count and leaves the level; an ended item's core waits.
Where the rules leave a reading open, it is the model's choice (assumptions 5 and 63). -/
def Obligations.BundlesAndFlow : Prop :=
  (∀ (s : State) (a : At), s.coreReady a.core → a.last = true → ∀ c : CoreSt, c = s.core a.core → c.calm →
    (∀ (slot : MSlot) (pd : Fin 16) (imm : BitVec 10), Completes (.movi a slot pd imm) s fun t =>
      (t.core a.core).P pd = imm.signExtend 32 ∧ (∀ r, r ≠ pd.val → (t.core a.core).P r = c.P r)
      ∧ (t.core a.core).pc = c.pc + 8 ∧ (t.core a.core).bn = c.bn + 1 ∧ (t.core a.core).pend = []
      ∧ (t.core a.core).inBundle = false ∧ (t.core a.core).d = c.d ∧ (t.core a.core).acc = c.acc ∧ (t.core a.core).sys = c.sys
      ∧ t.reg (R.CLU_ISSUE (a.core.val / 8) (a.core.val % 8)) = s.reg (R.CLU_ISSUE (a.core.val / 8) (a.core.val % 8)) + 1 ∧ t.mem = s.mem)
    ∧ (∀ (f : VM), f.bcast = false → Completes (.mul a f) s fun t =>
      (∀ i, i < 8 → (lane ((t.core a.core).AE f.aa) i).toInt = c.x f.dx i * c.x f.dy i)
      ∧ (t.core a.core).A f.aa = c.A f.aa ∧ (t.core a.core).pend.length = 1 ∧ (t.core a.core).pc = c.pc + 8)
    ∧ (∀ f : VA, Completes (.add a f) s fun t =>
      (∀ i, i < 8 → (lane ((t.core a.core).D f.dd) i).toInt = heldIn 24 (c.x f.dx i + c.x f.dy i))
      ∧ (∀ r, r ≠ f.dd.val → (t.core a.core).D r = c.D r)
      ∧ (∀ i, i < 8 → bit ((t.core a.core).S 0x40) i
          = (bit (c.S 0x40) i || decide (c.x f.dx i + c.x f.dy i ≠ heldIn 24 (c.x f.dx i + c.x f.dy i)))))
    ∧ (∀ (x : Mem) (pq : Fin 16) (y : Nat), s.localAccess a.core x 4 1 → x.md = 0 →
        (accessAddrs c x 4 1).map (s.coreMem a.core) = [some y] →
      (Completes (.stw a x pq) s fun t => t.bytes y 4 = wordBytes (c.P pq) ∧ (∀ b, b < y ∨ y + 4 ≤ b → t.byte b = s.byte b)
        ∧ (t.core a.core).stores = [] ∧ (t.core a.core).pc = c.pc + 8)
      ∧ (Completes (.ldw a x pq) s fun t => (t.core a.core).p = c.p ∧ t.mem = s.mem
        ∧ (t.core a.core).pend = [⟨c.bn + 2, slotRank x.slot, c.bn, .p pq (s.memWord y)⟩]))
    ∧ (∀ f : VA, 6 ≤ f.f.val → Completes (.cmp a f) s fun t =>
      (t.core a.core).faulted = true ∧ (t.core a.core).running = false ∧ (t.core a.core).d = c.d
      ∧ t.bitAt (R.CLU_FAULT (a.core.val / 8) (a.core.val % 8)) 0 = true ∧ t.get (F.CLU_FPC_FPC (a.core.val / 8) (a.core.val % 8)) = bits c.pc 16 0
      ∧ t.bitAt (R.CLU_STAT (a.core.val / 8)) (8 + a.core.val % 8) = true ∧ t.bitAt (R.EVT_PEND (a.core.val / 32)) (a.core.val % 32) = true))
  ∧ (∀ (s : State) (a : At) (slot : MSlot) (pd : Fin 16) (imm : BitVec 10), s.coreReady a.core → a.last = true →
    ∀ c : CoreSt, c = s.core a.core →
    (c.calm →
      (Completes (.ljmp a 5#14) s fun t => (t.core a.core).pc = c.pc + 8 ∧ (t.core a.core).after = some (2, .jump 40))
      ∧ (Completes (.done a) s fun t => (t.core a.core).pc = c.pc + 8 ∧ (t.core a.core).after = some (2, .done))
      ∧ (Completes (.lcall a 5#14) s fun t => (t.core a.core).P 15 = c.pc + 24 ∧ (t.core a.core).after = some (2, .jump 40))
      ∧ (∀ (n : BitVec 16) (off : BitVec 12), n ≠ 0 → Completes (.loopi a n off) s fun t =>
        (t.core a.core).S 0x30 = word n.toNat ∧ (t.core a.core).S 0x34 = c.pc + 24
        ∧ (t.core a.core).S 0x38 = c.pc + 24 + word (8 * off.toNat) ∧ (t.core a.core).depth = 1 ∧ (t.core a.core).setup = 2
        ∧ (t.core a.core).pc = c.pc + 8)
      ∧ (∀ off : BitVec 12, Completes (.loopi a 0 off) s fun t =>
        (t.core a.core).depth = 0 ∧ (t.core a.core).S 0x30 = 0 ∧ (t.core a.core).S 0x34 = c.pc + 24
        ∧ (t.core a.core).S 0x38 = c.pc + 24 + word (8 * off.toNat) ∧ (t.core a.core).after = some (2, .skip (c.pc + 24 + word (8 * off.toNat) + 8))))
    ∧ (∀ (x : After) (c0 : CoreSt), c0.calm → (c = { c0 with after := some (2, x) } → Completes (.movi a slot pd imm) s fun t =>
        (t.core a.core).after = some (1, x) ∧ (t.core a.core).pc = c.pc + 8)
      ∧ (c = { c0 with after := some (1, x) } →
        (∀ y, x = .jump y → Completes (.movi a slot pd imm) s fun t => (t.core a.core).after = none ∧ (t.core a.core).pc = y)
        ∧ (∀ y, x = .skip y → Completes (.movi a slot pd imm) s fun t => (t.core a.core).after = none ∧ (t.core a.core).pc = y)
        ∧ (x = .reti → Completes (.movi a slot pd imm) s fun t => (t.core a.core).after = none
          ∧ (t.core a.core).pc = c.S 0x41 ∧ (t.core a.core).S 0x40 = c.S 0x42 ∧ (t.core a.core).handler = c.outer.head?
          ∧ (t.core a.core).outer = c.outer.tail)
        ∧ (x = .done → Completes (.movi a slot pd imm) s fun t => (t.core a.core).ended = true ∧ (t.core a.core).pendAbort = false
          ∧ (t.core a.core).pend = [])
        ∧ ((∃ y, x = .jump y) ∨ x = .reti ∨ x = .done → Completes (.ljmp a 5#14) s fun t =>
          (t.core a.core).faulted = true ∧ t.bitAt (R.CLU_FAULT (a.core.val / 8) (a.core.val % 8)) 0 = true)))
    ∧ (c.pend = [] → c.stores = [] → c.ctl = .none → c.fault = none → c.after = none → c.setup = 0 → c.depth = 1 →
        c.S 0x38 = c.pc →
        (1 < (c.S 0x30).toNat → Completes (.movi a slot pd imm) s fun t =>
          (t.core a.core).pc = c.S 0x34 ∧ (t.core a.core).S 0x30 = c.S 0x30 - 1 ∧ (t.core a.core).depth = 1)
        ∧ (c.S 0x30 = 1 → Completes (.movi a slot pd imm) s fun t => (t.core a.core).pc = c.pc + 8 ∧ (t.core a.core).depth = 0)
        ∧ Completes (.done a) s (fun t => (t.core a.core).faulted = true)))

/-- Interrupts of a core and its stop (R165, R175, R176, R179, R181): a request is held until a bundle boundary that
admits it, the highest is entered at its vector with pc and STATUS saved and IH set, an ABORT not entered for 10 µs or an
URGENT handler of 2 µs stops the item and restarts the core, and an illegal bundle stops it.
Where the rules leave a reading open, it is the model's choice (assumptions 5 and 13). -/
def Obligations.CoreInterrupts : Prop :=
  ∀ (s : State) (k : Fin 48) (c : CoreSt), c = s.core k →
    (c.pendDebug = none → exec (.coreDbgreq k) s = .next (s.setCore k { c with pendDebug := some 1 }))
    ∧ (c.pendDebug.isSome = true → exec (.coreDbgreq k) s = .next s)
    ∧ (∀ u : BitVec 8, exec (.coreUrgentRaise k u) s = .next (s.setCore k { c with pendUrgent := some u }))
    ∧ (c.open = false ∨ c.irq = none → exec (.interruptEntry k) s = .next s)
    ∧ (c.open = true → c.pend = [] → ∀ (off cause : Word),
        ((∃ u : BitVec 8, c.pendUrgent = some u ∧ off = 0x80 ∧ cause = word (2 + 256 * u.toNat))
          ∨ (c.pendUrgent = none ∧ c.pendAbort = true ∧ off = 0x40 ∧ cause = 1)
          ∨ (c.pendUrgent = none ∧ c.pendAbort = false ∧ ∃ d : BitVec 4, c.pendDebug = some d ∧ off = 0 ∧ cause = word (16 * d.toNat))) →
        Completes (.interruptEntry k) s fun t =>
          (t.core k).pc = c.S 0x44 + off ∧ (t.core k).S 0x41 = c.pc ∧ (t.core k).S 0x42 = c.S 0x40 ∧ (t.core k).S 0x43 = cause
          ∧ (t.core k).ih = true ∧ (t.core k).handler.isSome = true ∧ (t.core k).outer = c.handler.toList ++ c.outer ∧ (t.core k).p = c.p ∧ (t.core k).d = c.d
          ∧ (c.pendUrgent.isSome = true → (t.core k).pendUrgent = none ∧ (t.core k).pendAbort = c.pendAbort)
          ∧ (∀ j, j ≠ k.val → t.core j = s.core j) ∧ t.regs = s.regs)
    ∧ (∀ due : Prop, (due ↔ (c.pendAbort = true ∧ c.abortAt + 10 * 1000 * 2 ^ 32 ≤ s.time.dur)
          ∨ ((c.handler = some .urgent ∨ .urgent ∈ c.outer) ∧ c.urgentAt + 2 * 1000 * 2 ^ 32 ≤ s.time.dur)) →
        (c.running = true → c.faulted = false → due → Completes (.handlerTimeout k) s fun t =>
          (t.core k).running = false ∧ (t.core k).ended = true ∧ (t.core k).faulted = false
          ∧ (t.core k).pendAbort = false ∧ t.bitAt (R.CLU_FAULT (k.val / 8) (k.val % 8)) 4 = true)
        ∧ (c.running = false ∨ c.faulted = true ∨ ¬ due → exec (.handlerTimeout k) s = .next s))
    ∧ (∀ b : BitVec 64,
        ((decodeBundle b).isSome = true ∨ ¬ s.coreRuns k ∨ c.inBundle = true → exec (.illegalBundle k b) s = .next s)
        ∧ (decodeBundle b = none → s.coreRuns k → c.inBundle = false → Completes (.illegalBundle k b) s fun t =>
          (t.core k).faulted = true ∧ (t.core k).running = false
          ∧ t.bitAt (R.CLU_FAULT (k.val / 8) (k.val % 8)) (if s.badFetch k then 3 else 0) = true
          ∧ t.get (F.CLU_FPC_FPC (k.val / 8) (k.val % 8)) = bits c.pc 16 0 ∧ t.bitAt (R.EVT_PEND (k.val / 32)) (k.val % 32) = true))

/-- Writes by internal address (R8, R9, R121, R139, R391, R392, R393, R394, R404, R405, R423): what a master does not reach is
ignored, an address that is not decoded hangs it, a word of a bank that is not off is stored and no other, the secure bank turns
away whom it does not admit, a live field takes its value, an idle-only field is held and a read-only register stays.
The SPI target (R121): it writes MB4 to MB7 a word at a time, discards a last partial word and everything else, and its reads
return the registers of those channels and the global ones, zero elsewhere, without an effect.
Where the rules leave a reading open, it is the model's choice (assumptions 67 and 70). -/
def Obligations.BusWrites : Prop :=
  (∀ (s : State) (m : Master) (a : BitVec 40) (v : Word),
    (s.reaches m a.toNat = false ∨ s.portOpen m = false → exec (.registerWrite m a v) s = .next s)
    ∧ (m = 0x01 → (a.toNat < 0x6000000 ∨ 0x7000000 ≤ a.toNat) → (a.toNat < 0x40030000 ∨ 0x40040000 ≤ a.toNat) →
      exec (.registerWrite m a v) s = .next s)
    ∧ (s.reaches m a.toNat = true → s.portOpen m = true →
      (s.decoded a.toNat = false → Completes (.registerWrite m a v) s fun t =>
        m.toNat ∈ t.memx.hung ∧ t.get F.MTX_DECERR_VALID = 1 ∧ t.mem = s.mem)
      ∧ (a.toNat < 0xE000000 → s.bankState (a.toNat / 4 * 4) ≠ 2 → Completes (.registerWrite m a v) s fun t =>
        t.bytes (a.toNat / 4 * 4) 4 = wordBytes v
        ∧ ∀ b, b / 4 ≠ a.toNat / 4 → t.byte b = s.byte b)
      ∧ (a.toNat < 0xE000000 → s.bankState (a.toNat / 4 * 4) = 2 → Completes (.registerWrite m a v) s fun t =>
        t.mem = s.mem ∧ t.bitAt R.MEM_BANKEV (16 + a.toNat / 0x1000000) = true)
      ∧ (inBks (a.toNat / 4 * 4) = true → s.bksAdmits m.toNat = false → Completes (.registerWrite m a v) s fun t =>
        t.mem = s.mem ∧ t.get F.MEM_SECSTAT_VIOL = 1 ∧ t.get F.MEM_SECSTAT_VMASTER = m.toNat)
      ∧ (a.toNat = R.EVT_GPEN → Completes (.registerWrite m a v) s fun t =>
        t.reg R.EVT_GPEN = v ∧ t.mem = s.mem ∧ ∀ b, b ≠ R.EVT_GPEN → t.reg b = s.reg b)
      ∧ (∀ e, e < 256 → a.toNat = R.EVT_ROUTE e → Completes (.registerWrite m a v) s fun t =>
        t.get (F.EVT_ROUTE_VEC e) = bits v 5 0 ∧ t.get (F.EVT_ROUTE_MSIX e) = bits v 6 6 ∧ t.get (F.EVT_ROUTE_IRQ e) = bits v 7 7
        ∧ t.get (F.EVT_ROUTE_CC e) = bits v 8 8 ∧ (e < 184 ∨ 188 ≤ e → t.get (F.EVT_ROUTE_DISP e) = bits v 9 9))
      ∧ (∀ k : Fin 48, a.toNat = R.CLU_IVEC (k / 8) (k % 8) → Completes (.registerWrite m a v) s fun t =>
        t.regs = s.regs ∧ (kget t.held a.toNat).map (fun w => bits w 16 6) = some (bits v 16 6))
      ∧ (a.toNat = R.SYS_ID → exec (.registerWrite m a v) s = .next s)))
  ∧ (∀ s : State,
    (∀ (a : BitVec 24) (data : List Byte), s.portOpen 0x02 = false ∨ data.length < 4 ∨ 0x2000 ≤ a.toNat
        ∨ a.toNat / 4 * 4 + data.length ≤ 0x1000 →
      exec (.spiWrite a data) s = .next s)
    ∧ (∀ (a : BitVec 24) (data : List Byte) (n w : Nat), s.portOpen 0x02 = true → 4 ≤ n → n ≤ 7 → w < 64 →
        a.toNat / 4 * 4 = 0x400 * n + 4 * w → 4 ≤ data.length → data.length < 8 →
      (s.bound 0x02 n false = true → s.chan n = 0 → Completes (.spiWrite a data) s fun t =>
        t.reg (R.MBX_BUF n w) = word (bytesNat (data.take 4)) ∧ ∀ b, b ≠ R.MBX_BUF n w → t.reg b = s.reg b)
      ∧ (s.bound 0x02 n false = false → Completes (.spiWrite a data) s fun t =>
        t.get (F.MBX_STAT_BINDERR n) = 1 ∧ t.reg (R.MBX_BUF n w) = s.reg (R.MBX_BUF n w))
      ∧ (s.bound 0x02 n false = true → s.chan n ≠ 0 → Completes (.spiWrite a data) s fun t =>
        t.get (F.MBX_STAT_SEQERR n) = 1 ∧ t.reg (R.MBX_BUF n w) = s.reg (R.MBX_BUF n w)))
    ∧ (∀ (a : BitVec 24) (n : Nat),
      (s.asleep = true → exec (.spiRead a n) s = .next s)
      ∧ (s.asleep = false → Completes (.spiRead a n) s fun t => t.regs = s.regs ∧ t.mbx.spiOut.length = n
        ∧ (∀ i, i < n → (a.toNat / 4 * 4 + 4 * i < 0x1000 ∨ 0x10000 ≤ a.toNat / 4 * 4 + 4 * i) → t.mbx.spiOut.getD i 1 = 0)
        ∧ (∀ (c : Nat) (w : Nat), 4 ≤ c → c ≤ 7 → w < 64 → a.toNat / 4 * 4 = 0x400 * c + 4 * w → 0 < n →
            t.mbx.spiOut.getD 0 0 = s.reg (R.MBX_BUF c w)))))

/-- PEEK, POKE and DMA (R130, R351, R357, R393, R394, R404, R467): the control core that serves the sender reads and writes words, but for the sample
buffers of the stage jobs, where a read gives no defined value; a range
that is not decoded is REFUSED before any access, a POKE in a linked pair waits for the next round on both chips, and a
channel stops at an error.
Where the rules leave a reading open, it is the model's choice (assumptions 36, 70 and 75). -/
def Obligations.PeekPokeAndDma : Prop :=
  ∀ s : State,
    (∀ (c : Cmd) (n : Nat), s.takes c 0x0F00 3 true = true → n = max 1 (min 60 (cw c 3).toNat) →
      (s.wordsDecoded (pkAddr c) n = false → Completes (.peek c) s fun t => t.answered c 0x0F00 rcRefused 0 [] ∧ t.mem = s.mem)
      ∧ (s.wordsDecoded (pkAddr c) n = true → Completes (.peek c) s fun t => t.mem = s.mem
          ∧ ∃ ws : List Word, ws.length = n ∧ t.answered c 0x0F00 rcDone 0 ws)
      ∧ (pkAddr c + 4 * n ≤ 0x600000 ∨ (0x800000 ≤ pkAddr c ∧ pkAddr c + 4 * n ≤ 0xE000000) → (∀ w ∈ s.memx.poison, w + 8 ≤ pkAddr c ∨ pkAddr c + 4 * n ≤ w) →
        Completes (.peek c) s fun t => t.mem = s.mem
          ∧ t.answered c 0x0F00 rcDone 0 ((List.range n).map fun i => s.memWord (pkAddr c + 4 * i))))
    ∧ (∀ (c : Cmd) (n : Nat), s.takes c 0x0F01 3 true = true → n = max 1 (min 59 (cw c 3).toNat) →
      (c.words.length < 3 + n → Completes (.poke c) s fun t => t.answered c 0x0F01 rcMalformed 0 [] ∧ t.mem = s.mem)
      ∧ (3 + n ≤ c.words.length → s.wordsDecoded (pkAddr c) n = false → Completes (.poke c) s fun t =>
        t.answered c 0x0F01 rcRefused 0 [] ∧ t.mem = s.mem)
      ∧ (3 + n ≤ c.words.length → s.wordsDecoded (pkAddr c) n = true → s.on F.TND_CTL_EN = true → s.get F.TND_LINK_LANES ≠ 0 →
        Completes (.poke c) s fun t => t.tnd.pokes = s.tnd.pokes ++ [(pkAddr c, (c.words.drop 3).take n)] ∧ t.mem = s.mem
          ∧ t.repliedDone c 0x0F01)
      ∧ (3 + n ≤ c.words.length → pkAddr c + 4 * n ≤ 0xE000000 → s.on F.TND_CTL_EN = false →
        (∀ i, i < n → s.bankState (pkAddr c + 4 * i) ≠ 2) → Completes (.poke c) s fun t =>
          (∀ i, i < n → t.memWord (pkAddr c + 4 * i) = cw c (4 + i))
          ∧ (∀ b, b < pkAddr c ∨ pkAddr c + 4 * n ≤ b → t.byte b = s.byte b) ∧ t.repliedDone c 0x0F01))
    ∧ (∀ (ch : Fin 4) (d : DmaDesc),
      (ch.val ∈ s.memx.dmaErr ∨ s.readerRuns = false → exec (.dmaDescriptor ch d) s = .next s)
      ∧ (ch.val ∉ s.memx.dmaErr → s.readerRuns = true →
        (s.decodedRange d.src.toNat d.len = false ∨ s.decodedRange d.dst.toNat d.len = false →
          Completes (.dmaDescriptor ch d) s fun t => ch.val ∈ t.memx.dmaErr ∧ t.mem = s.mem ∧ t.regs = s.regs)
        ∧ (d.src.toNat + d.len ≤ 0xE000000 → d.dst.toNat + d.len ≤ 0xE000000 → 0 < d.len →
          (∀ w ∈ s.memx.poison, w + 8 ≤ d.src.toNat ∨ d.src.toNat + d.len ≤ w) → s.bankState d.dst.toNat ≠ 2 →
          Completes (.dmaDescriptor ch d) s fun t =>
            (d.src.toNat + d.len ≤ 0x600000 ∨ 0x800000 ≤ d.src.toNat → ∀ i, i < d.len → t.byte (d.dst.toNat + i) = s.byte (d.src.toNat + i))
            ∧ (∀ b, b < d.dst.toNat ∨ d.dst.toNat + d.len ≤ b → t.byte b = s.byte b) ∧ t.memx.dmaErr = s.memx.dmaErr)
        ∧ (∀ w, s.firstPoison d.src.toNat d.len = some w → s.decodedRange d.src.toNat d.len = true →
          s.decodedRange d.dst.toNat d.len = true → d.src.toNat < 0x40000000 → d.dst.toNat < 0x40000000 →
          Completes (.dmaDescriptor ch d) s fun t => ch.val ∈ t.memx.dmaErr ∧ t.get F.MEM_ECCLOG0_VALID = 1)))

/-- Bulk data and remote datagrams (R102, R107, R110, R111, R113, R447, R448, R454): an orphan or a segment of a wrong sender is turned away, a segment
is taken in its order and length, the last one runs the command, a late one leaves it MALFORMED; a datagram whose tag or number is wrong only counts, and one that is right runs
its message as that command would.
Where the rules leave a reading open, it is the model's choice (assumptions 71 and 73). -/
def Obligations.BulkAndRemote : Prop :=
  ∀ s : State,
    (∀ (sd : Sender) (tag : BitVec 8) (seg : BitVec 16) (ws : List Word),
      (¬ s.serving → exec (.bulkSegment sd tag seg ws) s = .next s)
      ∧ (s.serving → s.bulkTurned sd = none → kget (s.outbox (Sender.key sd)).bulk tag.toNat = none →
        exec (.bulkSegment sd tag seg ws) s = .next s)
      ∧ (∀ code n, s.serving → s.bulkTurned sd = some code → cmdChan sd = some n → Completes (.bulkSegment sd tag seg ws) s fun t =>
        t.chan (n + 3) = 3 ∧ t.reg (R.MBX_ACK (n + 3)) = word code ∧ t.box = s.box ∧ t.path = s.path ∧ t.mods = s.mods)
      ∧ (s.serving → s.bulkTurned sd = none → ∀ b, kget (s.outbox (Sender.key sd)).bulk tag.toNat = some b →
        ((∃ m, b.next = some m ∧ m ≠ seg.toNat) ∨ ws.length ≠ min 62 ((b.need - b.data.length + 3) / 4) →
          Completes (.bulkSegment sd tag seg ws) s fun t => t.box = s.box ∧ t.path = s.path ∧ t.mods = s.mods)
        ∧ ((∀ m, b.next = some m → m = seg.toNat) → ws.length = min 62 ((b.need - b.data.length + 3) / 4) →
          (b.data.length + 4 * ws.length < b.need → Completes (.bulkSegment sd tag seg ws) s fun t =>
            kget (t.outbox (Sender.key sd)).bulk tag.toNat
              = some { b with next := some (seg.toNat + 1), data := b.data ++ ws.flatMap wordBytes }
            ∧ t.path = s.path ∧ t.mods = s.mods)
          ∧ (b.need ≤ b.data.length + 4 * ws.length → Completes (.bulkSegment sd tag seg ws) s fun t =>
            kget (t.outbox (Sender.key sd)).bulk tag.toNat = none ∧ ∃ rc v xs, t.answered b.cmd b.code rc v xs)))
      ∧ (kget (s.outbox (Sender.key sd)).bulk tag.toNat = none → exec (.bulkTimeout sd tag) s = .next s)
      ∧ (∀ b, kget (s.outbox (Sender.key sd)).bulk tag.toNat = some b → Completes (.bulkTimeout sd tag) s fun t =>
        kget (t.outbox (Sender.key sd)).bulk tag.toNat = none ∧ t.answered b.cmd b.code rcMalformed 0 [] ∧ t.regs = s.regs))
    ∧ (∀ (node : BitVec 16) (seq : BitVec 64) (code : BitVec 16) (tag : BitVec 8) (ws : List Word) (mac : BitVec 128),
      (¬ s.serving → exec (.remoteDatagram node seq code tag ws mac) s = .next s)
      ∧ (s.serving → s.datagramOk node seq (datagramBytes node seq code tag ws) mac = false →
        Completes (.remoteDatagram node seq code tag ws mac) s fun t =>
          t.reg R.SEC_AUTHFAIL = word (min 4294967295 ((s.reg R.SEC_AUTHFAIL).toNat + 1)) ∧ t.box = s.box ∧ t.sec = s.sec)
      ∧ (s.serving → s.datagramOk node seq (datagramBytes node seq code tag ws) mac = true →
        ∀ u : State, u = { s with sec := { s.sec with replay := replayNote node.toNat seq.toNat s.sec.replay } } →
        ∀ c : Cmd, c = { sender := .node node, tag := tag, words := ws } →
          exec (.remoteDatagram node seq code tag ws mac) s = .next (silwenTake code.toNat c u)
          ∧ (code = 0x0300 → exec (.remoteDatagram node seq code tag ws mac) s = exec (.getTime c) u)
          ∧ (code = 0x0500 → exec (.remoteDatagram node seq code tag ws mac) s = exec (.route c) u)
          ∧ (code = 0x0800 → exec (.remoteDatagram node seq code tag ws mac) s = exec (.hamperOpen c) u)
          ∧ (code = 0x0F01 → exec (.remoteDatagram node seq code tag ws mac) s = exec (.poke c) u)
          ∧ (code = 0x0DFF → Completes (.remoteDatagram node seq code tag ws mac) s fun t =>
            (t.outbox (Sender.key (.node node))).lastAck = some (rcUnknown, 0) ∧ t.regs = s.regs)))

/-- How the firmware takes a Silwen command, of every code (R104, R107, R113, R114, R351, R380, R441, R451): none while it does
not run or sleeps; one it does not admit is only acknowledged; one it admits is acknowledged DONE and answered MALFORMED when its
payload is too short, and REFUSED where a standby or a sleep entry does not take it, and then has no effect.
Where the rules leave a reading open, it is the model's choice (assumptions 8 and 101). -/
def Obligations.SilwenCommandsAreTaken : Prop :=
  ∀ (s : State) (i : Instr) (code n : Nat) (x : Bool) (c : Cmd), silwenOf i = some (code, n, x, c) →
    (¬ s.serving → exec i s = .next s)
    ∧ (s.serving → ackCode c x s ≠ rcDone → Completes i s fun t =>
      (t.outbox (Sender.key c.sender)).lastAck = some (ackCode c x s, 0)
      ∧ (t.outbox (Sender.key c.sender)).replies = (s.outbox (Sender.key c.sender)).replies
      ∧ (t.outbox (Sender.key c.sender)).tags = (s.outbox (Sender.key c.sender)).tags
      ∧ ∀ p : Part, p ∉ [.regs, .box, .disp, .ev] → p.same s t)
    ∧ (s.serving → ackCode c x s = rcDone → ∀ rc : Nat,
        ((c.words.length < n ∧ rc = rcMalformed)
          ∨ (n ≤ c.words.length ∧ ((s.standby = true ∧ standbyTakes code = false) ∨ (s.sleeping = true ∧ sleepTakes code = false))
            ∧ rc = rcRefused)) →
        Completes i s fun t => t.answered c code rc 0 [] ∧ (t.outbox (Sender.key c.sender)).lastAck.map (·.1) = some rcDone
          ∧ kget (t.outbox (Sender.key c.sender)).tags c.tag.toNat = none
          ∧ ∀ p : Part, p ∉ [.regs, .box, .disp, .ev] → p.same s t)
    ∧ ((cmdChan c.sender = none ∨ ∃ m, cmdChan c.sender = some m ∧ s.chan m ≠ 1) → ackCode c x s =
        (if 62 < c.words.length then rcMalformed
         else if x = true ∧ s.expert c.sender = false then rcLocked
         else if 256 ≤ (s.outbox (Sender.key c.sender)).tags.length then rcNoSpace
         else if (kget (s.outbox (Sender.key c.sender)).tags c.tag.toNat).isSome = true then rcRefused else rcDone))
end

