-- ==== Sys2Proof/Laws/KMap.lean ====
section
/-! SUPPORT. Sparse tables: what is read after a write, and that every operation keeps the canonical form. -/

namespace Sys2Proof.Laws
open Sys2Proof.Machine

variable {α : Type}

/-- What a key reads after one key is written. -/
theorem kget_kset (m : KMap α) (k : Nat) (v : α) (i : Nat) :
    kget (kset m k v) i = if k = i then some v else kget m i := by
  induction m with
  | nil => simp [kset, kget]
  | cons x m ih =>
    obtain ⟨j, w⟩ := x
    simp only [kset]
    split
    · simp only [kget]
    · split
      · rename_i hjk
        subst hjk
        simp only [kget]
        split <;> simp_all
      · simp only [kget, ih]
        split <;> split <;> simp_all

/-- What a key reads after one key is taken out. -/
theorem kget_kdel (m : KMap α) (k i : Nat) : kget (kdel m k) i = if k = i then none else kget m i := by
  induction m with
  | nil => simp [kdel, kget]
  | cons x m ih =>
    obtain ⟨j, w⟩ := x
    simp only [kdel]
    split
    · simp only [ih, kget]
      split <;> simp_all
    · simp only [kget, ih]
      split <;> split <;> simp_all

/-- What a key reads, with the default, after one key is written. -/
theorem kgetD_ksetD [DecidableEq α] (m : KMap α) (k : Nat) (v d e : α) (i : Nat) (h : k = i → e = d) :
    kgetD (ksetD m k v d) i e = if k = i then v else kgetD m i e := by
  unfold kgetD ksetD
  split
  · rw [kget_kdel]; split <;> simp_all
  · rw [kget_kset]; split <;> simp_all

/-! ### The canonical form -/

theorem kRisesFrom_mono {m : KMap α} {a b : Nat} (h : kRisesFrom b m = true) (hab : a ≤ b) :
    kRisesFrom a m = true := by
  cases m with
  | nil => rfl
  | cons x m =>
    simp only [kRisesFrom, Bool.and_eq_true, decide_eq_true_eq] at h ⊢
    exact ⟨by omega, h.2⟩

theorem kset_rises {m : KMap α} {k : Nat} {v : α} {b : Nat} (h : kRisesFrom b m = true) (hb : b ≤ k) :
    kRisesFrom b (kset m k v) = true := by
  induction m generalizing b with
  | nil => simp [kset, kRisesFrom, hb]
  | cons x m ih =>
    obtain ⟨j, w⟩ := x
    simp only [kRisesFrom, Bool.and_eq_true, decide_eq_true_eq] at h
    simp only [kset]
    split
    · simp only [kRisesFrom, Bool.and_eq_true, decide_eq_true_eq]
      exact ⟨hb, by omega, h.2⟩
    · split
      · subst_vars
        simp only [kRisesFrom, Bool.and_eq_true, decide_eq_true_eq]
        exact ⟨hb, h.2⟩
      · simp only [kRisesFrom, Bool.and_eq_true, decide_eq_true_eq]
        exact ⟨h.1, ih h.2 (by omega)⟩

theorem kdel_rises {m : KMap α} {k b : Nat} (h : kRisesFrom b m = true) : kRisesFrom b (kdel m k) = true := by
  induction m generalizing b with
  | nil => rfl
  | cons x m ih =>
    obtain ⟨j, w⟩ := x
    simp only [kRisesFrom, Bool.and_eq_true, decide_eq_true_eq] at h
    simp only [kdel]
    split
    · exact ih (kRisesFrom_mono h.2 (by omega))
    · simp only [kRisesFrom, Bool.and_eq_true, decide_eq_true_eq]
      exact ⟨h.1, ih h.2⟩

theorem filter_rises {m : KMap α} {p : Nat × α → Bool} {b : Nat} (h : kRisesFrom b m = true) :
    kRisesFrom b (m.filter p) = true := by
  induction m generalizing b with
  | nil => rfl
  | cons x m ih =>
    obtain ⟨j, w⟩ := x
    simp only [kRisesFrom, Bool.and_eq_true, decide_eq_true_eq] at h
    simp only [List.filter]
    split
    · simp only [kRisesFrom, Bool.and_eq_true, decide_eq_true_eq]
      exact ⟨h.1, ih h.2⟩
    · exact ih (kRisesFrom_mono h.2 (by omega))

theorem mem_kset {m : KMap α} {k : Nat} {v : α} {c : Nat × α} (h : c ∈ kset m k v) : c = (k, v) ∨ c ∈ m := by
  induction m with
  | nil => simpa [kset] using h
  | cons x m ih =>
    obtain ⟨j, w⟩ := x
    simp only [kset] at h
    split at h
    · rcases List.mem_cons.1 h with h | h
      · exact .inl h
      · exact .inr h
    · split at h
      · rcases List.mem_cons.1 h with h | h
        · exact .inl h
        · exact .inr (List.mem_cons_of_mem _ h)
      · rcases List.mem_cons.1 h with h | h
        · exact .inr (h ▸ List.mem_cons_self)
        · exact (ih h).imp_right (List.mem_cons_of_mem _)

theorem mem_kdel {m : KMap α} {k : Nat} {c : Nat × α} (h : c ∈ kdel m k) : c ∈ m := by
  induction m with
  | nil => exact h
  | cons x m ih =>
    obtain ⟨j, w⟩ := x
    simp only [kdel] at h
    split at h
    · exact List.mem_cons_of_mem _ (ih h)
    · rcases List.mem_cons.1 h with h | h
      · exact h ▸ List.mem_cons_self
      · exact List.mem_cons_of_mem _ (ih h)

/-- A table in canonical form for a default that may depend on the key. -/
def kOk [DecidableEq α] (d : Nat → α) (m : KMap α) : Bool := kSorted m && m.all fun c => c.2 != d c.1

theorem kOk_ksetD [DecidableEq α] {d : Nat → α} {m : KMap α} {k : Nat} {v : α} (h : kOk d m = true) :
    kOk d (ksetD m k v (d k)) = true := by
  simp only [kOk, kSorted, Bool.and_eq_true, List.all_eq_true, bne_iff_ne, ne_eq] at h ⊢
  unfold ksetD
  split
  · exact ⟨kdel_rises h.1, fun c hc => h.2 c (mem_kdel hc)⟩
  · refine ⟨kset_rises h.1 (Nat.zero_le _), fun c hc => ?_⟩
    rcases mem_kset hc with rfl | hc
    · assumption
    · exact h.2 c hc

theorem kOk_filter [DecidableEq α] {d : Nat → α} {m : KMap α} {p : Nat × α → Bool} (h : kOk d m = true) :
    kOk d (m.filter p) = true := by
  simp only [kOk, kSorted, Bool.and_eq_true, List.all_eq_true, bne_iff_ne, ne_eq] at h ⊢
  exact ⟨filter_rises h.1, fun c hc => h.2 c (List.mem_filter.1 hc).1⟩

end Sys2Proof.Laws
end

