-- ==== Sys2Proof/Laws/Memory.lean ====
section
/-! SUPPORT. Memory: every operation keeps the canonical form, and what a byte reads after a write. -/

namespace Sys2Proof.Laws
open Sys2Proof.Machine

theorem wf_eq_kOk (m : List Host.Cell) : Memory.wf m = kOk (fun _ => 0) m := rfl

/-- Storing one byte keeps the canonical form. -/
theorem wf_ksetD {m : List Host.Cell} {a : Nat} {v : Byte} (h : Memory.wf m = true) :
    Memory.wf (ksetD m a v memDefault) = true :=
  kOk_ksetD (d := fun _ => (0 : Byte)) h

/-- Storing bytes keeps the canonical form. -/
theorem wf_memWrite {m : List Host.Cell} {a : Nat} {vs : List Byte} (h : Memory.wf m = true) :
    Memory.wf (memWrite m a vs) = true := by
  induction vs generalizing m a with
  | nil => exact h
  | cons v vs ih => exact ih (wf_ksetD h)

/-- Clearing a range keeps the canonical form. -/
theorem wf_memClear {m : List Host.Cell} {a n : Nat} (h : Memory.wf m = true) : Memory.wf (memClear m a n) = true :=
  kOk_filter (d := fun _ => (0 : Byte)) h

/-- Copying a range keeps the canonical form. -/
theorem wf_memCopy {m : List Host.Cell} {src dst n : Nat} (h : Memory.wf m = true) :
    Memory.wf (memCopy m src dst n) = true := by
  unfold memCopy
  generalize m.filter _ = l
  have h0 : Memory.wf (memClear m dst n) = true := wf_memClear h
  revert h0
  generalize memClear m dst n = acc
  intro h0
  induction l generalizing acc with
  | nil => exact h0
  | cons c l ih => exact ih _ (wf_ksetD h0)

/-- What the always-on domain keeps is in canonical form. -/
theorem wf_bksCells {s : State} (h : Memory.wf s.mem = true) : Memory.wf (bksCells s) = true :=
  kOk_filter (d := fun _ => (0 : Byte)) h

/-- One byte stored: it reads as stored, every other byte as before. -/
theorem read_ksetD (m : List Host.Cell) (a : Nat) (v : Byte) (b : Nat) :
    kgetD (ksetD m a v memDefault) b memDefault = if a = b then v else kgetD m b memDefault :=
  kgetD_ksetD m a v memDefault memDefault b fun _ => rfl

/-- Bytes stored: outside their range every byte reads as before. -/
theorem read_memWrite_outside (m : List Host.Cell) (a : Nat) (vs : List Byte) (b : Nat)
    (h : b < a ∨ a + vs.length ≤ b) : kgetD (memWrite m a vs) b memDefault = kgetD m b memDefault := by
  induction vs generalizing m a with
  | nil => rfl
  | cons v vs ih =>
    simp only [List.length_cons] at h
    rw [memWrite, ih _ _ (by omega), read_ksetD, if_neg (by omega)]

/-- Bytes stored: inside their range each reads as stored. -/
theorem read_memWrite_inside (m : List Host.Cell) (a : Nat) (vs : List Byte) (i : Nat) (h : i < vs.length) :
    kgetD (memWrite m a vs) (a + i) memDefault = vs.getD i 0 := by
  induction vs generalizing m a i with
  | nil => simp at h
  | cons v vs ih =>
    cases i with
    | zero =>
      rw [memWrite, read_memWrite_outside _ _ _ _ (by omega), read_ksetD]
      simp
    | succ i =>
      rw [memWrite, show a + (i + 1) = a + 1 + i by omega, ih _ _ _ (by simpa using h)]
      simp

end Sys2Proof.Laws
end

