-- ==== Sys2Proof/Laws/Registers.lean ====
section
/-! SUPPORT. Registers: what a register and a field read after a write. -/

namespace Sys2Proof.Laws
open Sys2Proof.Machine

/-- What a register reads after one is written. -/
theorem reg_setReg (s : State) (a b : Nat) (w : Word) : (s.setReg a w).reg b = if a = b then w else s.reg b :=
  kgetD_ksetD s.regs a w (resetWord a) (resetWord b) b fun h => by rw [h]

@[simp] theorem reg_setReg_same (s : State) (a : Nat) (w : Word) : (s.setReg a w).reg a = w := by
  rw [reg_setReg, if_pos rfl]

theorem reg_setReg_other (s : State) {a b : Nat} (w : Word) (h : a ≠ b) : (s.setReg a w).reg b = s.reg b := by
  rw [reg_setReg, if_neg h]

theorem field_lt (n hi lo : Nat) : field n hi lo < 2 ^ (hi + 1 - lo) := Nat.mod_lt _ (Nat.two_pow_pos _)

/-- A number with a field replaced, in its three parts. -/
theorem setField_parts (n hi lo v : Nat) (h : lo ≤ hi) :
    setField n hi lo v
      = (n / 2 ^ (hi + 1) * 2 ^ (hi + 1 - lo) + v % 2 ^ (hi + 1 - lo)) * 2 ^ lo + n % 2 ^ lo := by
  have hp : 2 ^ (hi + 1) = 2 ^ lo * 2 ^ (hi + 1 - lo) := by rw [← Nat.pow_add]; congr 1; omega
  have h1 := Nat.div_add_mod n (2 ^ lo)
  have h2 := Nat.div_add_mod (n / 2 ^ lo) (2 ^ (hi + 1 - lo))
  rw [Nat.div_div_eq_div_mul, ← hp] at h2
  unfold setField field
  generalize n / 2 ^ (hi + 1) = a at *
  generalize n / 2 ^ lo % 2 ^ (hi + 1 - lo) = f at *
  generalize v % 2 ^ (hi + 1 - lo) = v' at *
  generalize n % 2 ^ lo = r at *
  rw [← h2] at h1
  generalize 2 ^ (hi + 1 - lo) = w at *
  generalize 2 ^ lo = l at *
  have e : l * (w * a + f) = a * w * l + f * l := by
    rw [Nat.mul_comm l, Nat.add_mul, Nat.mul_comm w a]
  rw [e] at h1
  rw [Nat.add_mul]
  omega

theorem setField_mod (n hi lo v : Nat) (h : lo ≤ hi) : setField n hi lo v % 2 ^ lo = n % 2 ^ lo := by
  rw [setField_parts n hi lo v h, Nat.mul_add_mod_of_lt (Nat.mod_lt _ (Nat.two_pow_pos _))]

theorem setField_div_lo (n hi lo v : Nat) (h : lo ≤ hi) :
    setField n hi lo v / 2 ^ lo = n / 2 ^ (hi + 1) * 2 ^ (hi + 1 - lo) + v % 2 ^ (hi + 1 - lo) := by
  rw [setField_parts n hi lo v h, Nat.mul_comm, Nat.mul_add_div (Nat.two_pow_pos _),
    Nat.div_eq_of_lt (Nat.mod_lt _ (Nat.two_pow_pos _)), Nat.add_zero]

theorem setField_div_hi (n hi lo v : Nat) (h : lo ≤ hi) : setField n hi lo v / 2 ^ (hi + 1) = n / 2 ^ (hi + 1) := by
  have hp : 2 ^ (hi + 1) = 2 ^ lo * 2 ^ (hi + 1 - lo) := by rw [← Nat.pow_add]; congr 1; omega
  conv => lhs; rw [hp]
  rw [← Nat.div_div_eq_div_mul, setField_div_lo n hi lo v h, Nat.mul_comm, Nat.mul_add_div (Nat.two_pow_pos _),
    Nat.div_eq_of_lt (Nat.mod_lt _ (Nat.two_pow_pos _)), Nat.add_zero]

/-- The field written. -/
theorem field_setField (n hi lo v : Nat) (h : lo ≤ hi) :
    field (setField n hi lo v) hi lo = v % 2 ^ (hi + 1 - lo) := by
  rw [field, setField_div_lo n hi lo v h, Nat.mul_comm, Nat.mul_add_mod, Nat.mod_mod]

/-- A field that lies wholly below or wholly above the one written. -/
theorem field_setField_other (n hi lo v hi' lo' : Nat) (h : lo ≤ hi) (hd : hi' < lo ∨ hi < lo') (h' : lo' ≤ hi') :
    field (setField n hi lo v) hi' lo' = field n hi' lo' := by
  rcases hd with hd | hd
  · have key : ∀ m : Nat, field m hi' lo' = field (m % 2 ^ lo) hi' lo' := by
      intro m
      have hp : 2 ^ lo = 2 ^ lo' * 2 ^ (lo - lo') := by rw [← Nat.pow_add]; congr 1; omega
      have hq : (2 : Nat) ^ (hi' + 1 - lo') ∣ 2 ^ (lo - lo') := Nat.pow_dvd_pow 2 (by omega)
      rw [field, field, hp, Nat.mod_mul_right_div_self, Nat.mod_mod_of_dvd _ hq]
    rw [key, setField_mod n hi lo v h, ← key]
  · have key : ∀ m : Nat, field m hi' lo' = m / 2 ^ (hi + 1) / 2 ^ (lo' - (hi + 1)) % 2 ^ (hi' + 1 - lo') := by
      intro m
      rw [field, Nat.div_div_eq_div_mul, ← Nat.pow_add, show hi + 1 + (lo' - (hi + 1)) = lo' by omega]
    rw [key, setField_div_hi n hi lo v h, ← key]

/-- Only the low 32 bits of a number reach a field of a register. -/
theorem field_mod (n hi lo : Nat) (h : hi < 32) (hl : lo ≤ hi) : field (n % 2 ^ 32) hi lo = field n hi lo := by
  have hp : (2 : Nat) ^ 32 = 2 ^ lo * 2 ^ (32 - lo) := by rw [← Nat.pow_add]; congr 1; omega
  have hq : (2 : Nat) ^ (hi + 1 - lo) ∣ 2 ^ (32 - lo) := Nat.pow_dvd_pow 2 (by omega)
  rw [field, field, hp, Nat.mod_mul_right_div_self, Nat.mod_mod_of_dvd _ hq]

/-- A field reads as written. -/
theorem get_put (s : State) (f : FieldRef) (v : Nat) (hl : f.lo ≤ f.hi) (hh : f.hi < 32) :
    (s.put f v).get f = v % 2 ^ (f.hi + 1 - f.lo) := by
  rw [State.get, State.put, reg_setReg_same, word, BitVec.toNat_ofNat, field_mod _ _ _ hh hl, field_setField _ _ _ _ hl]

/-- A field of another register, or one that does not overlap, reads as before. -/
theorem get_put_other (s : State) (f g : FieldRef) (v : Nat) (hl : f.lo ≤ f.hi) (hl' : g.lo ≤ g.hi) (hh : g.hi < 32)
    (hd : f.addr ≠ g.addr ∨ g.hi < f.lo ∨ f.hi < g.lo) : (s.put f v).get g = s.get g := by
  unfold State.get State.put
  by_cases ha : f.addr = g.addr
  · rw [reg_setReg, if_pos ha, word, BitVec.toNat_ofNat, field_mod _ _ _ hh hl',
      field_setField_other _ _ _ _ _ _ hl (hd.resolve_left (by simpa using ha)) hl', ha]
  · rw [reg_setReg_other _ _ ha]

/-- A register other than that of the field reads as before. -/
theorem reg_put_other (s : State) (f : FieldRef) (v : Nat) {b : Nat} (h : f.addr ≠ b) :
    (s.put f v).reg b = s.reg b := reg_setReg_other s _ h

/-- A field of another register reads as before a register write. -/
theorem get_setReg_other (s : State) {a : Nat} (w : Word) (g : FieldRef) (h : a ≠ g.addr) :
    (s.setReg a w).get g = s.get g := by
  rw [State.get, State.get, reg_setReg_other _ _ h]

/-- The register file keeps its canonical form. -/
theorem setReg_ok {s : State} {a : Nat} {w : Word} (h : kOk resetWord s.regs = true) :
    kOk resetWord (s.setReg a w).regs = true :=
  kOk_ksetD (d := resetWord) h

end Sys2Proof.Laws
end

