-- ==== Sys2Proof/Laws/Agree.lean ====
section
/-! SUPPORT. `Agree w s t`: what a command that writes only the parts `w` of the state `s` may leave as `t`.
Every operation of the model has one such lemma; they compose by `apply`. -/

namespace Sys2Proof.Laws
open Sys2Proof.Machine

/-- Every part outside `w` is the same, memory and the register file keep their canonical form, and no free
value is taken back. -/
structure Agree (w : Part → Bool) (s t : State) : Prop where
  same : ∀ p, w p = false → p.same s t
  memOk : s.memOk → t.memOk
  regsOk : s.regsOk → t.regsOk
  free : s.free ≤ t.free

variable {w : Part → Bool} {r s : State}

theorem Agree.refl : Agree w s s := ⟨fun p _ => by cases p <;> rfl, id, id, Nat.le_refl _⟩

theorem agree_setReg {a : Nat} {v : Word} (h : Agree w r s) (h0 : w .regs) : Agree w r (s.setReg a v) :=
  ⟨fun p hp => by cases p <;> first | exact h.same _ hp | simp_all, h.memOk, fun x => setReg_ok (h.regsOk x), h.free⟩

/-- Memory replaced by one in canonical form. -/
theorem agree_setMem {m : List Host.Cell} (h : Agree w r s) (h0 : w .mem)
    (hm : r.memOk → Memory.wf m = true) : Agree w r { s with mem := m } :=
  ⟨fun p hp => by cases p <;> first | exact h.same _ hp | simp_all, hm, h.regsOk, h.free⟩

/-- The free counter moved on. -/
theorem agree_setFree {n : Nat} (h : Agree w r s) (h0 : w .free) (hn : s.free ≤ n) : Agree w r { s with free := n } :=
  ⟨fun p hp => by cases p <;> first | exact h.same _ hp | simp_all, h.memOk, h.regsOk, Nat.le_trans h.free hn⟩

/-- The free counter moved on together with a register field. -/
theorem agree_putFree {f : FieldRef} {v n : Nat} (h : Agree w r s) (h0 : w .regs) (h1 : w .free) :
    Agree w r { s.put f v with free := s.free + n } :=
  agree_setFree (agree_setReg h h0) h1 (Nat.le_add_right _ _)

theorem agree_set_held {v0} (h : Agree w r s) (h0 : w .held) : Agree w r { s with held := v0 } :=
  ⟨fun p hp => by cases p <;> first | exact h.same _ hp | simp_all, h.memOk, h.regsOk, h.free⟩

theorem agree_set_pins {v0} (h : Agree w r s) (h0 : w .pins) : Agree w r { s with pins := v0 } :=
  ⟨fun p hp => by cases p <;> first | exact h.same _ hp | simp_all, h.memOk, h.regsOk, h.free⟩

theorem agree_set_time {v0} (h : Agree w r s) (h0 : w .time) : Agree w r { s with time := v0 } :=
  ⟨fun p hp => by cases p <;> first | exact h.same _ hp | simp_all, h.memOk, h.regsOk, h.free⟩

theorem agree_set_eng {v0} (h : Agree w r s) (h0 : w .eng) : Agree w r { s with eng := v0 } :=
  ⟨fun p hp => by cases p <;> first | exact h.same _ hp | simp_all, h.memOk, h.regsOk, h.free⟩

theorem agree_set_eng_sig {v0} {v1} (h : Agree w r s) (h0 : w .eng) (h1 : w .sig) : Agree w r { s with eng := v0, sig := v1 } :=
  ⟨fun p hp => by cases p <;> first | exact h.same _ hp | simp_all, h.memOk, h.regsOk, h.free⟩

theorem agree_set_eng_supv_tnd_pwr_night {v0} {v1} {v2} {v3} {v4} (h : Agree w r s) (h0 : w .eng) (h1 : w .supv) (h2 : w .tnd) (h3 : w .pwr) (h4 : w .night) : Agree w r { s with eng := v0, supv := v1, tnd := v2, pwr := v3, night := v4 } :=
  ⟨fun p hp => by cases p <;> first | exact h.same _ hp | simp_all, h.memOk, h.regsOk, h.free⟩

theorem agree_set_box {v0} (h : Agree w r s) (h0 : w .box) : Agree w r { s with box := v0 } :=
  ⟨fun p hp => by cases p <;> first | exact h.same _ hp | simp_all, h.memOk, h.regsOk, h.free⟩

theorem agree_set_hamp {v0} (h : Agree w r s) (h0 : w .hamp) : Agree w r { s with hamp := v0 } :=
  ⟨fun p hp => by cases p <;> first | exact h.same _ hp | simp_all, h.memOk, h.regsOk, h.free⟩

theorem agree_set_hamp_boot {v0} {v1} (h : Agree w r s) (h0 : w .hamp) (h1 : w .boot) : Agree w r { s with hamp := v0, boot := v1 } :=
  ⟨fun p hp => by cases p <;> first | exact h.same _ hp | simp_all, h.memOk, h.regsOk, h.free⟩

theorem agree_set_path {v0} (h : Agree w r s) (h0 : w .path) : Agree w r { s with path := v0 } :=
  ⟨fun p hp => by cases p <;> first | exact h.same _ hp | simp_all, h.memOk, h.regsOk, h.free⟩

theorem agree_set_path_mods {v0} {v1} (h : Agree w r s) (h0 : w .path) (h1 : w .mods) : Agree w r { s with path := v0, mods := v1 } :=
  ⟨fun p hp => by cases p <;> first | exact h.same _ hp | simp_all, h.memOk, h.regsOk, h.free⟩

theorem agree_set_mods {v0} (h : Agree w r s) (h0 : w .mods) : Agree w r { s with mods := v0 } :=
  ⟨fun p hp => by cases p <;> first | exact h.same _ hp | simp_all, h.memOk, h.regsOk, h.free⟩

theorem agree_set_disp {v0} (h : Agree w r s) (h0 : w .disp) : Agree w r { s with disp := v0 } :=
  ⟨fun p hp => by cases p <;> first | exact h.same _ hp | simp_all, h.memOk, h.regsOk, h.free⟩

theorem agree_set_disp_cores {v0} {v1} (h : Agree w r s) (h0 : w .disp) (h1 : w .cores) : Agree w r { s with disp := v0, cores := v1 } :=
  ⟨fun p hp => by cases p <;> first | exact h.same _ hp | simp_all, h.memOk, h.regsOk, h.free⟩

theorem agree_set_sig {v0} (h : Agree w r s) (h0 : w .sig) : Agree w r { s with sig := v0 } :=
  ⟨fun p hp => by cases p <;> first | exact h.same _ hp | simp_all, h.memOk, h.regsOk, h.free⟩

theorem agree_set_cores {v0} (h : Agree w r s) (h0 : w .cores) : Agree w r { s with cores := v0 } :=
  ⟨fun p hp => by cases p <;> first | exact h.same _ hp | simp_all, h.memOk, h.regsOk, h.free⟩

theorem agree_set_ev {v0} (h : Agree w r s) (h0 : w .ev) : Agree w r { s with ev := v0 } :=
  ⟨fun p hp => by cases p <;> first | exact h.same _ hp | simp_all, h.memOk, h.regsOk, h.free⟩

theorem agree_set_flt {v0} (h : Agree w r s) (h0 : w .flt) : Agree w r { s with flt := v0 } :=
  ⟨fun p hp => by cases p <;> first | exact h.same _ hp | simp_all, h.memOk, h.regsOk, h.free⟩

theorem agree_set_boot {v0} (h : Agree w r s) (h0 : w .boot) : Agree w r { s with boot := v0 } :=
  ⟨fun p hp => by cases p <;> first | exact h.same _ hp | simp_all, h.memOk, h.regsOk, h.free⟩

theorem agree_set_sec {v0} (h : Agree w r s) (h0 : w .sec) : Agree w r { s with sec := v0 } :=
  ⟨fun p hp => by cases p <;> first | exact h.same _ hp | simp_all, h.memOk, h.regsOk, h.free⟩

theorem agree_set_mbx {v0} (h : Agree w r s) (h0 : w .mbx) : Agree w r { s with mbx := v0 } :=
  ⟨fun p hp => by cases p <;> first | exact h.same _ hp | simp_all, h.memOk, h.regsOk, h.free⟩

theorem agree_set_tdm {v0} (h : Agree w r s) (h0 : w .tdm) : Agree w r { s with tdm := v0 } :=
  ⟨fun p hp => by cases p <;> first | exact h.same _ hp | simp_all, h.memOk, h.regsOk, h.free⟩

theorem agree_set_net {v0} (h : Agree w r s) (h0 : w .net) : Agree w r { s with net := v0 } :=
  ⟨fun p hp => by cases p <;> first | exact h.same _ hp | simp_all, h.memOk, h.regsOk, h.free⟩

theorem agree_set_ref {v0} (h : Agree w r s) (h0 : w .ref) : Agree w r { s with ref := v0 } :=
  ⟨fun p hp => by cases p <;> first | exact h.same _ hp | simp_all, h.memOk, h.regsOk, h.free⟩

theorem agree_set_supv {v0} (h : Agree w r s) (h0 : w .supv) : Agree w r { s with supv := v0 } :=
  ⟨fun p hp => by cases p <;> first | exact h.same _ hp | simp_all, h.memOk, h.regsOk, h.free⟩

theorem agree_set_supv_night {v0} {v1} (h : Agree w r s) (h0 : w .supv) (h1 : w .night) : Agree w r { s with supv := v0, night := v1 } :=
  ⟨fun p hp => by cases p <;> first | exact h.same _ hp | simp_all, h.memOk, h.regsOk, h.free⟩

theorem agree_set_tnd {v0} (h : Agree w r s) (h0 : w .tnd) : Agree w r { s with tnd := v0 } :=
  ⟨fun p hp => by cases p <;> first | exact h.same _ hp | simp_all, h.memOk, h.regsOk, h.free⟩

theorem agree_set_tnd_night {v0} {v1} (h : Agree w r s) (h0 : w .tnd) (h1 : w .night) : Agree w r { s with tnd := v0, night := v1 } :=
  ⟨fun p hp => by cases p <;> first | exact h.same _ hp | simp_all, h.memOk, h.regsOk, h.free⟩

theorem agree_set_pwr {v0} (h : Agree w r s) (h0 : w .pwr) : Agree w r { s with pwr := v0 } :=
  ⟨fun p hp => by cases p <;> first | exact h.same _ hp | simp_all, h.memOk, h.regsOk, h.free⟩

theorem agree_set_memx {v0} (h : Agree w r s) (h0 : w .memx) : Agree w r { s with memx := v0 } :=
  ⟨fun p hp => by cases p <;> first | exact h.same _ hp | simp_all, h.memOk, h.regsOk, h.free⟩

theorem agree_set_cnt {v0} (h : Agree w r s) (h0 : w .cnt) : Agree w r { s with cnt := v0 } :=
  ⟨fun p hp => by cases p <;> first | exact h.same _ hp | simp_all, h.memOk, h.regsOk, h.free⟩

theorem agree_set_night {v0} (h : Agree w r s) (h0 : w .night) : Agree w r { s with night := v0 } :=
  ⟨fun p hp => by cases p <;> first | exact h.same _ hp | simp_all, h.memOk, h.regsOk, h.free⟩

theorem agree_set_link {v0} (h : Agree w r s) (h0 : w .link) : Agree w r { s with link := v0 } :=
  ⟨fun p hp => by cases p <;> first | exact h.same _ hp | simp_all, h.memOk, h.regsOk, h.free⟩

theorem agree_ite {a b : State} {c : Prop} [Decidable c] (ha : c → Agree w r a) (hb : ¬c → Agree w r b) :
    Agree w r (if c then a else b) := by
  split
  · exact ha ‹_›
  · exact hb ‹_›

theorem agree_ite_fst {α : Type} {a b : State × α} {c : Prop} [Decidable c] (ha : c → Agree w r a.1)
    (hb : ¬c → Agree w r b.1) : Agree w r (if c then a else b).1 := by
  split
  · exact ha ‹_›
  · exact hb ‹_›

theorem agree_when {c : Bool} {f : State → State} (h : Agree w r s) (hf : ∀ s, Agree w r s → Agree w r (f s)) :
    Agree w r (s.when c f) := by
  unfold State.when
  split
  · exact hf _ h
  · exact h

theorem agree_foldl {α : Type} {f : State → α → State} {l : List α} (h : Agree w r s)
    (hf : ∀ x s, Agree w r s → Agree w r (f s x)) : Agree w r (l.foldl f s) := by
  induction l generalizing s with
  | nil => exact h
  | cons x l ih => exact ih (hf x s h)

theorem agree_foldl_fst {α β : Type} {f : State × β → α → State × β} {l : List α} {a : State × β}
    (h : Agree w r a.1) (hf : ∀ x a, Agree w r a.1 → Agree w r (f a x).1) : Agree w r (l.foldl f a).1 := by
  induction l generalizing a with
  | nil => exact h
  | cons x l ih => exact ih (hf x a h)

theorem agree_each {α : Type} {f : α → State → State} {l : List α} (h : Agree w r s)
    (hf : ∀ x s, Agree w r s → Agree w r (f x s)) : Agree w r (s.each l f) :=
  agree_foldl h fun x s h => hf x s h

end Sys2Proof.Laws
end

