-- ==== Sys2Proof/Laws/FramesOps.lean ====
section
/-! SUPPORT. Which parts of the state each operation of Machine/Ops.lean may write. -/

namespace Sys2Proof.Laws
open Sys2Proof.Machine

variable {W : Part → Bool} {r₀ : State}

theorem incSat_agree (s : State) (a : Nat)
    (hs : Agree W r₀ s) (h0 : W .regs) :
    Agree W r₀ (State.incSat s a) := by
  unfold State.incSat
  repeat' with_reducible first | assumption | apply agree_setReg

theorem put_agree (s : State) (f : FieldRef) (v : Nat)
    (hs : Agree W r₀ s) (h0 : W .regs) :
    Agree W r₀ (State.put s f v) := by
  unfold State.put
  repeat' with_reducible first | assumption | apply agree_setReg

theorem setBit_agree (s : State) (a i : Nat) (b : Bool)
    (hs : Agree W r₀ s) (h0 : W .regs) :
    Agree W r₀ (State.setBit s a i b) := by
  unfold State.setBit
  repeat' with_reducible first | assumption | apply put_agree | apply agree_ite | (intro) | split

theorem evToDisp_agree (s : State) (e : Nat)
    (hs : Agree W r₀ s) (h0 : W .disp) :
    Agree W r₀ (State.evToDisp s e) := by
  unfold State.evToDisp
  dsimp only
  repeat' with_reducible first
    | assumption | (apply agree_set_disp <;> assumption) | apply agree_ite | apply agree_each | (intro) | split
    | apply agree_set_disp

theorem evToHost_agree (s : State) (e : Nat)
    (hs : Agree W r₀ s) (h0 : W .regs) (h1 : W .ev) :
    Agree W r₀ (State.evToHost s e) := by
  unfold State.evToHost
  dsimp only
  repeat' with_reducible first
    | assumption | apply setBit_agree | (apply agree_set_ev <;> assumption) | apply agree_ite | apply agree_when
    | (intro) | split | apply agree_set_ev

theorem raise_agree (s : State) (e : Nat)
    (hs : Agree W r₀ s) (h0 : W .regs) (h1 : W .disp) (h2 : W .ev) :
    Agree W r₀ (State.raise s e) := by
  unfold State.raise
  dsimp only
  repeat' with_reducible first
    | assumption | apply setBit_agree | apply evToDisp_agree | apply evToHost_agree | apply agree_when | (intro)

theorem fresh_agree (s : State)
    (hs : Agree W r₀ s) (h0 : W .free) :
    Agree W r₀ (State.fresh s) := by
  exact agree_setFree hs h0 (Nat.le_succ _)

theorem foutSync_agree (s : State)
    (hs : Agree W r₀ s) (h0 : W .regs) :
    Agree W r₀ (State.foutSync s) := by
  unfold State.foutSync
  dsimp only
  repeat' with_reducible first | assumption | apply put_agree

theorem unitDone_agree (s : State) (unit inst : Nat)
    (hs : Agree W r₀ s) (h0 : W .regs) (h1 : W .flt) :
    Agree W r₀ (State.unitDone s unit inst) := by
  unfold State.unitDone
  dsimp only
  repeat' with_reducible first
    | assumption | apply foutSync_agree | (apply agree_set_flt <;> assumption) | apply agree_ite | (intro) | split
    | apply agree_set_flt

theorem touch_agree (s : State) (a : Nat)
    (hs : Agree W r₀ s) (h0 : W .regs) :
    Agree W r₀ (State.touch s a) := by
  unfold State.touch
  dsimp only
  repeat' with_reducible first | assumption | apply put_agree | split

theorem setBytes_agree (s : State) (a : Nat) (vs : List Byte)
    (hs : Agree W r₀ s) (h0 : W .regs) (h1 : W .mem) (h2 : W .memx) :
    Agree W r₀ (State.setBytes s a vs) := by
  unfold State.setBytes
  dsimp only
  have ht : Agree W r₀ (s.touch a) := touch_agree s a hs h0
  split
  · exact ht
  · exact agree_set_memx (v0 := _) (agree_setMem ht h1 fun x => wf_memWrite (ht.memOk x)) h2

theorem setByte_agree (s : State) (a : Nat) (v : Byte)
    (hs : Agree W r₀ s) (h0 : W .regs) (h1 : W .mem) (h2 : W .memx) :
    Agree W r₀ (State.setByte s a v) := by
  unfold State.setByte
  repeat' with_reducible first | assumption | apply setBytes_agree

theorem modBox_agree (s : State) (k : Nat) (f : Outbox → Outbox)
    (hs : Agree W r₀ s) (h0 : W .box) :
    Agree W r₀ (State.modBox s k f) := by
  unfold State.modBox
  repeat' with_reducible first | assumption | (apply agree_set_box <;> assumption) | (intro) | apply agree_set_box

theorem send_agree (s : State) (ms : List LinkMsg)
    (hs : Agree W r₀ s) (h0 : W .link) :
    Agree W r₀ (State.send s ms) := by
  unfold State.send
  repeat' with_reducible first
    | assumption | (apply agree_set_link <;> assumption) | apply agree_ite | (intro) | split | apply agree_set_link

theorem sendTags_agree (s : State) (sd : Sender)
    (hs : Agree W r₀ s) (h0 : W .link) :
    Agree W r₀ (State.sendTags s sd) := by
  unfold State.sendTags
  repeat' with_reducible first | assumption | apply send_agree

theorem final_agree (s : State) (t : Tok) (m : Msg)
    (hs : Agree W r₀ s) (h0 : W .box) (h1 : W .link) :
    Agree W r₀ (State.final s t m) := by
  unfold State.final
  dsimp only
  repeat' with_reducible first
    | assumption | apply modBox_agree | apply sendTags_agree | apply agree_ite | (intro) | split

theorem complete_agree (s : State) (t : Option Tok) (code : Nat) (value : optParam Nat 0)
    (hs : Agree W r₀ s) (h0 : W .box) (h1 : W .link) :
    Agree W r₀ (State.complete s t code value) := by
  unfold State.complete
  dsimp only
  repeat' with_reducible first | assumption | apply final_agree | split

theorem notify_agree (s : State) (code : Nat) (words : List Word) (meter : optParam Bool Bool.false)
    (hs : Agree W r₀ s) (h0 : W .box) :
    Agree W r₀ (State.notify s code words meter) := by
  unfold State.notify
  dsimp only
  repeat' with_reducible first | assumption | apply modBox_agree

theorem copyMem_agree (s : State) (src dst n : Nat)
    (hs : Agree W r₀ s) (h0 : W .mem) :
    Agree W r₀ (State.copyMem s src dst n) := by
  unfold State.copyMem
  split
  · exact hs
  · exact agree_setMem hs h0 fun x => wf_memCopy (hs.memOk x)

theorem setSel_agree (s : State) (j : Nat) (v : Selector)
    (hs : Agree W r₀ s) (h0 : W .path) :
    Agree W r₀ (State.setSel s j v) := by
  unfold State.setSel
  dsimp only
  repeat' with_reducible first | assumption | (apply agree_set_path <;> assumption) | apply agree_set_path

theorem setMemWord_agree (s : State) (a : Nat) (w : Word)
    (hs : Agree W r₀ s) (h0 : W .regs) (h1 : W .mem) (h2 : W .memx) :
    Agree W r₀ (State.setMemWord s a w) := by
  unfold State.setMemWord
  repeat' with_reducible first | assumption | apply setBytes_agree

theorem clearMem_agree (s : State) (a n : Nat)
    (hs : Agree W r₀ s) (h0 : W .mem) :
    Agree W r₀ (State.clearMem s a n) := by
  exact agree_setMem hs h0 fun x => wf_memClear (hs.memOk x)

theorem hold_agree (s : State) (a : Nat) (w : Word)
    (hs : Agree W r₀ s) (h0 : W .held) :
    Agree W r₀ (State.hold s a w) := by
  unfold State.hold
  repeat' with_reducible first | assumption | (apply agree_set_held <;> assumption) | apply agree_set_held

theorem writeField_agree (s : State) (a : Nat) (v : Word) (f : FieldRow)
    (hs : Agree W r₀ s) (h0 : W .regs) (h1 : W .held) :
    Agree W r₀ (State.writeField s a v f) := by
  unfold State.writeField
  dsimp only
  repeat' with_reducible first | assumption | apply put_agree | apply hold_agree | split

theorem writeReg_agree (s : State) (a : Nat) (v : Word)
    (hs : Agree W r₀ s) (h0 : W .regs) (h1 : W .held) :
    Agree W r₀ (State.writeReg s a v) := by
  unfold State.writeReg
  repeat' with_reducible first
    | assumption | apply writeField_agree | apply agree_foldl | apply agree_foldl_fst | (intro) | split

theorem applyHeld_agree (s : State) (a : Nat)
    (hs : Agree W r₀ s) (h0 : W .regs) (h1 : W .held) :
    Agree W r₀ (State.applyHeld s a) := by
  unfold State.applyHeld
  dsimp only
  repeat' with_reducible first
    | assumption | apply agree_setReg | (apply agree_set_held <;> assumption) | apply agree_foldl
    | apply agree_foldl_fst | (intro) | split | apply agree_set_held

theorem level_agree (s : State) (e : Nat) (b : Bool)
    (hs : Agree W r₀ s) (h0 : W .regs) (h1 : W .disp) (h2 : W .ev) :
    Agree W r₀ (State.level s e b) := by
  unfold State.level
  repeat' with_reducible first
    | assumption | apply setBit_agree | apply raise_agree | apply agree_ite | (intro) | split

theorem incFieldWrap_agree (s : State) (f : FieldRef)
    (hs : Agree W r₀ s) (h0 : W .regs) :
    Agree W r₀ (State.incFieldWrap s f) := by
  unfold State.incFieldWrap
  repeat' with_reducible first | assumption | apply put_agree

theorem incWrap_agree (s : State) (a : Nat)
    (hs : Agree W r₀ s) (h0 : W .regs) :
    Agree W r₀ (State.incWrap s a) := by
  unfold State.incWrap
  repeat' with_reducible first | assumption | apply agree_setReg

theorem incField_agree (s : State) (f : FieldRef)
    (hs : Agree W r₀ s) (h0 : W .regs) :
    Agree W r₀ (State.incField s f) := by
  unfold State.incField
  repeat' with_reducible first | assumption | apply put_agree | apply agree_ite | (intro) | split

theorem record_agree (s : State) (cause unit level : Nat) (esc capped : Bool) (inst : Nat) (detail : Word)
    (hs : Agree W r₀ s) (h0 : W .regs) (h1 : W .box) (h2 : W .disp) (h3 : W .ev) (h4 : W .flt) :
    Agree W r₀ (State.record s cause unit level esc capped inst detail) := by
  unfold State.record
  dsimp only
  repeat' with_reducible first
    | assumption | apply notify_agree | apply incField_agree | apply incFieldWrap_agree | apply raise_agree
    | (apply agree_set_flt <;> assumption) | apply agree_when | (intro) | apply agree_set_flt

theorem notice_agree (s : State) (code inst : Nat) (detail : Word)
    (hs : Agree W r₀ s) (h0 : W .regs) (h1 : W .box) (h2 : W .disp) (h3 : W .ev) (h4 : W .flt) :
    Agree W r₀ (State.notice s code inst detail) := by
  unfold State.notice
  repeat' with_reducible first | assumption | apply record_agree

theorem setMux_agree (s : State) (sink : Nat) (m : Mux)
    (hs : Agree W r₀ s) (h0 : W .path) :
    Agree W r₀ (State.setMux s sink m) := by
  unfold State.setMux
  dsimp only
  repeat' with_reducible first | assumption | (apply agree_set_path <;> assumption) | apply agree_set_path

end Sys2Proof.Laws
end

