-- ==== Sys2Proof/Laws/FramesParams.lean ====
section
/-! SUPPORT. Which parts of the state each operation of Machine/Params.lean may write. -/

namespace Sys2Proof.Laws
open Sys2Proof.Machine

variable {W : Part → Bool} {r₀ : State}

theorem setParam_agree (s : State) (inst f : Nat) (v : Word)
    (hs : Agree W r₀ s) (h0 : W .path) :
    Agree W r₀ (State.setParam s inst f v) := by
  unfold State.setParam
  dsimp only
  repeat' with_reducible first | assumption | (apply agree_set_path <;> assumption) | apply agree_set_path

end Sys2Proof.Laws
end

