-- ==== Sys2Proof/Laws/FramesMailbox.lean ====
section
/-! SUPPORT. Which parts of the state each operation of Machine/Mailbox.lean may write. -/

namespace Sys2Proof.Laws
open Sys2Proof.Machine

variable {W : Part → Bool} {r₀ : State}

theorem chanEvent_agree (s : State) (n : Nat)
    (hs : Agree W r₀ s) (h0 : W .regs) (h1 : W .disp) (h2 : W .ev) :
    Agree W r₀ (State.chanEvent s n) := by
  unfold State.chanEvent
  repeat' with_reducible first | assumption | apply level_agree

theorem setChan_agree (s : State) (n st : Nat)
    (hs : Agree W r₀ s) (h0 : W .regs) (h1 : W .disp) (h2 : W .ev) :
    Agree W r₀ (State.setChan s n st) := by
  unfold State.setChan
  repeat' with_reducible first | assumption | apply put_agree | apply chanEvent_agree

theorem postChan_agree (s : State) (m n : Nat)
    (hs : Agree W r₀ s) (h0 : W .regs) (h1 : W .disp) (h2 : W .ev) :
    Agree W r₀ (State.postChan s m n) := by
  unfold State.postChan
  dsimp only
  repeat' with_reducible first
    | assumption | apply agree_setReg | apply setChan_agree | apply incFieldWrap_agree | apply put_agree
    | apply agree_when | (intro)

theorem sideWrite_agree (s : State) (m : Master) (n : Nat) (receiver inPlace : Bool) (f : State → State)
    (hs : Agree W r₀ s) (hf : ∀ s, Agree W r₀ s → Agree W r₀ (f s)) (h0 : W .regs) :
    Agree W r₀ (State.sideWrite s m n receiver inPlace f) := by
  unfold State.sideWrite
  repeat' with_reducible first | assumption | apply hf | apply put_agree | apply agree_ite | (intro) | split

theorem postUnknown_agree (n : Nat) (s : State)
    (hs : Agree W r₀ s) (h0 : W .regs) (h1 : W .disp) (h2 : W .ev) :
    Agree W r₀ (postUnknown n s) := by
  unfold postUnknown
  dsimp only
  repeat' with_reducible first
    | assumption | apply agree_setReg | apply setChan_agree | apply agree_ite | (intro) | split

theorem mbxPost_agree (m : Master) (n : Nat) (s : State)
    (hs : Agree W r₀ s) (h0 : W .regs) (h1 : W .disp) (h2 : W .ev) :
    Agree W r₀ (mbxPost m n s) := by
  unfold mbxPost
  repeat' with_reducible first
    | assumption | apply postChan_agree | apply sideWrite_agree | apply postUnknown_agree | (intro)

theorem mbxBufWrite_agree (m : Master) (n w : Nat) (v : Word) (s : State)
    (hs : Agree W r₀ s) (h0 : W .regs) :
    Agree W r₀ (mbxBufWrite m n w v s) := by
  unfold mbxBufWrite
  repeat' with_reducible first | assumption | apply agree_setReg | apply sideWrite_agree | (intro)

theorem clrChan_agree (s : State) (n : Nat)
    (hs : Agree W r₀ s) (h0 : W .regs) (h1 : W .disp) (h2 : W .ev) :
    Agree W r₀ (State.clrChan s n) := by
  unfold State.clrChan
  repeat' with_reducible first | assumption | apply setChan_agree | apply put_agree

theorem mbxClr_agree (m : Master) (n : Nat) (s : State)
    (hs : Agree W r₀ s) (h0 : W .regs) (h1 : W .disp) (h2 : W .ev) :
    Agree W r₀ (mbxClr m n s) := by
  unfold mbxClr
  repeat' with_reducible first | assumption | apply sideWrite_agree | apply clrChan_agree | (intro)

theorem mbxLockSet_agree (s : State)
    (hs : Agree W r₀ s) (h0 : W .regs) :
    Agree W r₀ (mbxLockSet s) := by
  unfold mbxLockSet
  repeat' with_reducible first | assumption | apply put_agree

theorem mbxAck_agree (m : Master) (n : Nat) (v : Word) (s : State)
    (hs : Agree W r₀ s) (h0 : W .regs) (h1 : W .disp) (h2 : W .ev) :
    Agree W r₀ (mbxAck m n v s) := by
  unfold mbxAck
  repeat' with_reducible first
    | assumption | apply agree_setReg | apply setChan_agree | apply sideWrite_agree | (intro)

theorem mbxTake_agree (m : Master) (n : Nat) (s : State)
    (hs : Agree W r₀ s) (h0 : W .regs) (h1 : W .disp) (h2 : W .ev) :
    Agree W r₀ (mbxTake m n s) := by
  unfold mbxTake
  repeat' with_reducible first | assumption | apply setChan_agree | apply sideWrite_agree | (intro)

theorem accessReset_agree (k : Nat) (s : State)
    (hs : Agree W r₀ s) (h0 : W .sec) :
    Agree W r₀ (accessReset k s) := by
  unfold accessReset
  dsimp only
  repeat' with_reducible first | assumption | (apply agree_set_sec <;> assumption) | apply agree_set_sec

theorem hostCleanup_agree (k : Nat) (s : State)
    (hs : Agree W r₀ s) (h0 : W .box) :
    Agree W r₀ (hostCleanup k s) := by
  unfold hostCleanup
  repeat' with_reducible first | assumption | apply modBox_agree

theorem chanReset_agree (m n : Nat) (s : State)
    (hs : Agree W r₀ s) (h0 : W .regs) (h1 : W .disp) (h2 : W .ev) :
    Agree W r₀ (chanReset m n s) := by
  unfold chanReset
  dsimp only
  repeat' with_reducible first
    | assumption | apply agree_setReg | apply setChan_agree | apply put_agree | apply agree_when | apply agree_each
    | (intro)

theorem masterResetOp_agree (m : Nat) (s : State)
    (hs : Agree W r₀ s) (h0 : W .regs) (h1 : W .box) (h2 : W .disp) (h3 : W .ev) (h4 : W .sec) (h5 : W .mbx)
    (h6 : W .memx) :
    Agree W r₀ (masterResetOp m s) := by
  unfold masterResetOp
  dsimp only
  repeat' with_reducible first
    | assumption | apply accessReset_agree | apply hostCleanup_agree | apply chanReset_agree
    | (apply agree_set_memx <;> assumption) | (apply agree_set_mbx <;> assumption) | apply agree_when
    | apply agree_each | (intro) | apply agree_set_memx | apply agree_set_mbx

theorem mbxSresetOp_agree (m : Master) (v : Word) (s : State)
    (hs : Agree W r₀ s) (h0 : W .regs) (h1 : W .box) (h2 : W .disp) (h3 : W .ev) (h4 : W .sec) (h5 : W .mbx)
    (h6 : W .memx) :
    Agree W r₀ (mbxSresetOp m v s) := by
  unfold mbxSresetOp
  repeat' with_reducible first | assumption | apply masterResetOp_agree | apply agree_ite | (intro) | split

theorem mbxIen_agree (n : Nat) (v : Word) (s : State)
    (hs : Agree W r₀ s) (h0 : W .regs) (h1 : W .disp) (h2 : W .ev) :
    Agree W r₀ (mbxIen n v s) := by
  unfold mbxIen
  repeat' with_reducible first | assumption | apply put_agree | apply chanEvent_agree

theorem mbxRegWrite_agree (m : Master) (off : Nat) (v : Word) (s : State)
    (hs : Agree W r₀ s) (h0 : W .regs) (h1 : W .box) (h2 : W .disp) (h3 : W .ev) (h4 : W .sec) (h5 : W .mbx)
    (h6 : W .memx) :
    Agree W r₀ (mbxRegWrite m off v s) := by
  unfold mbxRegWrite
  dsimp only
  repeat' with_reducible first
    | assumption | apply agree_setReg | apply mbxPost_agree | apply mbxBufWrite_agree | apply mbxClr_agree
    | apply mbxLockSet_agree | apply mbxAck_agree | apply mbxTake_agree | apply mbxSresetOp_agree | apply put_agree
    | apply mbxIen_agree | apply agree_ite | apply agree_when | (intro) | split

theorem viaPort_agree (s : State) (m : Master) (f : State → State)
    (hs : Agree W r₀ s) (hf : ∀ s, Agree W r₀ s → Agree W r₀ (f s)) :
    Agree W r₀ (State.viaPort s m f) := by
  unfold State.viaPort
  repeat' with_reducible first | assumption | apply hf | apply agree_ite | (intro) | split

theorem viaChan_agree (s : State) (m : Master) (n : Nat) (f : State → State)
    (hs : Agree W r₀ s) (hf : ∀ s, Agree W r₀ s → Agree W r₀ (f s)) :
    Agree W r₀ (State.viaChan s m n f) := by
  unfold State.viaChan
  repeat' with_reducible first | assumption | apply hf | apply viaPort_agree | apply agree_ite | (intro) | split

theorem execMbxBufWrite_agree {s' : State} (m : Master) (n : Fin 32) (w : Fin 64) (v : Word) (s : State)
    (hs : Agree W r₀ s) (h0 : W .regs) (he : execMbxBufWrite m n w v s = .next s') :
    Agree W r₀ s' := by
  cases he
  repeat' with_reducible first | assumption | apply viaChan_agree | apply mbxBufWrite_agree | (intro)

theorem execMbxAck_agree {s' : State} (m : Master) (n : Fin 32) (v : Word) (s : State)
    (hs : Agree W r₀ s) (h0 : W .regs) (h1 : W .disp) (h2 : W .ev) (he : execMbxAck m n v s = .next s') :
    Agree W r₀ s' := by
  cases he
  repeat' with_reducible first | assumption | apply viaChan_agree | apply mbxAck_agree | (intro)

theorem schedulesDiscard_agree (k : Nat) (s : State)
    (hs : Agree W r₀ s) (h0 : W .eng) (h1 : W .supv) (h2 : W .tnd) (h3 : W .pwr) (h4 : W .night) :
    Agree W r₀ (schedulesDiscard k s) := by
  unfold schedulesDiscard
  dsimp only
  repeat' with_reducible first
    | assumption | (apply agree_set_eng_supv_tnd_pwr_night <;> assumption) | apply agree_ite | (intro) | split
    | apply agree_set_eng_supv_tnd_pwr_night

theorem controlCoreRestartOp_agree (cc : Nat) (s : State)
    (hs : Agree W r₀ s) (h0 : W .regs) (h1 : W .eng) (h2 : W .box) (h3 : W .hamp) (h4 : W .disp) (h5 : W .ev)
    (h6 : W .boot) (h7 : W .sec) (h8 : W .mbx) (h9 : W .supv) (h10 : W .tnd) (h11 : W .pwr) (h12 : W .memx)
    (h13 : W .night) :
    Agree W r₀ (controlCoreRestartOp cc s) := by
  unfold controlCoreRestartOp
  dsimp only
  repeat' with_reducible first
    | assumption | apply masterResetOp_agree | apply modBox_agree | apply schedulesDiscard_agree
    | apply clrChan_agree | (apply agree_set_hamp_boot <;> assumption) | (apply agree_set_boot <;> assumption)
    | (apply agree_set_hamp <;> assumption) | apply agree_ite | apply agree_when | apply agree_each | (intro)
    | split | apply agree_set_hamp_boot | apply agree_set_boot | apply agree_set_hamp

theorem viaGlobal_agree (s : State) (m : Master) (f : State → State)
    (hs : Agree W r₀ s) (hf : ∀ s, Agree W r₀ s → Agree W r₀ (f s)) :
    Agree W r₀ (State.viaGlobal s m f) := by
  unfold State.viaGlobal
  repeat' with_reducible first | assumption | apply hf | apply viaPort_agree | apply agree_ite | (intro) | split

theorem execMbxSreset_agree {s' : State} (m : Master) (v : Word) (s : State)
    (hs : Agree W r₀ s) (h0 : W .regs) (h1 : W .box) (h2 : W .disp) (h3 : W .ev) (h4 : W .sec) (h5 : W .mbx)
    (h6 : W .memx) (he : execMbxSreset m v s = .next s') :
    Agree W r₀ s' := by
  cases he
  repeat' with_reducible first | assumption | apply mbxSresetOp_agree | apply viaGlobal_agree | (intro)

theorem fwPost_agree (cc n : Nat) (msg : Msg) (s : State)
    (hs : Agree W r₀ s) (h0 : W .regs) (h1 : W .disp) (h2 : W .ev) :
    Agree W r₀ (fwPost cc n msg s) := by
  unfold fwPost
  dsimp only
  repeat' with_reducible first
    | assumption | apply agree_setReg | apply postChan_agree | apply clrChan_agree | apply agree_when
    | apply agree_each | (intro)

theorem execCcWatchdogExpiry_agree {s' : State} (cc : Fin 4) (s : State)
    (hs : Agree W r₀ s) (h0 : W .regs) (h1 : W .eng) (h2 : W .box) (h3 : W .hamp) (h4 : W .disp) (h5 : W .ev)
    (h6 : W .flt) (h7 : W .boot) (h8 : W .sec) (h9 : W .mbx) (h10 : W .supv) (h11 : W .tnd) (h12 : W .pwr)
    (h13 : W .memx) (h14 : W .night) (he : execCcWatchdogExpiry cc s = .next s') :
    Agree W r₀ s' := by
  cases he
  repeat' with_reducible first
    | assumption | apply controlCoreRestartOp_agree | apply raise_agree | apply notice_agree | apply agree_ite
    | (intro) | split

theorem execControlCoreRestart_agree {s' : State} (cc : Fin 4) (s : State)
    (hs : Agree W r₀ s) (h0 : W .regs) (h1 : W .eng) (h2 : W .box) (h3 : W .hamp) (h4 : W .disp) (h5 : W .ev)
    (h6 : W .flt) (h7 : W .boot) (h8 : W .sec) (h9 : W .mbx) (h10 : W .supv) (h11 : W .tnd) (h12 : W .pwr)
    (h13 : W .memx) (h14 : W .night) (he : execControlCoreRestart cc s = .next s') :
    Agree W r₀ s' := by
  cases he
  repeat' with_reducible first
    | assumption | apply controlCoreRestartOp_agree | apply notice_agree | apply agree_ite | (intro) | split

theorem execMbxPost_agree {s' : State} (m : Master) (n : Fin 32) (s : State)
    (hs : Agree W r₀ s) (h0 : W .regs) (h1 : W .disp) (h2 : W .ev) (he : execMbxPost m n s = .next s') :
    Agree W r₀ s' := by
  cases he
  repeat' with_reducible first | assumption | apply viaChan_agree | apply mbxPost_agree | (intro)

theorem notificationPost_agree (m cc nn : Nat) (s : State)
    (hs : Agree W r₀ s) (h0 : W .regs) (h1 : W .box) (h2 : W .disp) (h3 : W .ev) :
    Agree W r₀ (notificationPost m cc nn s) := by
  unfold notificationPost
  dsimp only
  repeat' with_reducible first
    | assumption | apply modBox_agree | apply fwPost_agree | apply agree_ite | (intro) | split

theorem outboundPostOp_agree (m : Nat) (s : State)
    (hs : Agree W r₀ s) (h0 : W .regs) (h1 : W .box) (h2 : W .disp) (h3 : W .ev) :
    Agree W r₀ (outboundPostOp m s) := by
  unfold outboundPostOp
  repeat' with_reducible first
    | assumption | apply modBox_agree | apply fwPost_agree | apply notificationPost_agree | apply agree_ite
    | (intro) | split

theorem execMbxLock_agree {s' : State} (m : Master) (s : State)
    (hs : Agree W r₀ s) (h0 : W .regs) (he : execMbxLock m s = .next s') :
    Agree W r₀ s' := by
  cases he
  repeat' with_reducible first | assumption | apply mbxLockSet_agree | apply viaGlobal_agree | (intro)

theorem execOutboundPost_agree {s' : State} (m : Master) (s : State)
    (hs : Agree W r₀ s) (h0 : W .regs) (h1 : W .box) (h2 : W .disp) (h3 : W .ev)
    (he : execOutboundPost m s = .next s') :
    Agree W r₀ s' := by
  cases he
  repeat' with_reducible first | assumption | apply outboundPostOp_agree

theorem execMasterReset_agree {s' : State} (m : Master) (s : State)
    (hs : Agree W r₀ s) (h0 : W .regs) (h1 : W .box) (h2 : W .disp) (h3 : W .ev) (h4 : W .sec) (h5 : W .mbx)
    (h6 : W .memx) (he : execMasterReset m s = .next s') :
    Agree W r₀ s' := by
  cases he
  repeat' with_reducible first | assumption | apply masterResetOp_agree

theorem execMbxTake_agree {s' : State} (m : Master) (n : Fin 32) (s : State)
    (hs : Agree W r₀ s) (h0 : W .regs) (h1 : W .disp) (h2 : W .ev) (he : execMbxTake m n s = .next s') :
    Agree W r₀ s' := by
  cases he
  repeat' with_reducible first | assumption | apply viaChan_agree | apply mbxTake_agree | (intro)

theorem execMbxClr_agree {s' : State} (m : Master) (n : Fin 32) (s : State)
    (hs : Agree W r₀ s) (h0 : W .regs) (h1 : W .disp) (h2 : W .ev) (he : execMbxClr m n s = .next s') :
    Agree W r₀ s' := by
  cases he
  repeat' with_reducible first | assumption | apply viaChan_agree | apply mbxClr_agree | (intro)

end Sys2Proof.Laws
end

