-- ==== Sys2Proof/Laws/FramesSilwen.lean ====
section
/-! SUPPORT. Which parts of the state each operation of Machine/Silwen.lean may write. -/

namespace Sys2Proof.Laws
open Sys2Proof.Machine

variable {W : Part → Bool} {r₀ : State}

theorem holdReply_agree (c : Cmd) (code : Nat) (r : Rep) (s : State)
    (hs : Agree W r₀ s) (h0 : W .box) :
    Agree W r₀ (holdReply c code r s) := by
  unfold holdReply
  repeat' with_reducible first | assumption | apply modBox_agree | apply agree_ite | (intro) | split

theorem sendEffect_agree (s : State) (c : Cmd) (code rc : Nat) (data : List Byte) (before : State)
    (hs : Agree W r₀ s) (h0 : W .link) :
    Agree W r₀ (State.sendEffect s c code rc data before) := by
  unfold State.sendEffect
  dsimp only
  repeat' with_reducible first | assumption | apply send_agree | apply agree_ite | (intro) | split

theorem answerCmd_agree (c : Cmd) (code : Nat) (data : List Byte) (before : State) (r : State × Rep)
    (hr : Agree W r₀ r.1) (h0 : W .box) (h1 : W .link) :
    Agree W r₀ (answerCmd c code data before r) := by
  unfold answerCmd
  repeat' with_reducible first | assumption | apply holdReply_agree | apply sendEffect_agree | split

theorem runCmd_agree (code minL : Nat) (body : Cmd → State → State × Rep) (c : Cmd) (s : State)
    (hbody : ∀ c s, Agree W r₀ s → Agree W r₀ (body c s).1) (hs : Agree W r₀ s) (h0 : W .box) (h1 : W .link) :
    Agree W r₀ (runCmd code minL body c s) := by
  unfold runCmd
  repeat' with_reducible first
    | assumption | apply hbody | apply holdReply_agree | apply answerCmd_agree | apply agree_ite | (intro) | split

theorem ackCmd_agree (c : Cmd) (code value : Nat) (s : State)
    (hs : Agree W r₀ s) (h0 : W .regs) (h1 : W .box) (h2 : W .disp) (h3 : W .ev) :
    Agree W r₀ (ackCmd c code value s) := by
  unfold ackCmd
  dsimp only
  repeat' with_reducible first
    | assumption | apply agree_setReg | apply modBox_agree | apply setChan_agree | apply agree_ite | (intro)
    | split

theorem silwen_agree (code minL : Nat) (expertOnly : Bool) (body : Cmd → State → State × Rep) (c : Cmd) (s : State)
    (hbody : ∀ c s, Agree W r₀ s → Agree W r₀ (body c s).1) (hs : Agree W r₀ s) (h0 : W .regs) (h1 : W .box)
    (h2 : W .disp) (h3 : W .ev) (h4 : W .link) :
    Agree W r₀ (silwen code minL expertOnly body c s) := by
  unfold silwen
  dsimp only
  repeat' with_reducible first
    | assumption | apply hbody | apply runCmd_agree | apply modBox_agree | apply ackCmd_agree
    | apply sendTags_agree | apply agree_ite | apply agree_when | (intro) | split

theorem silwenUnknown_agree (c : Cmd) (s : State)
    (hs : Agree W r₀ s) (h0 : W .regs) (h1 : W .box) (h2 : W .disp) (h3 : W .ev) :
    Agree W r₀ (silwenUnknown c s) := by
  unfold silwenUnknown
  repeat' with_reducible first | assumption | apply ackCmd_agree | apply agree_ite | (intro) | split

theorem sendPlans_agree (s before : State)
    (hs : Agree W r₀ s) (h0 : W .link) :
    Agree W r₀ (State.sendPlans s before) := by
  unfold State.sendPlans
  repeat' with_reducible first | assumption | apply send_agree

theorem refuse_agree (code : Nat) (s : State)
    (hs : Agree W r₀ s) :
    Agree W r₀ (refuse code s).1 := by
  unfold refuse
  repeat' with_reducible first | assumption

end Sys2Proof.Laws
end

