-- ==== Sys2Proof/Laws/State.lean ====
section
/-! SUPPORT. The named updates of the state: one lemma for each field. -/

namespace Sys2Proof.Laws
open Sys2Proof.Machine

variable (s : State)

@[simp] theorem setReg_pending (a : Nat) (w : Word) : (s.setReg a w).pending = s.pending := rfl
@[simp] theorem setReg_held (a : Nat) (w : Word) : (s.setReg a w).held = s.held := rfl
@[simp] theorem setReg_mem (a : Nat) (w : Word) : (s.setReg a w).mem = s.mem := rfl
@[simp] theorem setReg_pins (a : Nat) (w : Word) : (s.setReg a w).pins = s.pins := rfl
@[simp] theorem setReg_time (a : Nat) (w : Word) : (s.setReg a w).time = s.time := rfl
@[simp] theorem setReg_eng (a : Nat) (w : Word) : (s.setReg a w).eng = s.eng := rfl
@[simp] theorem setReg_box (a : Nat) (w : Word) : (s.setReg a w).box = s.box := rfl
@[simp] theorem setReg_hamp (a : Nat) (w : Word) : (s.setReg a w).hamp = s.hamp := rfl
@[simp] theorem setReg_path (a : Nat) (w : Word) : (s.setReg a w).path = s.path := rfl
@[simp] theorem setReg_mods (a : Nat) (w : Word) : (s.setReg a w).mods = s.mods := rfl
@[simp] theorem setReg_disp (a : Nat) (w : Word) : (s.setReg a w).disp = s.disp := rfl
@[simp] theorem setReg_sig (a : Nat) (w : Word) : (s.setReg a w).sig = s.sig := rfl
@[simp] theorem setReg_cores (a : Nat) (w : Word) : (s.setReg a w).cores = s.cores := rfl
@[simp] theorem setReg_ev (a : Nat) (w : Word) : (s.setReg a w).ev = s.ev := rfl
@[simp] theorem setReg_flt (a : Nat) (w : Word) : (s.setReg a w).flt = s.flt := rfl
@[simp] theorem setReg_boot (a : Nat) (w : Word) : (s.setReg a w).boot = s.boot := rfl
@[simp] theorem setReg_sec (a : Nat) (w : Word) : (s.setReg a w).sec = s.sec := rfl
@[simp] theorem setReg_mbx (a : Nat) (w : Word) : (s.setReg a w).mbx = s.mbx := rfl
@[simp] theorem setReg_tdm (a : Nat) (w : Word) : (s.setReg a w).tdm = s.tdm := rfl
@[simp] theorem setReg_net (a : Nat) (w : Word) : (s.setReg a w).net = s.net := rfl
@[simp] theorem setReg_ref (a : Nat) (w : Word) : (s.setReg a w).ref = s.ref := rfl
@[simp] theorem setReg_supv (a : Nat) (w : Word) : (s.setReg a w).supv = s.supv := rfl
@[simp] theorem setReg_tnd (a : Nat) (w : Word) : (s.setReg a w).tnd = s.tnd := rfl
@[simp] theorem setReg_pwr (a : Nat) (w : Word) : (s.setReg a w).pwr = s.pwr := rfl
@[simp] theorem setReg_memx (a : Nat) (w : Word) : (s.setReg a w).memx = s.memx := rfl
@[simp] theorem setReg_cnt (a : Nat) (w : Word) : (s.setReg a w).cnt = s.cnt := rfl
@[simp] theorem setReg_night (a : Nat) (w : Word) : (s.setReg a w).night = s.night := rfl
@[simp] theorem setReg_link (a : Nat) (w : Word) : (s.setReg a w).link = s.link := rfl
@[simp] theorem setReg_free (a : Nat) (w : Word) : (s.setReg a w).free = s.free := rfl

@[simp] theorem put_pending (f : FieldRef) (v : Nat) : (s.put f v).pending = s.pending := rfl
@[simp] theorem put_held (f : FieldRef) (v : Nat) : (s.put f v).held = s.held := rfl
@[simp] theorem put_mem (f : FieldRef) (v : Nat) : (s.put f v).mem = s.mem := rfl
@[simp] theorem put_pins (f : FieldRef) (v : Nat) : (s.put f v).pins = s.pins := rfl
@[simp] theorem put_time (f : FieldRef) (v : Nat) : (s.put f v).time = s.time := rfl
@[simp] theorem put_eng (f : FieldRef) (v : Nat) : (s.put f v).eng = s.eng := rfl
@[simp] theorem put_box (f : FieldRef) (v : Nat) : (s.put f v).box = s.box := rfl
@[simp] theorem put_hamp (f : FieldRef) (v : Nat) : (s.put f v).hamp = s.hamp := rfl
@[simp] theorem put_path (f : FieldRef) (v : Nat) : (s.put f v).path = s.path := rfl
@[simp] theorem put_mods (f : FieldRef) (v : Nat) : (s.put f v).mods = s.mods := rfl
@[simp] theorem put_disp (f : FieldRef) (v : Nat) : (s.put f v).disp = s.disp := rfl
@[simp] theorem put_sig (f : FieldRef) (v : Nat) : (s.put f v).sig = s.sig := rfl
@[simp] theorem put_cores (f : FieldRef) (v : Nat) : (s.put f v).cores = s.cores := rfl
@[simp] theorem put_ev (f : FieldRef) (v : Nat) : (s.put f v).ev = s.ev := rfl
@[simp] theorem put_flt (f : FieldRef) (v : Nat) : (s.put f v).flt = s.flt := rfl
@[simp] theorem put_boot (f : FieldRef) (v : Nat) : (s.put f v).boot = s.boot := rfl
@[simp] theorem put_sec (f : FieldRef) (v : Nat) : (s.put f v).sec = s.sec := rfl
@[simp] theorem put_mbx (f : FieldRef) (v : Nat) : (s.put f v).mbx = s.mbx := rfl
@[simp] theorem put_tdm (f : FieldRef) (v : Nat) : (s.put f v).tdm = s.tdm := rfl
@[simp] theorem put_net (f : FieldRef) (v : Nat) : (s.put f v).net = s.net := rfl
@[simp] theorem put_ref (f : FieldRef) (v : Nat) : (s.put f v).ref = s.ref := rfl
@[simp] theorem put_supv (f : FieldRef) (v : Nat) : (s.put f v).supv = s.supv := rfl
@[simp] theorem put_tnd (f : FieldRef) (v : Nat) : (s.put f v).tnd = s.tnd := rfl
@[simp] theorem put_pwr (f : FieldRef) (v : Nat) : (s.put f v).pwr = s.pwr := rfl
@[simp] theorem put_memx (f : FieldRef) (v : Nat) : (s.put f v).memx = s.memx := rfl
@[simp] theorem put_cnt (f : FieldRef) (v : Nat) : (s.put f v).cnt = s.cnt := rfl
@[simp] theorem put_night (f : FieldRef) (v : Nat) : (s.put f v).night = s.night := rfl
@[simp] theorem put_link (f : FieldRef) (v : Nat) : (s.put f v).link = s.link := rfl
@[simp] theorem put_free (f : FieldRef) (v : Nat) : (s.put f v).free = s.free := rfl

@[simp] theorem fresh_pending : (s.fresh).pending = s.pending := rfl
@[simp] theorem fresh_regs : (s.fresh).regs = s.regs := rfl
@[simp] theorem fresh_held : (s.fresh).held = s.held := rfl
@[simp] theorem fresh_mem : (s.fresh).mem = s.mem := rfl
@[simp] theorem fresh_pins : (s.fresh).pins = s.pins := rfl
@[simp] theorem fresh_time : (s.fresh).time = s.time := rfl
@[simp] theorem fresh_eng : (s.fresh).eng = s.eng := rfl
@[simp] theorem fresh_box : (s.fresh).box = s.box := rfl
@[simp] theorem fresh_hamp : (s.fresh).hamp = s.hamp := rfl
@[simp] theorem fresh_path : (s.fresh).path = s.path := rfl
@[simp] theorem fresh_mods : (s.fresh).mods = s.mods := rfl
@[simp] theorem fresh_disp : (s.fresh).disp = s.disp := rfl
@[simp] theorem fresh_sig : (s.fresh).sig = s.sig := rfl
@[simp] theorem fresh_cores : (s.fresh).cores = s.cores := rfl
@[simp] theorem fresh_ev : (s.fresh).ev = s.ev := rfl
@[simp] theorem fresh_flt : (s.fresh).flt = s.flt := rfl
@[simp] theorem fresh_boot : (s.fresh).boot = s.boot := rfl
@[simp] theorem fresh_sec : (s.fresh).sec = s.sec := rfl
@[simp] theorem fresh_mbx : (s.fresh).mbx = s.mbx := rfl
@[simp] theorem fresh_tdm : (s.fresh).tdm = s.tdm := rfl
@[simp] theorem fresh_net : (s.fresh).net = s.net := rfl
@[simp] theorem fresh_ref : (s.fresh).ref = s.ref := rfl
@[simp] theorem fresh_supv : (s.fresh).supv = s.supv := rfl
@[simp] theorem fresh_tnd : (s.fresh).tnd = s.tnd := rfl
@[simp] theorem fresh_pwr : (s.fresh).pwr = s.pwr := rfl
@[simp] theorem fresh_memx : (s.fresh).memx = s.memx := rfl
@[simp] theorem fresh_cnt : (s.fresh).cnt = s.cnt := rfl
@[simp] theorem fresh_night : (s.fresh).night = s.night := rfl
@[simp] theorem fresh_link : (s.fresh).link = s.link := rfl

@[simp] theorem hold_pending (a : Nat) (w : Word) : (s.hold a w).pending = s.pending := rfl
@[simp] theorem hold_regs (a : Nat) (w : Word) : (s.hold a w).regs = s.regs := rfl
@[simp] theorem hold_mem (a : Nat) (w : Word) : (s.hold a w).mem = s.mem := rfl
@[simp] theorem hold_pins (a : Nat) (w : Word) : (s.hold a w).pins = s.pins := rfl
@[simp] theorem hold_time (a : Nat) (w : Word) : (s.hold a w).time = s.time := rfl
@[simp] theorem hold_eng (a : Nat) (w : Word) : (s.hold a w).eng = s.eng := rfl
@[simp] theorem hold_box (a : Nat) (w : Word) : (s.hold a w).box = s.box := rfl
@[simp] theorem hold_hamp (a : Nat) (w : Word) : (s.hold a w).hamp = s.hamp := rfl
@[simp] theorem hold_path (a : Nat) (w : Word) : (s.hold a w).path = s.path := rfl
@[simp] theorem hold_mods (a : Nat) (w : Word) : (s.hold a w).mods = s.mods := rfl
@[simp] theorem hold_disp (a : Nat) (w : Word) : (s.hold a w).disp = s.disp := rfl
@[simp] theorem hold_sig (a : Nat) (w : Word) : (s.hold a w).sig = s.sig := rfl
@[simp] theorem hold_cores (a : Nat) (w : Word) : (s.hold a w).cores = s.cores := rfl
@[simp] theorem hold_ev (a : Nat) (w : Word) : (s.hold a w).ev = s.ev := rfl
@[simp] theorem hold_flt (a : Nat) (w : Word) : (s.hold a w).flt = s.flt := rfl
@[simp] theorem hold_boot (a : Nat) (w : Word) : (s.hold a w).boot = s.boot := rfl
@[simp] theorem hold_sec (a : Nat) (w : Word) : (s.hold a w).sec = s.sec := rfl
@[simp] theorem hold_mbx (a : Nat) (w : Word) : (s.hold a w).mbx = s.mbx := rfl
@[simp] theorem hold_tdm (a : Nat) (w : Word) : (s.hold a w).tdm = s.tdm := rfl
@[simp] theorem hold_net (a : Nat) (w : Word) : (s.hold a w).net = s.net := rfl
@[simp] theorem hold_ref (a : Nat) (w : Word) : (s.hold a w).ref = s.ref := rfl
@[simp] theorem hold_supv (a : Nat) (w : Word) : (s.hold a w).supv = s.supv := rfl
@[simp] theorem hold_tnd (a : Nat) (w : Word) : (s.hold a w).tnd = s.tnd := rfl
@[simp] theorem hold_pwr (a : Nat) (w : Word) : (s.hold a w).pwr = s.pwr := rfl
@[simp] theorem hold_memx (a : Nat) (w : Word) : (s.hold a w).memx = s.memx := rfl
@[simp] theorem hold_cnt (a : Nat) (w : Word) : (s.hold a w).cnt = s.cnt := rfl
@[simp] theorem hold_night (a : Nat) (w : Word) : (s.hold a w).night = s.night := rfl
@[simp] theorem hold_link (a : Nat) (w : Word) : (s.hold a w).link = s.link := rfl
@[simp] theorem hold_free (a : Nat) (w : Word) : (s.hold a w).free = s.free := rfl

@[simp] theorem clearMem_pending (a n : Nat) : (s.clearMem a n).pending = s.pending := rfl
@[simp] theorem clearMem_regs (a n : Nat) : (s.clearMem a n).regs = s.regs := rfl
@[simp] theorem clearMem_held (a n : Nat) : (s.clearMem a n).held = s.held := rfl
@[simp] theorem clearMem_pins (a n : Nat) : (s.clearMem a n).pins = s.pins := rfl
@[simp] theorem clearMem_time (a n : Nat) : (s.clearMem a n).time = s.time := rfl
@[simp] theorem clearMem_eng (a n : Nat) : (s.clearMem a n).eng = s.eng := rfl
@[simp] theorem clearMem_box (a n : Nat) : (s.clearMem a n).box = s.box := rfl
@[simp] theorem clearMem_hamp (a n : Nat) : (s.clearMem a n).hamp = s.hamp := rfl
@[simp] theorem clearMem_path (a n : Nat) : (s.clearMem a n).path = s.path := rfl
@[simp] theorem clearMem_mods (a n : Nat) : (s.clearMem a n).mods = s.mods := rfl
@[simp] theorem clearMem_disp (a n : Nat) : (s.clearMem a n).disp = s.disp := rfl
@[simp] theorem clearMem_sig (a n : Nat) : (s.clearMem a n).sig = s.sig := rfl
@[simp] theorem clearMem_cores (a n : Nat) : (s.clearMem a n).cores = s.cores := rfl
@[simp] theorem clearMem_ev (a n : Nat) : (s.clearMem a n).ev = s.ev := rfl
@[simp] theorem clearMem_flt (a n : Nat) : (s.clearMem a n).flt = s.flt := rfl
@[simp] theorem clearMem_boot (a n : Nat) : (s.clearMem a n).boot = s.boot := rfl
@[simp] theorem clearMem_sec (a n : Nat) : (s.clearMem a n).sec = s.sec := rfl
@[simp] theorem clearMem_mbx (a n : Nat) : (s.clearMem a n).mbx = s.mbx := rfl
@[simp] theorem clearMem_tdm (a n : Nat) : (s.clearMem a n).tdm = s.tdm := rfl
@[simp] theorem clearMem_net (a n : Nat) : (s.clearMem a n).net = s.net := rfl
@[simp] theorem clearMem_ref (a n : Nat) : (s.clearMem a n).ref = s.ref := rfl
@[simp] theorem clearMem_supv (a n : Nat) : (s.clearMem a n).supv = s.supv := rfl
@[simp] theorem clearMem_tnd (a n : Nat) : (s.clearMem a n).tnd = s.tnd := rfl
@[simp] theorem clearMem_pwr (a n : Nat) : (s.clearMem a n).pwr = s.pwr := rfl
@[simp] theorem clearMem_memx (a n : Nat) : (s.clearMem a n).memx = s.memx := rfl
@[simp] theorem clearMem_cnt (a n : Nat) : (s.clearMem a n).cnt = s.cnt := rfl
@[simp] theorem clearMem_night (a n : Nat) : (s.clearMem a n).night = s.night := rfl
@[simp] theorem clearMem_link (a n : Nat) : (s.clearMem a n).link = s.link := rfl
@[simp] theorem clearMem_free (a n : Nat) : (s.clearMem a n).free = s.free := rfl

@[simp] theorem setCore_pending (k : Nat) (c : CoreSt) : (s.setCore k c).pending = s.pending := rfl
@[simp] theorem setCore_regs (k : Nat) (c : CoreSt) : (s.setCore k c).regs = s.regs := rfl
@[simp] theorem setCore_held (k : Nat) (c : CoreSt) : (s.setCore k c).held = s.held := rfl
@[simp] theorem setCore_mem (k : Nat) (c : CoreSt) : (s.setCore k c).mem = s.mem := rfl
@[simp] theorem setCore_pins (k : Nat) (c : CoreSt) : (s.setCore k c).pins = s.pins := rfl
@[simp] theorem setCore_time (k : Nat) (c : CoreSt) : (s.setCore k c).time = s.time := rfl
@[simp] theorem setCore_eng (k : Nat) (c : CoreSt) : (s.setCore k c).eng = s.eng := rfl
@[simp] theorem setCore_box (k : Nat) (c : CoreSt) : (s.setCore k c).box = s.box := rfl
@[simp] theorem setCore_hamp (k : Nat) (c : CoreSt) : (s.setCore k c).hamp = s.hamp := rfl
@[simp] theorem setCore_path (k : Nat) (c : CoreSt) : (s.setCore k c).path = s.path := rfl
@[simp] theorem setCore_mods (k : Nat) (c : CoreSt) : (s.setCore k c).mods = s.mods := rfl
@[simp] theorem setCore_disp (k : Nat) (c : CoreSt) : (s.setCore k c).disp = s.disp := rfl
@[simp] theorem setCore_sig (k : Nat) (c : CoreSt) : (s.setCore k c).sig = s.sig := rfl
@[simp] theorem setCore_ev (k : Nat) (c : CoreSt) : (s.setCore k c).ev = s.ev := rfl
@[simp] theorem setCore_flt (k : Nat) (c : CoreSt) : (s.setCore k c).flt = s.flt := rfl
@[simp] theorem setCore_boot (k : Nat) (c : CoreSt) : (s.setCore k c).boot = s.boot := rfl
@[simp] theorem setCore_sec (k : Nat) (c : CoreSt) : (s.setCore k c).sec = s.sec := rfl
@[simp] theorem setCore_mbx (k : Nat) (c : CoreSt) : (s.setCore k c).mbx = s.mbx := rfl
@[simp] theorem setCore_tdm (k : Nat) (c : CoreSt) : (s.setCore k c).tdm = s.tdm := rfl
@[simp] theorem setCore_net (k : Nat) (c : CoreSt) : (s.setCore k c).net = s.net := rfl
@[simp] theorem setCore_ref (k : Nat) (c : CoreSt) : (s.setCore k c).ref = s.ref := rfl
@[simp] theorem setCore_supv (k : Nat) (c : CoreSt) : (s.setCore k c).supv = s.supv := rfl
@[simp] theorem setCore_tnd (k : Nat) (c : CoreSt) : (s.setCore k c).tnd = s.tnd := rfl
@[simp] theorem setCore_pwr (k : Nat) (c : CoreSt) : (s.setCore k c).pwr = s.pwr := rfl
@[simp] theorem setCore_memx (k : Nat) (c : CoreSt) : (s.setCore k c).memx = s.memx := rfl
@[simp] theorem setCore_cnt (k : Nat) (c : CoreSt) : (s.setCore k c).cnt = s.cnt := rfl
@[simp] theorem setCore_night (k : Nat) (c : CoreSt) : (s.setCore k c).night = s.night := rfl
@[simp] theorem setCore_link (k : Nat) (c : CoreSt) : (s.setCore k c).link = s.link := rfl
@[simp] theorem setCore_free (k : Nat) (c : CoreSt) : (s.setCore k c).free = s.free := rfl

@[simp] theorem modSupv_pending (f : SupvSt → SupvSt) : (s.modSupv f).pending = s.pending := rfl
@[simp] theorem modSupv_regs (f : SupvSt → SupvSt) : (s.modSupv f).regs = s.regs := rfl
@[simp] theorem modSupv_held (f : SupvSt → SupvSt) : (s.modSupv f).held = s.held := rfl
@[simp] theorem modSupv_mem (f : SupvSt → SupvSt) : (s.modSupv f).mem = s.mem := rfl
@[simp] theorem modSupv_pins (f : SupvSt → SupvSt) : (s.modSupv f).pins = s.pins := rfl
@[simp] theorem modSupv_time (f : SupvSt → SupvSt) : (s.modSupv f).time = s.time := rfl
@[simp] theorem modSupv_eng (f : SupvSt → SupvSt) : (s.modSupv f).eng = s.eng := rfl
@[simp] theorem modSupv_box (f : SupvSt → SupvSt) : (s.modSupv f).box = s.box := rfl
@[simp] theorem modSupv_hamp (f : SupvSt → SupvSt) : (s.modSupv f).hamp = s.hamp := rfl
@[simp] theorem modSupv_path (f : SupvSt → SupvSt) : (s.modSupv f).path = s.path := rfl
@[simp] theorem modSupv_mods (f : SupvSt → SupvSt) : (s.modSupv f).mods = s.mods := rfl
@[simp] theorem modSupv_disp (f : SupvSt → SupvSt) : (s.modSupv f).disp = s.disp := rfl
@[simp] theorem modSupv_sig (f : SupvSt → SupvSt) : (s.modSupv f).sig = s.sig := rfl
@[simp] theorem modSupv_cores (f : SupvSt → SupvSt) : (s.modSupv f).cores = s.cores := rfl
@[simp] theorem modSupv_ev (f : SupvSt → SupvSt) : (s.modSupv f).ev = s.ev := rfl
@[simp] theorem modSupv_flt (f : SupvSt → SupvSt) : (s.modSupv f).flt = s.flt := rfl
@[simp] theorem modSupv_boot (f : SupvSt → SupvSt) : (s.modSupv f).boot = s.boot := rfl
@[simp] theorem modSupv_sec (f : SupvSt → SupvSt) : (s.modSupv f).sec = s.sec := rfl
@[simp] theorem modSupv_mbx (f : SupvSt → SupvSt) : (s.modSupv f).mbx = s.mbx := rfl
@[simp] theorem modSupv_tdm (f : SupvSt → SupvSt) : (s.modSupv f).tdm = s.tdm := rfl
@[simp] theorem modSupv_net (f : SupvSt → SupvSt) : (s.modSupv f).net = s.net := rfl
@[simp] theorem modSupv_ref (f : SupvSt → SupvSt) : (s.modSupv f).ref = s.ref := rfl
@[simp] theorem modSupv_supv (f : SupvSt → SupvSt) : (s.modSupv f).supv = f s.supv := rfl
@[simp] theorem modSupv_tnd (f : SupvSt → SupvSt) : (s.modSupv f).tnd = s.tnd := rfl
@[simp] theorem modSupv_pwr (f : SupvSt → SupvSt) : (s.modSupv f).pwr = s.pwr := rfl
@[simp] theorem modSupv_memx (f : SupvSt → SupvSt) : (s.modSupv f).memx = s.memx := rfl
@[simp] theorem modSupv_cnt (f : SupvSt → SupvSt) : (s.modSupv f).cnt = s.cnt := rfl
@[simp] theorem modSupv_night (f : SupvSt → SupvSt) : (s.modSupv f).night = s.night := rfl
@[simp] theorem modSupv_link (f : SupvSt → SupvSt) : (s.modSupv f).link = s.link := rfl
@[simp] theorem modSupv_free (f : SupvSt → SupvSt) : (s.modSupv f).free = s.free := rfl

@[simp] theorem modPath_pending (f : PathSt → PathSt) : (s.modPath f).pending = s.pending := rfl
@[simp] theorem modPath_regs (f : PathSt → PathSt) : (s.modPath f).regs = s.regs := rfl
@[simp] theorem modPath_held (f : PathSt → PathSt) : (s.modPath f).held = s.held := rfl
@[simp] theorem modPath_mem (f : PathSt → PathSt) : (s.modPath f).mem = s.mem := rfl
@[simp] theorem modPath_pins (f : PathSt → PathSt) : (s.modPath f).pins = s.pins := rfl
@[simp] theorem modPath_time (f : PathSt → PathSt) : (s.modPath f).time = s.time := rfl
@[simp] theorem modPath_eng (f : PathSt → PathSt) : (s.modPath f).eng = s.eng := rfl
@[simp] theorem modPath_box (f : PathSt → PathSt) : (s.modPath f).box = s.box := rfl
@[simp] theorem modPath_hamp (f : PathSt → PathSt) : (s.modPath f).hamp = s.hamp := rfl
@[simp] theorem modPath_path (f : PathSt → PathSt) : (s.modPath f).path = f s.path := rfl
@[simp] theorem modPath_mods (f : PathSt → PathSt) : (s.modPath f).mods = s.mods := rfl
@[simp] theorem modPath_disp (f : PathSt → PathSt) : (s.modPath f).disp = s.disp := rfl
@[simp] theorem modPath_sig (f : PathSt → PathSt) : (s.modPath f).sig = s.sig := rfl
@[simp] theorem modPath_cores (f : PathSt → PathSt) : (s.modPath f).cores = s.cores := rfl
@[simp] theorem modPath_ev (f : PathSt → PathSt) : (s.modPath f).ev = s.ev := rfl
@[simp] theorem modPath_flt (f : PathSt → PathSt) : (s.modPath f).flt = s.flt := rfl
@[simp] theorem modPath_boot (f : PathSt → PathSt) : (s.modPath f).boot = s.boot := rfl
@[simp] theorem modPath_sec (f : PathSt → PathSt) : (s.modPath f).sec = s.sec := rfl
@[simp] theorem modPath_mbx (f : PathSt → PathSt) : (s.modPath f).mbx = s.mbx := rfl
@[simp] theorem modPath_tdm (f : PathSt → PathSt) : (s.modPath f).tdm = s.tdm := rfl
@[simp] theorem modPath_net (f : PathSt → PathSt) : (s.modPath f).net = s.net := rfl
@[simp] theorem modPath_ref (f : PathSt → PathSt) : (s.modPath f).ref = s.ref := rfl
@[simp] theorem modPath_supv (f : PathSt → PathSt) : (s.modPath f).supv = s.supv := rfl
@[simp] theorem modPath_tnd (f : PathSt → PathSt) : (s.modPath f).tnd = s.tnd := rfl
@[simp] theorem modPath_pwr (f : PathSt → PathSt) : (s.modPath f).pwr = s.pwr := rfl
@[simp] theorem modPath_memx (f : PathSt → PathSt) : (s.modPath f).memx = s.memx := rfl
@[simp] theorem modPath_cnt (f : PathSt → PathSt) : (s.modPath f).cnt = s.cnt := rfl
@[simp] theorem modPath_night (f : PathSt → PathSt) : (s.modPath f).night = s.night := rfl
@[simp] theorem modPath_link (f : PathSt → PathSt) : (s.modPath f).link = s.link := rfl
@[simp] theorem modPath_free (f : PathSt → PathSt) : (s.modPath f).free = s.free := rfl

@[simp] theorem modDisp_pending (f : DispSt → DispSt) : (s.modDisp f).pending = s.pending := rfl
@[simp] theorem modDisp_regs (f : DispSt → DispSt) : (s.modDisp f).regs = s.regs := rfl
@[simp] theorem modDisp_held (f : DispSt → DispSt) : (s.modDisp f).held = s.held := rfl
@[simp] theorem modDisp_mem (f : DispSt → DispSt) : (s.modDisp f).mem = s.mem := rfl
@[simp] theorem modDisp_pins (f : DispSt → DispSt) : (s.modDisp f).pins = s.pins := rfl
@[simp] theorem modDisp_time (f : DispSt → DispSt) : (s.modDisp f).time = s.time := rfl
@[simp] theorem modDisp_eng (f : DispSt → DispSt) : (s.modDisp f).eng = s.eng := rfl
@[simp] theorem modDisp_box (f : DispSt → DispSt) : (s.modDisp f).box = s.box := rfl
@[simp] theorem modDisp_hamp (f : DispSt → DispSt) : (s.modDisp f).hamp = s.hamp := rfl
@[simp] theorem modDisp_path (f : DispSt → DispSt) : (s.modDisp f).path = s.path := rfl
@[simp] theorem modDisp_mods (f : DispSt → DispSt) : (s.modDisp f).mods = s.mods := rfl
@[simp] theorem modDisp_disp (f : DispSt → DispSt) : (s.modDisp f).disp = f s.disp := rfl
@[simp] theorem modDisp_sig (f : DispSt → DispSt) : (s.modDisp f).sig = s.sig := rfl
@[simp] theorem modDisp_cores (f : DispSt → DispSt) : (s.modDisp f).cores = s.cores := rfl
@[simp] theorem modDisp_ev (f : DispSt → DispSt) : (s.modDisp f).ev = s.ev := rfl
@[simp] theorem modDisp_flt (f : DispSt → DispSt) : (s.modDisp f).flt = s.flt := rfl
@[simp] theorem modDisp_boot (f : DispSt → DispSt) : (s.modDisp f).boot = s.boot := rfl
@[simp] theorem modDisp_sec (f : DispSt → DispSt) : (s.modDisp f).sec = s.sec := rfl
@[simp] theorem modDisp_mbx (f : DispSt → DispSt) : (s.modDisp f).mbx = s.mbx := rfl
@[simp] theorem modDisp_tdm (f : DispSt → DispSt) : (s.modDisp f).tdm = s.tdm := rfl
@[simp] theorem modDisp_net (f : DispSt → DispSt) : (s.modDisp f).net = s.net := rfl
@[simp] theorem modDisp_ref (f : DispSt → DispSt) : (s.modDisp f).ref = s.ref := rfl
@[simp] theorem modDisp_supv (f : DispSt → DispSt) : (s.modDisp f).supv = s.supv := rfl
@[simp] theorem modDisp_tnd (f : DispSt → DispSt) : (s.modDisp f).tnd = s.tnd := rfl
@[simp] theorem modDisp_pwr (f : DispSt → DispSt) : (s.modDisp f).pwr = s.pwr := rfl
@[simp] theorem modDisp_memx (f : DispSt → DispSt) : (s.modDisp f).memx = s.memx := rfl
@[simp] theorem modDisp_cnt (f : DispSt → DispSt) : (s.modDisp f).cnt = s.cnt := rfl
@[simp] theorem modDisp_night (f : DispSt → DispSt) : (s.modDisp f).night = s.night := rfl
@[simp] theorem modDisp_link (f : DispSt → DispSt) : (s.modDisp f).link = s.link := rfl
@[simp] theorem modDisp_free (f : DispSt → DispSt) : (s.modDisp f).free = s.free := rfl

@[simp] theorem modPwr_pending (f : PowerSt → PowerSt) : (s.modPwr f).pending = s.pending := rfl
@[simp] theorem modPwr_regs (f : PowerSt → PowerSt) : (s.modPwr f).regs = s.regs := rfl
@[simp] theorem modPwr_held (f : PowerSt → PowerSt) : (s.modPwr f).held = s.held := rfl
@[simp] theorem modPwr_mem (f : PowerSt → PowerSt) : (s.modPwr f).mem = s.mem := rfl
@[simp] theorem modPwr_pins (f : PowerSt → PowerSt) : (s.modPwr f).pins = s.pins := rfl
@[simp] theorem modPwr_time (f : PowerSt → PowerSt) : (s.modPwr f).time = s.time := rfl
@[simp] theorem modPwr_eng (f : PowerSt → PowerSt) : (s.modPwr f).eng = s.eng := rfl
@[simp] theorem modPwr_box (f : PowerSt → PowerSt) : (s.modPwr f).box = s.box := rfl
@[simp] theorem modPwr_hamp (f : PowerSt → PowerSt) : (s.modPwr f).hamp = s.hamp := rfl
@[simp] theorem modPwr_path (f : PowerSt → PowerSt) : (s.modPwr f).path = s.path := rfl
@[simp] theorem modPwr_mods (f : PowerSt → PowerSt) : (s.modPwr f).mods = s.mods := rfl
@[simp] theorem modPwr_disp (f : PowerSt → PowerSt) : (s.modPwr f).disp = s.disp := rfl
@[simp] theorem modPwr_sig (f : PowerSt → PowerSt) : (s.modPwr f).sig = s.sig := rfl
@[simp] theorem modPwr_cores (f : PowerSt → PowerSt) : (s.modPwr f).cores = s.cores := rfl
@[simp] theorem modPwr_ev (f : PowerSt → PowerSt) : (s.modPwr f).ev = s.ev := rfl
@[simp] theorem modPwr_flt (f : PowerSt → PowerSt) : (s.modPwr f).flt = s.flt := rfl
@[simp] theorem modPwr_boot (f : PowerSt → PowerSt) : (s.modPwr f).boot = s.boot := rfl
@[simp] theorem modPwr_sec (f : PowerSt → PowerSt) : (s.modPwr f).sec = s.sec := rfl
@[simp] theorem modPwr_mbx (f : PowerSt → PowerSt) : (s.modPwr f).mbx = s.mbx := rfl
@[simp] theorem modPwr_tdm (f : PowerSt → PowerSt) : (s.modPwr f).tdm = s.tdm := rfl
@[simp] theorem modPwr_net (f : PowerSt → PowerSt) : (s.modPwr f).net = s.net := rfl
@[simp] theorem modPwr_ref (f : PowerSt → PowerSt) : (s.modPwr f).ref = s.ref := rfl
@[simp] theorem modPwr_supv (f : PowerSt → PowerSt) : (s.modPwr f).supv = s.supv := rfl
@[simp] theorem modPwr_tnd (f : PowerSt → PowerSt) : (s.modPwr f).tnd = s.tnd := rfl
@[simp] theorem modPwr_pwr (f : PowerSt → PowerSt) : (s.modPwr f).pwr = f s.pwr := rfl
@[simp] theorem modPwr_memx (f : PowerSt → PowerSt) : (s.modPwr f).memx = s.memx := rfl
@[simp] theorem modPwr_cnt (f : PowerSt → PowerSt) : (s.modPwr f).cnt = s.cnt := rfl
@[simp] theorem modPwr_night (f : PowerSt → PowerSt) : (s.modPwr f).night = s.night := rfl
@[simp] theorem modPwr_link (f : PowerSt → PowerSt) : (s.modPwr f).link = s.link := rfl
@[simp] theorem modPwr_free (f : PowerSt → PowerSt) : (s.modPwr f).free = s.free := rfl

@[simp] theorem modMem_pending (f : MemSt → MemSt) : (s.modMem f).pending = s.pending := rfl
@[simp] theorem modMem_regs (f : MemSt → MemSt) : (s.modMem f).regs = s.regs := rfl
@[simp] theorem modMem_held (f : MemSt → MemSt) : (s.modMem f).held = s.held := rfl
@[simp] theorem modMem_mem (f : MemSt → MemSt) : (s.modMem f).mem = s.mem := rfl
@[simp] theorem modMem_pins (f : MemSt → MemSt) : (s.modMem f).pins = s.pins := rfl
@[simp] theorem modMem_time (f : MemSt → MemSt) : (s.modMem f).time = s.time := rfl
@[simp] theorem modMem_eng (f : MemSt → MemSt) : (s.modMem f).eng = s.eng := rfl
@[simp] theorem modMem_box (f : MemSt → MemSt) : (s.modMem f).box = s.box := rfl
@[simp] theorem modMem_hamp (f : MemSt → MemSt) : (s.modMem f).hamp = s.hamp := rfl
@[simp] theorem modMem_path (f : MemSt → MemSt) : (s.modMem f).path = s.path := rfl
@[simp] theorem modMem_mods (f : MemSt → MemSt) : (s.modMem f).mods = s.mods := rfl
@[simp] theorem modMem_disp (f : MemSt → MemSt) : (s.modMem f).disp = s.disp := rfl
@[simp] theorem modMem_sig (f : MemSt → MemSt) : (s.modMem f).sig = s.sig := rfl
@[simp] theorem modMem_cores (f : MemSt → MemSt) : (s.modMem f).cores = s.cores := rfl
@[simp] theorem modMem_ev (f : MemSt → MemSt) : (s.modMem f).ev = s.ev := rfl
@[simp] theorem modMem_flt (f : MemSt → MemSt) : (s.modMem f).flt = s.flt := rfl
@[simp] theorem modMem_boot (f : MemSt → MemSt) : (s.modMem f).boot = s.boot := rfl
@[simp] theorem modMem_sec (f : MemSt → MemSt) : (s.modMem f).sec = s.sec := rfl
@[simp] theorem modMem_mbx (f : MemSt → MemSt) : (s.modMem f).mbx = s.mbx := rfl
@[simp] theorem modMem_tdm (f : MemSt → MemSt) : (s.modMem f).tdm = s.tdm := rfl
@[simp] theorem modMem_net (f : MemSt → MemSt) : (s.modMem f).net = s.net := rfl
@[simp] theorem modMem_ref (f : MemSt → MemSt) : (s.modMem f).ref = s.ref := rfl
@[simp] theorem modMem_supv (f : MemSt → MemSt) : (s.modMem f).supv = s.supv := rfl
@[simp] theorem modMem_tnd (f : MemSt → MemSt) : (s.modMem f).tnd = s.tnd := rfl
@[simp] theorem modMem_pwr (f : MemSt → MemSt) : (s.modMem f).pwr = s.pwr := rfl
@[simp] theorem modMem_memx (f : MemSt → MemSt) : (s.modMem f).memx = f s.memx := rfl
@[simp] theorem modMem_cnt (f : MemSt → MemSt) : (s.modMem f).cnt = s.cnt := rfl
@[simp] theorem modMem_night (f : MemSt → MemSt) : (s.modMem f).night = s.night := rfl
@[simp] theorem modMem_link (f : MemSt → MemSt) : (s.modMem f).link = s.link := rfl
@[simp] theorem modMem_free (f : MemSt → MemSt) : (s.modMem f).free = s.free := rfl

@[simp] theorem modTnd_pending (f : TandemSt → TandemSt) : (s.modTnd f).pending = s.pending := rfl
@[simp] theorem modTnd_regs (f : TandemSt → TandemSt) : (s.modTnd f).regs = s.regs := rfl
@[simp] theorem modTnd_held (f : TandemSt → TandemSt) : (s.modTnd f).held = s.held := rfl
@[simp] theorem modTnd_mem (f : TandemSt → TandemSt) : (s.modTnd f).mem = s.mem := rfl
@[simp] theorem modTnd_pins (f : TandemSt → TandemSt) : (s.modTnd f).pins = s.pins := rfl
@[simp] theorem modTnd_time (f : TandemSt → TandemSt) : (s.modTnd f).time = s.time := rfl
@[simp] theorem modTnd_eng (f : TandemSt → TandemSt) : (s.modTnd f).eng = s.eng := rfl
@[simp] theorem modTnd_box (f : TandemSt → TandemSt) : (s.modTnd f).box = s.box := rfl
@[simp] theorem modTnd_hamp (f : TandemSt → TandemSt) : (s.modTnd f).hamp = s.hamp := rfl
@[simp] theorem modTnd_path (f : TandemSt → TandemSt) : (s.modTnd f).path = s.path := rfl
@[simp] theorem modTnd_mods (f : TandemSt → TandemSt) : (s.modTnd f).mods = s.mods := rfl
@[simp] theorem modTnd_disp (f : TandemSt → TandemSt) : (s.modTnd f).disp = s.disp := rfl
@[simp] theorem modTnd_sig (f : TandemSt → TandemSt) : (s.modTnd f).sig = s.sig := rfl
@[simp] theorem modTnd_cores (f : TandemSt → TandemSt) : (s.modTnd f).cores = s.cores := rfl
@[simp] theorem modTnd_ev (f : TandemSt → TandemSt) : (s.modTnd f).ev = s.ev := rfl
@[simp] theorem modTnd_flt (f : TandemSt → TandemSt) : (s.modTnd f).flt = s.flt := rfl
@[simp] theorem modTnd_boot (f : TandemSt → TandemSt) : (s.modTnd f).boot = s.boot := rfl
@[simp] theorem modTnd_sec (f : TandemSt → TandemSt) : (s.modTnd f).sec = s.sec := rfl
@[simp] theorem modTnd_mbx (f : TandemSt → TandemSt) : (s.modTnd f).mbx = s.mbx := rfl
@[simp] theorem modTnd_tdm (f : TandemSt → TandemSt) : (s.modTnd f).tdm = s.tdm := rfl
@[simp] theorem modTnd_net (f : TandemSt → TandemSt) : (s.modTnd f).net = s.net := rfl
@[simp] theorem modTnd_ref (f : TandemSt → TandemSt) : (s.modTnd f).ref = s.ref := rfl
@[simp] theorem modTnd_supv (f : TandemSt → TandemSt) : (s.modTnd f).supv = s.supv := rfl
@[simp] theorem modTnd_tnd (f : TandemSt → TandemSt) : (s.modTnd f).tnd = f s.tnd := rfl
@[simp] theorem modTnd_pwr (f : TandemSt → TandemSt) : (s.modTnd f).pwr = s.pwr := rfl
@[simp] theorem modTnd_memx (f : TandemSt → TandemSt) : (s.modTnd f).memx = s.memx := rfl
@[simp] theorem modTnd_cnt (f : TandemSt → TandemSt) : (s.modTnd f).cnt = s.cnt := rfl
@[simp] theorem modTnd_night (f : TandemSt → TandemSt) : (s.modTnd f).night = s.night := rfl
@[simp] theorem modTnd_link (f : TandemSt → TandemSt) : (s.modTnd f).link = s.link := rfl
@[simp] theorem modTnd_free (f : TandemSt → TandemSt) : (s.modTnd f).free = s.free := rfl

@[simp] theorem modNet_pending (f : NetSt → NetSt) : (s.modNet f).pending = s.pending := rfl
@[simp] theorem modNet_regs (f : NetSt → NetSt) : (s.modNet f).regs = s.regs := rfl
@[simp] theorem modNet_held (f : NetSt → NetSt) : (s.modNet f).held = s.held := rfl
@[simp] theorem modNet_mem (f : NetSt → NetSt) : (s.modNet f).mem = s.mem := rfl
@[simp] theorem modNet_pins (f : NetSt → NetSt) : (s.modNet f).pins = s.pins := rfl
@[simp] theorem modNet_time (f : NetSt → NetSt) : (s.modNet f).time = s.time := rfl
@[simp] theorem modNet_eng (f : NetSt → NetSt) : (s.modNet f).eng = s.eng := rfl
@[simp] theorem modNet_box (f : NetSt → NetSt) : (s.modNet f).box = s.box := rfl
@[simp] theorem modNet_hamp (f : NetSt → NetSt) : (s.modNet f).hamp = s.hamp := rfl
@[simp] theorem modNet_path (f : NetSt → NetSt) : (s.modNet f).path = s.path := rfl
@[simp] theorem modNet_mods (f : NetSt → NetSt) : (s.modNet f).mods = s.mods := rfl
@[simp] theorem modNet_disp (f : NetSt → NetSt) : (s.modNet f).disp = s.disp := rfl
@[simp] theorem modNet_sig (f : NetSt → NetSt) : (s.modNet f).sig = s.sig := rfl
@[simp] theorem modNet_cores (f : NetSt → NetSt) : (s.modNet f).cores = s.cores := rfl
@[simp] theorem modNet_ev (f : NetSt → NetSt) : (s.modNet f).ev = s.ev := rfl
@[simp] theorem modNet_flt (f : NetSt → NetSt) : (s.modNet f).flt = s.flt := rfl
@[simp] theorem modNet_boot (f : NetSt → NetSt) : (s.modNet f).boot = s.boot := rfl
@[simp] theorem modNet_sec (f : NetSt → NetSt) : (s.modNet f).sec = s.sec := rfl
@[simp] theorem modNet_mbx (f : NetSt → NetSt) : (s.modNet f).mbx = s.mbx := rfl
@[simp] theorem modNet_tdm (f : NetSt → NetSt) : (s.modNet f).tdm = s.tdm := rfl
@[simp] theorem modNet_net (f : NetSt → NetSt) : (s.modNet f).net = f s.net := rfl
@[simp] theorem modNet_ref (f : NetSt → NetSt) : (s.modNet f).ref = s.ref := rfl
@[simp] theorem modNet_supv (f : NetSt → NetSt) : (s.modNet f).supv = s.supv := rfl
@[simp] theorem modNet_tnd (f : NetSt → NetSt) : (s.modNet f).tnd = s.tnd := rfl
@[simp] theorem modNet_pwr (f : NetSt → NetSt) : (s.modNet f).pwr = s.pwr := rfl
@[simp] theorem modNet_memx (f : NetSt → NetSt) : (s.modNet f).memx = s.memx := rfl
@[simp] theorem modNet_cnt (f : NetSt → NetSt) : (s.modNet f).cnt = s.cnt := rfl
@[simp] theorem modNet_night (f : NetSt → NetSt) : (s.modNet f).night = s.night := rfl
@[simp] theorem modNet_link (f : NetSt → NetSt) : (s.modNet f).link = s.link := rfl
@[simp] theorem modNet_free (f : NetSt → NetSt) : (s.modNet f).free = s.free := rfl

@[simp] theorem modTime_pending (f : TimeSt → TimeSt) : (s.modTime f).pending = s.pending := rfl
@[simp] theorem modTime_regs (f : TimeSt → TimeSt) : (s.modTime f).regs = s.regs := rfl
@[simp] theorem modTime_held (f : TimeSt → TimeSt) : (s.modTime f).held = s.held := rfl
@[simp] theorem modTime_mem (f : TimeSt → TimeSt) : (s.modTime f).mem = s.mem := rfl
@[simp] theorem modTime_pins (f : TimeSt → TimeSt) : (s.modTime f).pins = s.pins := rfl
@[simp] theorem modTime_time (f : TimeSt → TimeSt) : (s.modTime f).time = f s.time := rfl
@[simp] theorem modTime_eng (f : TimeSt → TimeSt) : (s.modTime f).eng = s.eng := rfl
@[simp] theorem modTime_box (f : TimeSt → TimeSt) : (s.modTime f).box = s.box := rfl
@[simp] theorem modTime_hamp (f : TimeSt → TimeSt) : (s.modTime f).hamp = s.hamp := rfl
@[simp] theorem modTime_path (f : TimeSt → TimeSt) : (s.modTime f).path = s.path := rfl
@[simp] theorem modTime_mods (f : TimeSt → TimeSt) : (s.modTime f).mods = s.mods := rfl
@[simp] theorem modTime_disp (f : TimeSt → TimeSt) : (s.modTime f).disp = s.disp := rfl
@[simp] theorem modTime_sig (f : TimeSt → TimeSt) : (s.modTime f).sig = s.sig := rfl
@[simp] theorem modTime_cores (f : TimeSt → TimeSt) : (s.modTime f).cores = s.cores := rfl
@[simp] theorem modTime_ev (f : TimeSt → TimeSt) : (s.modTime f).ev = s.ev := rfl
@[simp] theorem modTime_flt (f : TimeSt → TimeSt) : (s.modTime f).flt = s.flt := rfl
@[simp] theorem modTime_boot (f : TimeSt → TimeSt) : (s.modTime f).boot = s.boot := rfl
@[simp] theorem modTime_sec (f : TimeSt → TimeSt) : (s.modTime f).sec = s.sec := rfl
@[simp] theorem modTime_mbx (f : TimeSt → TimeSt) : (s.modTime f).mbx = s.mbx := rfl
@[simp] theorem modTime_tdm (f : TimeSt → TimeSt) : (s.modTime f).tdm = s.tdm := rfl
@[simp] theorem modTime_net (f : TimeSt → TimeSt) : (s.modTime f).net = s.net := rfl
@[simp] theorem modTime_ref (f : TimeSt → TimeSt) : (s.modTime f).ref = s.ref := rfl
@[simp] theorem modTime_supv (f : TimeSt → TimeSt) : (s.modTime f).supv = s.supv := rfl
@[simp] theorem modTime_tnd (f : TimeSt → TimeSt) : (s.modTime f).tnd = s.tnd := rfl
@[simp] theorem modTime_pwr (f : TimeSt → TimeSt) : (s.modTime f).pwr = s.pwr := rfl
@[simp] theorem modTime_memx (f : TimeSt → TimeSt) : (s.modTime f).memx = s.memx := rfl
@[simp] theorem modTime_cnt (f : TimeSt → TimeSt) : (s.modTime f).cnt = s.cnt := rfl
@[simp] theorem modTime_night (f : TimeSt → TimeSt) : (s.modTime f).night = s.night := rfl
@[simp] theorem modTime_link (f : TimeSt → TimeSt) : (s.modTime f).link = s.link := rfl
@[simp] theorem modTime_free (f : TimeSt → TimeSt) : (s.modTime f).free = s.free := rfl

@[simp] theorem modRef_pending (f : RefSt → RefSt) : (s.modRef f).pending = s.pending := rfl
@[simp] theorem modRef_regs (f : RefSt → RefSt) : (s.modRef f).regs = s.regs := rfl
@[simp] theorem modRef_held (f : RefSt → RefSt) : (s.modRef f).held = s.held := rfl
@[simp] theorem modRef_mem (f : RefSt → RefSt) : (s.modRef f).mem = s.mem := rfl
@[simp] theorem modRef_pins (f : RefSt → RefSt) : (s.modRef f).pins = s.pins := rfl
@[simp] theorem modRef_time (f : RefSt → RefSt) : (s.modRef f).time = s.time := rfl
@[simp] theorem modRef_eng (f : RefSt → RefSt) : (s.modRef f).eng = s.eng := rfl
@[simp] theorem modRef_box (f : RefSt → RefSt) : (s.modRef f).box = s.box := rfl
@[simp] theorem modRef_hamp (f : RefSt → RefSt) : (s.modRef f).hamp = s.hamp := rfl
@[simp] theorem modRef_path (f : RefSt → RefSt) : (s.modRef f).path = s.path := rfl
@[simp] theorem modRef_mods (f : RefSt → RefSt) : (s.modRef f).mods = s.mods := rfl
@[simp] theorem modRef_disp (f : RefSt → RefSt) : (s.modRef f).disp = s.disp := rfl
@[simp] theorem modRef_sig (f : RefSt → RefSt) : (s.modRef f).sig = s.sig := rfl
@[simp] theorem modRef_cores (f : RefSt → RefSt) : (s.modRef f).cores = s.cores := rfl
@[simp] theorem modRef_ev (f : RefSt → RefSt) : (s.modRef f).ev = s.ev := rfl
@[simp] theorem modRef_flt (f : RefSt → RefSt) : (s.modRef f).flt = s.flt := rfl
@[simp] theorem modRef_boot (f : RefSt → RefSt) : (s.modRef f).boot = s.boot := rfl
@[simp] theorem modRef_sec (f : RefSt → RefSt) : (s.modRef f).sec = s.sec := rfl
@[simp] theorem modRef_mbx (f : RefSt → RefSt) : (s.modRef f).mbx = s.mbx := rfl
@[simp] theorem modRef_tdm (f : RefSt → RefSt) : (s.modRef f).tdm = s.tdm := rfl
@[simp] theorem modRef_net (f : RefSt → RefSt) : (s.modRef f).net = s.net := rfl
@[simp] theorem modRef_ref (f : RefSt → RefSt) : (s.modRef f).ref = f s.ref := rfl
@[simp] theorem modRef_supv (f : RefSt → RefSt) : (s.modRef f).supv = s.supv := rfl
@[simp] theorem modRef_tnd (f : RefSt → RefSt) : (s.modRef f).tnd = s.tnd := rfl
@[simp] theorem modRef_pwr (f : RefSt → RefSt) : (s.modRef f).pwr = s.pwr := rfl
@[simp] theorem modRef_memx (f : RefSt → RefSt) : (s.modRef f).memx = s.memx := rfl
@[simp] theorem modRef_cnt (f : RefSt → RefSt) : (s.modRef f).cnt = s.cnt := rfl
@[simp] theorem modRef_night (f : RefSt → RefSt) : (s.modRef f).night = s.night := rfl
@[simp] theorem modRef_link (f : RefSt → RefSt) : (s.modRef f).link = s.link := rfl
@[simp] theorem modRef_free (f : RefSt → RefSt) : (s.modRef f).free = s.free := rfl

@[simp] theorem modSec_pending (f : SecSt → SecSt) : (s.modSec f).pending = s.pending := rfl
@[simp] theorem modSec_regs (f : SecSt → SecSt) : (s.modSec f).regs = s.regs := rfl
@[simp] theorem modSec_held (f : SecSt → SecSt) : (s.modSec f).held = s.held := rfl
@[simp] theorem modSec_mem (f : SecSt → SecSt) : (s.modSec f).mem = s.mem := rfl
@[simp] theorem modSec_pins (f : SecSt → SecSt) : (s.modSec f).pins = s.pins := rfl
@[simp] theorem modSec_time (f : SecSt → SecSt) : (s.modSec f).time = s.time := rfl
@[simp] theorem modSec_eng (f : SecSt → SecSt) : (s.modSec f).eng = s.eng := rfl
@[simp] theorem modSec_box (f : SecSt → SecSt) : (s.modSec f).box = s.box := rfl
@[simp] theorem modSec_hamp (f : SecSt → SecSt) : (s.modSec f).hamp = s.hamp := rfl
@[simp] theorem modSec_path (f : SecSt → SecSt) : (s.modSec f).path = s.path := rfl
@[simp] theorem modSec_mods (f : SecSt → SecSt) : (s.modSec f).mods = s.mods := rfl
@[simp] theorem modSec_disp (f : SecSt → SecSt) : (s.modSec f).disp = s.disp := rfl
@[simp] theorem modSec_sig (f : SecSt → SecSt) : (s.modSec f).sig = s.sig := rfl
@[simp] theorem modSec_cores (f : SecSt → SecSt) : (s.modSec f).cores = s.cores := rfl
@[simp] theorem modSec_ev (f : SecSt → SecSt) : (s.modSec f).ev = s.ev := rfl
@[simp] theorem modSec_flt (f : SecSt → SecSt) : (s.modSec f).flt = s.flt := rfl
@[simp] theorem modSec_boot (f : SecSt → SecSt) : (s.modSec f).boot = s.boot := rfl
@[simp] theorem modSec_sec (f : SecSt → SecSt) : (s.modSec f).sec = f s.sec := rfl
@[simp] theorem modSec_mbx (f : SecSt → SecSt) : (s.modSec f).mbx = s.mbx := rfl
@[simp] theorem modSec_tdm (f : SecSt → SecSt) : (s.modSec f).tdm = s.tdm := rfl
@[simp] theorem modSec_net (f : SecSt → SecSt) : (s.modSec f).net = s.net := rfl
@[simp] theorem modSec_ref (f : SecSt → SecSt) : (s.modSec f).ref = s.ref := rfl
@[simp] theorem modSec_supv (f : SecSt → SecSt) : (s.modSec f).supv = s.supv := rfl
@[simp] theorem modSec_tnd (f : SecSt → SecSt) : (s.modSec f).tnd = s.tnd := rfl
@[simp] theorem modSec_pwr (f : SecSt → SecSt) : (s.modSec f).pwr = s.pwr := rfl
@[simp] theorem modSec_memx (f : SecSt → SecSt) : (s.modSec f).memx = s.memx := rfl
@[simp] theorem modSec_cnt (f : SecSt → SecSt) : (s.modSec f).cnt = s.cnt := rfl
@[simp] theorem modSec_night (f : SecSt → SecSt) : (s.modSec f).night = s.night := rfl
@[simp] theorem modSec_link (f : SecSt → SecSt) : (s.modSec f).link = s.link := rfl
@[simp] theorem modSec_free (f : SecSt → SecSt) : (s.modSec f).free = s.free := rfl

@[simp] theorem modBoot_pending (f : BootSt → BootSt) : (s.modBoot f).pending = s.pending := rfl
@[simp] theorem modBoot_regs (f : BootSt → BootSt) : (s.modBoot f).regs = s.regs := rfl
@[simp] theorem modBoot_held (f : BootSt → BootSt) : (s.modBoot f).held = s.held := rfl
@[simp] theorem modBoot_mem (f : BootSt → BootSt) : (s.modBoot f).mem = s.mem := rfl
@[simp] theorem modBoot_pins (f : BootSt → BootSt) : (s.modBoot f).pins = s.pins := rfl
@[simp] theorem modBoot_time (f : BootSt → BootSt) : (s.modBoot f).time = s.time := rfl
@[simp] theorem modBoot_eng (f : BootSt → BootSt) : (s.modBoot f).eng = s.eng := rfl
@[simp] theorem modBoot_box (f : BootSt → BootSt) : (s.modBoot f).box = s.box := rfl
@[simp] theorem modBoot_hamp (f : BootSt → BootSt) : (s.modBoot f).hamp = s.hamp := rfl
@[simp] theorem modBoot_path (f : BootSt → BootSt) : (s.modBoot f).path = s.path := rfl
@[simp] theorem modBoot_mods (f : BootSt → BootSt) : (s.modBoot f).mods = s.mods := rfl
@[simp] theorem modBoot_disp (f : BootSt → BootSt) : (s.modBoot f).disp = s.disp := rfl
@[simp] theorem modBoot_sig (f : BootSt → BootSt) : (s.modBoot f).sig = s.sig := rfl
@[simp] theorem modBoot_cores (f : BootSt → BootSt) : (s.modBoot f).cores = s.cores := rfl
@[simp] theorem modBoot_ev (f : BootSt → BootSt) : (s.modBoot f).ev = s.ev := rfl
@[simp] theorem modBoot_flt (f : BootSt → BootSt) : (s.modBoot f).flt = s.flt := rfl
@[simp] theorem modBoot_boot (f : BootSt → BootSt) : (s.modBoot f).boot = f s.boot := rfl
@[simp] theorem modBoot_sec (f : BootSt → BootSt) : (s.modBoot f).sec = s.sec := rfl
@[simp] theorem modBoot_mbx (f : BootSt → BootSt) : (s.modBoot f).mbx = s.mbx := rfl
@[simp] theorem modBoot_tdm (f : BootSt → BootSt) : (s.modBoot f).tdm = s.tdm := rfl
@[simp] theorem modBoot_net (f : BootSt → BootSt) : (s.modBoot f).net = s.net := rfl
@[simp] theorem modBoot_ref (f : BootSt → BootSt) : (s.modBoot f).ref = s.ref := rfl
@[simp] theorem modBoot_supv (f : BootSt → BootSt) : (s.modBoot f).supv = s.supv := rfl
@[simp] theorem modBoot_tnd (f : BootSt → BootSt) : (s.modBoot f).tnd = s.tnd := rfl
@[simp] theorem modBoot_pwr (f : BootSt → BootSt) : (s.modBoot f).pwr = s.pwr := rfl
@[simp] theorem modBoot_memx (f : BootSt → BootSt) : (s.modBoot f).memx = s.memx := rfl
@[simp] theorem modBoot_cnt (f : BootSt → BootSt) : (s.modBoot f).cnt = s.cnt := rfl
@[simp] theorem modBoot_night (f : BootSt → BootSt) : (s.modBoot f).night = s.night := rfl
@[simp] theorem modBoot_link (f : BootSt → BootSt) : (s.modBoot f).link = s.link := rfl
@[simp] theorem modBoot_free (f : BootSt → BootSt) : (s.modBoot f).free = s.free := rfl

@[simp] theorem modEng_pending (f : EngSt → EngSt) : (s.modEng f).pending = s.pending := rfl
@[simp] theorem modEng_regs (f : EngSt → EngSt) : (s.modEng f).regs = s.regs := rfl
@[simp] theorem modEng_held (f : EngSt → EngSt) : (s.modEng f).held = s.held := rfl
@[simp] theorem modEng_mem (f : EngSt → EngSt) : (s.modEng f).mem = s.mem := rfl
@[simp] theorem modEng_pins (f : EngSt → EngSt) : (s.modEng f).pins = s.pins := rfl
@[simp] theorem modEng_time (f : EngSt → EngSt) : (s.modEng f).time = s.time := rfl
@[simp] theorem modEng_eng (f : EngSt → EngSt) : (s.modEng f).eng = f s.eng := rfl
@[simp] theorem modEng_box (f : EngSt → EngSt) : (s.modEng f).box = s.box := rfl
@[simp] theorem modEng_hamp (f : EngSt → EngSt) : (s.modEng f).hamp = s.hamp := rfl
@[simp] theorem modEng_path (f : EngSt → EngSt) : (s.modEng f).path = s.path := rfl
@[simp] theorem modEng_mods (f : EngSt → EngSt) : (s.modEng f).mods = s.mods := rfl
@[simp] theorem modEng_disp (f : EngSt → EngSt) : (s.modEng f).disp = s.disp := rfl
@[simp] theorem modEng_sig (f : EngSt → EngSt) : (s.modEng f).sig = s.sig := rfl
@[simp] theorem modEng_cores (f : EngSt → EngSt) : (s.modEng f).cores = s.cores := rfl
@[simp] theorem modEng_ev (f : EngSt → EngSt) : (s.modEng f).ev = s.ev := rfl
@[simp] theorem modEng_flt (f : EngSt → EngSt) : (s.modEng f).flt = s.flt := rfl
@[simp] theorem modEng_boot (f : EngSt → EngSt) : (s.modEng f).boot = s.boot := rfl
@[simp] theorem modEng_sec (f : EngSt → EngSt) : (s.modEng f).sec = s.sec := rfl
@[simp] theorem modEng_mbx (f : EngSt → EngSt) : (s.modEng f).mbx = s.mbx := rfl
@[simp] theorem modEng_tdm (f : EngSt → EngSt) : (s.modEng f).tdm = s.tdm := rfl
@[simp] theorem modEng_net (f : EngSt → EngSt) : (s.modEng f).net = s.net := rfl
@[simp] theorem modEng_ref (f : EngSt → EngSt) : (s.modEng f).ref = s.ref := rfl
@[simp] theorem modEng_supv (f : EngSt → EngSt) : (s.modEng f).supv = s.supv := rfl
@[simp] theorem modEng_tnd (f : EngSt → EngSt) : (s.modEng f).tnd = s.tnd := rfl
@[simp] theorem modEng_pwr (f : EngSt → EngSt) : (s.modEng f).pwr = s.pwr := rfl
@[simp] theorem modEng_memx (f : EngSt → EngSt) : (s.modEng f).memx = s.memx := rfl
@[simp] theorem modEng_cnt (f : EngSt → EngSt) : (s.modEng f).cnt = s.cnt := rfl
@[simp] theorem modEng_night (f : EngSt → EngSt) : (s.modEng f).night = s.night := rfl
@[simp] theorem modEng_link (f : EngSt → EngSt) : (s.modEng f).link = s.link := rfl
@[simp] theorem modEng_free (f : EngSt → EngSt) : (s.modEng f).free = s.free := rfl

@[simp] theorem modHamp_pending (f : HampSt → HampSt) : (s.modHamp f).pending = s.pending := rfl
@[simp] theorem modHamp_regs (f : HampSt → HampSt) : (s.modHamp f).regs = s.regs := rfl
@[simp] theorem modHamp_held (f : HampSt → HampSt) : (s.modHamp f).held = s.held := rfl
@[simp] theorem modHamp_mem (f : HampSt → HampSt) : (s.modHamp f).mem = s.mem := rfl
@[simp] theorem modHamp_pins (f : HampSt → HampSt) : (s.modHamp f).pins = s.pins := rfl
@[simp] theorem modHamp_time (f : HampSt → HampSt) : (s.modHamp f).time = s.time := rfl
@[simp] theorem modHamp_eng (f : HampSt → HampSt) : (s.modHamp f).eng = s.eng := rfl
@[simp] theorem modHamp_box (f : HampSt → HampSt) : (s.modHamp f).box = s.box := rfl
@[simp] theorem modHamp_hamp (f : HampSt → HampSt) : (s.modHamp f).hamp = f s.hamp := rfl
@[simp] theorem modHamp_path (f : HampSt → HampSt) : (s.modHamp f).path = s.path := rfl
@[simp] theorem modHamp_mods (f : HampSt → HampSt) : (s.modHamp f).mods = s.mods := rfl
@[simp] theorem modHamp_disp (f : HampSt → HampSt) : (s.modHamp f).disp = s.disp := rfl
@[simp] theorem modHamp_sig (f : HampSt → HampSt) : (s.modHamp f).sig = s.sig := rfl
@[simp] theorem modHamp_cores (f : HampSt → HampSt) : (s.modHamp f).cores = s.cores := rfl
@[simp] theorem modHamp_ev (f : HampSt → HampSt) : (s.modHamp f).ev = s.ev := rfl
@[simp] theorem modHamp_flt (f : HampSt → HampSt) : (s.modHamp f).flt = s.flt := rfl
@[simp] theorem modHamp_boot (f : HampSt → HampSt) : (s.modHamp f).boot = s.boot := rfl
@[simp] theorem modHamp_sec (f : HampSt → HampSt) : (s.modHamp f).sec = s.sec := rfl
@[simp] theorem modHamp_mbx (f : HampSt → HampSt) : (s.modHamp f).mbx = s.mbx := rfl
@[simp] theorem modHamp_tdm (f : HampSt → HampSt) : (s.modHamp f).tdm = s.tdm := rfl
@[simp] theorem modHamp_net (f : HampSt → HampSt) : (s.modHamp f).net = s.net := rfl
@[simp] theorem modHamp_ref (f : HampSt → HampSt) : (s.modHamp f).ref = s.ref := rfl
@[simp] theorem modHamp_supv (f : HampSt → HampSt) : (s.modHamp f).supv = s.supv := rfl
@[simp] theorem modHamp_tnd (f : HampSt → HampSt) : (s.modHamp f).tnd = s.tnd := rfl
@[simp] theorem modHamp_pwr (f : HampSt → HampSt) : (s.modHamp f).pwr = s.pwr := rfl
@[simp] theorem modHamp_memx (f : HampSt → HampSt) : (s.modHamp f).memx = s.memx := rfl
@[simp] theorem modHamp_cnt (f : HampSt → HampSt) : (s.modHamp f).cnt = s.cnt := rfl
@[simp] theorem modHamp_night (f : HampSt → HampSt) : (s.modHamp f).night = s.night := rfl
@[simp] theorem modHamp_link (f : HampSt → HampSt) : (s.modHamp f).link = s.link := rfl
@[simp] theorem modHamp_free (f : HampSt → HampSt) : (s.modHamp f).free = s.free := rfl

@[simp] theorem modFlt_pending (f : FaultSt → FaultSt) : (s.modFlt f).pending = s.pending := rfl
@[simp] theorem modFlt_regs (f : FaultSt → FaultSt) : (s.modFlt f).regs = s.regs := rfl
@[simp] theorem modFlt_held (f : FaultSt → FaultSt) : (s.modFlt f).held = s.held := rfl
@[simp] theorem modFlt_mem (f : FaultSt → FaultSt) : (s.modFlt f).mem = s.mem := rfl
@[simp] theorem modFlt_pins (f : FaultSt → FaultSt) : (s.modFlt f).pins = s.pins := rfl
@[simp] theorem modFlt_time (f : FaultSt → FaultSt) : (s.modFlt f).time = s.time := rfl
@[simp] theorem modFlt_eng (f : FaultSt → FaultSt) : (s.modFlt f).eng = s.eng := rfl
@[simp] theorem modFlt_box (f : FaultSt → FaultSt) : (s.modFlt f).box = s.box := rfl
@[simp] theorem modFlt_hamp (f : FaultSt → FaultSt) : (s.modFlt f).hamp = s.hamp := rfl
@[simp] theorem modFlt_path (f : FaultSt → FaultSt) : (s.modFlt f).path = s.path := rfl
@[simp] theorem modFlt_mods (f : FaultSt → FaultSt) : (s.modFlt f).mods = s.mods := rfl
@[simp] theorem modFlt_disp (f : FaultSt → FaultSt) : (s.modFlt f).disp = s.disp := rfl
@[simp] theorem modFlt_sig (f : FaultSt → FaultSt) : (s.modFlt f).sig = s.sig := rfl
@[simp] theorem modFlt_cores (f : FaultSt → FaultSt) : (s.modFlt f).cores = s.cores := rfl
@[simp] theorem modFlt_ev (f : FaultSt → FaultSt) : (s.modFlt f).ev = s.ev := rfl
@[simp] theorem modFlt_flt (f : FaultSt → FaultSt) : (s.modFlt f).flt = f s.flt := rfl
@[simp] theorem modFlt_boot (f : FaultSt → FaultSt) : (s.modFlt f).boot = s.boot := rfl
@[simp] theorem modFlt_sec (f : FaultSt → FaultSt) : (s.modFlt f).sec = s.sec := rfl
@[simp] theorem modFlt_mbx (f : FaultSt → FaultSt) : (s.modFlt f).mbx = s.mbx := rfl
@[simp] theorem modFlt_tdm (f : FaultSt → FaultSt) : (s.modFlt f).tdm = s.tdm := rfl
@[simp] theorem modFlt_net (f : FaultSt → FaultSt) : (s.modFlt f).net = s.net := rfl
@[simp] theorem modFlt_ref (f : FaultSt → FaultSt) : (s.modFlt f).ref = s.ref := rfl
@[simp] theorem modFlt_supv (f : FaultSt → FaultSt) : (s.modFlt f).supv = s.supv := rfl
@[simp] theorem modFlt_tnd (f : FaultSt → FaultSt) : (s.modFlt f).tnd = s.tnd := rfl
@[simp] theorem modFlt_pwr (f : FaultSt → FaultSt) : (s.modFlt f).pwr = s.pwr := rfl
@[simp] theorem modFlt_memx (f : FaultSt → FaultSt) : (s.modFlt f).memx = s.memx := rfl
@[simp] theorem modFlt_cnt (f : FaultSt → FaultSt) : (s.modFlt f).cnt = s.cnt := rfl
@[simp] theorem modFlt_night (f : FaultSt → FaultSt) : (s.modFlt f).night = s.night := rfl
@[simp] theorem modFlt_link (f : FaultSt → FaultSt) : (s.modFlt f).link = s.link := rfl
@[simp] theorem modFlt_free (f : FaultSt → FaultSt) : (s.modFlt f).free = s.free := rfl

@[simp] theorem modCnt_pending (f : CntSt → CntSt) : (s.modCnt f).pending = s.pending := rfl
@[simp] theorem modCnt_regs (f : CntSt → CntSt) : (s.modCnt f).regs = s.regs := rfl
@[simp] theorem modCnt_held (f : CntSt → CntSt) : (s.modCnt f).held = s.held := rfl
@[simp] theorem modCnt_mem (f : CntSt → CntSt) : (s.modCnt f).mem = s.mem := rfl
@[simp] theorem modCnt_pins (f : CntSt → CntSt) : (s.modCnt f).pins = s.pins := rfl
@[simp] theorem modCnt_time (f : CntSt → CntSt) : (s.modCnt f).time = s.time := rfl
@[simp] theorem modCnt_eng (f : CntSt → CntSt) : (s.modCnt f).eng = s.eng := rfl
@[simp] theorem modCnt_box (f : CntSt → CntSt) : (s.modCnt f).box = s.box := rfl
@[simp] theorem modCnt_hamp (f : CntSt → CntSt) : (s.modCnt f).hamp = s.hamp := rfl
@[simp] theorem modCnt_path (f : CntSt → CntSt) : (s.modCnt f).path = s.path := rfl
@[simp] theorem modCnt_mods (f : CntSt → CntSt) : (s.modCnt f).mods = s.mods := rfl
@[simp] theorem modCnt_disp (f : CntSt → CntSt) : (s.modCnt f).disp = s.disp := rfl
@[simp] theorem modCnt_sig (f : CntSt → CntSt) : (s.modCnt f).sig = s.sig := rfl
@[simp] theorem modCnt_cores (f : CntSt → CntSt) : (s.modCnt f).cores = s.cores := rfl
@[simp] theorem modCnt_ev (f : CntSt → CntSt) : (s.modCnt f).ev = s.ev := rfl
@[simp] theorem modCnt_flt (f : CntSt → CntSt) : (s.modCnt f).flt = s.flt := rfl
@[simp] theorem modCnt_boot (f : CntSt → CntSt) : (s.modCnt f).boot = s.boot := rfl
@[simp] theorem modCnt_sec (f : CntSt → CntSt) : (s.modCnt f).sec = s.sec := rfl
@[simp] theorem modCnt_mbx (f : CntSt → CntSt) : (s.modCnt f).mbx = s.mbx := rfl
@[simp] theorem modCnt_tdm (f : CntSt → CntSt) : (s.modCnt f).tdm = s.tdm := rfl
@[simp] theorem modCnt_net (f : CntSt → CntSt) : (s.modCnt f).net = s.net := rfl
@[simp] theorem modCnt_ref (f : CntSt → CntSt) : (s.modCnt f).ref = s.ref := rfl
@[simp] theorem modCnt_supv (f : CntSt → CntSt) : (s.modCnt f).supv = s.supv := rfl
@[simp] theorem modCnt_tnd (f : CntSt → CntSt) : (s.modCnt f).tnd = s.tnd := rfl
@[simp] theorem modCnt_pwr (f : CntSt → CntSt) : (s.modCnt f).pwr = s.pwr := rfl
@[simp] theorem modCnt_memx (f : CntSt → CntSt) : (s.modCnt f).memx = s.memx := rfl
@[simp] theorem modCnt_cnt (f : CntSt → CntSt) : (s.modCnt f).cnt = f s.cnt := rfl
@[simp] theorem modCnt_night (f : CntSt → CntSt) : (s.modCnt f).night = s.night := rfl
@[simp] theorem modCnt_link (f : CntSt → CntSt) : (s.modCnt f).link = s.link := rfl
@[simp] theorem modCnt_free (f : CntSt → CntSt) : (s.modCnt f).free = s.free := rfl

end Sys2Proof.Laws
end

