-- ==== Sys2Proof/Laws/Silwen.lean ====
section
/-! SUPPORT. Events and Silwen commands: which registers an event leaves alone, what the firmware does with a
command it takes, and what it answers. -/

namespace Sys2Proof.Laws
open Sys2Proof.Machine

/-! ### Events (R421, R422) -/

/-- A register that neither an event nor a mailbox message writes. -/
def quiet (a : Nat) : Prop := a < 0x40020400 ∨ (0x40020420 ≤ a ∧ a < 0x40030000) ∨ 0x40040000 ≤ a

theorem reg_setBit_other (s : State) {a b i : Nat} {v : Bool} (h : a ≠ b) : (s.setBit a i v).reg b = s.reg b :=
  reg_put_other s _ _ h

theorem reg_evToDisp (s : State) (e a : Nat) : (s.evToDisp e).reg a = s.reg a := by
  have each (l : List Nat) (f : Nat → State → State) (hf : ∀ n t, (f n t).reg a = t.reg a) : (s.each l f).reg a = s.reg a := by
    unfold State.each
    induction l generalizing s with
    | nil => rfl
    | cons n l ih => rw [List.foldl_cons, ih]; exact hf n s
  unfold State.evToDisp
  split
  · rfl
  · refine each _ _ fun n t => ?_
    dsimp only
    split <;> rfl

theorem reg_evToHost (s : State) {e a : Nat} (h : R.MBX_EVPEND (e / 32) ≠ a) : (s.evToHost e).reg a = s.reg a := by
  unfold State.evToHost
  split
  · rw [reg_setBit_other _ h]
    unfold State.when
    split <;> rfl
  · rfl

/-- An event leaves every register alone but its pending bits. -/
theorem reg_raise (s : State) {e a : Nat} (he : e < 256) (ha : quiet a) : (s.raise e).reg a = s.reg a := by
  have h1 : R.EVT_PEND (e / 32) ≠ a := by unfold quiet at ha; unfold R.EVT_PEND; omega
  have h2 : R.MBX_EVPEND (e / 32) ≠ a := by unfold quiet at ha; unfold R.MBX_EVPEND; omega
  unfold State.raise State.when
  dsimp only
  split
  · rw [reg_evToDisp, reg_evToHost _ h2, reg_setBit_other _ h1]
  · rw [reg_evToHost _ h2, reg_setBit_other _ h1]

theorem reg_level (s : State) {e a : Nat} {b : Bool} (he : e < 256) (ha : quiet a) :
    (s.level e b).reg a = s.reg a := by
  have h1 : R.EVT_PEND (e / 32) ≠ a := by unfold quiet at ha; unfold R.EVT_PEND; omega
  have h2 : R.MBX_EVPEND (e / 32) ≠ a := by unfold quiet at ha; unfold R.MBX_EVPEND; omega
  unfold State.level
  split
  · split
    · rfl
    · exact reg_raise s he ha
  · rw [reg_setBit_other _ h2, reg_setBit_other _ h1]

/-- A channel that changes its state leaves every other register alone but the event's. -/
theorem reg_setChan (s : State) {n st a : Nat} (hn : n < 32) (ha : quiet a) : (s.setChan n st).reg a = s.reg a := by
  have h1 : R.MBX_STAT n ≠ a := by unfold quiet at ha; unfold R.MBX_STAT; omega
  unfold State.setChan State.chanEvent
  rw [reg_level _ (by omega) ha, reg_put_other _ _ _ h1]

/-! ### Commands (R107, R113, R114) -/

theorem cmdChan_lt {sd : Sender} {n : Nat} (h : cmdChan sd = some n) : n < 32 := by
  unfold cmdChan at h
  split at h
  · unfold hostChans at h
    repeat' split at h
    all_goals simp at h
    all_goals omega
  · cases h

/-- An acknowledgement leaves every register alone but the mailbox's and the events'. -/
theorem reg_ackCmd (c : Cmd) (code value : Nat) (s : State) {a : Nat} (ha : quiet a) :
    (ackCmd c code value s).reg a = s.reg a := by
  unfold ackCmd
  dsimp only
  split
  · rename_i n hn
    have h := cmdChan_lt hn
    have h1 : R.MBX_ACK n ≠ a := by unfold quiet at ha; unfold R.MBX_ACK; omega
    split
    · rw [reg_setChan _ h ha, reg_setReg_other _ _ h1]
      rfl
    · rfl
  · rfl

/-- The state in which a command that is taken is executed: its tag outstanding, its message acknowledged. -/
def accepted (c : Cmd) (code : Nat) (s : State) : State :=
  let s := s.modBox (Sender.key c.sender) fun b => { b with tags := kset b.tags c.tag.toNat code }
  ackCmd c rcDone (256 - (s.outbox (Sender.key c.sender)).tags.length) s

theorem reg_accepted (c : Cmd) (code : Nat) (s : State) {a : Nat} (ha : quiet a) :
    (accepted c code s).reg a = s.reg a := by
  unfold accepted
  dsimp only
  rw [reg_ackCmd _ _ _ _ ha]
  rfl

theorem get_accepted (c : Cmd) (code : Nat) (s : State) (f : FieldRef) (ha : quiet f.addr) :
    (accepted c code s).get f = s.get f := by
  rw [State.get, State.get, reg_accepted c code s ha]

/-- Acceptance writes only the outbox, registers, and what an event reaches. -/
theorem accepted_agree (c : Cmd) (code : Nat) (s : State) :
    Agree (fun p => p == .regs || p == .box || p == .disp || p == .ev) s (accepted c code s) := by
  unfold accepted
  dsimp only
  apply ackCmd_agree _ _ _ _ (modBox_agree _ _ _ Agree.refl rfl) <;> rfl

theorem accepted_standby (c : Cmd) (code : Nat) (s : State) : (accepted c code s).standby = s.standby := by
  unfold State.standby State.on
  rw [get_accepted _ _ _ _ (by unfold quiet; decide), get_accepted _ _ _ _ (by unfold quiet; decide)]

theorem accepted_sleeping (c : Cmd) (code : Nat) (s : State) : (accepted c code s).sleeping = s.sleeping := by
  have h : (accepted c code s).pwr = s.pwr := (accepted_agree c code s).same .pwr rfl
  unfold State.sleeping
  rw [h]

/-- What happens after a command's body: what it did is sent to the standby, its reply is held, and a tag that stays
is sent too. -/
def answered (c : Cmd) (code : Nat) (before : State) (r : State × Rep) : State :=
  let t := answerCmd c code [] before r
  t.when (kget (t.outbox (Sender.key c.sender)).tags c.tag.toNat = some code) fun t => t.sendTags c.sender

/-- A command that is taken is executed on the accepted state, and answered. -/
theorem silwen_takes {s : State} {c : Cmd} {code minL : Nat} {x : Bool} (body : Cmd → State → State × Rep)
    (h : s.takes c code minL x = true) :
    silwen code minL x body c s = answered c code (accepted c code s) (body c (accepted c code s)) := by
  simp only [State.takes, Bool.and_eq_true, beq_iff_eq, Bool.not_eq_true', decide_eq_true_eq] at h
  obtain ⟨⟨⟨⟨⟨h1, h2⟩, h3⟩, h4⟩, h5⟩, h6⟩ := h
  have hr : runCmd code minL body c (accepted c code s)
      = answerCmd c code [] (accepted c code s) (body c (accepted c code s)) := by
    unfold runCmd
    rw [if_neg (by omega), accepted_standby, accepted_sleeping, h5, h6]
    simp
  unfold silwen
  rw [if_neg (by simp [h1, h2])]
  dsimp only
  rw [if_neg (by simp [h3])]
  unfold answered
  rw [← hr]
  rfl

/-- Answering writes only the outbox and what goes to the standby. -/
theorem answered_agree (c : Cmd) (code : Nat) (before : State) (r : State × Rep) :
    Agree (fun p => p == .box || p == .link) r.1 (answered c code before r) := by
  have h : Agree (fun p => p == .box || p == .link) r.1 (answerCmd c code [] before r) := by
    apply answerCmd_agree _ _ _ _ _ Agree.refl <;> rfl
  unfold answered
  dsimp only
  exact agree_when h fun t ht => by apply sendTags_agree _ _ ht; rfl

theorem reg_answered (c : Cmd) (code : Nat) (before : State) (r : State × Rep) (a : Nat) :
    (answered c code before r).reg a = r.1.reg a := by
  unfold State.reg
  rw [(answered_agree c code before r).same .regs rfl]

theorem box_send (s : State) (ms : List LinkMsg) : (s.send ms).box = s.box := by
  unfold State.send
  split <;> rfl

theorem outbox_of_box {s t : State} (h : t.box = s.box) (k : Nat) : t.outbox k = s.outbox k := by
  unfold State.outbox
  rw [h]

/-- While no firmware takes commands, a command does nothing. -/
theorem silwen_idle {s : State} {c : Cmd} {code minL : Nat} {x : Bool} (body : Cmd → State → State × Rep)
    (h : s.boot.phase ≠ .running ∨ s.asleep = true) : silwen code minL x body c s = s := by
  unfold silwen
  rw [if_pos h]

/-- A held reply stands last among its sender's. -/
theorem outbox_modBox (s : State) (k : Nat) (f : Outbox → Outbox) : (s.modBox k f).outbox k = f (s.outbox k) := by
  unfold State.modBox State.outbox
  rw [kgetD_ksetD _ _ _ _ _ _ fun _ => rfl, if_pos rfl]

theorem holdReply_answered (c : Cmd) (code rc value : Nat) (ws : List Word) (s : State) :
    (holdReply c code (.reply rc value ws) s).answered c code rc value ws := by
  unfold holdReply State.answered
  dsimp only
  rw [outbox_modBox]
  simp

/-- The reply of a command that is taken and does not wait for bulk data stands last in the sender's outbox. -/
theorem answered_reply {c : Cmd} {code rc value : Nat} {ws : List Word} (before : State) {r : State × Rep}
    (h : r.2 = .reply rc value ws) : (answered c code before r).answered c code rc value ws := by
  have hb (t : State) (b : Bool) : (t.when b fun t => t.sendTags c.sender).box = t.box := by
    unfold State.when State.sendTags
    split
    · exact box_send _ _
    · rfl
  have ha := holdReply_answered c code rc value ws (r.1.sendEffect c code rc [] before)
  unfold State.answered at ha ⊢
  unfold answered answerCmd
  dsimp only
  rw [outbox_of_box (hb _ _), h]
  exact ha

end Sys2Proof.Laws
end

