-- ==== Sys2Proof/Laws/Admit.lean ====
section
/-! SUPPORT. What the checks of a Hamper's entries and the admission of a configuration read of the state: the
modules, the parameters, and a few registers. They judge a command the same before and after its
acknowledgement. -/

namespace Sys2Proof.Laws
open Sys2Proof.Machine

/-- What an admission reads is the same in two states. -/
structure SameConfig (s t : State) : Prop where
  mods : t.mods = s.mods
  path : t.path = s.path
  round : t.reg R.TIME_ROUND = s.reg R.TIME_ROUND
  power : t.reg R.PWR_STAT = s.reg R.PWR_STAT
  tandem : t.reg R.TND_CTL = s.reg R.TND_CTL
  durs (n : Nat) : t.reg (R.PATCH_TRDUR n) = s.reg (R.PATCH_TRDUR n)
  shapes (n : Nat) : t.reg (R.PATCH_TRCTL n) = s.reg (R.PATCH_TRCTL n)

variable {s t : State}

theorem SameConfig.get {f : FieldRef} (h : t.reg f.addr = s.reg f.addr) : t.get f = s.get f := by
  unfold State.get; rw [h]

theorem rateCode_same (h : SameConfig s t) : t.rateCode = s.rateCode := SameConfig.get h.round
theorem ncode_same (h : SameConfig s t) : t.get F.TIME_ROUND_NCODE = s.get F.TIME_ROUND_NCODE := SameConfig.get h.round
theorem fs_same (h : SameConfig s t) : t.fs = s.fs := by unfold State.fs; rw [rateCode_same h]
theorem rateClass_same (h : SameConfig s t) : t.rateClass = s.rateClass := by unfold State.rateClass; rw [rateCode_same h]
theorem roundLen_same (h : SameConfig s t) : t.roundLen = s.roundLen := by unfold State.roundLen; rw [ncode_same h]
theorem pace_same (h : SameConfig s t) : t.get F.PWR_STAT_STATE = s.get F.PWR_STAT_STATE := SameConfig.get h.power
theorem param_same (h : SameConfig s t) (i f : Nat) : t.param i f = s.param i f := by unfold State.param; rw [h.path]
theorem activeOf_same (h : SameConfig s t) (i f : Nat) (v : Word) : t.activeOf i f v = s.activeOf i f v := by
  unfold State.activeOf State.nyq; simp only [fs_same h, param_same h, rateClass_same h, rateCode_same h]
theorem paramActive_same (h : SameConfig s t) (i f : Nat) : t.paramActive i f = s.paramActive i f := by
  unfold State.paramActive; rw [param_same h, activeOf_same h]
theorem mux_same (h : SameConfig s t) (k : Nat) : t.mux k = s.mux k := by unfold State.mux; rw [h.path]

theorem parts_same (h : SameConfig s t) (b g : Nat) : t.parts b g = s.parts b g := by
  unfold State.parts State.insertsAt State.firsOf State.isPlaced
  simp only [h.mods, h.path, param_same h]

theorem strips_same (h : SameConfig s t) : t.placedStrips = s.placedStrips := by unfold State.placedStrips; rw [h.mods]
theorem buses_same (h : SameConfig s t) : t.placedBuses = s.placedBuses := by unfold State.placedBuses; rw [h.mods]
theorem outs_same (h : SameConfig s t) : t.placedOuts = s.placedOuts := by unfold State.placedOuts; rw [h.mods]

theorem cap_same (h : SameConfig s t) (k : Nat) : t.cap k = s.cap k := by unfold State.cap; rw [rateClass_same h]
theorem extStrips_same (h : SameConfig s t) : t.extStrips = s.extStrips := by
  unfold State.extStrips; rw [strips_same h, cap_same h]
theorem extBuses_same (h : SameConfig s t) : t.extBuses = s.extBuses := by
  unfold State.extBuses; rw [buses_same h, cap_same h]
theorem extOuts_same (h : SameConfig s t) : t.extOuts = s.extOuts := by
  unfold State.extOuts; rw [outs_same h, cap_same h]
theorem inClass_same (h : SameConfig s t) : t.inClass = s.inClass := by
  unfold State.inClass; rw [h.mods, rateClass_same h]

theorem sendBlocks_same (h : SameConfig s t) : t.sendBlocks = s.sendBlocks := by
  unfold State.sendBlocks; rw [extBuses_same h, extStrips_same h]
theorem matBlocks_same (h : SameConfig s t) : t.matBlocks = s.matBlocks := by
  unfold State.matBlocks; rw [extBuses_same h, extOuts_same h, rateClass_same h]

theorem parts_same' (h : SameConfig s t) : t.parts = s.parts := by funext b g; exact parts_same h b g

theorem neighbour_same (h : SameConfig s t) : t.neighbour = s.neighbour := by
  funext b n; unfold State.neighbour; rw [parts_same' h]

theorem nodes_same (h : SameConfig s t) : t.nodes = s.nodes := by
  unfold State.nodes; rw [parts_same' h, sendBlocks_same h, matBlocks_same h, inClass_same h, h.mods]

theorem edges_same (h : SameConfig s t) : t.edges = s.edges := by
  unfold State.edges; rw [parts_same' h, sendBlocks_same h, matBlocks_same h, inClass_same h, h.mods, neighbour_same h]

theorem itemTime_same (h : SameConfig s t) : t.itemTime = s.itemTime := by
  funext r; unfold State.itemTime
  simp only [ncode_same h, roundLen_same h, pace_same h, paramActive_same h, h.mods, extStrips_same h, extBuses_same h,
    extOuts_same h]

theorem soleCore_same (h : SameConfig s t) : t.soleCore = s.soleCore := by
  funext r; unfold State.soleCore; rw [h.mods]

theorem handles_same (h : SameConfig s t) : t.handles = s.handles := by
  unfold State.handles; rw [edges_same h, nodes_same h]

theorem marginFor_same (h : SameConfig s t) (p : Bool) : t.marginFor p = s.marginFor p := by
  unfold State.marginFor State.heldSignals
  rw [inClass_same h, roundLen_same h, pace_same h, extBuses_same h, extOuts_same h]

/-- A configuration is admitted in both states or in neither. -/
theorem admitsAs_same (h : SameConfig s t) (p : Bool) : t.admitsAs p = s.admitsAs p := by
  unfold State.admitsAs State.sumLoad State.loadOf State.sumBudget State.pathEdges
  simp only [nodes_same h, edges_same h, itemTime_same h, marginFor_same h, roundLen_same h, fs_same h, handles_same h,
    soleCore_same h, cap_same h, extStrips_same h, extBuses_same h, extOuts_same h, pace_same h, sendBlocks_same h,
    matBlocks_same h]

theorem admits_same (h : SameConfig s t) : t.admits = s.admits := by
  unfold State.admits State.on
  rw [SameConfig.get (f := F.TND_CTL_EN) h.tandem, admitsAs_same h]

/-- An acknowledgement leaves what an admission reads. -/
theorem accepted_sameConfig (c : Cmd) (code : Nat) (s : State) : SameConfig s (accepted c code s) where
  mods := (accepted_agree c code s).same .mods rfl
  path := (accepted_agree c code s).same .path rfl
  round := reg_accepted c code s (by unfold quiet; decide)
  power := reg_accepted c code s (by unfold quiet; decide)
  tandem := reg_accepted c code s (by unfold quiet; decide)
  durs n := reg_accepted c code s (by unfold quiet R.PATCH_TRDUR; omega)
  shapes n := reg_accepted c code s (by unfold quiet R.PATCH_TRCTL; omega)

/-- A field of a register written in both states. -/
theorem put_sameConfig (h : SameConfig s t) {f : FieldRef} (v : Nat) (hf : t.reg f.addr = s.reg f.addr) :
    SameConfig (s.put f v) (t.put f v) := by
  have hr (a : Nat) (ha : t.reg a = s.reg a) : (t.put f v).reg a = (s.put f v).reg a := by
    unfold State.put
    rw [reg_setReg, reg_setReg, hf, ha]
  exact ⟨h.mods, h.path, hr _ h.round, hr _ h.power, hr _ h.tandem, fun n => hr _ (h.durs n), fun n => hr _ (h.shapes n)⟩

/-- A parameter stored in both states. -/
theorem setParam_sameConfig (h : SameConfig s t) (i f : Nat) (v : Word) :
    SameConfig (s.setParam i f v) (t.setParam i f v) :=
  ⟨h.mods, by unfold State.setParam; rw [h.path], h.round, h.power, h.tandem, h.durs, h.shapes⟩

theorem withFir_sameConfig (es : List Entry) (h : SameConfig s t) : SameConfig (withFir es s) (withFir es t) := by
  unfold withFir State.each
  induction es generalizing s t with
  | nil => exact h
  | cons e es ih =>
    rw [List.foldl_cons, List.foldl_cons]
    apply ih
    dsimp only
    split
    · rw [rateCode_same h]; exact setParam_sameConfig h _ _ _
    · exact h

/-! ### Entries (R64, R224) -/

theorem sealed_same (h : SameConfig s t) (e : Entry) : t.sealed e = s.sealed e := by
  unfold State.sealed State.level7
  simp only [param_same h, mux_same h]

theorem entryCodes_same (h : SameConfig s t) (hx : t.sec = s.sec) (sd : Sender) (l : Level) (e : Entry) :
    t.entryCodes sd l e = s.entryCodes sd l e := by
  unfold State.entryCodes State.expert State.alarmCred
  rw [rateCode_same h, rateClass_same h, sealed_same h, hx]

theorem rampOf_same (h : SameConfig s t) (es : List Entry) (r : Ramp) : t.rampOf es r = s.rampOf es r := by
  have hd (n : Nat) : t.get (F.PATCH_TRDUR_DUR n) = s.get (F.PATCH_TRDUR_DUR n) := SameConfig.get (h.durs n)
  have hs (n : Nat) : t.get (F.PATCH_TRCTL_SHAPE n) = s.get (F.PATCH_TRCTL_SHAPE n) := SameConfig.get (h.shapes n)
  unfold State.rampOf State.samplesOf State.maxRamp
  simp only [fs_same h, hd, hs]

theorem pairs_same (h : SameConfig s t) (es : List Entry) : t.pairs es = s.pairs es := by
  unfold State.pairs State.starters State.takesTrail State.minRamp State.samplesOf
  simp only [rampOf_same h, fs_same h, rateCode_same h]

theorem hamperCodes_same (h : SameConfig s t) (hx : t.sec = s.sec) (sd : Sender) (l : Level) (es : List Entry) :
    t.hamperCodes sd l es = s.hamperCodes sd l es := by
  have he : t.entryCodes sd l = s.entryCodes sd l := by funext e; exact entryCodes_same h hx sd l e
  unfold State.hamperCodes
  rw [he]
  simp only [pairs_same h]

theorem firCodes_same (h : SameConfig s t) (es : List Entry) : t.firCodes es = s.firCodes es := by
  unfold State.firCodes
  simp only [param_same h, rateCode_same h, admits_same (withFir_sameConfig es h)]

theorem hamperCount_same (hh : t.hamp = s.hamp) : t.hamperCount = s.hamperCount := by unfold State.hamperCount; rw [hh]
theorem hidInUse_same (hh : t.hamp = s.hamp) (n : Nat) : t.hidInUse n = s.hidInUse n := by unfold State.hidInUse; rw [hh]

end Sys2Proof.Laws
end

