-- ==== Sys2Proof/Laws/FramesPlan.lean ====
section
/-! SUPPORT. Which parts of the state each operation of Machine/Plan.lean may write. -/

namespace Sys2Proof.Laws
open Sys2Proof.Machine

variable {W : Part → Bool} {r₀ : State}

theorem replan_agree (s : State)
    (hs : Agree W r₀ s) (h0 : W .hamp) :
    Agree W r₀ (State.replan s) := by
  unfold State.replan
  dsimp only
  repeat' with_reducible first
    | assumption | (apply agree_set_hamp <;> assumption) | apply agree_ite | apply agree_foldl
    | apply agree_foldl_fst | (intro) | split | apply agree_set_hamp

theorem submit_agree (s : State) (ms : List Member) (stile : Nat)
    (hs : Agree W r₀ s) (h0 : W .hamp) :
    Agree W r₀ (State.submit s ms stile).1 := by
  unfold State.submit
  dsimp only
  repeat' with_reducible first
    | assumption | apply replan_agree | (apply agree_set_hamp <;> assumption) | apply agree_foldl
    | apply agree_foldl_fst | (intro) | apply agree_set_hamp

theorem asHamper_agree (s : State) (c : Cmd) (code : Nat) (es : List Entry) (stile : Nat) (handle : optParam Nat 0) (extra : optParam (List Word) []) (codes : optParam (List Nat) [])
    (hs : Agree W r₀ s) (h0 : W .regs) (h1 : W .hamp) (h2 : W .disp) (h3 : W .ev) :
    Agree W r₀ (State.asHamper s c code es stile handle extra codes).1 := by
  unfold State.asHamper
  dsimp only
  repeat' with_reducible first
    | assumption | apply submit_agree | apply raise_agree | (apply agree_set_hamp <;> assumption)
    | apply agree_ite_fst | apply agree_ite | apply agree_when | (intro) | split | apply agree_set_hamp

theorem takeMember_agree (s : State) (m : Member)
    (hs : Agree W r₀ s) (h0 : W .hamp) :
    Agree W r₀ (State.takeMember s m).1 := by
  unfold State.takeMember
  dsimp only
  repeat' with_reducible first
    | assumption | apply submit_agree | (apply agree_set_hamp <;> assumption) | apply agree_ite_fst
    | apply agree_ite | (intro) | split | apply agree_set_hamp

theorem memberFinal_agree (s : State) (m : Member) (code : Nat) (late : Bool) (p held discarded : Nat)
    (hs : Agree W r₀ s) (h0 : W .box) (h1 : W .link) :
    Agree W r₀ (State.memberFinal s m code late p held discarded) := by
  unfold State.memberFinal
  repeat' with_reducible first
    | assumption | apply final_agree | apply complete_agree | apply agree_ite | (intro) | split

theorem dropMembers_agree (code : Nat) (ms : List Member) (p : Nat) (s : State)
    (hs : Agree W r₀ s) (h0 : W .box) (h1 : W .link) :
    Agree W r₀ (dropMembers code ms p s) := by
  unfold dropMembers
  repeat' with_reducible first | assumption | apply memberFinal_agree | apply agree_each | (intro)

end Sys2Proof.Laws
end

