-- ==== Sys2Proof/Laws/FramesSumming.lean ====
section
/-! SUPPORT. Which parts of the state each operation of Machine/Summing.lean may write. -/

namespace Sys2Proof.Laws
open Sys2Proof.Machine

variable {W : Part → Bool} {r₀ : State}

theorem setCoef_agree (s : State) (isMatrix setB : Bool) (xp : Nat) (c : Int)
    (hs : Agree W r₀ s) (h0 : W .regs) (h1 : W .mem) (h2 : W .memx) :
    Agree W r₀ (State.setCoef s isMatrix setB xp c) := by
  unfold State.setCoef
  dsimp only
  repeat' with_reducible first | assumption | apply setMemWord_agree

theorem stageHold_agree (isMatrix : Bool) (s : State)
    (hs : Agree W r₀ s) (h0 : W .sig) :
    Agree W r₀ (stageHold isMatrix s) := by
  unfold stageHold
  dsimp only
  repeat' with_reducible first
    | assumption | (apply agree_set_sig <;> assumption) | apply agree_each | (intro) | apply agree_set_sig

theorem stageColumn_agree (isMatrix : Bool) (col : Nat) (s : State)
    (hs : Agree W r₀ s) (h0 : W .regs) (h1 : W .sig) :
    Agree W r₀ (stageColumn isMatrix col s) := by
  unfold stageColumn
  dsimp only
  repeat' with_reducible first
    | assumption | apply put_agree | (apply agree_set_sig <;> assumption) | apply agree_ite | apply agree_when
    | (intro) | split | apply agree_set_sig

theorem stageOutputs_agree (isMatrix : Bool) (s : State)
    (hs : Agree W r₀ s) (h0 : W .regs) (h1 : W .sig) :
    Agree W r₀ (stageOutputs isMatrix s) := by
  unfold stageOutputs
  repeat' with_reducible first | assumption | apply stageColumn_agree | apply agree_each | (intro)

theorem blockColumn_agree (isMatrix : Bool) (q col : Nat) (s : State)
    (hs : Agree W r₀ s) (h0 : W .sig) :
    Agree W r₀ (blockColumn isMatrix q col s) := by
  unfold blockColumn
  dsimp only
  repeat' with_reducible first | assumption | (apply agree_set_sig <;> assumption) | apply agree_set_sig

theorem stageBlock_agree (isMatrix : Bool) (q : Nat) (s : State)
    (hs : Agree W r₀ s) (h0 : W .sig) :
    Agree W r₀ (stageBlock isMatrix q s) := by
  unfold stageBlock
  repeat' with_reducible first | assumption | apply blockColumn_agree | apply agree_each | (intro)

end Sys2Proof.Laws
end

