-- ==== Sys2Proof/Laws/FramesModules.lean ====
section
/-! SUPPORT. Which parts of the state each operation of Machine/Modules.lean may write. -/

namespace Sys2Proof.Laws
open Sys2Proof.Machine

variable {W : Part → Bool} {r₀ : State}

theorem setDsp_agree (s : State) (inst : Nat) (rs : List ParRun) (d : Dsp)
    (hs : Agree W r₀ s) (h0 : W .path) (h1 : W .mods) :
    Agree W r₀ (State.setDsp s inst rs d) := by
  unfold State.setDsp
  dsimp only
  repeat' with_reducible first
    | assumption | (apply agree_set_path_mods <;> assumption) | apply agree_ite | apply agree_foldl
    | apply agree_foldl_fst | (intro) | split | apply agree_set_path_mods

theorem runInst_agree (s : State) (inst : Nat) (sync : Nat → Dsp → Dsp) (go : Nat → List (Nat × Word) → Dsp → Dsp × List Int)
    (hs : Agree W r₀ s) (h0 : W .path) (h1 : W .mods) :
    Agree W r₀ (State.runInst s inst sync go).1 := by
  unfold State.runInst
  dsimp only
  repeat' with_reducible first
    | assumption | apply setDsp_agree | apply agree_foldl | apply agree_foldl_fst | (intro)

theorem genRound_agree (s : State) (g : Nat)
    (hs : Agree W r₀ s) (h0 : W .path) (h1 : W .mods) :
    Agree W r₀ (State.genRound s g).1 := by
  unfold State.genRound
  dsimp only
  repeat' with_reducible first | assumption | apply runInst_agree

theorem ancStep_agree (o : Nat) (peak : Int) (s : State)
    (hs : Agree W r₀ s) (h0 : W .regs) (h1 : W .box) (h2 : W .mods) (h3 : W .disp) (h4 : W .ev) (h5 : W .flt) :
    Agree W r₀ (ancStep o peak s) := by
  unfold ancStep
  dsimp only
  repeat' with_reducible first
    | assumption | apply notice_agree | (apply agree_set_mods <;> assumption) | apply agree_ite | apply agree_foldl
    | apply agree_foldl_fst | (intro) | split | apply agree_set_mods

theorem outRound_agree (s : State) (o : Nat) (ks : List Nat) (ins : List Int)
    (hs : Agree W r₀ s) (h0 : W .regs) (h1 : W .box) (h2 : W .path) (h3 : W .mods) (h4 : W .disp) (h5 : W .ev)
    (h6 : W .flt) :
    Agree W r₀ (State.outRound s o ks ins).1 := by
  unfold State.outRound
  dsimp only
  repeat' with_reducible first
    | assumption | apply runInst_agree | apply ancStep_agree | (apply agree_set_mods <;> assumption)
    | apply agree_ite_fst | apply agree_ite | (intro) | split | apply agree_set_mods

theorem stripRound_agree (s : State) (j : Nat) (ks : List Nat) (ins : List Int)
    (hs : Agree W r₀ s) (h0 : W .path) (h1 : W .mods) :
    Agree W r₀ (State.stripRound s j ks ins).1 := by
  unfold State.stripRound
  dsimp only
  repeat' with_reducible first | assumption | apply runInst_agree

theorem busRound_agree (s : State) (b : Nat) (ks : List Nat) (ins : List Int)
    (hs : Agree W r₀ s) (h0 : W .path) (h1 : W .mods) :
    Agree W r₀ (State.busRound s b ks ins).1 := by
  unfold State.busRound
  dsimp only
  repeat' with_reducible first | assumption | apply runInst_agree

end Sys2Proof.Laws
end

