-- ==== Sys2Proof/Laws/FramesDisp.lean ====
section
/-! SUPPORT. Which parts of the state each operation of Machine/Disp.lean may write. -/

namespace Sys2Proof.Laws
open Sys2Proof.Machine

variable {W : Part → Bool} {r₀ : State}

theorem modDisp_agree (s : State) (f : DispSt → DispSt)
    (hs : Agree W r₀ s) (h0 : W .disp) :
    Agree W r₀ (State.modDisp s f) := by
  unfold State.modDisp
  repeat' with_reducible first
    | assumption | (apply agree_set_disp <;> assumption) | (intro) | apply agree_set_disp

theorem dispDisarmOp_agree (a0 : Nat) (s : State)
    (hs : Agree W r₀ s) (h0 : W .disp) :
    Agree W r₀ (dispDisarmOp a0 s) := by
  unfold dispDisarmOp
  repeat' with_reducible first | assumption | apply modDisp_agree

theorem dispArmOp_agree (a0 : Nat) (s : State)
    (hs : Agree W r₀ s) (h0 : W .regs) (h1 : W .disp) :
    Agree W r₀ (dispArmOp a0 s) := by
  unfold dispArmOp
  repeat' with_reducible first
    | assumption | apply put_agree | apply modDisp_agree | apply agree_ite | (intro) | split

theorem imemFlush_agree (k : Nat) (s : State)
    (hs : Agree W r₀ s) (h0 : W .regs) (h1 : W .mem) (h2 : W .memx) :
    Agree W r₀ (imemFlush k s) := by
  unfold imemFlush
  dsimp only
  repeat' with_reducible first
    | assumption | apply setBytes_agree | (apply agree_set_memx <;> assumption) | apply agree_each | (intro)
    | apply agree_set_memx

theorem setCore_agree (s : State) (k : Nat) (c : CoreSt)
    (hs : Agree W r₀ s) (h0 : W .cores) :
    Agree W r₀ (State.setCore s k c) := by
  unfold State.setCore
  repeat' with_reducible first | assumption | (apply agree_set_cores <;> assumption) | apply agree_set_cores

theorem setItem_agree (s : State) (a1 : Nat) (st : ItemState)
    (hs : Agree W r₀ s) (h0 : W .disp) :
    Agree W r₀ (State.setItem s a1 st) := by
  unfold State.setItem
  repeat' with_reducible first | assumption | apply modDisp_agree

theorem holdFill_agree (taps : List Nat) (s : State)
    (hs : Agree W r₀ s) (h0 : W .sig) :
    Agree W r₀ (holdFill taps s) := by
  unfold holdFill
  dsimp only
  repeat' with_reducible first
    | assumption | (apply agree_set_sig <;> assumption) | apply agree_each | (intro) | apply agree_set_sig

theorem blockPassed_agree (it : Item) (s : State)
    (hs : Agree W r₀ s) (h0 : W .disp) :
    Agree W r₀ (blockPassed it s) := by
  unfold blockPassed
  dsimp only
  repeat' with_reducible first | assumption | apply modDisp_agree | apply agree_ite | (intro) | split

theorem freeCore_agree (k : Nat) (s : State)
    (hs : Agree W r₀ s) (h0 : W .regs) (h1 : W .mem) (h2 : W .cores) (h3 : W .memx) :
    Agree W r₀ (freeCore k s) := by
  unfold freeCore
  dsimp only
  repeat' with_reducible first
    | assumption | apply setBit_agree | apply imemFlush_agree | (apply agree_set_cores <;> assumption)
    | apply agree_set_cores

theorem passItems_agree (a0 : Nat) (a1 : List (Nat × Bool × Bool)) (a2 : State)
    (ha2 : Agree W r₀ a2) (h0 : W .regs) (h1 : W .mem) (h2 : W .disp) (h3 : W .sig) (h4 : W .cores)
    (h5 : W .memx) :
    Agree W r₀ (passItems a0 a1 a2) := by
  induction a0 generalizing a1 a2 with
  | zero => exact ha2
  | succ n ih =>
    match a1 with
    | [] => exact ha2
    | (h, miss, dl) :: rest =>
      unfold passItems
      dsimp only
      repeat' with_reducible first
        | assumption | apply ih | apply blockPassed_agree | apply freeCore_agree | apply holdFill_agree
        | apply stageHold_agree
        | apply modDisp_agree | apply setItem_agree | apply agree_ite | apply agree_when | apply agree_each
        | (intro) | split

theorem passItem_agree (a0 : Nat) (miss dl : Bool) (s : State)
    (hs : Agree W r₀ s) (h0 : W .regs) (h1 : W .mem) (h2 : W .disp) (h3 : W .sig) (h4 : W .cores) (h5 : W .memx) :
    Agree W r₀ (passItem a0 miss dl s) := by
  unfold passItem
  repeat' with_reducible first | assumption | apply passItems_agree

theorem coreItemMissed_agree (k : Nat) (s : State)
    (hs : Agree W r₀ s) (h0 : W .regs) (h1 : W .mem) (h2 : W .disp) (h3 : W .sig) (h4 : W .cores) (h5 : W .memx) :
    Agree W r₀ (coreItemMissed k s) := by
  unfold coreItemMissed
  dsimp only
  repeat' with_reducible first
    | assumption | apply setBit_agree | apply imemFlush_agree | apply setCore_agree | apply passItem_agree
    | apply agree_ite | apply agree_when | (intro) | split

theorem setTap_agree (s : State) (t : Nat) (v : List Sample)
    (hs : Agree W r₀ s) (h0 : W .sig) :
    Agree W r₀ (State.setTap s t v) := by
  unfold State.setTap
  dsimp only
  repeat' with_reducible first | assumption | (apply agree_set_sig <;> assumption) | apply agree_set_sig

theorem stripTaps_agree (inst : Nat) (v : List Int) (s : State)
    (hs : Agree W r₀ s) (h0 : W .sig) :
    Agree W r₀ (stripTaps inst v s) := by
  unfold stripTaps
  dsimp only
  repeat' with_reducible first | assumption | apply setTap_agree | apply agree_ite | (intro) | split

theorem sectionRound_agree (s : State) (inst : Nat) (ks : List Nat) (ins : List Int)
    (hs : Agree W r₀ s) (h0 : W .regs) (h1 : W .box) (h2 : W .path) (h3 : W .mods) (h4 : W .disp) (h5 : W .ev)
    (h6 : W .flt) :
    Agree W r₀ (State.sectionRound s inst ks ins).1 := by
  unfold State.sectionRound
  repeat' with_reducible first
    | assumption | apply outRound_agree | apply stripRound_agree | apply busRound_agree | apply agree_ite_fst
    | apply agree_ite | (intro) | split

theorem stripPart_agree (base g p : Nat) (last : Bool) (l : Nat) (s : State)
    (hs : Agree W r₀ s) (h0 : W .regs) (h1 : W .box) (h2 : W .path) (h3 : W .mods) (h4 : W .disp) (h5 : W .sig)
    (h6 : W .ev) (h7 : W .flt) :
    Agree W r₀ (stripPart base g p last l s) := by
  unfold stripPart
  dsimp only
  repeat' with_reducible first
    | assumption | apply stripTaps_agree | apply sectionRound_agree | (apply agree_set_mods <;> assumption)
    | apply agree_ite | (intro) | split | apply agree_set_mods

theorem groupPart_agree (base g p : Nat) (last : Bool) (s : State)
    (hs : Agree W r₀ s) (h0 : W .regs) (h1 : W .mem) (h2 : W .box) (h3 : W .path) (h4 : W .mods) (h5 : W .disp)
    (h6 : W .sig) (h7 : W .ev) (h8 : W .flt) (h9 : W .memx) :
    Agree W r₀ (groupPart base g p last s) := by
  unfold groupPart
  dsimp only
  repeat' with_reducible first
    | assumption | apply setBytes_agree | apply stripPart_agree | apply agree_ite | apply agree_each | (intro)
    | split

theorem itemOutputs_agree (r : Role) (s : State)
    (hs : Agree W r₀ s) (h0 : W .regs) (h1 : W .mem) (h2 : W .box) (h3 : W .path) (h4 : W .mods) (h5 : W .disp)
    (h6 : W .sig) (h7 : W .ev) (h8 : W .flt) (h9 : W .memx) (h10 : W .free) :
    Agree W r₀ (itemOutputs r s) := by
  unfold itemOutputs
  dsimp only
  repeat' with_reducible first
    | assumption | apply fresh_agree | apply genRound_agree | apply setTap_agree | apply groupPart_agree
    | apply agree_ite | apply agree_each | (intro) | split

theorem itemDone_agree (a0 : Nat) (s : State)
    (hs : Agree W r₀ s) (h0 : W .regs) (h1 : W .mem) (h2 : W .box) (h3 : W .path) (h4 : W .mods) (h5 : W .disp)
    (h6 : W .sig) (h7 : W .cores) (h8 : W .ev) (h9 : W .flt) (h10 : W .memx) (h11 : W .free) :
    Agree W r₀ (itemDone a0 s) := by
  unfold itemDone
  repeat' with_reducible first | assumption | apply itemOutputs_agree | apply passItem_agree

theorem buildTemplate_agree (s : State)
    (hs : Agree W r₀ s) (h0 : W .regs) (h1 : W .disp) (h2 : W .free) :
    Agree W r₀ (buildTemplate s) := by
  unfold buildTemplate
  dsimp only
  repeat' with_reducible first
    | assumption | apply agree_putFree | apply agree_setReg | apply put_agree | apply modDisp_agree
    | (apply agree_setFree <;> assumption) | apply agree_ite | apply agree_each | apply agree_foldl
    | apply agree_foldl_fst | (intro) | split | apply agree_setFree
  all_goals exact Nat.le_add_right _ _

theorem releaseItem_agree (a0 : Nat) (once : Bool) (s : State)
    (hs : Agree W r₀ s) (h0 : W .disp) :
    Agree W r₀ (releaseItem a0 once s) := by
  unfold releaseItem
  dsimp only
  repeat' with_reducible first | assumption | apply modDisp_agree | apply agree_ite | (intro) | split

theorem templateRelease_agree (s : State)
    (hs : Agree W r₀ s) (h0 : W .regs) (h1 : W .disp) :
    Agree W r₀ (templateRelease s) := by
  unfold templateRelease
  dsimp only
  repeat' with_reducible first
    | assumption | apply incWrap_agree | apply modDisp_agree | apply releaseItem_agree | apply agree_each | (intro)

theorem barrierCloseOp_agree (s : State)
    (hs : Agree W r₀ s) (h0 : W .regs) (h1 : W .disp) (h2 : W .ev) :
    Agree W r₀ (barrierCloseOp s) := by
  unfold barrierCloseOp
  dsimp only
  repeat' with_reducible first
    | assumption | apply incSat_agree | apply agree_setReg | apply raise_agree | apply put_agree
    | apply modDisp_agree | apply agree_ite | (intro) | split

theorem missItem_agree (a0 : Nat) (dl : Bool) (s : State)
    (hs : Agree W r₀ s) (h0 : W .regs) (h1 : W .mem) (h2 : W .disp) (h3 : W .sig) (h4 : W .cores) (h5 : W .memx) :
    Agree W r₀ (missItem a0 dl s) := by
  unfold missItem
  repeat' with_reducible first | assumption | apply passItem_agree

theorem coreEntry_agree (k a1 : Nat) (it : Item) (s : State)
    (hs : Agree W r₀ s) (h0 : W .regs) (h1 : W .held) (h2 : W .cores) :
    Agree W r₀ (coreEntry k a1 it s) := by
  unfold coreEntry
  dsimp only
  repeat' with_reducible first
    | assumption | apply setBit_agree | apply applyHeld_agree | apply setCore_agree | apply agree_ite
    | apply agree_foldl | apply agree_foldl_fst | (intro) | split

theorem startOnCore_agree (k a1 : Nat) (it : Item) (s : State)
    (hs : Agree W r₀ s) (h0 : W .regs) (h1 : W .held) (h2 : W .disp) (h3 : W .cores) :
    Agree W r₀ (startOnCore k a1 it s) := by
  unfold startOnCore
  dsimp only
  repeat' with_reducible first | assumption | apply coreEntry_agree | apply modDisp_agree

theorem itemStartOp_agree (s : State)
    (hs : Agree W r₀ s) (h0 : W .regs) (h1 : W .held) (h2 : W .disp) (h3 : W .cores) :
    Agree W r₀ (itemStartOp s) := by
  unfold itemStartOp
  repeat' with_reducible first
    | assumption | apply setItem_agree | apply startOnCore_agree | apply agree_ite | (intro) | split

theorem deadlineMiss_agree (s : State)
    (hs : Agree W r₀ s) (h0 : W .regs) (h1 : W .mem) (h2 : W .disp) (h3 : W .sig) (h4 : W .cores) (h5 : W .memx) :
    Agree W r₀ (deadlineMiss s) := by
  unfold deadlineMiss
  dsimp only
  repeat' with_reducible first
    | assumption | apply setCore_agree | apply modDisp_agree | apply missItem_agree | apply agree_each | (intro)

theorem templateSwap_agree (s : State)
    (hs : Agree W r₀ s) (h0 : W .regs) (h1 : W .mods) (h2 : W .disp) :
    Agree W r₀ (templateSwap s) := by
  unfold templateSwap
  dsimp only
  repeat' with_reducible first
    | assumption | apply agree_setReg | apply put_agree | apply modDisp_agree
    | (apply agree_set_mods <;> assumption) | apply agree_ite | apply agree_each | apply agree_foldl
    | apply agree_foldl_fst | (intro) | split | apply agree_set_mods

theorem sumBlockCompleteOp_agree (isMatrix : Bool) (s : State)
    (hs : Agree W r₀ s) (h0 : W .regs) (h1 : W .mem) (h2 : W .disp) (h3 : W .sig) (h4 : W .cores) (h5 : W .memx) :
    Agree W r₀ (sumBlockCompleteOp isMatrix s) := by
  unfold sumBlockCompleteOp
  dsimp only
  repeat' with_reducible first
    | assumption | apply stageOutputs_agree | apply stageBlock_agree | apply passItem_agree | apply agree_ite
    | apply agree_when | (intro) | split

theorem execItemStart_agree {s' : State} (s : State)
    (hs : Agree W r₀ s) (h0 : W .regs) (h1 : W .held) (h2 : W .disp) (h3 : W .cores)
    (he : execItemStart s = .next s') :
    Agree W r₀ s' := by
  cases he
  repeat' with_reducible first | assumption | apply itemStartOp_agree

theorem joinCompleteOp_agree (a0 : Nat) (s : State)
    (hs : Agree W r₀ s) (h0 : W .regs) (h1 : W .mem) (h2 : W .disp) (h3 : W .sig) (h4 : W .cores) (h5 : W .memx) :
    Agree W r₀ (joinCompleteOp a0 s) := by
  unfold joinCompleteOp
  repeat' with_reducible first | assumption | apply passItem_agree | apply agree_ite | (intro) | split

theorem itemCompleteOp_agree (a0 : Nat) (s : State)
    (hs : Agree W r₀ s) (h0 : W .regs) (h1 : W .mem) (h2 : W .box) (h3 : W .path) (h4 : W .mods) (h5 : W .disp)
    (h6 : W .sig) (h7 : W .cores) (h8 : W .ev) (h9 : W .flt) (h10 : W .memx) (h11 : W .free) :
    Agree W r₀ (itemCompleteOp a0 s) := by
  unfold itemCompleteOp
  repeat' with_reducible first | assumption | apply itemDone_agree | apply agree_ite | (intro) | split

theorem execItemComplete_agree {s' : State} (a0 : BitVec 10) (s : State)
    (hs : Agree W r₀ s) (h0 : W .regs) (h1 : W .mem) (h2 : W .box) (h3 : W .path) (h4 : W .mods) (h5 : W .disp)
    (h6 : W .sig) (h7 : W .cores) (h8 : W .ev) (h9 : W .flt) (h10 : W .memx) (h11 : W .free)
    (he : execItemComplete a0 s = .next s') :
    Agree W r₀ s' := by
  cases he
  repeat' with_reducible first | assumption | apply itemCompleteOp_agree

theorem execDispDisarm_agree {s' : State} (a0 : BitVec 10) (s : State)
    (hs : Agree W r₀ s) (h0 : W .disp) (he : execDispDisarm a0 s = .next s') :
    Agree W r₀ s' := by
  cases he
  repeat' with_reducible first | assumption | apply dispDisarmOp_agree

theorem execJoinComplete_agree {s' : State} (a0 : BitVec 10) (s : State)
    (hs : Agree W r₀ s) (h0 : W .regs) (h1 : W .mem) (h2 : W .disp) (h3 : W .sig) (h4 : W .cores) (h5 : W .memx)
    (he : execJoinComplete a0 s = .next s') :
    Agree W r₀ s' := by
  cases he
  repeat' with_reducible first | assumption | apply joinCompleteOp_agree

theorem execDispArm_agree {s' : State} (a0 : BitVec 10) (s : State)
    (hs : Agree W r₀ s) (h0 : W .regs) (h1 : W .disp) (he : execDispArm a0 s = .next s') :
    Agree W r₀ s' := by
  cases he
  repeat' with_reducible first | assumption | apply dispArmOp_agree

theorem execDispEventSlot_agree {s' : State} (e : BitVec 8) (s : State)
    (hs : Agree W r₀ s) (h0 : W .disp) (he : execDispEventSlot e s = .next s') :
    Agree W r₀ s' := by
  cases he
  repeat' with_reducible first | assumption | apply evToDisp_agree | apply agree_ite | (intro) | split

theorem execSumBlockComplete_agree {s' : State} (isMatrix : Bool) (s : State)
    (hs : Agree W r₀ s) (h0 : W .regs) (h1 : W .mem) (h2 : W .disp) (h3 : W .sig) (h4 : W .cores) (h5 : W .memx)
    (he : execSumBlockComplete isMatrix s = .next s') :
    Agree W r₀ s' := by
  cases he
  repeat' with_reducible first | assumption | apply sumBlockCompleteOp_agree

theorem execDispTswap_agree {s' : State} (s : State)
    (hs : Agree W r₀ s) (h0 : W .regs) (he : execDispTswap s = .next s') :
    Agree W r₀ s' := by
  cases he
  repeat' with_reducible first | assumption | apply put_agree

end Sys2Proof.Laws
end

