-- ==== Sys2Proof/Laws/FramesPath.lean ====
section
/-! SUPPORT. Which parts of the state each operation of Machine/Path.lean may write. -/

namespace Sys2Proof.Laws
open Sys2Proof.Machine

variable {W : Part → Bool} {r₀ : State}

theorem modPath_agree (s : State) (f : PathSt → PathSt)
    (hs : Agree W r₀ s) (h0 : W .path) :
    Agree W r₀ (State.modPath s f) := by
  unfold State.modPath
  repeat' with_reducible first
    | assumption | (apply agree_set_path <;> assumption) | (intro) | apply agree_set_path

theorem patchRegs_agree (e : Nat) (r : PatchRun) (s : State)
    (hs : Agree W r₀ s) (h0 : W .regs) :
    Agree W r₀ (patchRegs e r s) := by
  unfold patchRegs
  dsimp only
  repeat' with_reducible first | assumption | apply agree_setReg | apply put_agree

theorem patchTake_agree (e : Nat) (isMatrix : Bool) (xp : Nat) (target : Int) (dur shape : Nat) (tok : Option Tok) (s : State)
    (hs : Agree W r₀ s) (h0 : W .regs) (h1 : W .box) (h2 : W .path) (h3 : W .link) :
    Agree W r₀ (patchTake e isMatrix xp target dur shape tok s) := by
  unfold patchTake
  dsimp only
  repeat' with_reducible first
    | assumption | apply patchRegs_agree | apply complete_agree | apply modPath_agree | apply agree_ite | (intro)
    | split

theorem patchGo_agree (e : Nat) (v : Word) (s : State)
    (hs : Agree W r₀ s) (h0 : W .regs) (h1 : W .box) (h2 : W .path) (h3 : W .link) :
    Agree W r₀ (patchGo e v s) := by
  unfold patchGo
  dsimp only
  repeat' with_reducible first
    | assumption | apply put_agree | apply patchTake_agree | apply agree_ite | (intro) | split

theorem patchCancel_agree (isMatrix : Bool) (named : List Nat) (n : Nat) (s : State)
    (hs : Agree W r₀ s) (h0 : W .regs) (h1 : W .mem) (h2 : W .box) (h3 : W .path) (h4 : W .memx) (h5 : W .link) :
    Agree W r₀ (patchCancel isMatrix named n s) := by
  unfold patchCancel
  dsimp only
  repeat' with_reducible first
    | assumption | apply complete_agree | apply put_agree | apply modPath_agree | apply setCoef_agree
    | apply agree_each | (intro)

theorem transStart_agree (isMatrix : Bool) (named : List Nat) (n dur trail : Nat) (s : State)
    (hs : Agree W r₀ s) (h0 : W .regs) (h1 : W .mem) (h2 : W .box) (h3 : W .path) (h4 : W .memx) (h5 : W .link) :
    Agree W r₀ (transStart isMatrix named n dur trail s) := by
  unfold transStart
  dsimp only
  repeat' with_reducible first
    | assumption | apply patchCancel_agree | apply put_agree | apply modPath_agree | apply agree_ite | (intro)
    | split

theorem selUnhold_agree (j : Nat) (s : State)
    (hs : Agree W r₀ s) (h0 : W .regs) (h1 : W .path) :
    Agree W r₀ (selUnhold j s) := by
  unfold selUnhold
  dsimp only
  repeat' with_reducible first | assumption | apply put_agree | apply setSel_agree

theorem genCommit_agree (g n : Nat) (s : State)
    (hs : Agree W r₀ s) (h0 : W .mods) :
    Agree W r₀ (genCommit g n s) := by
  unfold genCommit
  dsimp only
  repeat' with_reducible first
    | assumption | (apply agree_set_mods <;> assumption) | apply agree_ite | (intro) | split | apply agree_set_mods

theorem patchRequest_agree {isMatrix : Bool} {xp : Nat} {target : Int} {dur shape : Nat} {tok : Tok} {s : State}
    {p : State × Nat} (he : patchRequest isMatrix xp target dur shape tok s = some p) (hs : Agree W r₀ s)
    (h0 : W .regs) (h1 : W .box) (h2 : W .path) (h3 : W .link) : Agree W r₀ p.1 := by
  unfold patchRequest at he
  split at he
  · cases he; exact patchTake_agree _ _ _ _ _ _ _ _ hs h0 h1 h2 h3
  · split at he
    · cases he; exact patchTake_agree _ _ _ _ _ _ _ _ hs h0 h1 h2 h3
    · cases he

theorem mixFadeEndOp_agree (o : Nat) (s : State)
    (hs : Agree W r₀ s) (h0 : W .mods) :
    Agree W r₀ (mixFadeEndOp o s) := by
  unfold mixFadeEndOp
  dsimp only
  repeat' with_reducible first
    | assumption | (apply agree_set_mods <;> assumption) | apply agree_ite | (intro) | split | apply agree_set_mods

theorem execPriorityMixerCrossfadeEnd_agree {s' : State} (o : BitVec 8) (s : State)
    (hs : Agree W r₀ s) (h0 : W .mods) (he : execPriorityMixerCrossfadeEnd o s = .next s') :
    Agree W r₀ s' := by
  cases he
  repeat' with_reducible first | assumption | apply mixFadeEndOp_agree

theorem trailStart_agree (t n dur shape : Nat) (s : State)
    (hs : Agree W r₀ s) (h0 : W .path) :
    Agree W r₀ (trailStart t n dur shape s) := by
  unfold trailStart
  dsimp only
  repeat' with_reducible first | assumption | apply modPath_agree | apply agree_ite | (intro) | split

theorem parStart_agree (inst f : Nat) (v : Word) (n dur shape : Nat) (s : State)
    (hs : Agree W r₀ s) (h0 : W .path) :
    Agree W r₀ (parStart inst f v n dur shape s) := by
  unfold parStart
  dsimp only
  repeat' with_reducible first
    | assumption | apply setParam_agree | apply modPath_agree | apply agree_ite | (intro) | split

theorem selStart_agree (j : Nat) (toBackup : Bool) (n dur : Nat) (first : Nat × Nat) (s : State)
    (hs : Agree W r₀ s) (h0 : W .regs) (h1 : W .path) :
    Agree W r₀ (selStart j toBackup n dur first s) := by
  unfold selStart
  dsimp only
  repeat' with_reducible first
    | assumption | apply put_agree | apply setSel_agree | apply agree_ite | (intro) | split

theorem selMode_agree (j mode n : Nat) (s : State)
    (hs : Agree W r₀ s) (h0 : W .regs) (h1 : W .path) :
    Agree W r₀ (selMode j mode n s) := by
  unfold selMode
  dsimp only
  repeat' with_reducible first
    | assumption | apply selUnhold_agree | apply put_agree | apply selStart_agree | apply agree_ite | (intro)
    | split

theorem selCommit_agree (j : Nat) (v : Word) (n : Nat) (s : State)
    (hs : Agree W r₀ s) (h0 : W .regs) (h1 : W .path) :
    Agree W r₀ (selCommit j v n s).1 := by
  unfold selCommit
  dsimp only
  repeat' with_reducible first
    | assumption | apply selMode_agree | apply put_agree | apply setSel_agree | apply agree_ite_fst
    | apply agree_ite | (intro) | split

theorem moveStart_agree (gain : Bool) (inst f : Nat) (v : Word) (n dur shape : Nat) (s : State)
    (hs : Agree W r₀ s) (h0 : W .path) :
    Agree W r₀ (moveStart gain inst f v n dur shape s) := by
  unfold moveStart
  dsimp only
  repeat' with_reducible first
    | assumption | apply setParam_agree | apply modPath_agree | apply agree_ite | (intro) | split

theorem mixChange_agree (o : Nat) (was : List Nat) (n : Nat) (s : State)
    (hs : Agree W r₀ s) (h0 : W .mods) :
    Agree W r₀ (mixChange o was n s) := by
  unfold mixChange
  dsimp only
  repeat' with_reducible first
    | assumption | (apply agree_set_mods <;> assumption) | apply agree_ite | apply agree_foldl
    | apply agree_foldl_fst | (intro) | split | apply agree_set_mods

theorem playStop_agree (p n : Nat) (s : State)
    (hs : Agree W r₀ s) (h0 : W .mods) :
    Agree W r₀ (playStop p n s) := by
  unfold playStop
  dsimp only
  repeat' with_reducible first | assumption | (apply agree_set_mods <;> assumption) | apply agree_set_mods

theorem playStart_agree (p n : Nat) (tok : Option Tok) (late : Bool) (s : State)
    (hs : Agree W r₀ s) (h0 : W .regs) (h1 : W .box) (h2 : W .mods) (h3 : W .disp) (h4 : W .ev) (h5 : W .flt)
    (h6 : W .link) :
    Agree W r₀ (playStart p n tok late s) := by
  unfold playStart
  dsimp only
  repeat' with_reducible first
    | assumption | apply complete_agree | apply notice_agree | (apply agree_set_mods <;> assumption)
    | apply agree_ite | apply agree_when | (intro) | split | apply agree_set_mods

theorem paramCommit_agree (e : Entry) (dur shape n : Nat) (tok : Option Tok) (late : Bool) (s : State)
    (hs : Agree W r₀ s) (h0 : W .regs) (h1 : W .box) (h2 : W .path) (h3 : W .mods) (h4 : W .disp) (h5 : W .ev)
    (h6 : W .flt) (h7 : W .link) :
    Agree W r₀ (paramCommit e dur shape n tok late s) := by
  unfold paramCommit
  dsimp only
  repeat' with_reducible first
    | assumption | apply parStart_agree | apply genCommit_agree | apply setParam_agree | apply moveStart_agree
    | apply mixChange_agree | apply playStop_agree | apply playStart_agree | (apply agree_set_mods <;> assumption)
    | apply agree_ite | apply agree_when | (intro) | split | apply agree_set_mods

theorem selHeld_agree (j : Nat) (s : State)
    (hs : Agree W r₀ s) (h0 : W .regs) (h1 : W .box) (h2 : W .disp) (h3 : W .ev) (h4 : W .flt) :
    Agree W r₀ (selHeld j s) := by
  unfold selHeld
  repeat' with_reducible first
    | assumption | apply put_agree | apply notice_agree | apply agree_ite | (intro) | split

theorem selReport_agree (j cause : Nat) (s : State)
    (hs : Agree W r₀ s) (h0 : W .regs) (h1 : W .box) (h2 : W .disp) (h3 : W .ev) (h4 : W .flt) :
    Agree W r₀ (selReport j cause s) := by
  unfold selReport
  repeat' with_reducible first | assumption | apply incField_agree | apply put_agree | apply notice_agree

theorem selReverse_agree (j : Nat) (toBackup : Bool) (n : Nat) (f : Fade) (num den : Nat) (s : State)
    (hs : Agree W r₀ s) (h0 : W .regs) (h1 : W .path) :
    Agree W r₀ (selReverse j toBackup n f num den s) := by
  unfold selReverse
  repeat' with_reducible first | assumption | apply selStart_agree

theorem selRestore_agree (j n : Nat) (s : State)
    (hs : Agree W r₀ s) (h0 : W .regs) (h1 : W .box) (h2 : W .path) (h3 : W .disp) (h4 : W .ev) (h5 : W .flt) :
    Agree W r₀ (selRestore j n s) := by
  unfold selRestore
  dsimp only
  repeat' with_reducible first
    | assumption | apply selUnhold_agree | apply selReport_agree | apply put_agree | apply setSel_agree
    | apply selStart_agree | apply agree_ite | (intro) | split

theorem selDecide_agree (j n : Nat) (s : State)
    (hs : Agree W r₀ s) (h0 : W .regs) (h1 : W .box) (h2 : W .path) (h3 : W .disp) (h4 : W .ev) (h5 : W .flt) :
    Agree W r₀ (selDecide j n s) := by
  unfold selDecide
  dsimp only
  repeat' with_reducible first
    | assumption | apply selUnhold_agree | apply selHeld_agree | apply selReport_agree | apply put_agree
    | apply selReverse_agree | apply selStart_agree | apply selRestore_agree | apply agree_ite | (intro) | split

theorem setLost_agree (s : State) (i : Nat) (b : Bool)
    (hs : Agree W r₀ s) (h0 : W .sig) :
    Agree W r₀ (State.setLost s i b) := by
  unfold State.setLost
  dsimp only
  repeat' with_reducible first
    | assumption | (apply agree_set_sig <;> assumption) | apply agree_ite | (intro) | split | apply agree_set_sig

theorem muxChange_agree (sink src n dur shape : Nat) (s : State)
    (hs : Agree W r₀ s) (h0 : W .path) :
    Agree W r₀ (muxChange sink src n dur shape s) := by
  unfold muxChange
  dsimp only
  repeat' with_reducible first | assumption | apply setMux_agree | apply agree_ite | (intro) | split

theorem patchEndOp_agree (e : Nat) (s : State)
    (hs : Agree W r₀ s) (h0 : W .regs) (h1 : W .mem) (h2 : W .box) (h3 : W .path) (h4 : W .memx) (h5 : W .link) :
    Agree W r₀ (patchEndOp e s) := by
  unfold patchEndOp
  dsimp only
  repeat' with_reducible first
    | assumption | apply complete_agree | apply put_agree | apply modPath_agree | apply setCoef_agree
    | apply agree_ite | apply agree_when | (intro) | split

theorem sweepEndOp_agree (g : Nat) (s : State)
    (hs : Agree W r₀ s) (h0 : W .mods) :
    Agree W r₀ (sweepEndOp g s) := by
  unfold sweepEndOp
  dsimp only
  repeat' with_reducible first
    | assumption | (apply agree_set_mods <;> assumption) | apply agree_ite | (intro) | split | apply agree_set_mods

theorem execGeneratorSweepEnd_agree {s' : State} (g : Fin 32) (s : State)
    (hs : Agree W r₀ s) (h0 : W .mods) (he : execGeneratorSweepEnd g s = .next s') :
    Agree W r₀ s' := by
  cases he
  repeat' with_reducible first | assumption | apply sweepEndOp_agree

theorem paramEndOp_agree (inst f : Nat) (s : State)
    (hs : Agree W r₀ s) (h0 : W .regs) (h1 : W .path) (h2 : W .disp) (h3 : W .free) :
    Agree W r₀ (paramEndOp inst f s) := by
  unfold paramEndOp
  dsimp only
  repeat' with_reducible first
    | assumption | apply modPath_agree | apply buildTemplate_agree | apply agree_ite | (intro) | split

theorem selFadeEnd_agree (j : Nat) (s : State)
    (hs : Agree W r₀ s) (h0 : W .regs) (h1 : W .path) :
    Agree W r₀ (selFadeEnd j s) := by
  unfold selFadeEnd
  dsimp only
  repeat' with_reducible first
    | assumption | apply selMode_agree | apply put_agree | apply setSel_agree | apply agree_ite | (intro) | split

theorem trailEndOp_agree (t : Nat) (s : State)
    (hs : Agree W r₀ s) (h0 : W .path) :
    Agree W r₀ (trailEndOp t s) := by
  unfold trailEndOp
  repeat' with_reducible first | assumption | apply modPath_agree | apply agree_ite | (intro) | split

theorem execPatchRampEnd_agree {s' : State} (e : BitVec 12) (s : State)
    (hs : Agree W r₀ s) (h0 : W .regs) (h1 : W .mem) (h2 : W .box) (h3 : W .path) (h4 : W .memx) (h5 : W .link)
    (he : execPatchRampEnd e s = .next s') :
    Agree W r₀ s' := by
  cases he
  repeat' with_reducible first | assumption | apply patchEndOp_agree

theorem selHoldEnd_agree (j : Nat) (s : State)
    (hs : Agree W r₀ s) (h0 : W .regs) (h1 : W .box) (h2 : W .path) (h3 : W .disp) (h4 : W .ev) (h5 : W .flt) :
    Agree W r₀ (selHoldEnd j s) := by
  unfold selHoldEnd
  dsimp only
  repeat' with_reducible first
    | assumption | apply selReport_agree | apply put_agree | apply selStart_agree | apply agree_ite | (intro)
    | split

theorem execSelectorRestoreHoldEnd_agree {s' : State} (j : Fin 1024) (s : State)
    (hs : Agree W r₀ s) (h0 : W .regs) (h1 : W .box) (h2 : W .path) (h3 : W .disp) (h4 : W .ev) (h5 : W .flt)
    (he : execSelectorRestoreHoldEnd j s = .next s') :
    Agree W r₀ s' := by
  cases he
  repeat' with_reducible first | assumption | apply selHoldEnd_agree

theorem execTrailEnd_agree {s' : State} (t : BitVec 8) (s : State)
    (hs : Agree W r₀ s) (h0 : W .path) (he : execTrailEnd t s = .next s') :
    Agree W r₀ s' := by
  cases he
  repeat' with_reducible first | assumption | apply trailEndOp_agree

theorem execPatchRampGo_agree {s' : State} (m : Master) (e : BitVec 12) (v : Word) (s : State)
    (hs : Agree W r₀ s) (h0 : W .regs) (h1 : W .box) (h2 : W .path) (h3 : W .link)
    (he : execPatchRampGo m e v s = .next s') :
    Agree W r₀ s' := by
  cases he
  repeat' with_reducible first | assumption | apply patchGo_agree

theorem refillEndOp_agree (isMatrix : Bool) (s : State)
    (hs : Agree W r₀ s) (h0 : W .mem) (h1 : W .path) :
    Agree W r₀ (refillEndOp isMatrix s) := by
  unfold refillEndOp
  dsimp only
  repeat' with_reducible first
    | assumption | apply modPath_agree | apply copyMem_agree | apply agree_ite | (intro) | split

theorem execStageRefillEnd_agree {s' : State} (isMatrix : Bool) (s : State)
    (hs : Agree W r₀ s) (h0 : W .mem) (h1 : W .path) (he : execStageRefillEnd isMatrix s = .next s') :
    Agree W r₀ s' := by
  cases he
  repeat' with_reducible first | assumption | apply refillEndOp_agree

theorem transEndOp_agree (isMatrix : Bool) (s : State)
    (hs : Agree W r₀ s) (h0 : W .regs) (h1 : W .path) :
    Agree W r₀ (transEndOp isMatrix s) := by
  unfold transEndOp
  dsimp only
  repeat' with_reducible first
    | assumption | apply put_agree | apply modPath_agree | apply agree_ite | (intro) | split

theorem execStageTransitionEnd_agree {s' : State} (isMatrix : Bool) (s : State)
    (hs : Agree W r₀ s) (h0 : W .regs) (h1 : W .path) (he : execStageTransitionEnd isMatrix s = .next s') :
    Agree W r₀ s' := by
  cases he
  repeat' with_reducible first | assumption | apply transEndOp_agree

theorem playOutEnd_agree (p : Nat) (s : State)
    (hs : Agree W r₀ s) (h0 : W .box) (h1 : W .mods) (h2 : W .link) :
    Agree W r₀ (playOutEnd p s) := by
  unfold playOutEnd
  dsimp only
  repeat' with_reducible first
    | assumption | apply complete_agree | (apply agree_set_mods <;> assumption) | apply agree_each | (intro)
    | apply agree_set_mods

theorem muxFadeEnd_agree (sink : Nat) (s : State)
    (hs : Agree W r₀ s) (h0 : W .path) :
    Agree W r₀ (muxFadeEnd sink s) := by
  unfold muxFadeEnd
  dsimp only
  repeat' with_reducible first | assumption | apply setMux_agree | apply agree_ite | (intro) | split

theorem execMuxCrossfadeEnd_agree {s' : State} (sink : BitVec 13) (s : State)
    (hs : Agree W r₀ s) (h0 : W .path) (he : execMuxCrossfadeEnd sink s = .next s') :
    Agree W r₀ s' := by
  cases he
  repeat' with_reducible first | assumption | apply muxFadeEnd_agree

theorem execSelectorFadeEnd_agree {s' : State} (j : Fin 1024) (s : State)
    (hs : Agree W r₀ s) (h0 : W .regs) (h1 : W .path) (he : execSelectorFadeEnd j s = .next s') :
    Agree W r₀ s' := by
  cases he
  repeat' with_reducible first | assumption | apply selFadeEnd_agree

theorem execParamInterpEnd_agree {s' : State} (inst : BitVec 12) (field : BitVec 16) (s : State)
    (hs : Agree W r₀ s) (h0 : W .regs) (h1 : W .path) (h2 : W .disp) (h3 : W .free)
    (he : execParamInterpEnd inst field s = .next s') :
    Agree W r₀ s' := by
  cases he
  repeat' with_reducible first | assumption | apply paramEndOp_agree

theorem playbackEndOp_agree (p : Nat) (s : State)
    (hs : Agree W r₀ s) (h0 : W .box) (h1 : W .path) (h2 : W .mods) (h3 : W .link) :
    Agree W r₀ (playbackEndOp p s) := by
  unfold playbackEndOp
  dsimp only
  repeat' with_reducible first
    | assumption | apply setParam_agree | apply complete_agree | apply playOutEnd_agree
    | (apply agree_set_mods <;> assumption) | apply agree_ite | (intro) | split | apply agree_set_mods

theorem execPlaybackEnd_agree {s' : State} (p : Fin 64) (s : State)
    (hs : Agree W r₀ s) (h0 : W .box) (h1 : W .path) (h2 : W .mods) (h3 : W .link)
    (he : execPlaybackEnd p s = .next s') :
    Agree W r₀ s' := by
  cases he
  repeat' with_reducible first | assumption | apply playbackEndOp_agree

end Sys2Proof.Laws
end

