-- ==== Sys2Proof/Laws/FramesTime.lean ====
section
/-! SUPPORT. Which parts of the state each operation of Machine/Time.lean may write. -/

namespace Sys2Proof.Laws
open Sys2Proof.Machine

variable {W : Part → Bool} {r₀ : State}

theorem modTime_agree (s : State) (f : TimeSt → TimeSt)
    (hs : Agree W r₀ s) (h0 : W .time) :
    Agree W r₀ (State.modTime s f) := by
  unfold State.modTime
  repeat' with_reducible first
    | assumption | (apply agree_set_time <;> assumption) | (intro) | apply agree_set_time

theorem stepCtlWrite_agree (v : Word) (s : State)
    (hs : Agree W r₀ s) (h0 : W .regs) (h1 : W .time) :
    Agree W r₀ (stepCtlWrite v s) := by
  unfold stepCtlWrite
  dsimp only
  repeat' with_reducible first | assumption | apply put_agree | apply modTime_agree | apply agree_when | (intro)

theorem capSync_agree (s : State)
    (hs : Agree W r₀ s) (h0 : W .regs) (h1 : W .disp) (h2 : W .ev) :
    Agree W r₀ (capSync s) := by
  unfold capSync
  dsimp only
  repeat' with_reducible first | assumption | apply level_agree | apply put_agree

theorem capFlushOp_agree (s : State)
    (hs : Agree W r₀ s) (h0 : W .regs) (h1 : W .time) (h2 : W .disp) (h3 : W .ev) :
    Agree W r₀ (capFlushOp s) := by
  unfold capFlushOp
  repeat' with_reducible first | assumption | apply modTime_agree | apply capSync_agree

theorem capPtpWrite_agree (v : Word) (s : State)
    (hs : Agree W r₀ s) (h0 : W .regs) (h1 : W .time) (h2 : W .disp) (h3 : W .ev) :
    Agree W r₀ (capPtpWrite v s) := by
  unfold capPtpWrite
  dsimp only
  repeat' with_reducible first
    | assumption | apply capFlushOp_agree | apply put_agree | apply capSync_agree | apply agree_when | (intro)

theorem rateWriteOp_agree (v : Word) (s : State)
    (hs : Agree W r₀ s) (h0 : W .regs) :
    Agree W r₀ (rateWriteOp v s) := by
  unfold rateWriteOp
  dsimp only
  repeat' with_reducible first | assumption | apply agree_setReg | apply put_agree | apply agree_when | (intro)

theorem timeRoundWriteOp_agree (v : Word) (s : State)
    (hs : Agree W r₀ s) (h0 : W .regs) :
    Agree W r₀ (timeRoundWriteOp v s) := by
  unfold timeRoundWriteOp
  repeat' with_reducible first | assumption | apply put_agree

theorem modeHold_agree (m : Nat) (s : State)
    (hs : Agree W r₀ s) (h0 : W .regs) (h1 : W .time) :
    Agree W r₀ (modeHold m s) := by
  unfold modeHold
  repeat' with_reducible first | assumption | apply put_agree | apply modTime_agree

theorem timeCtlWrite_agree (v : Word) (s : State)
    (hs : Agree W r₀ s) (h0 : W .regs) (h1 : W .time) :
    Agree W r₀ (timeCtlWrite v s) := by
  unfold timeCtlWrite
  repeat' with_reducible first | assumption | apply put_agree | apply modeHold_agree

theorem timeSnapOp_agree (s : State)
    (hs : Agree W r₀ s) (h0 : W .regs) :
    Agree W r₀ (timeSnapOp s) := by
  unfold timeSnapOp
  dsimp only
  repeat' with_reducible first | assumption | apply agree_setReg

theorem timeRegWrite_agree (off : Nat) (v : Word) (s : State)
    (hs : Agree W r₀ s) (h0 : W .regs) (h1 : W .time) (h2 : W .disp) (h3 : W .ev) :
    Agree W r₀ (timeRegWrite off v s) := by
  unfold timeRegWrite
  repeat' with_reducible first
    | assumption | apply agree_setReg | apply capPtpWrite_agree | apply stepCtlWrite_agree
    | apply rateWriteOp_agree | apply timeRoundWriteOp_agree | apply put_agree | apply timeCtlWrite_agree
    | apply timeSnapOp_agree | apply agree_when | (intro) | split

theorem execTimeStepRequest_agree {s' : State} (v : Word) (s : State)
    (hs : Agree W r₀ s) (h0 : W .regs) (h1 : W .time) (he : execTimeStepRequest v s = .next s') :
    Agree W r₀ s' := by
  cases he
  repeat' with_reducible first | assumption | apply stepCtlWrite_agree

theorem capture_agree (src : Nat) (edge : Bool) (sub : Nat) (s : State)
    (hs : Agree W r₀ s) (h0 : W .regs) (h1 : W .time) (h2 : W .disp) (h3 : W .ev) :
    Agree W r₀ (capture src edge sub s) := by
  unfold capture
  dsimp only
  repeat' with_reducible first
    | assumption | apply incSat_agree | apply raise_agree | apply modTime_agree | apply capSync_agree
    | apply agree_ite | apply agree_when | (intro) | split

theorem gpCapture_agree (pin : Nat) (rising : Bool) (sub : Nat) (s : State)
    (hs : Agree W r₀ s) (h0 : W .regs) (h1 : W .time) (h2 : W .disp) (h3 : W .ev) :
    Agree W r₀ (gpCapture pin rising sub s) := by
  unfold gpCapture
  dsimp only
  repeat' with_reducible first | assumption | apply capture_agree | apply agree_ite | (intro) | split

theorem execGpEdgeCapture_agree {s' : State} (pin : Fin 16) (rising : Bool) (sub : Fin 3) (s : State)
    (hs : Agree W r₀ s) (h0 : W .regs) (h1 : W .time) (h2 : W .disp) (h3 : W .ev)
    (he : execGpEdgeCapture pin rising sub s = .next s') :
    Agree W r₀ s' := by
  cases he
  repeat' with_reducible first | assumption | apply gpCapture_agree

theorem captureReadBody_agree (c : Cmd) (s : State)
    (hs : Agree W r₀ s) (h0 : W .time) :
    Agree W r₀ (captureReadBody c s).1 := by
  unfold captureReadBody
  dsimp only
  repeat' with_reducible first | assumption | apply modTime_agree

theorem getTimeBody_agree (c : Cmd) (s : State)
    (hs : Agree W r₀ s) (h0 : W .regs) :
    Agree W r₀ (getTimeBody c s).1 := by
  unfold getTimeBody
  dsimp only
  repeat' with_reducible first | assumption | apply timeSnapOp_agree

theorem counterTick_agree (n : Nat) (s : State)
    (hs : Agree W r₀ s) (h0 : W .time) :
    Agree W r₀ (counterTick n s) := by
  unfold counterTick
  repeat' with_reducible first | assumption | apply modTime_agree

theorem execTimeCounterTick_agree {s' : State} (n : Nat) (s : State)
    (hs : Agree W r₀ s) (h0 : W .time) (he : execTimeCounterTick n s = .next s') :
    Agree W r₀ s' := by
  cases he
  repeat' with_reducible first | assumption | apply counterTick_agree | apply agree_ite | (intro) | split

theorem plansAfterStep_agree (m : Nat) (s : State)
    (hs : Agree W r₀ s) (h0 : W .hamp) :
    Agree W r₀ (plansAfterStep m s) := by
  unfold plansAfterStep
  dsimp only
  repeat' with_reducible first
    | assumption | apply replan_agree | (apply agree_set_hamp <;> assumption) | apply agree_ite | (intro) | split
    | apply agree_set_hamp

theorem schedulesLate_agree (m k : Nat) (s : State)
    (hs : Agree W r₀ s) (h0 : W .supv) (h1 : W .night) :
    Agree W r₀ (schedulesLate m k s) := by
  unfold schedulesLate
  dsimp only
  repeat' with_reducible first
    | assumption | (apply agree_set_supv_night <;> assumption) | apply agree_ite | (intro) | split
    | apply agree_set_supv_night

theorem stepBy_agree (d : Int) (s : State)
    (hs : Agree W r₀ s) (h0 : W .regs) (h1 : W .time) (h2 : W .eng) (h3 : W .hamp) (h4 : W .disp) (h5 : W .sig)
    (h6 : W .ev) (h7 : W .supv) (h8 : W .night) :
    Agree W r₀ (stepBy d s) := by
  unfold stepBy
  dsimp only
  repeat' with_reducible first
    | assumption | apply plansAfterStep_agree | apply raise_agree | apply put_agree | apply modDisp_agree
    | apply schedulesLate_agree | apply modTime_agree | (apply agree_set_eng_sig <;> assumption) | apply agree_ite
    | (intro) | split | apply agree_set_eng_sig

theorem timeStepApply_agree (s : State)
    (hs : Agree W r₀ s) (h0 : W .regs) (h1 : W .time) (h2 : W .eng) (h3 : W .hamp) (h4 : W .disp) (h5 : W .sig)
    (h6 : W .ev) (h7 : W .supv) (h8 : W .night) :
    Agree W r₀ (timeStepApply s) := by
  unfold timeStepApply
  dsimp only
  repeat' with_reducible first
    | assumption | apply put_agree | apply stepBy_agree | apply modTime_agree | apply agree_ite | (intro) | split

theorem execTimeCapFlush_agree {s' : State} (s : State)
    (hs : Agree W r₀ s) (h0 : W .regs) (h1 : W .time) (h2 : W .disp) (h3 : W .ev)
    (he : execTimeCapFlush s = .next s') :
    Agree W r₀ s' := by
  cases he
  repeat' with_reducible first | assumption | apply capFlushOp_agree

theorem capPop_agree (s : State)
    (hs : Agree W r₀ s) (h0 : W .regs) (h1 : W .time) (h2 : W .disp) (h3 : W .ev) :
    Agree W r₀ (capPop s).1 := by
  unfold capPop
  dsimp only
  repeat' with_reducible first
    | assumption | apply agree_setReg | apply modTime_agree | apply capSync_agree | split

theorem ptpCapture_agree (p : Nat) (tx : Bool) (s : State)
    (hs : Agree W r₀ s) (h0 : W .regs) (h1 : W .time) (h2 : W .disp) (h3 : W .ev) (h4 : W .free) :
    Agree W r₀ (ptpCapture p tx s) := by
  unfold ptpCapture
  repeat' with_reducible first
    | assumption | apply fresh_agree | apply capture_agree | apply agree_ite | (intro) | split

theorem captureConfigureBody_agree (c : Cmd) (s : State)
    (hs : Agree W r₀ s) (h0 : W .regs) (h1 : W .time) (h2 : W .disp) (h3 : W .ev) :
    Agree W r₀ (captureConfigureBody c s).1 := by
  unfold captureConfigureBody
  repeat' with_reducible first | assumption | apply agree_setReg | apply capPtpWrite_agree

theorem setClockModeBody_agree (c : Cmd) (s : State)
    (hs : Agree W r₀ s) (h0 : W .regs) (h1 : W .time) :
    Agree W r₀ (setClockModeBody c s).1 := by
  unfold setClockModeBody
  dsimp only
  repeat' with_reducible first | assumption | apply put_agree | apply modeHold_agree | apply agree_when | (intro)

theorem execTimeModeWrite_agree {s' : State} (v : Word) (s : State)
    (hs : Agree W r₀ s) (h0 : W .regs) (h1 : W .time) (he : execTimeModeWrite v s = .next s') :
    Agree W r₀ s' := by
  cases he
  repeat' with_reducible first | assumption | apply timeCtlWrite_agree

theorem capw0ReadOp_agree (s : State)
    (hs : Agree W r₀ s) (h0 : W .regs) (h1 : W .time) (h2 : W .disp) (h3 : W .ev) :
    Agree W r₀ (capw0ReadOp s) := by
  unfold capw0ReadOp
  dsimp only
  repeat' with_reducible first
    | assumption | apply agree_setReg | apply capPop_agree | apply raise_agree | apply modTime_agree
    | apply agree_ite | apply agree_when | (intro) | split

theorem execTimeRoundWrite_agree {s' : State} (v : Word) (s : State)
    (hs : Agree W r₀ s) (h0 : W .regs) (he : execTimeRoundWrite v s = .next s') :
    Agree W r₀ s' := by
  cases he
  repeat' with_reducible first | assumption | apply timeRoundWriteOp_agree

theorem clockModeApply_agree (s : State)
    (hs : Agree W r₀ s) (h0 : W .regs) (h1 : W .time) :
    Agree W r₀ (clockModeApply s) := by
  unfold clockModeApply
  dsimp only
  repeat' with_reducible first | assumption | apply put_agree | apply modTime_agree | split

theorem execCaptureCfgConfigure_agree {s' : State} (c : Cmd) (s : State)
    (hs : Agree W r₀ s) (h0 : W .regs) (h1 : W .time) (h2 : W .box) (h3 : W .disp) (h4 : W .ev) (h5 : W .link)
    (he : execCaptureCfgConfigure c s = .next s') :
    Agree W r₀ s' := by
  cases he
  repeat' with_reducible first | assumption | apply silwen_agree | apply captureConfigureBody_agree | (intro)

theorem execTimeRateWrite_agree {s' : State} (v : Word) (s : State)
    (hs : Agree W r₀ s) (h0 : W .regs) (he : execTimeRateWrite v s = .next s') :
    Agree W r₀ s' := by
  cases he
  repeat' with_reducible first | assumption | apply rateWriteOp_agree

theorem execGetTime_agree {s' : State} (c : Cmd) (s : State)
    (hs : Agree W r₀ s) (h0 : W .regs) (h1 : W .box) (h2 : W .disp) (h3 : W .ev) (h4 : W .link)
    (he : execGetTime c s = .next s') :
    Agree W r₀ s' := by
  cases he
  repeat' with_reducible first | assumption | apply getTimeBody_agree | apply silwen_agree | (intro)

theorem execSetClockMode_agree {s' : State} (c : Cmd) (s : State)
    (hs : Agree W r₀ s) (h0 : W .regs) (h1 : W .time) (h2 : W .box) (h3 : W .disp) (h4 : W .ev) (h5 : W .link)
    (he : execSetClockMode c s = .next s') :
    Agree W r₀ s' := by
  cases he
  repeat' with_reducible first | assumption | apply silwen_agree | apply setClockModeBody_agree | (intro)

theorem execTimeCapw0Read_agree {s' : State} (s : State)
    (hs : Agree W r₀ s) (h0 : W .regs) (h1 : W .time) (h2 : W .disp) (h3 : W .ev)
    (he : execTimeCapw0Read s = .next s') :
    Agree W r₀ s' := by
  cases he
  repeat' with_reducible first | assumption | apply capw0ReadOp_agree

theorem execTimeSnap_agree {s' : State} (s : State)
    (hs : Agree W r₀ s) (h0 : W .regs) (he : execTimeSnap s = .next s') :
    Agree W r₀ s' := by
  cases he
  repeat' with_reducible first | assumption | apply timeSnapOp_agree

theorem execCaptureCfgRead_agree {s' : State} (c : Cmd) (s : State)
    (hs : Agree W r₀ s) (h0 : W .regs) (h1 : W .time) (h2 : W .box) (h3 : W .disp) (h4 : W .ev) (h5 : W .link)
    (he : execCaptureCfgRead c s = .next s') :
    Agree W r₀ s' := by
  cases he
  repeat' with_reducible first | assumption | apply captureReadBody_agree | apply silwen_agree | (intro)

end Sys2Proof.Laws
end

