-- ==== Sys2Proof/Laws/FramesRoute.lean ====
section
/-! SUPPORT. Which parts of the state each operation of Machine/Route.lean may write. -/

namespace Sys2Proof.Laws
open Sys2Proof.Machine

variable {W : Part → Bool} {r₀ : State}

theorem submitCmd_agree (c : Cmd) (code : Nat) (es : List Entry) (stile : Nat) (handle : optParam Nat 0) (extra : optParam (List Word) []) (s : State)
    (hs : Agree W r₀ s) (h0 : W .regs) (h1 : W .hamp) (h2 : W .disp) (h3 : W .ev) :
    Agree W r₀ (submitCmd c code es stile handle extra s).1 := by
  unfold submitCmd
  repeat' with_reducible first | assumption | apply asHamper_agree

theorem patchBody_agree (c : Cmd) (code : Nat) (isMatrix : Bool) (e : Entry) (s : State)
    (hs : Agree W r₀ s) (h0 : W .regs) (h1 : W .box) (h2 : W .path) (h3 : W .disp) (h4 : W .ev) (h5 : W .link) :
    Agree W r₀ (patchBody c code isMatrix e s).1 := by
  unfold patchBody
  dsimp only
  split
  · exact hs
  · split
    · rename_i he
      exact patchRequest_agree he hs ‹_› ‹_› ‹_› ‹_›
    · exact raise_agree _ _ hs ‹_› ‹_› ‹_›

theorem routeBackupBody_agree (c : Cmd) (s : State)
    (hs : Agree W r₀ s) (h0 : W .regs) (h1 : W .hamp) (h2 : W .disp) (h3 : W .ev) :
    Agree W r₀ (routeBackupBody c s).1 := by
  unfold routeBackupBody
  repeat' with_reducible first | assumption | apply submitCmd_agree

theorem loadModuleRun_agree (img : List Byte) (c : Cmd) (s : State)
    (hs : Agree W r₀ s) (h0 : W .path) (h1 : W .mods) :
    Agree W r₀ (loadModuleRun img c s).1 := by
  unfold loadModuleRun
  dsimp only
  repeat' with_reducible first
    | assumption | (apply agree_set_path_mods <;> assumption) | apply agree_ite_fst | apply agree_ite | (intro)
    | split | apply agree_set_path_mods

theorem loadModuleBody_agree (c : Cmd) (s : State)
    (hs : Agree W r₀ s) (h0 : W .path) (h1 : W .mods) :
    Agree W r₀ (loadModuleBody c s).1 := by
  unfold loadModuleBody
  dsimp only
  repeat' with_reducible first
    | assumption | apply loadModuleRun_agree | apply agree_ite_fst | apply agree_ite | (intro) | split

theorem setMatrixBody_agree (c : Cmd) (s : State)
    (hs : Agree W r₀ s) (h0 : W .regs) (h1 : W .box) (h2 : W .path) (h3 : W .disp) (h4 : W .ev) (h5 : W .link) :
    Agree W r₀ (setMatrixBody c s).1 := by
  unfold setMatrixBody
  repeat' with_reducible first | assumption | apply patchBody_agree | split

theorem getRouteBody_agree (c : Cmd) (s : State)
    (hs : Agree W r₀ s) :
    Agree W r₀ (getRouteBody c s).1 := by
  unfold getRouteBody
  dsimp only
  repeat' with_reducible first | assumption | apply agree_ite_fst | apply agree_ite | (intro) | split

theorem setSendBody_agree (c : Cmd) (s : State)
    (hs : Agree W r₀ s) (h0 : W .regs) (h1 : W .box) (h2 : W .hamp) (h3 : W .path) (h4 : W .disp) (h5 : W .ev)
    (h6 : W .link) :
    Agree W r₀ (setSendBody c s).1 := by
  unfold setSendBody
  dsimp only
  repeat' with_reducible first
    | assumption | apply patchBody_agree | apply submitCmd_agree | apply agree_ite_fst | apply agree_ite | (intro)
    | split

theorem placed_agree (ps : List Nat) (oem : KMap OemPlace) (s : State)
    (hs : Agree W r₀ s) (h0 : W .regs) (h1 : W .mods) (h2 : W .disp) (h3 : W .free) :
    Agree W r₀ (placed ps oem s) := by
  unfold placed
  dsimp only
  repeat' with_reducible first
    | assumption | apply put_agree | apply buildTemplate_agree | (apply agree_set_mods <;> assumption)
    | apply agree_set_mods

theorem placeBody_agree (c : Cmd) (s : State)
    (hs : Agree W r₀ s) (h0 : W .regs) (h1 : W .mods) (h2 : W .disp) (h3 : W .free) :
    Agree W r₀ (placeBody c s).1 := by
  unfold placeBody
  dsimp only
  repeat' with_reducible first
    | assumption | apply placed_agree | (apply agree_set_mods <;> assumption) | apply agree_ite_fst
    | apply agree_ite | (intro) | split | apply agree_set_mods

theorem playMessageBody_agree (c : Cmd) (s : State)
    (hs : Agree W r₀ s) (h0 : W .regs) (h1 : W .hamp) (h2 : W .disp) (h3 : W .ev) :
    Agree W r₀ (playMessageBody c s).1 := by
  unfold playMessageBody
  repeat' with_reducible first
    | assumption | apply submitCmd_agree | apply agree_ite_fst | apply agree_ite | (intro) | split

theorem routeBody_agree (c : Cmd) (s : State)
    (hs : Agree W r₀ s) (h0 : W .regs) (h1 : W .hamp) (h2 : W .disp) (h3 : W .ev) :
    Agree W r₀ (routeBody c s).1 := by
  unfold routeBody
  repeat' with_reducible first | assumption | apply submitCmd_agree

theorem setHeadroomBody_agree (c : Cmd) (s : State)
    (hs : Agree W r₀ s) (h0 : W .held) :
    Agree W r₀ (setHeadroomBody c s).1 := by
  unfold setHeadroomBody
  dsimp only
  repeat' with_reducible first
    | assumption | apply hold_agree | apply agree_ite_fst | apply agree_ite | (intro) | split

theorem setParamRun_agree (data : List Byte) (c : Cmd) (s : State)
    (hs : Agree W r₀ s) (h0 : W .regs) (h1 : W .hamp) (h2 : W .disp) (h3 : W .ev) :
    Agree W r₀ (setParamRun data c s).1 := by
  unfold setParamRun
  repeat' with_reducible first | assumption | apply submitCmd_agree | split

theorem setParamBody_agree (c : Cmd) (s : State)
    (hs : Agree W r₀ s) (h0 : W .regs) (h1 : W .hamp) (h2 : W .disp) (h3 : W .ev) :
    Agree W r₀ (setParamBody c s).1 := by
  unfold setParamBody
  repeat' with_reducible first
    | assumption | apply setParamRun_agree | apply agree_ite_fst | apply agree_ite | (intro) | split

theorem getParamBody_agree (c : Cmd) (s : State)
    (hs : Agree W r₀ s) :
    Agree W r₀ (getParamBody c s).1 := by
  unfold getParamBody
  dsimp only
  repeat' with_reducible first | assumption | apply agree_ite_fst | apply agree_ite | (intro) | split

theorem execPlayMessage_agree {s' : State} (c : Cmd) (s : State)
    (hs : Agree W r₀ s) (h0 : W .regs) (h1 : W .box) (h2 : W .hamp) (h3 : W .disp) (h4 : W .ev) (h5 : W .link)
    (he : execPlayMessage c s = .next s') :
    Agree W r₀ s' := by
  cases he
  repeat' with_reducible first | assumption | apply silwen_agree | apply playMessageBody_agree | (intro)

theorem execGetParam_agree {s' : State} (c : Cmd) (s : State)
    (hs : Agree W r₀ s) (h0 : W .regs) (h1 : W .box) (h2 : W .disp) (h3 : W .ev) (h4 : W .link)
    (he : execGetParam c s = .next s') :
    Agree W r₀ s' := by
  cases he
  repeat' with_reducible first | assumption | apply silwen_agree | apply getParamBody_agree | (intro)

theorem withFir_agree (es : List Entry) (s : State)
    (hs : Agree W r₀ s) (h0 : W .path) :
    Agree W r₀ (withFir es s) := by
  unfold withFir
  repeat' with_reducible first
    | assumption | apply setParam_agree | apply agree_ite | apply agree_each | (intro) | split

theorem execSetSend_agree {s' : State} (c : Cmd) (s : State)
    (hs : Agree W r₀ s) (h0 : W .regs) (h1 : W .box) (h2 : W .hamp) (h3 : W .path) (h4 : W .disp) (h5 : W .ev)
    (h6 : W .link) (he : execSetSend c s = .next s') :
    Agree W r₀ s' := by
  cases he
  repeat' with_reducible first | assumption | apply silwen_agree | apply setSendBody_agree | (intro)

theorem execSetParam_agree {s' : State} (c : Cmd) (s : State)
    (hs : Agree W r₀ s) (h0 : W .regs) (h1 : W .box) (h2 : W .hamp) (h3 : W .disp) (h4 : W .ev) (h5 : W .link)
    (he : execSetParam c s = .next s') :
    Agree W r₀ s' := by
  cases he
  repeat' with_reducible first | assumption | apply silwen_agree | apply setParamBody_agree | (intro)

theorem execPlace_agree {s' : State} (c : Cmd) (s : State)
    (hs : Agree W r₀ s) (h0 : W .regs) (h1 : W .box) (h2 : W .mods) (h3 : W .disp) (h4 : W .ev) (h5 : W .link)
    (h6 : W .free) (he : execPlace c s = .next s') :
    Agree W r₀ s' := by
  cases he
  repeat' with_reducible first | assumption | apply silwen_agree | apply placeBody_agree | (intro)

theorem execSetBusHeadroom_agree {s' : State} (c : Cmd) (s : State)
    (hs : Agree W r₀ s) (h0 : W .regs) (h1 : W .held) (h2 : W .box) (h3 : W .disp) (h4 : W .ev) (h5 : W .link)
    (he : execSetBusHeadroom c s = .next s') :
    Agree W r₀ s' := by
  cases he
  repeat' with_reducible first | assumption | apply silwen_agree | apply setHeadroomBody_agree | (intro)

theorem execGetRoute_agree {s' : State} (c : Cmd) (s : State)
    (hs : Agree W r₀ s) (h0 : W .regs) (h1 : W .box) (h2 : W .disp) (h3 : W .ev) (h4 : W .link)
    (he : execGetRoute c s = .next s') :
    Agree W r₀ s' := by
  cases he
  repeat' with_reducible first | assumption | apply silwen_agree | apply getRouteBody_agree | (intro)

theorem execRoute_agree {s' : State} (c : Cmd) (s : State)
    (hs : Agree W r₀ s) (h0 : W .regs) (h1 : W .box) (h2 : W .hamp) (h3 : W .disp) (h4 : W .ev) (h5 : W .link)
    (he : execRoute c s = .next s') :
    Agree W r₀ s' := by
  cases he
  repeat' with_reducible first | assumption | apply silwen_agree | apply routeBody_agree | (intro)

theorem execRouteBackup_agree {s' : State} (c : Cmd) (s : State)
    (hs : Agree W r₀ s) (h0 : W .regs) (h1 : W .box) (h2 : W .hamp) (h3 : W .disp) (h4 : W .ev) (h5 : W .link)
    (he : execRouteBackup c s = .next s') :
    Agree W r₀ s' := by
  cases he
  repeat' with_reducible first | assumption | apply silwen_agree | apply routeBackupBody_agree | (intro)

theorem execLoadModule_agree {s' : State} (c : Cmd) (s : State)
    (hs : Agree W r₀ s) (h0 : W .regs) (h1 : W .box) (h2 : W .path) (h3 : W .mods) (h4 : W .disp) (h5 : W .ev)
    (h6 : W .link) (he : execLoadModule c s = .next s') :
    Agree W r₀ s' := by
  cases he
  repeat' with_reducible first | assumption | apply silwen_agree | apply loadModuleBody_agree | (intro)

theorem execSetMatrix_agree {s' : State} (c : Cmd) (s : State)
    (hs : Agree W r₀ s) (h0 : W .regs) (h1 : W .box) (h2 : W .path) (h3 : W .disp) (h4 : W .ev) (h5 : W .link)
    (he : execSetMatrix c s = .next s') :
    Agree W r₀ s' := by
  cases he
  repeat' with_reducible first | assumption | apply silwen_agree | apply setMatrixBody_agree | (intro)

end Sys2Proof.Laws
end

