-- ==== Sys2Proof/Laws/FramesTdm.lean ====
section
/-! SUPPORT. Which parts of the state each operation of Machine/Tdm.lean may write. -/

namespace Sys2Proof.Laws
open Sys2Proof.Machine

variable {W : Part → Bool} {r₀ : State}

theorem modPort_agree (s : State) (p : Nat) (f : TdmSt → TdmSt)
    (hs : Agree W r₀ s) (h0 : W .tdm) :
    Agree W r₀ (State.modPort s p f) := by
  unfold State.modPort
  repeat' with_reducible first | assumption | (apply agree_set_tdm <;> assumption) | (intro) | apply agree_set_tdm

theorem tdmSupply_agree (n p : Nat) (s : State)
    (hs : Agree W r₀ s) (h0 : W .tdm) :
    Agree W r₀ (tdmSupply n p s) := by
  unfold tdmSupply
  dsimp only
  repeat' with_reducible first | assumption | apply modPort_agree | apply agree_ite | (intro) | split

theorem tdmFlag_agree (p : Nat) (f : FieldRef) (s : State)
    (hs : Agree W r₀ s) (h0 : W .regs) (h1 : W .disp) (h2 : W .ev) :
    Agree W r₀ (tdmFlag p f s) := by
  unfold tdmFlag
  repeat' with_reducible first
    | assumption | apply raise_agree | apply put_agree | apply agree_ite | (intro) | split

theorem tdmCount_agree (c : Bool) (cnt : Nat) (fl : FieldRef) (p : Nat) (s : State)
    (hs : Agree W r₀ s) (h0 : W .regs) (h1 : W .disp) (h2 : W .ev) :
    Agree W r₀ (tdmCount c cnt fl p s) := by
  unfold tdmCount
  repeat' with_reducible first | assumption | apply incSat_agree | apply tdmFlag_agree | apply agree_when | (intro)

theorem tdmBad_agree (p : Nat) (s : State)
    (hs : Agree W r₀ s) (h0 : W .regs) (h1 : W .disp) (h2 : W .ev) (h3 : W .tdm) :
    Agree W r₀ (tdmBad p s) := by
  unfold tdmBad
  dsimp only
  repeat' with_reducible first | assumption | apply modPort_agree | apply tdmCount_agree

theorem hampMasks_agree (p num e stamp : Nat) (s : State)
    (hs : Agree W r₀ s) (h0 : W .tdm) :
    Agree W r₀ (hampMasks p num e stamp s) := by
  unfold hampMasks
  dsimp only
  repeat' with_reducible first | assumption | apply modPort_agree

theorem tdmTake_agree (p num stamp : Nat) (slots : Option (List Sample)) (s : State)
    (hs : Agree W r₀ s) (h0 : W .tdm) :
    Agree W r₀ (tdmTake p num stamp slots s) := by
  unfold tdmTake
  dsimp only
  repeat' with_reducible first | assumption | apply modPort_agree | apply agree_ite | (intro) | split

theorem doutPut_agree (p e clocks : Nat) (again : Bool) (s : State)
    (hs : Agree W r₀ s) (h0 : W .tdm) :
    Agree W r₀ (doutPut p e clocks again s) := by
  unfold doutPut
  dsimp only
  repeat' with_reducible first | assumption | apply modPort_agree | apply agree_ite | (intro) | split

theorem tdmEdge_agree (p clocks len : Nat) (s : State)
    (hs : Agree W r₀ s) (h0 : W .regs) (h1 : W .tdm) :
    Agree W r₀ (tdmEdge p clocks len s) := by
  unfold tdmEdge
  repeat' with_reducible first | assumption | apply modPort_agree | apply put_agree

theorem tdmSlip_agree (p : Nat) (s : State)
    (hs : Agree W r₀ s) (h0 : W .regs) (h1 : W .disp) (h2 : W .ev) (h3 : W .tdm) :
    Agree W r₀ (tdmSlip p s) := by
  unfold tdmSlip
  dsimp only
  repeat' with_reducible first
    | assumption | apply modPort_agree | apply tdmFlag_agree | apply tdmCount_agree | apply agree_ite | (intro)
    | split

theorem setTdmState_agree (p st : Nat) (s : State)
    (hs : Agree W r₀ s) (h0 : W .regs) (h1 : W .disp) (h2 : W .ev) (h3 : W .flt) :
    Agree W r₀ (setTdmState p st s) := by
  unfold setTdmState
  repeat' with_reducible first
    | assumption | apply raise_agree | apply put_agree | apply unitDone_agree | apply agree_ite | apply agree_when
    | (intro) | split

theorem tdmLose_agree (p : Nat) (s : State)
    (hs : Agree W r₀ s) (h0 : W .regs) (h1 : W .disp) (h2 : W .ev) (h3 : W .flt) (h4 : W .tdm) :
    Agree W r₀ (tdmLose p s) := by
  unfold tdmLose
  dsimp only
  repeat' with_reducible first
    | assumption | apply incSat_agree | apply modPort_agree | apply tdmFlag_agree | apply setTdmState_agree
    | apply put_agree

theorem tdmBuffers_agree (p : Nat) (f : TdmFrame) (s : State)
    (hs : Agree W r₀ s) (h0 : W .regs) (h1 : W .disp) (h2 : W .ev) :
    Agree W r₀ (tdmBuffers p f s) := by
  unfold tdmBuffers
  dsimp only
  repeat' with_reducible first | assumption | apply tdmCount_agree | apply agree_ite | (intro) | split

theorem capByte_agree (p : Nat) (b : Byte) (s : State)
    (hs : Agree W r₀ s) (h0 : W .regs) (h1 : W .mem) (h2 : W .tdm) (h3 : W .memx) :
    Agree W r₀ (capByte p b s) := by
  unfold capByte
  dsimp only
  repeat' with_reducible first
    | assumption | apply modPort_agree | apply agree_setReg | apply setByte_agree | apply put_agree
    | apply agree_ite | (intro) | split

theorem capFrame_agree (p e : Nat) (inSlots : List Sample) (s : State)
    (hs : Agree W r₀ s) (h0 : W .regs) (h1 : W .mem) (h2 : W .tdm) (h3 : W .memx) (h4 : W .free) :
    Agree W r₀ (capFrame p e inSlots s) := by
  unfold capFrame
  dsimp only
  repeat' with_reducible first
    | assumption | apply capByte_agree | apply fresh_agree | apply agree_ite | apply agree_each | (intro) | split

theorem tdmAcquire_agree (p : Nat) (s : State)
    (hs : Agree W r₀ s) (h0 : W .regs) (h1 : W .disp) (h2 : W .ev) (h3 : W .flt) (h4 : W .tdm) :
    Agree W r₀ (tdmAcquire p s) := by
  unfold tdmAcquire
  dsimp only
  repeat' with_reducible first | assumption | apply modPort_agree | apply setTdmState_agree | apply put_agree

theorem tdmFrameOp_agree (p : Nat) (f : TdmFrame) (s : State)
    (hs : Agree W r₀ s) (h0 : W .regs) (h1 : W .mem) (h2 : W .disp) (h3 : W .ev) (h4 : W .flt) (h5 : W .tdm)
    (h6 : W .memx) (h7 : W .free) :
    Agree W r₀ (tdmFrameOp p f s) := by
  unfold tdmFrameOp
  dsimp only
  repeat' with_reducible first
    | assumption | apply modPort_agree | apply tdmBad_agree | apply fresh_agree | apply hampMasks_agree
    | apply tdmTake_agree | apply doutPut_agree | apply tdmEdge_agree | apply tdmSlip_agree | apply tdmLose_agree
    | apply tdmBuffers_agree | apply capFrame_agree | apply tdmAcquire_agree | apply agree_ite | (intro) | split

theorem tdmMaskgoOp_agree (p : Nat) (s : State)
    (hs : Agree W r₀ s) (h0 : W .regs) (h1 : W .tdm) :
    Agree W r₀ (tdmMaskgoOp p s) := by
  unfold tdmMaskgoOp
  repeat' with_reducible first | assumption | apply modPort_agree | apply put_agree

theorem tdmStart_agree (p : Nat) (s : State)
    (hs : Agree W r₀ s) (h0 : W .regs) (h1 : W .held) (h2 : W .disp) (h3 : W .ev) (h4 : W .flt) (h5 : W .tdm) :
    Agree W r₀ (tdmStart p s) := by
  unfold tdmStart
  dsimp only
  repeat' with_reducible first
    | assumption | apply modPort_agree | apply applyHeld_agree | apply put_agree | apply tdmAcquire_agree

theorem tdmEnableOp_agree (p : Nat) (en : Bool) (s : State)
    (hs : Agree W r₀ s) (h0 : W .regs) (h1 : W .held) (h2 : W .disp) (h3 : W .ev) (h4 : W .flt) (h5 : W .tdm) :
    Agree W r₀ (tdmEnableOp p en s) := by
  unfold tdmEnableOp
  dsimp only
  repeat' with_reducible first
    | assumption | apply modPort_agree | apply setTdmState_agree | apply put_agree | apply tdmStart_agree
    | apply agree_ite | (intro) | split

theorem tdmRegWrite_agree (p off : Nat) (v : Word) (s : State)
    (hs : Agree W r₀ s) (h0 : W .regs) (h1 : W .held) (h2 : W .disp) (h3 : W .ev) (h4 : W .flt) (h5 : W .tdm) :
    Agree W r₀ (tdmRegWrite p off v s) := by
  unfold tdmRegWrite
  dsimp only
  repeat' with_reducible first
    | assumption | apply modPort_agree | apply tdmMaskgoOp_agree | apply writeField_agree | apply writeReg_agree
    | apply tdmEnableOp_agree | apply agree_ite | apply agree_each | (intro) | split

theorem asrcRelockOp_agree (c : Nat) (s : State)
    (hs : Agree W r₀ s) (h0 : W .regs) (h1 : W .disp) (h2 : W .ev) (h3 : W .flt) (h4 : W .tdm) :
    Agree W r₀ (asrcRelockOp c s) := by
  unfold asrcRelockOp
  dsimp only
  repeat' with_reducible first
    | assumption | apply modPort_agree | apply setTdmState_agree | apply incField_agree | apply put_agree
    | apply agree_ite | (intro) | split

theorem execAsrcRelock_agree {s' : State} (c : Fin 64) (s : State)
    (hs : Agree W r₀ s) (h0 : W .regs) (h1 : W .disp) (h2 : W .ev) (h3 : W .flt) (h4 : W .tdm)
    (he : execAsrcRelock c s = .next s') :
    Agree W r₀ s' := by
  cases he
  repeat' with_reducible first | assumption | apply asrcRelockOp_agree

theorem tdmEngineStart_agree (s : State)
    (hs : Agree W r₀ s) (h0 : W .regs) (h1 : W .held) (h2 : W .disp) (h3 : W .ev) (h4 : W .flt) (h5 : W .tdm) :
    Agree W r₀ (tdmEngineStart s) := by
  unfold tdmEngineStart
  repeat' with_reducible first
    | assumption | apply tdmStart_agree | apply agree_ite | apply agree_each | (intro) | split

theorem tdmSlotmaskBody_agree (c : Cmd) (s : State)
    (hs : Agree W r₀ s) (h0 : W .regs) (h1 : W .tdm) :
    Agree W r₀ (tdmSlotmaskBody c s).1 := by
  unfold tdmSlotmaskBody
  dsimp only
  repeat' with_reducible first | assumption | apply agree_setReg | apply tdmMaskgoOp_agree

theorem asrcCfgBody_agree (c : Cmd) (s : State)
    (hs : Agree W r₀ s) (h0 : W .regs) (h1 : W .held) :
    Agree W r₀ (asrcCfgBody c s).1 := by
  unfold asrcCfgBody
  repeat' with_reducible first | assumption | apply writeReg_agree

theorem tdmCfgBody_agree (c : Cmd) (s : State)
    (hs : Agree W r₀ s) (h0 : W .regs) (h1 : W .held) (h2 : W .disp) (h3 : W .ev) (h4 : W .flt) (h5 : W .tdm) :
    Agree W r₀ (tdmCfgBody c s).1 := by
  unfold tdmCfgBody
  dsimp only
  repeat' with_reducible first
    | assumption | apply tdmRegWrite_agree | apply writeReg_agree | apply agree_ite_fst | apply agree_ite | (intro)
    | split

theorem tdmCaptureStartOp_agree (p : Nat) (s : State)
    (hs : Agree W r₀ s) (h0 : W .regs) (h1 : W .held) (h2 : W .tdm) :
    Agree W r₀ (tdmCaptureStartOp p s) := by
  unfold tdmCaptureStartOp
  dsimp only
  repeat' with_reducible first
    | assumption | apply modPort_agree | apply agree_setReg | apply applyHeld_agree | apply agree_ite | (intro)
    | split

theorem execTdmCaptureStart_agree {s' : State} (p : Fin 32) (s : State)
    (hs : Agree W r₀ s) (h0 : W .regs) (h1 : W .held) (h2 : W .tdm) (he : execTdmCaptureStart p s = .next s') :
    Agree W r₀ s' := by
  cases he
  repeat' with_reducible first | assumption | apply tdmCaptureStartOp_agree

theorem execTdmMaskgo_agree {s' : State} (p : Fin 32) (s : State)
    (hs : Agree W r₀ s) (h0 : W .regs) (h1 : W .tdm) (he : execTdmMaskgo p s = .next s') :
    Agree W r₀ s' := by
  cases he
  repeat' with_reducible first | assumption | apply tdmMaskgoOp_agree

theorem tdmGather_agree (n p : Nat) (s : State)
    (hs : Agree W r₀ s) (h0 : W .sig) (h1 : W .tdm) :
    Agree W r₀ (tdmGather n p s) := by
  unfold tdmGather
  dsimp only
  repeat' with_reducible first
    | assumption | apply modPort_agree | (apply agree_set_sig <;> assumption) | apply agree_ite | apply agree_each
    | (intro) | split | apply agree_set_sig

theorem tdmLive_agree (n p : Nat) (s : State)
    (hs : Agree W r₀ s) (h0 : W .tdm) :
    Agree W r₀ (tdmLive n p s) := by
  unfold tdmLive
  dsimp only
  repeat' with_reducible first | assumption | apply modPort_agree | apply agree_ite | (intro) | split

theorem pairPut_agree (c : Nat) (a : AsrcSt) (s : State)
    (hs : Agree W r₀ s) (h0 : W .regs) (h1 : W .tdm) :
    Agree W r₀ (pairPut c a s) := by
  unfold pairPut
  repeat' with_reducible first | assumption | apply modPort_agree | apply agree_setReg

theorem asrcTick_agree (k p : Nat) (s : State)
    (hs : Agree W r₀ s) (h0 : W .regs) (h1 : W .tdm) :
    Agree W r₀ (asrcTick k p s) := by
  unfold asrcTick
  dsimp only
  repeat' with_reducible first | assumption | apply pairPut_agree | apply agree_ite | (intro) | split

theorem tdmTickPort_agree (k n p : Nat) (s : State)
    (hs : Agree W r₀ s) (h0 : W .regs) (h1 : W .sig) (h2 : W .tdm) (h3 : W .free) :
    Agree W r₀ (tdmTickPort k n p s) := by
  unfold tdmTickPort
  dsimp only
  repeat' with_reducible first
    | assumption | apply tdmSupply_agree | apply fresh_agree | apply tdmGather_agree | apply tdmLive_agree
    | apply asrcTick_agree | apply setLost_agree | apply agree_ite | apply agree_each | (intro) | split

theorem tdmTick_agree (k n : Nat) (s : State)
    (hs : Agree W r₀ s) (h0 : W .regs) (h1 : W .sig) (h2 : W .tdm) (h3 : W .free) :
    Agree W r₀ (tdmTick k n s) := by
  unfold tdmTick
  dsimp only
  repeat' with_reducible first
    | assumption | apply tdmTickPort_agree | (apply agree_set_sig <;> assumption) | apply agree_each | (intro)
    | apply agree_set_sig

theorem tdmClockLostOp_agree (p : Nat) (s : State)
    (hs : Agree W r₀ s) (h0 : W .regs) (h1 : W .disp) (h2 : W .ev) (h3 : W .flt) (h4 : W .tdm) :
    Agree W r₀ (tdmClockLostOp p s) := by
  unfold tdmClockLostOp
  dsimp only
  repeat' with_reducible first | assumption | apply tdmLose_agree | apply agree_ite | (intro) | split

theorem asrcCommit_agree (c fld : Nat) (v : Word) (s : State)
    (hs : Agree W r₀ s) (h0 : W .regs) (h1 : W .held) :
    Agree W r₀ (asrcCommit c fld v s).1 := by
  unfold asrcCommit
  dsimp only
  repeat' with_reducible first | assumption | apply put_agree | apply hold_agree | split

theorem tdmMaskCommit_agree (p fld mti : Nat) (v : Word) (s : State)
    (hs : Agree W r₀ s) (h0 : W .tdm) :
    Agree W r₀ (tdmMaskCommit p fld mti v s) := by
  unfold tdmMaskCommit
  dsimp only
  repeat' with_reducible first | assumption | apply modPort_agree | apply agree_ite | (intro) | split

theorem asrcLockOp_agree (c : Nat) (s : State)
    (hs : Agree W r₀ s) (h0 : W .regs) (h1 : W .disp) (h2 : W .ev) (h3 : W .flt) :
    Agree W r₀ (asrcLockOp c s) := by
  unfold asrcLockOp
  dsimp only
  repeat' with_reducible first
    | assumption | apply setTdmState_agree | apply put_agree | apply agree_ite | (intro) | split

theorem execTdmCfg_agree {s' : State} (c : Cmd) (s : State)
    (hs : Agree W r₀ s) (h0 : W .regs) (h1 : W .held) (h2 : W .box) (h3 : W .disp) (h4 : W .ev) (h5 : W .flt)
    (h6 : W .tdm) (h7 : W .link) (he : execTdmCfg c s = .next s') :
    Agree W r₀ s' := by
  cases he
  repeat' with_reducible first | assumption | apply silwen_agree | apply tdmCfgBody_agree | (intro)

theorem tdmSyncLockOp_agree (p : Nat) (s : State)
    (hs : Agree W r₀ s) (h0 : W .regs) (h1 : W .disp) (h2 : W .ev) (h3 : W .flt) (h4 : W .tdm) :
    Agree W r₀ (tdmSyncLockOp p s) := by
  unfold tdmSyncLockOp
  repeat' with_reducible first
    | assumption | apply modPort_agree | apply setTdmState_agree | apply agree_ite | (intro) | split

theorem execTdmSyncLock_agree {s' : State} (p : Fin 32) (s : State)
    (hs : Agree W r₀ s) (h0 : W .regs) (h1 : W .disp) (h2 : W .ev) (h3 : W .flt) (h4 : W .tdm)
    (he : execTdmSyncLock p s = .next s') :
    Agree W r₀ s' := by
  cases he
  repeat' with_reducible first | assumption | apply tdmSyncLockOp_agree

theorem tdmMaskMoveOp_agree (p : Nat) (s : State)
    (hs : Agree W r₀ s) (h0 : W .regs) (h1 : W .tdm) :
    Agree W r₀ (tdmMaskMoveOp p s) := by
  unfold tdmMaskMoveOp
  repeat' with_reducible first
    | assumption | apply modPort_agree | apply put_agree | apply agree_ite | (intro) | split

theorem execTdmMaskMove_agree {s' : State} (p : Fin 32) (s : State)
    (hs : Agree W r₀ s) (h0 : W .regs) (h1 : W .tdm) (he : execTdmMaskMove p s = .next s') :
    Agree W r₀ s' := by
  cases he
  repeat' with_reducible first | assumption | apply tdmMaskMoveOp_agree

theorem execTdmEnable_agree {s' : State} (p : Fin 32) (en : Bool) (s : State)
    (hs : Agree W r₀ s) (h0 : W .regs) (h1 : W .held) (h2 : W .disp) (h3 : W .ev) (h4 : W .flt) (h5 : W .tdm)
    (he : execTdmEnable p en s = .next s') :
    Agree W r₀ s' := by
  cases he
  repeat' with_reducible first | assumption | apply tdmEnableOp_agree

theorem execTdmSlotmask_agree {s' : State} (c : Cmd) (s : State)
    (hs : Agree W r₀ s) (h0 : W .regs) (h1 : W .box) (h2 : W .disp) (h3 : W .ev) (h4 : W .tdm) (h5 : W .link)
    (he : execTdmSlotmask c s = .next s') :
    Agree W r₀ s' := by
  cases he
  repeat' with_reducible first | assumption | apply tdmSlotmaskBody_agree | apply silwen_agree | (intro)

theorem execAsrcCfg_agree {s' : State} (c : Cmd) (s : State)
    (hs : Agree W r₀ s) (h0 : W .regs) (h1 : W .held) (h2 : W .box) (h3 : W .disp) (h4 : W .ev) (h5 : W .link)
    (he : execAsrcCfg c s = .next s') :
    Agree W r₀ s' := by
  cases he
  repeat' with_reducible first | assumption | apply silwen_agree | apply asrcCfgBody_agree | (intro)

theorem execAsrcLock_agree {s' : State} (p : Fin 32) (out : Bool) (s : State)
    (hs : Agree W r₀ s) (h0 : W .regs) (h1 : W .disp) (h2 : W .ev) (h3 : W .flt)
    (he : execAsrcLock p out s = .next s') :
    Agree W r₀ s' := by
  cases he
  repeat' with_reducible first | assumption | apply asrcLockOp_agree | apply agree_ite | (intro) | split

end Sys2Proof.Laws
end

