-- ==== Sys2Proof/Laws/FramesRefs.lean ====
section
/-! SUPPORT. Which parts of the state each operation of Machine/Refs.lean may write. -/

namespace Sys2Proof.Laws
open Sys2Proof.Machine

variable {W : Part → Bool} {r₀ : State}

theorem refState_agree (ev c : Nat) (unsettled : Bool) (s : State)
    (hs : Agree W r₀ s) (h0 : W .box) :
    Agree W r₀ (refState ev c unsettled s) := by
  unfold refState
  dsimp only
  repeat' with_reducible first | assumption | apply notify_agree

theorem offsetNotice_agree (s : State)
    (hs : Agree W r₀ s) (h0 : W .regs) (h1 : W .box) (h2 : W .disp) (h3 : W .ev) :
    Agree W r₀ (offsetNotice s) := by
  unfold offsetNotice
  dsimp only
  repeat' with_reducible first
    | assumption | apply raise_agree | apply put_agree | apply refState_agree | apply agree_ite | (intro) | split

theorem stepRequest_agree (d : Int) (s : State)
    (hs : Agree W r₀ s) (h0 : W .regs) (h1 : W .time) :
    Agree W r₀ (stepRequest d s) := by
  unfold stepRequest
  dsimp only
  repeat' with_reducible first | assumption | apply agree_setReg | apply stepCtlWrite_agree | apply put_agree

theorem modRef_agree (s : State) (f : RefSt → RefSt)
    (hs : Agree W r₀ s) (h0 : W .ref) :
    Agree W r₀ (State.modRef s f) := by
  unfold State.modRef
  repeat' with_reducible first | assumption | (apply agree_set_ref <;> assumption) | (intro) | apply agree_set_ref

theorem setAbsorbed_agree (s : State) (d : Int)
    (hs : Agree W r₀ s) (h0 : W .regs) :
    Agree W r₀ (State.setAbsorbed s d) := by
  unfold State.setAbsorbed
  dsimp only
  repeat' with_reducible first | assumption | apply agree_setReg

theorem realignStop_agree (s : State)
    (hs : Agree W r₀ s) (h0 : W .regs) (h1 : W .box) (h2 : W .disp) (h3 : W .ev) (h4 : W .ref) (h5 : W .link) :
    Agree W r₀ (realignStop s) := by
  unfold realignStop
  dsimp only
  repeat' with_reducible first
    | assumption | apply agree_setReg | apply complete_agree | apply offsetNotice_agree | apply setAbsorbed_agree
    | apply modRef_agree | apply put_agree | apply agree_ite | apply agree_when | (intro) | split

theorem realignStart_agree (step : Bool) (tgt rate : Nat) (tok : Option Tok) (s : State)
    (hs : Agree W r₀ s) (h0 : W .regs) (h1 : W .time) (h2 : W .box) (h3 : W .disp) (h4 : W .ev) (h5 : W .ref)
    (h6 : W .link) :
    Agree W r₀ (realignStart step tgt rate tok s).1 := by
  unfold realignStart
  dsimp only
  repeat' with_reducible first
    | assumption | apply stepRequest_agree | apply modRef_agree | apply put_agree | apply realignStop_agree
    | apply agree_ite_fst | apply agree_ite | apply agree_when | (intro) | split

theorem refBandwidth_agree (s : State)
    (hs : Agree W r₀ s) (h0 : W .regs) :
    Agree W r₀ (refBandwidth s) := by
  unfold refBandwidth
  dsimp only
  repeat' with_reducible first | assumption | apply put_agree | apply agree_ite | (intro) | split

theorem refsRegWrite_agree (off : Nat) (v : Word) (s : State)
    (hs : Agree W r₀ s) (h0 : W .regs) (h1 : W .held) (h2 : W .time) (h3 : W .box) (h4 : W .disp) (h5 : W .ev)
    (h6 : W .ref) (h7 : W .link) :
    Agree W r₀ (refsRegWrite off v s) := by
  unfold refsRegWrite
  dsimp only
  repeat' with_reducible first
    | assumption | apply put_agree | apply writeReg_agree | apply realignStart_agree | apply refBandwidth_agree
    | apply agree_ite | (intro) | split

theorem bmcaRunOp_agree (i : Nat) (a b : PtpPort) (parent : Option GmData) (s : State)
    (hs : Agree W r₀ s) (h0 : W .regs) (h1 : W .disp) (h2 : W .ev) (h3 : W .ref) :
    Agree W r₀ (bmcaRunOp i a b parent s) := by
  unfold bmcaRunOp
  dsimp only
  repeat' with_reducible first
    | assumption | apply modRef_agree | apply raise_agree | apply agree_ite | apply agree_when | (intro) | split

theorem execBmcaRun_agree {s' : State} (inst : Fin 3) (a b : PtpPort) (parent : Option GmData) (s : State)
    (hs : Agree W r₀ s) (h0 : W .regs) (h1 : W .disp) (h2 : W .ev) (h3 : W .ref)
    (he : execBmcaRun inst a b parent s = .next s') :
    Agree W r₀ s' := by
  cases he
  repeat' with_reducible first | assumption | apply bmcaRunOp_agree

theorem candSet_agree (c st : Nat) (s : State)
    (hs : Agree W r₀ s) (h0 : W .regs) (h1 : W .time) (h2 : W .disp) (h3 : W .ev) :
    Agree W r₀ (candSet c st s) := by
  unfold candSet
  dsimp only
  repeat' with_reducible first
    | assumption | apply raise_agree | apply put_agree | apply modTime_agree | apply agree_ite | apply agree_when
    | (intro) | split

theorem candAbsent_agree (c : Nat) (s : State)
    (hs : Agree W r₀ s) (h0 : W .regs) (h1 : W .time) (h2 : W .disp) (h3 : W .ev) :
    Agree W r₀ (candAbsent c s) := by
  unfold candAbsent
  repeat' with_reducible first | assumption | apply candSet_agree | apply put_agree

theorem shiftWclk_agree (d : Int) (s : State)
    (hs : Agree W r₀ s) (h0 : W .regs) :
    Agree W r₀ (shiftWclk d s) := by
  unfold shiftWclk
  dsimp only
  repeat' with_reducible first | assumption | apply agree_setReg

theorem refPeer_agree (s : State)
    (hs : Agree W r₀ s) (h0 : W .regs) (h1 : W .time) (h2 : W .disp) (h3 : W .ev) :
    Agree W r₀ (refPeer s) := by
  unfold refPeer
  dsimp only
  repeat' with_reducible first | assumption | apply candSet_agree | apply agree_ite | (intro) | split

theorem ptpCfgBody_agree (c : Cmd) (s : State)
    (hs : Agree W r₀ s) (h0 : W .regs) (h1 : W .disp) (h2 : W .ev) (h3 : W .ref) :
    Agree W r₀ (ptpCfgBody c s).1 := by
  unfold ptpCfgBody
  dsimp only
  repeat' with_reducible first
    | assumption | apply modRef_agree | apply raise_agree | apply refBandwidth_agree | apply agree_ite_fst
    | apply agree_ite | apply agree_when | (intro) | split

theorem setRefPriorityBody_agree (c : Cmd) (s : State)
    (hs : Agree W r₀ s) (h0 : W .regs) (h1 : W .held) (h2 : W .time) (h3 : W .box) (h4 : W .disp) (h5 : W .ev)
    (h6 : W .ref) (h7 : W .link) :
    Agree W r₀ (setRefPriorityBody c s).1 := by
  unfold setRefPriorityBody
  dsimp only
  repeat' with_reducible first | assumption | apply refsRegWrite_agree | apply agree_each | (intro)

theorem realignBody_agree (c : Cmd) (s : State)
    (hs : Agree W r₀ s) (h0 : W .regs) (h1 : W .time) (h2 : W .box) (h3 : W .disp) (h4 : W .ev) (h5 : W .ref)
    (h6 : W .link) :
    Agree W r₀ (realignBody c s).1 := by
  unfold realignBody
  dsimp only
  repeat' with_reducible first | assumption | apply realignStart_agree

theorem switchFinish_agree (unsettled : Bool) (s : State)
    (hs : Agree W r₀ s) (h0 : W .regs) (h1 : W .box) (h2 : W .disp) (h3 : W .ev) (h4 : W .ref) :
    Agree W r₀ (switchFinish unsettled s) := by
  unfold switchFinish
  dsimp only
  repeat' with_reducible first
    | assumption | apply modRef_agree | apply raise_agree | apply put_agree | apply refState_agree
    | apply agree_ite | apply agree_each | (intro) | split

theorem switchTo_agree (c : Nat) (s : State)
    (hs : Agree W r₀ s) (h0 : W .regs) (h1 : W .time) (h2 : W .box) (h3 : W .disp) (h4 : W .ev) (h5 : W .ref)
    (h6 : W .link) :
    Agree W r₀ (switchTo c s) := by
  unfold switchTo
  dsimp only
  repeat' with_reducible first
    | assumption | apply switchFinish_agree | apply modRef_agree | apply raise_agree | apply put_agree
    | apply realignStop_agree | apply refState_agree | apply modTime_agree | apply refBandwidth_agree
    | apply agree_ite | (intro) | split

theorem shiftPps_agree (d : Int) (s : State)
    (hs : Agree W r₀ s) (h0 : W .regs) :
    Agree W r₀ (shiftPps d s) := by
  unfold shiftPps
  repeat' with_reducible first | assumption | apply agree_setReg

theorem realignFinish_agree (code : Nat) (s : State)
    (hs : Agree W r₀ s) (h0 : W .regs) (h1 : W .box) (h2 : W .disp) (h3 : W .ev) (h4 : W .ref) (h5 : W .link) :
    Agree W r₀ (realignFinish code s) := by
  unfold realignFinish
  dsimp only
  repeat' with_reducible first
    | assumption | apply agree_setReg | apply shiftWclk_agree | apply complete_agree | apply offsetNotice_agree
    | apply setAbsorbed_agree | apply modRef_agree | apply put_agree | apply shiftPps_agree | apply agree_ite
    | (intro) | split

theorem realignDoneOp_agree (s : State)
    (hs : Agree W r₀ s) (h0 : W .regs) (h1 : W .box) (h2 : W .disp) (h3 : W .ev) (h4 : W .ref) (h5 : W .link) :
    Agree W r₀ (realignDoneOp s) := by
  unfold realignDoneOp
  repeat' with_reducible first | assumption | apply realignFinish_agree | apply agree_ite | (intro) | split

theorem realignTick_agree (rejected : Bool) (s : State)
    (hs : Agree W r₀ s) (h0 : W .regs) (h1 : W .box) (h2 : W .disp) (h3 : W .ev) (h4 : W .ref) (h5 : W .link) :
    Agree W r₀ (realignTick rejected s) := by
  unfold realignTick
  repeat' with_reducible first | assumption | apply realignFinish_agree | apply agree_ite | (intro) | split

theorem refEvaluate_agree (s : State)
    (hs : Agree W r₀ s) (h0 : W .regs) (h1 : W .time) (h2 : W .box) (h3 : W .disp) (h4 : W .ev) (h5 : W .ref)
    (h6 : W .link) :
    Agree W r₀ (refEvaluate s) := by
  unfold refEvaluate
  dsimp only
  repeat' with_reducible first
    | assumption | apply switchFinish_agree | apply switchTo_agree | apply put_agree | apply agree_ite | (intro)
    | split

theorem execRealignDone_agree {s' : State} (s : State)
    (hs : Agree W r₀ s) (h0 : W .regs) (h1 : W .box) (h2 : W .disp) (h3 : W .ev) (h4 : W .ref) (h5 : W .link)
    (he : execRealignDone s = .next s') :
    Agree W r₀ s' := by
  cases he
  repeat' with_reducible first | assumption | apply realignDoneOp_agree

theorem pdelayOp_agree (x delay : Nat) (s : State)
    (hs : Agree W r₀ s) (h0 : W .ref) :
    Agree W r₀ (pdelayOp x delay s) := by
  unfold pdelayOp
  dsimp only
  repeat' with_reducible first | assumption | apply modRef_agree | apply agree_when | (intro)

theorem execPdelayExchange_agree {s' : State} (x : Fin 2) (delay : Nat) (s : State)
    (hs : Agree W r₀ s) (h0 : W .ref) (he : execPdelayExchange x delay s = .next s') :
    Agree W r₀ s' := by
  cases he
  repeat' with_reducible first | assumption | apply pdelayOp_agree

theorem candidateLossOp_agree (c : Nat) (s : State)
    (hs : Agree W r₀ s) (h0 : W .regs) (h1 : W .time) (h2 : W .box) (h3 : W .disp) (h4 : W .ev) (h5 : W .ref)
    (h6 : W .link) :
    Agree W r₀ (candidateLossOp c s) := by
  unfold candidateLossOp
  repeat' with_reducible first
    | assumption | apply candAbsent_agree | apply refEvaluate_agree | apply agree_ite | (intro) | split

theorem execPtpCfg_agree {s' : State} (c : Cmd) (s : State)
    (hs : Agree W r₀ s) (h0 : W .regs) (h1 : W .box) (h2 : W .disp) (h3 : W .ev) (h4 : W .ref) (h5 : W .link)
    (he : execPtpCfg c s = .next s') :
    Agree W r₀ s' := by
  cases he
  repeat' with_reducible first | assumption | apply silwen_agree | apply ptpCfgBody_agree | (intro)

theorem candWait_agree (c : Nat) (s : State)
    (hs : Agree W r₀ s) (h0 : W .regs) (h1 : W .time) (h2 : W .disp) (h3 : W .ev) :
    Agree W r₀ (candWait c s) := by
  unfold candWait
  repeat' with_reducible first | assumption | apply candSet_agree | apply put_agree

theorem execCandidateLoss_agree {s' : State} (c : Fin 7) (s : State)
    (hs : Agree W r₀ s) (h0 : W .regs) (h1 : W .time) (h2 : W .box) (h3 : W .disp) (h4 : W .ev) (h5 : W .ref)
    (h6 : W .link) (he : execCandidateLoss c s = .next s') :
    Agree W r₀ s' := by
  cases he
  repeat' with_reducible first | assumption | apply candidateLossOp_agree

theorem candMeasure_agree (c : Nat) (m : CandMeas) (s : State)
    (hs : Agree W r₀ s) (h0 : W .regs) (h1 : W .time) (h2 : W .disp) (h3 : W .ev) (h4 : W .ref) :
    Agree W r₀ (candMeasure c m s) := by
  unfold candMeasure
  dsimp only
  repeat' with_reducible first
    | assumption | apply candAbsent_agree | apply candSet_agree | apply candWait_agree | apply modRef_agree
    | apply put_agree | apply agree_ite | (intro) | split

theorem execRealign_agree {s' : State} (c : Cmd) (s : State)
    (hs : Agree W r₀ s) (h0 : W .regs) (h1 : W .time) (h2 : W .box) (h3 : W .disp) (h4 : W .ev) (h5 : W .ref)
    (h6 : W .link) (he : execRealign c s = .next s') :
    Agree W r₀ s' := by
  cases he
  repeat' with_reducible first | assumption | apply silwen_agree | apply realignBody_agree | (intro)

theorem switchEndOp_agree (settled : Bool) (s : State)
    (hs : Agree W r₀ s) (h0 : W .regs) (h1 : W .box) (h2 : W .disp) (h3 : W .ev) (h4 : W .ref) :
    Agree W r₀ (switchEndOp settled s) := by
  unfold switchEndOp
  repeat' with_reducible first | assumption | apply switchFinish_agree | apply agree_ite | (intro) | split

theorem freeRunRate_agree (s : State)
    (hs : Agree W r₀ s) (h0 : W .regs) (h1 : W .free) :
    Agree W r₀ (freeRunRate s) := by
  unfold freeRunRate
  dsimp only
  repeat' with_reducible first
    | assumption | apply agree_setReg | apply fresh_agree | apply agree_ite | (intro) | split

theorem refMeasureOp_agree (cands : List CandMeas) (s : State)
    (hs : Agree W r₀ s) (h0 : W .regs) (h1 : W .time) (h2 : W .box) (h3 : W .disp) (h4 : W .ev) (h5 : W .ref)
    (h6 : W .link) (h7 : W .free) :
    Agree W r₀ (refMeasureOp cands s) := by
  unfold refMeasureOp
  dsimp only
  repeat' with_reducible first
    | assumption | apply refPeer_agree | apply refEvaluate_agree | apply candMeasure_agree
    | apply freeRunRate_agree | apply agree_each | (intro)

theorem execRealignWrite_agree {s' : State} (v : Word) (s : State)
    (hs : Agree W r₀ s) (h0 : W .regs) (h1 : W .held) (h2 : W .time) (h3 : W .box) (h4 : W .disp) (h5 : W .ev)
    (h6 : W .ref) (h7 : W .link) (he : execRealignWrite v s = .next s') :
    Agree W r₀ s' := by
  cases he
  repeat' with_reducible first | assumption | apply refsRegWrite_agree

theorem acquireStep_agree (d : Int) (s : State)
    (hs : Agree W r₀ s) (h0 : W .regs) (h1 : W .time) :
    Agree W r₀ (acquireStep d s) := by
  unfold acquireStep
  dsimp only
  repeat' with_reducible first
    | assumption | apply stepRequest_agree | apply modTime_agree | apply agree_ite | (intro) | split

theorem switchMeasured_agree (d : Int) (s : State)
    (hs : Agree W r₀ s) (h0 : W .regs) (h1 : W .time) (h2 : W .box) (h3 : W .disp) (h4 : W .ev) (h5 : W .ref) :
    Agree W r₀ (switchMeasured d s) := by
  unfold switchMeasured
  dsimp only
  repeat' with_reducible first
    | assumption | apply offsetNotice_agree | apply setAbsorbed_agree | apply modRef_agree | apply put_agree
    | apply acquireStep_agree | apply agree_ite | apply agree_when | (intro) | split

theorem execRefSwitchMeasured_agree {s' : State} (delta : Int) (s : State)
    (hs : Agree W r₀ s) (h0 : W .regs) (h1 : W .time) (h2 : W .box) (h3 : W .disp) (h4 : W .ev) (h5 : W .ref)
    (he : execRefSwitchMeasured delta s = .next s') :
    Agree W r₀ s' := by
  cases he
  repeat' with_reducible first | assumption | apply switchMeasured_agree

theorem execRefSwitchEnd_agree {s' : State} (settled : Bool) (s : State)
    (hs : Agree W r₀ s) (h0 : W .regs) (h1 : W .box) (h2 : W .disp) (h3 : W .ev) (h4 : W .ref)
    (he : execRefSwitchEnd settled s = .next s') :
    Agree W r₀ s' := by
  cases he
  repeat' with_reducible first | assumption | apply switchEndOp_agree

theorem execSetRefPriority_agree {s' : State} (c : Cmd) (s : State)
    (hs : Agree W r₀ s) (h0 : W .regs) (h1 : W .held) (h2 : W .time) (h3 : W .box) (h4 : W .disp) (h5 : W .ev)
    (h6 : W .ref) (h7 : W .link) (he : execSetRefPriority c s = .next s') :
    Agree W r₀ s' := by
  cases he
  repeat' with_reducible first | assumption | apply silwen_agree | apply setRefPriorityBody_agree | (intro)

end Sys2Proof.Laws
end

