-- ==== Sys2Proof/Laws/FramesNet.lean ====
section
/-! SUPPORT. Which parts of the state each operation of Machine/Net.lean may write. -/

namespace Sys2Proof.Laws
open Sys2Proof.Machine

variable {W : Part → Bool} {r₀ : State}

theorem modNet_agree (s : State) (f : NetSt → NetSt)
    (hs : Agree W r₀ s) (h0 : W .net) :
    Agree W r₀ (State.modNet s f) := by
  unfold State.modNet
  repeat' with_reducible first | assumption | (apply agree_set_net <;> assumption) | (intro) | apply agree_set_net

theorem setRx_agree (s : State) (a1 : Nat) (r : RxSt)
    (hs : Agree W r₀ s) (h0 : W .net) :
    Agree W r₀ (State.setRx s a1 r) := by
  unfold State.setRx
  repeat' with_reducible first | assumption | apply modNet_agree

theorem rxState_agree (a0 st : Nat) (c : StreamCfg) (s : State)
    (hs : Agree W r₀ s) (h0 : W .regs) (h1 : W .disp) (h2 : W .ev) :
    Agree W r₀ (rxState a0 st c s) := by
  unfold rxState
  dsimp only
  repeat' with_reducible first
    | assumption | apply raise_agree | apply put_agree | apply agree_when | apply agree_each | (intro)

theorem rxWait_agree (a0 p : Nat) (c : StreamCfg) (s : State)
    (hs : Agree W r₀ s) (h0 : W .regs) (h1 : W .disp) (h2 : W .ev) (h3 : W .net) :
    Agree W r₀ (rxWait a0 p c s) := by
  unfold rxWait
  dsimp only
  repeat' with_reducible first | assumption | apply setRx_agree | apply rxState_agree | apply put_agree

theorem txLeave_agree (a0 : Nat) (c : StreamCfg) (s : State)
    (hs : Agree W r₀ s) (h0 : W .net) :
    Agree W r₀ (txLeave a0 c s) := by
  unfold txLeave
  repeat' with_reducible first | assumption | apply modNet_agree | apply agree_ite | (intro) | split

theorem streamFree_agree (a0 : Nat) (s : State)
    (hs : Agree W r₀ s) (h0 : W .regs) (h1 : W .net) :
    Agree W r₀ (streamFree a0 s) := by
  unfold streamFree
  dsimp only
  repeat' with_reducible first
    | assumption | apply agree_setReg | apply txLeave_agree | apply modNet_agree | apply agree_ite | (intro)
    | split

theorem enqueue_agree (cls len : Nat) (ports : List Nat) (mk : Nat → Nat → QFrame) (s : State)
    (hs : Agree W r₀ s) (h0 : W .regs) (h1 : W .net) :
    Agree W r₀ (enqueue cls len ports mk s).1 := by
  unfold enqueue
  dsimp only
  repeat' with_reducible first
    | assumption | apply incSat_agree | apply modNet_agree | apply agree_ite_fst | apply agree_ite
    | apply agree_foldl | apply agree_foldl_fst | (intro) | split

theorem ownFrame_agree (p : Nat) (f : QFrame) (s : State)
    (hs : Agree W r₀ s) (h0 : W .regs) (h1 : W .net) :
    Agree W r₀ (ownFrame p f s) := by
  unfold ownFrame
  repeat' with_reducible first
    | assumption | apply enqueue_agree | apply modNet_agree | apply agree_ite | (intro) | split

theorem igmpReport_agree (v : Nat) (group : Word) (p : Nat) (s : State)
    (hs : Agree W r₀ s) (h0 : W .regs) (h1 : W .net) :
    Agree W r₀ (igmpReport v group p s) := by
  unfold igmpReport
  repeat' with_reducible first | assumption | apply ownFrame_agree

theorem igmpJoin_agree (c : StreamCfg) (s : State)
    (hs : Agree W r₀ s) (h0 : W .regs) (h1 : W .net) :
    Agree W r₀ (igmpJoin c s) := by
  unfold igmpJoin
  repeat' with_reducible first
    | assumption | apply igmpReport_agree | apply agree_ite | apply agree_each | (intro) | split

theorem rxOff_agree (a0 : Nat) (c : StreamCfg) (s : State)
    (hs : Agree W r₀ s) (h0 : W .regs) (h1 : W .disp) (h2 : W .ev) (h3 : W .net) :
    Agree W r₀ (rxOff a0 c s) := by
  unfold rxOff
  dsimp only
  repeat' with_reducible first
    | assumption | apply setRx_agree | apply rxState_agree | apply put_agree | apply modNet_agree | apply agree_ite
    | (intro) | split

theorem netLoss_agree (k : Nat) (s : State)
    (hs : Agree W r₀ s) (h0 : W .sig) :
    Agree W r₀ (netLoss k s) := by
  unfold netLoss
  dsimp only
  repeat' with_reducible first | assumption | (apply agree_set_sig <;> assumption) | apply agree_set_sig

theorem streamCommit_agree (a0 : Nat) (run remove : Bool) (p : Nat) (s : State)
    (hs : Agree W r₀ s) (h0 : W .regs) (h1 : W .box) (h2 : W .disp) (h3 : W .sig) (h4 : W .ev) (h5 : W .net) :
    Agree W r₀ (streamCommit a0 run remove p s) := by
  unfold streamCommit
  dsimp only
  repeat' with_reducible first
    | assumption | apply rxWait_agree | apply offsetNotice_agree | apply put_agree | apply streamFree_agree
    | apply txLeave_agree | apply igmpJoin_agree | apply modNet_agree | apply rxOff_agree | apply netLoss_agree
    | apply agree_ite | apply agree_when | (intro) | split

theorem streamsCheck_agree (all : Bool) (s : State)
    (hs : Agree W r₀ s) (h0 : W .regs) (h1 : W .box) (h2 : W .disp) (h3 : W .sig) (h4 : W .ev) (h5 : W .net) :
    Agree W r₀ (streamsCheck all s) := by
  unfold streamsCheck
  dsimp only
  repeat' with_reducible first
    | assumption | apply streamCommit_agree | apply offsetNotice_agree | apply put_agree | apply modNet_agree
    | apply rxOff_agree | apply netLoss_agree | apply agree_ite | apply agree_each | (intro) | split

theorem egressDone_agree (id : Nat) (s : State)
    (hs : Agree W r₀ s) (h0 : W .net) :
    Agree W r₀ (egressDone id s) := by
  unfold egressDone
  repeat' with_reducible first | assumption | apply modNet_agree | apply agree_ite | (intro) | split

theorem setPause_agree (s : State) (x : Nat) (p : PauseSt)
    (hs : Agree W r₀ s) (h0 : W .regs) (h1 : W .net) :
    Agree W r₀ (State.setPause s x p) := by
  unfold State.setPause
  repeat' with_reducible first | assumption | apply put_agree | apply modNet_agree

theorem linkDownOp_agree (p : Nat) (s : State)
    (hs : Agree W r₀ s) (h0 : W .regs) (h1 : W .disp) (h2 : W .ev) (h3 : W .net) :
    Agree W r₀ (linkDownOp p s) := by
  unfold linkDownOp
  dsimp only
  repeat' with_reducible first
    | assumption | apply incSat_agree | apply egressDone_agree | apply setPause_agree | apply raise_agree
    | apply put_agree | apply modNet_agree | apply agree_ite | apply agree_each | (intro) | split

theorem netCtlWrite_agree (v : Word) (s : State)
    (hs : Agree W r₀ s) (h0 : W .regs) (h1 : W .held) (h2 : W .box) (h3 : W .disp) (h4 : W .sig) (h5 : W .ev)
    (h6 : W .net) :
    Agree W r₀ (netCtlWrite v s) := by
  unfold netCtlWrite
  dsimp only
  repeat' with_reducible first
    | assumption | apply applyHeld_agree | apply put_agree | apply streamsCheck_agree | apply hold_agree
    | apply linkDownOp_agree | apply agree_ite | apply agree_when | (intro) | split

theorem netRegWrite_agree (off : Nat) (v : Word) (s : State)
    (hs : Agree W r₀ s) (h0 : W .regs) (h1 : W .held) (h2 : W .box) (h3 : W .disp) (h4 : W .sig) (h5 : W .ev)
    (h6 : W .net) :
    Agree W r₀ (netRegWrite off v s) := by
  unfold netRegWrite
  repeat' with_reducible first
    | assumption | apply netCtlWrite_agree | apply writeReg_agree | apply hold_agree | split

theorem incHalf_agree (a : Nat) (high : Bool) (n : Nat) (s : State)
    (hs : Agree W r₀ s) (h0 : W .regs) :
    Agree W r₀ (incHalf a high n s) := by
  unfold incHalf
  dsimp only
  repeat' with_reducible first | assumption | apply put_agree | apply agree_ite | (intro) | split

theorem rxTick_agree (k0 n0 a2 : Nat) (c : StreamCfg) (s : State)
    (hs : Agree W r₀ s) (h0 : W .regs) (h1 : W .disp) (h2 : W .sig) (h3 : W .ev) (h4 : W .net) :
    Agree W r₀ (rxTick k0 n0 a2 c s) := by
  unfold rxTick
  dsimp only
  repeat' with_reducible first
    | assumption | apply agree_setReg | apply setRx_agree | apply rxState_agree | apply incHalf_agree
    | (apply agree_set_sig <;> assumption) | apply agree_ite | apply agree_each | apply agree_foldl
    | apply agree_foldl_fst | (intro) | split | apply agree_set_sig

theorem loopProbeOp_agree (s : State)
    (hs : Agree W r₀ s) (h0 : W .regs) (h1 : W .net) :
    Agree W r₀ (loopProbeOp s) := by
  unfold loopProbeOp
  repeat' with_reducible first
    | assumption | apply enqueue_agree | apply agree_ite | apply agree_each | (intro) | split

theorem linkUpOp_agree (p speed : Nat) (s : State)
    (hs : Agree W r₀ s) (h0 : W .regs) (h1 : W .disp) (h2 : W .ev) (h3 : W .flt) (h4 : W .net) :
    Agree W r₀ (linkUpOp p speed s) := by
  unfold linkUpOp
  dsimp only
  repeat' with_reducible first
    | assumption | apply raise_agree | apply put_agree | apply unitDone_agree | apply linkDownOp_agree
    | apply agree_ite | apply agree_when | (intro) | split

theorem netRelock_agree (k : Nat) (s : State)
    (hs : Agree W r₀ s) (h0 : W .regs) (h1 : W .disp) (h2 : W .sig) (h3 : W .ev) (h4 : W .net) :
    Agree W r₀ (netRelock k s) := by
  unfold netRelock
  dsimp only
  repeat' with_reducible first
    | assumption | apply rxWait_agree | apply modNet_agree | apply netLoss_agree | apply agree_ite
    | apply agree_each | (intro) | split

theorem t1sEnable_agree (q : Nat) (en : Bool) (s : State)
    (hs : Agree W r₀ s) (h0 : W .regs) (h1 : W .disp) (h2 : W .ev) (h3 : W .net) :
    Agree W r₀ (t1sEnable q en s) := by
  unfold t1sEnable
  dsimp only
  repeat' with_reducible first
    | assumption | apply put_agree | apply linkDownOp_agree | apply agree_ite | (intro) | split

theorem t1sCfgBody_agree (c : Cmd) (s : State)
    (hs : Agree W r₀ s) (h0 : W .regs) (h1 : W .disp) (h2 : W .ev) (h3 : W .net) :
    Agree W r₀ (t1sCfgBody c s).1 := by
  unfold t1sCfgBody
  repeat' with_reducible first | assumption | apply t1sEnable_agree

theorem execT1sCfg_agree {s' : State} (c : Cmd) (s : State)
    (hs : Agree W r₀ s) (h0 : W .regs) (h1 : W .box) (h2 : W .disp) (h3 : W .ev) (h4 : W .net) (h5 : W .link)
    (he : execT1sCfg c s = .next s') :
    Agree W r₀ s' := by
  cases he
  repeat' with_reducible first | assumption | apply silwen_agree | apply t1sCfgBody_agree | (intro)

theorem ctlDescriptor_agree (f : Frame) (s : State)
    (hs : Agree W r₀ s) (h0 : W .net) :
    Agree W r₀ (ctlDescriptor f s) := by
  unfold ctlDescriptor
  repeat' with_reducible first | assumption | apply modNet_agree

theorem igmpAnswer_agree (port : Nat) (v2 : Bool) (group : Word) (s : State)
    (hs : Agree W r₀ s) (h0 : W .regs) (h1 : W .net) :
    Agree W r₀ (igmpAnswer port v2 group s) := by
  unfold igmpAnswer
  dsimp only
  repeat' with_reducible first
    | assumption | apply igmpReport_agree | apply agree_ite | apply agree_each | (intro) | split

theorem rtpTake_agree (a0 : Nat) (c : StreamCfg) (leg pt : Nat) (ts : Word) (groups : List (List Sample)) (s : State)
    (hs : Agree W r₀ s) (h0 : W .regs) (h1 : W .net) (h2 : W .free) :
    Agree W r₀ (rtpTake a0 c leg pt ts groups s) := by
  unfold rtpTake
  dsimp only
  repeat' with_reducible first
    | assumption | apply setRx_agree | apply fresh_agree | apply put_agree | apply incHalf_agree | apply agree_ite
    | apply agree_foldl | apply agree_foldl_fst | (intro) | split

theorem ptpAnswer_agree (p : Nat) (k : PtpKind) (domain : BitVec 8) (s : State)
    (hs : Agree W r₀ s) (h0 : W .regs) (h1 : W .net) :
    Agree W r₀ (ptpAnswer p k domain s) := by
  unfold ptpAnswer
  dsimp only
  repeat' with_reducible first | assumption | apply ownFrame_agree | apply agree_ite | (intro) | split

theorem netTake_agree (port cls : Nat) (f : Frame) (s : State)
    (hs : Agree W r₀ s) (h0 : W .regs) (h1 : W .net) (h2 : W .free) :
    Agree W r₀ (netTake port cls f s) := by
  unfold netTake
  repeat' with_reducible first
    | assumption | apply incSat_agree | apply ctlDescriptor_agree | apply igmpAnswer_agree | apply rtpTake_agree
    | apply ptpAnswer_agree | apply agree_ite | apply agree_when | (intro) | split

theorem rxCapture_agree (port : Nat) (f : Frame) (s : State)
    (hs : Agree W r₀ s) (h0 : W .regs) (h1 : W .time) (h2 : W .disp) (h3 : W .ev) (h4 : W .free) :
    Agree W r₀ (rxCapture port f s) := by
  unfold rxCapture
  repeat' with_reducible first | assumption | apply ptpCapture_agree | apply agree_ite | (intro) | split

theorem police_agree (len : Nat) (s : State)
    (hs : Agree W r₀ s) (h0 : W .regs) (h1 : W .net) :
    Agree W r₀ (police len s).1 := by
  unfold police
  dsimp only
  repeat' with_reducible first
    | assumption | apply incSat_agree | apply put_agree | apply modNet_agree | apply agree_ite_fst
    | apply agree_ite | (intro) | split

theorem netRxT1s_agree (q : Nat) (f : Frame) (s : State)
    (hs : Agree W r₀ s) (h0 : W .regs) (h1 : W .time) (h2 : W .disp) (h3 : W .ev) (h4 : W .net) (h5 : W .free) :
    Agree W r₀ (netRxT1s q f s) := by
  unfold netRxT1s
  dsimp only
  repeat' with_reducible first
    | assumption | apply incSat_agree | apply fresh_agree | apply netTake_agree | apply raise_agree
    | apply put_agree | apply rxCapture_agree | apply police_agree | apply agree_ite | apply agree_when | (intro)
    | split

theorem learn_agree (mac port : Nat) (s : State)
    (hs : Agree W r₀ s) (h0 : W .net) :
    Agree W r₀ (learn mac port s) := by
  unfold learn
  repeat' with_reducible first | assumption | apply modNet_agree | apply agree_ite | (intro) | split

theorem pauseFrame_agree (x q : Nat) (s : State)
    (hs : Agree W r₀ s) (h0 : W .regs) (h1 : W .net) :
    Agree W r₀ (pauseFrame x q s) := by
  unfold pauseFrame
  dsimp only
  repeat' with_reducible first
    | assumption | apply incSat_agree | apply setPause_agree | apply agree_ite | (intro) | split

theorem netRxExt_agree (x : Nat) (f : Frame) (s : State)
    (hs : Agree W r₀ s) (h0 : W .regs) (h1 : W .time) (h2 : W .disp) (h3 : W .ev) (h4 : W .net) (h5 : W .free) :
    Agree W r₀ (netRxExt x f s) := by
  unfold netRxExt
  dsimp only
  repeat' with_reducible first
    | assumption | apply incSat_agree | apply netTake_agree | apply enqueue_agree | apply raise_agree
    | apply put_agree | apply learn_agree | apply rxCapture_agree | apply police_agree | apply pauseFrame_agree
    | apply agree_ite | apply agree_when | (intro) | split

theorem netFrameRxOp_agree (port : Nat) (f : Frame) (s : State)
    (hs : Agree W r₀ s) (h0 : W .regs) (h1 : W .time) (h2 : W .disp) (h3 : W .ev) (h4 : W .net) (h5 : W .free) :
    Agree W r₀ (netFrameRxOp port f s) := by
  unfold netFrameRxOp
  repeat' with_reducible first
    | assumption | apply netRxT1s_agree | apply netRxExt_agree | apply agree_ite | (intro) | split

theorem streamRemoveBody_agree (c : Cmd) (s : State)
    (hs : Agree W r₀ s) (h0 : W .regs) (h1 : W .hamp) (h2 : W .disp) (h3 : W .ev) :
    Agree W r₀ (streamRemoveBody c s).1 := by
  unfold streamRemoveBody
  repeat' with_reducible first
    | assumption | apply submitCmd_agree | apply agree_ite_fst | apply agree_ite | (intro) | split

theorem execStreamRemove_agree {s' : State} (c : Cmd) (s : State)
    (hs : Agree W r₀ s) (h0 : W .regs) (h1 : W .box) (h2 : W .hamp) (h3 : W .disp) (h4 : W .ev) (h5 : W .link)
    (he : execStreamRemove c s = .next s') :
    Agree W r₀ s' := by
  cases he
  repeat' with_reducible first | assumption | apply silwen_agree | apply streamRemoveBody_agree | (intro)

theorem streamHeld_agree (rx : Bool) (a1 : Nat) (k : StreamCfg) (loss : Bool) (s : State)
    (hs : Agree W r₀ s) (h0 : W .regs) (h1 : W .net) :
    Agree W r₀ (streamHeld rx a1 k loss s) := by
  unfold streamHeld
  dsimp only
  repeat' with_reducible first
    | assumption | apply put_agree | apply modNet_agree | apply agree_ite | (intro) | split

theorem streamAddBody_agree (rx : Bool) (code : Nat) (c : Cmd) (s : State)
    (hs : Agree W r₀ s) (h0 : W .regs) (h1 : W .hamp) (h2 : W .disp) (h3 : W .ev) (h4 : W .net) :
    Agree W r₀ (streamAddBody rx code c s).1 := by
  unfold streamAddBody
  dsimp only
  repeat' with_reducible first
    | assumption | apply submitCmd_agree | apply streamHeld_agree | apply agree_ite_fst | apply agree_ite | (intro)
    | split

theorem netPortCfgBody_agree (c : Cmd) (s : State)
    (hs : Agree W r₀ s) (h0 : W .regs) (h1 : W .held) (h2 : W .box) (h3 : W .disp) (h4 : W .sig) (h5 : W .ev)
    (h6 : W .net) :
    Agree W r₀ (netPortCfgBody c s).1 := by
  unfold netPortCfgBody
  dsimp only
  repeat' with_reducible first
    | assumption | apply netCtlWrite_agree | apply writeReg_agree | apply hold_agree | apply modNet_agree
    | apply agree_ite_fst | apply agree_ite | (intro) | split

theorem syncIntervalOp_agree (i : Nat) (k : PtpKind) (s : State)
    (hs : Agree W r₀ s) (h0 : W .regs) (h1 : W .net) :
    Agree W r₀ (syncIntervalOp i k s) := by
  unfold syncIntervalOp
  dsimp only
  repeat' with_reducible first
    | assumption | apply enqueue_agree | apply modNet_agree | apply agree_ite | apply agree_each | (intro) | split

theorem execSyncInterval_agree {s' : State} (inst : Fin 3) (kind : PtpKind) (s : State)
    (hs : Agree W r₀ s) (h0 : W .regs) (h1 : W .net) (he : execSyncInterval inst kind s = .next s') :
    Agree W r₀ s' := by
  cases he
  repeat' with_reducible first | assumption | apply syncIntervalOp_agree

theorem sendFrame_agree (port residence : Nat) (s : State)
    (hs : Agree W r₀ s) (h0 : W .regs) (h1 : W .time) (h2 : W .disp) (h3 : W .ev) (h4 : W .net) (h5 : W .free) :
    Agree W r₀ (sendFrame port residence s) := by
  unfold sendFrame
  dsimp only
  repeat' with_reducible first
    | assumption | apply egressDone_agree | apply ptpCapture_agree | apply modNet_agree | apply agree_ite | (intro)
    | split

theorem netFrameTxOp_agree (port residence : Nat) (s : State)
    (hs : Agree W r₀ s) (h0 : W .regs) (h1 : W .time) (h2 : W .disp) (h3 : W .ev) (h4 : W .net) (h5 : W .free) :
    Agree W r₀ (netFrameTxOp port residence s) := by
  unfold netFrameTxOp
  repeat' with_reducible first | assumption | apply sendFrame_agree | apply agree_ite | (intro) | split

theorem legDownOp_agree (a0 : Nat) (legB : Bool) (s : State)
    (hs : Agree W r₀ s) (h0 : W .regs) (h1 : W .disp) (h2 : W .ev) :
    Agree W r₀ (legDownOp a0 legB s) := by
  unfold legDownOp
  dsimp only
  repeat' with_reducible first
    | assumption | apply raise_agree | apply put_agree | apply agree_ite | (intro) | split

theorem txPacket_agree (a0 : Nat) (c : StreamCfg) (t : TxSt) (m spp : Nat) (s : State)
    (hs : Agree W r₀ s) (h0 : W .regs) (h1 : W .net) :
    Agree W r₀ (txPacket a0 c t m spp s) := by
  unfold txPacket
  dsimp only
  repeat' with_reducible first
    | assumption | apply enqueue_agree | apply put_agree | apply modNet_agree | apply agree_ite | apply agree_foldl
    | apply agree_foldl_fst | (intro) | split

theorem netTxSend_agree (k : Nat) (s : State)
    (hs : Agree W r₀ s) (h0 : W .regs) (h1 : W .net) :
    Agree W r₀ (netTxSend k s) := by
  unfold netTxSend
  dsimp only
  repeat' with_reducible first
    | assumption | apply txPacket_agree | apply agree_ite | apply agree_each | (intro) | split

theorem txTrim_agree (k : Nat) (s : State)
    (hs : Agree W r₀ s) (h0 : W .net) :
    Agree W r₀ (txTrim k s) := by
  unfold txTrim
  dsimp only
  repeat' with_reducible first | assumption | apply modNet_agree

theorem netTxTick_agree (k : Nat) (s : State)
    (hs : Agree W r₀ s) (h0 : W .regs) (h1 : W .net) :
    Agree W r₀ (netTxTick k s) := by
  unfold netTxTick
  dsimp only
  repeat' with_reducible first
    | assumption | apply netTxSend_agree | apply txTrim_agree | apply modNet_agree | split

theorem netRxTick_agree (k : Nat) (s : State)
    (hs : Agree W r₀ s) (h0 : W .regs) (h1 : W .disp) (h2 : W .sig) (h3 : W .ev) (h4 : W .net) :
    Agree W r₀ (netRxTick k s) := by
  unfold netRxTick
  dsimp only
  repeat' with_reducible first
    | assumption | apply rxTick_agree | apply modNet_agree | apply netLoss_agree
    | (apply agree_set_sig <;> assumption) | apply agree_ite | apply agree_each | (intro) | split
    | apply agree_set_sig

theorem pauseExpiryOp_agree (x : Nat) (s : State)
    (hs : Agree W r₀ s) (h0 : W .regs) (h1 : W .net) :
    Agree W r₀ (pauseExpiryOp x s) := by
  unfold pauseExpiryOp
  dsimp only
  repeat' with_reducible first | assumption | apply setPause_agree | apply agree_ite | (intro) | split

theorem execPauseExpiry_agree {s' : State} (x : Fin 2) (s : State)
    (hs : Agree W r₀ s) (h0 : W .regs) (h1 : W .net) (he : execPauseExpiry x s = .next s') :
    Agree W r₀ s' := by
  cases he
  repeat' with_reducible first | assumption | apply pauseExpiryOp_agree

theorem ageOutOp_agree (mac : Nat) (s : State)
    (hs : Agree W r₀ s) (h0 : W .net) :
    Agree W r₀ (ageOutOp mac s) := by
  unfold ageOutOp
  repeat' with_reducible first | assumption | apply modNet_agree

theorem execNetFrameTx_agree {s' : State} (port : Fin 4) (residence : Nat) (s : State)
    (hs : Agree W r₀ s) (h0 : W .regs) (h1 : W .time) (h2 : W .disp) (h3 : W .ev) (h4 : W .net) (h5 : W .free)
    (he : execNetFrameTx port residence s = .next s') :
    Agree W r₀ s' := by
  cases he
  repeat' with_reducible first | assumption | apply netFrameTxOp_agree

theorem execStreamRxAdd_agree {s' : State} (c : Cmd) (s : State)
    (hs : Agree W r₀ s) (h0 : W .regs) (h1 : W .box) (h2 : W .hamp) (h3 : W .disp) (h4 : W .ev) (h5 : W .net)
    (h6 : W .link) (he : execStreamRxAdd c s = .next s') :
    Agree W r₀ s' := by
  cases he
  repeat' with_reducible first | assumption | apply silwen_agree | apply streamAddBody_agree | (intro)

theorem execNetEnable_agree {s' : State} (v : Word) (s : State)
    (hs : Agree W r₀ s) (h0 : W .regs) (h1 : W .held) (h2 : W .box) (h3 : W .disp) (h4 : W .sig) (h5 : W .ev)
    (h6 : W .net) (he : execNetEnable v s = .next s') :
    Agree W r₀ s' := by
  cases he
  repeat' with_reducible first | assumption | apply netCtlWrite_agree

theorem execStreamLegDown_agree {s' : State} (a0 : BitVec 8) (legB : Bool) (s : State)
    (hs : Agree W r₀ s) (h0 : W .regs) (h1 : W .disp) (h2 : W .ev) (he : execStreamLegDown a0 legB s = .next s') :
    Agree W r₀ s' := by
  cases he
  repeat' with_reducible first | assumption | apply legDownOp_agree

theorem execAddressAgeOut_agree {s' : State} (mac : BitVec 48) (s : State)
    (hs : Agree W r₀ s) (h0 : W .net) (he : execAddressAgeOut mac s = .next s') :
    Agree W r₀ s' := by
  cases he
  repeat' with_reducible first | assumption | apply ageOutOp_agree

theorem portFlag_agree (p : Nat) (f : FieldRef) (s : State)
    (hs : Agree W r₀ s) (h0 : W .regs) (h1 : W .disp) (h2 : W .ev) :
    Agree W r₀ (portFlag p f s) := by
  unfold portFlag
  repeat' with_reducible first
    | assumption | apply raise_agree | apply put_agree | apply agree_ite | (intro) | split

theorem t1sTxOp_agree (q : Nat) (r : T1sResult) (s : State)
    (hs : Agree W r₀ s) (h0 : W .regs) (h1 : W .time) (h2 : W .disp) (h3 : W .ev) (h4 : W .net) (h5 : W .free) :
    Agree W r₀ (t1sTxOp q r s) := by
  unfold t1sTxOp
  dsimp only
  repeat' with_reducible first
    | assumption | apply incSat_agree | apply agree_setReg | apply sendFrame_agree | apply portFlag_agree
    | apply modNet_agree | apply agree_ite | (intro) | split

theorem execT1sFrameTx_agree {s' : State} (q : Fin 2) (r : T1sResult) (s : State)
    (hs : Agree W r₀ s) (h0 : W .regs) (h1 : W .time) (h2 : W .disp) (h3 : W .ev) (h4 : W .net) (h5 : W .free)
    (he : execT1sFrameTx q r s = .next s') :
    Agree W r₀ s' := by
  cases he
  repeat' with_reducible first | assumption | apply t1sTxOp_agree

theorem pauseHoldoffOp_agree (x : Nat) (s : State)
    (hs : Agree W r₀ s) (h0 : W .regs) (h1 : W .net) :
    Agree W r₀ (pauseHoldoffOp x s) := by
  unfold pauseHoldoffOp
  dsimp only
  repeat' with_reducible first
    | assumption | apply setPause_agree | apply put_agree | apply agree_ite | (intro) | split

theorem execLoopProbe_agree {s' : State} (s : State)
    (hs : Agree W r₀ s) (h0 : W .regs) (h1 : W .net) (he : execLoopProbe s = .next s') :
    Agree W r₀ s' := by
  cases he
  repeat' with_reducible first | assumption | apply loopProbeOp_agree

theorem execNetLinkUp_agree {s' : State} (port : Fin 4) (speed : BitVec 4) (s : State)
    (hs : Agree W r₀ s) (h0 : W .regs) (h1 : W .disp) (h2 : W .ev) (h3 : W .flt) (h4 : W .net)
    (he : execNetLinkUp port speed s = .next s') :
    Agree W r₀ s' := by
  cases he
  repeat' with_reducible first | assumption | apply linkUpOp_agree

theorem pauseWatchdogOp_agree (x : Nat) (s : State)
    (hs : Agree W r₀ s) (h0 : W .regs) (h1 : W .disp) (h2 : W .ev) (h3 : W .net) :
    Agree W r₀ (pauseWatchdogOp x s) := by
  unfold pauseWatchdogOp
  dsimp only
  repeat' with_reducible first
    | assumption | apply setPause_agree | apply put_agree | apply portFlag_agree | apply agree_ite | (intro)
    | split

theorem execPauseWatchdog_agree {s' : State} (x : Fin 2) (s : State)
    (hs : Agree W r₀ s) (h0 : W .regs) (h1 : W .disp) (h2 : W .ev) (h3 : W .net)
    (he : execPauseWatchdog x s = .next s') :
    Agree W r₀ s' := by
  cases he
  repeat' with_reducible first | assumption | apply pauseWatchdogOp_agree

theorem execStreamTxAdd_agree {s' : State} (c : Cmd) (s : State)
    (hs : Agree W r₀ s) (h0 : W .regs) (h1 : W .box) (h2 : W .hamp) (h3 : W .disp) (h4 : W .ev) (h5 : W .net)
    (h6 : W .link) (he : execStreamTxAdd c s = .next s') :
    Agree W r₀ s' := by
  cases he
  repeat' with_reducible first | assumption | apply silwen_agree | apply streamAddBody_agree | (intro)

theorem execNetPortCfg_agree {s' : State} (c : Cmd) (s : State)
    (hs : Agree W r₀ s) (h0 : W .regs) (h1 : W .held) (h2 : W .box) (h3 : W .disp) (h4 : W .sig) (h5 : W .ev)
    (h6 : W .net) (h7 : W .link) (he : execNetPortCfg c s = .next s') :
    Agree W r₀ s' := by
  cases he
  repeat' with_reducible first | assumption | apply silwen_agree | apply netPortCfgBody_agree | (intro)

theorem execPauseHoldoffEnd_agree {s' : State} (x : Fin 2) (s : State)
    (hs : Agree W r₀ s) (h0 : W .regs) (h1 : W .net) (he : execPauseHoldoffEnd x s = .next s') :
    Agree W r₀ s' := by
  cases he
  repeat' with_reducible first | assumption | apply pauseHoldoffOp_agree

theorem execNetFrameRx_agree {s' : State} (port : Fin 4) (f : Frame) (s : State)
    (hs : Agree W r₀ s) (h0 : W .regs) (h1 : W .time) (h2 : W .disp) (h3 : W .ev) (h4 : W .net) (h5 : W .free)
    (he : execNetFrameRx port f s = .next s') :
    Agree W r₀ s' := by
  cases he
  repeat' with_reducible first | assumption | apply netFrameRxOp_agree

end Sys2Proof.Laws
end

