-- ==== Sys2Proof/Laws/FramesAmp.lean ====
section
/-! SUPPORT. Which parts of the state each operation of Machine/Amp.lean may write. -/

namespace Sys2Proof.Laws
open Sys2Proof.Machine

variable {W : Part → Bool} {r₀ : State}

theorem modSupv_agree (s : State) (f : SupvSt → SupvSt)
    (hs : Agree W r₀ s) (h0 : W .supv) :
    Agree W r₀ (State.modSupv s f) := by
  unfold State.modSupv
  repeat' with_reducible first
    | assumption | (apply agree_set_supv <;> assumption) | (intro) | apply agree_set_supv

theorem sweepLeave_agree (ch : Nat) (s : State)
    (hs : Agree W r₀ s) (h0 : W .regs) (h1 : W .supv) :
    Agree W r₀ (sweepLeave ch s) := by
  unfold sweepLeave
  dsimp only
  repeat' with_reducible first
    | assumption | apply put_agree | apply modSupv_agree | apply agree_ite | apply agree_each | (intro) | split

theorem modAmp_agree (s : State) (ch : Nat) (f : AmpSt → AmpSt)
    (hs : Agree W r₀ s) (h0 : W .supv) :
    Agree W r₀ (State.modAmp s ch f) := by
  unfold State.modAmp
  repeat' with_reducible first | assumption | apply modSupv_agree | (intro)

theorem lineNotify_agree (ch : Nat) (sweep periodic : Bool) (s : State)
    (hs : Agree W r₀ s) (h0 : W .box) :
    Agree W r₀ (lineNotify ch sweep periodic s) := by
  unfold lineNotify
  dsimp only
  repeat' with_reducible first | assumption | apply notify_agree

theorem ampRegWrite_agree (ch off : Nat) (v : Word) (s : State)
    (hs : Agree W r₀ s) (h0 : W .regs) (h1 : W .held) :
    Agree W r₀ (ampRegWrite ch off v s) := by
  unfold ampRegWrite
  dsimp only
  repeat' with_reducible first
    | assumption | apply put_agree | apply writeReg_agree | apply agree_ite | apply agree_when | (intro) | split

theorem sweepGo_agree (s : State)
    (hs : Agree W r₀ s) (h0 : W .supv) :
    Agree W r₀ (sweepGo s) := by
  unfold sweepGo
  repeat' with_reducible first | assumption | apply modSupv_agree

theorem supvRegWrite_agree (off : Nat) (v : Word) (s : State)
    (hs : Agree W r₀ s) (h0 : W .regs) (h1 : W .held) (h2 : W .supv) :
    Agree W r₀ (supvRegWrite off v s) := by
  unfold supvRegWrite
  dsimp only
  repeat' with_reducible first
    | assumption | apply sweepGo_agree | apply put_agree | apply writeReg_agree | apply agree_ite
    | apply agree_when | (intro) | split

theorem lineFromState_agree (ch : Nat) (s : State)
    (hs : Agree W r₀ s) (h0 : W .regs) (h1 : W .supv) :
    Agree W r₀ (lineFromState ch s) := by
  unfold lineFromState
  dsimp only
  repeat' with_reducible first
    | assumption | apply modAmp_agree | apply put_agree | apply agree_ite | apply agree_each | (intro) | split

theorem setAmpState_agree (ch st : Nat) (s : State)
    (hs : Agree W r₀ s) (h0 : W .regs) (h1 : W .box) (h2 : W .flt) (h3 : W .supv) (h4 : W .link) :
    Agree W r₀ (setAmpState ch st s) := by
  unfold setAmpState
  dsimp only
  repeat' with_reducible first
    | assumption | apply lineFromState_agree | apply complete_agree | apply modAmp_agree | apply put_agree
    | apply unitDone_agree | apply modSupv_agree | apply agree_ite | apply agree_when | apply agree_each | (intro)
    | split

theorem ampReport_agree (old : State) (ch : Nat) (s : State)
    (hold : Agree W r₀ old) (hs : Agree W r₀ s) (h0 : W .regs) (h1 : W .box) (h2 : W .disp) (h3 : W .ev) :
    Agree W r₀ (ampReport old ch s) := by
  unfold ampReport
  dsimp only
  repeat' with_reducible first
    | assumption | apply raise_agree | apply lineNotify_agree | apply agree_when | (intro)

theorem ampWatch_agree (chs : List Nat) (f : State → State) (s : State)
    (hf : ∀ s, Agree W r₀ s → Agree W r₀ (f s)) (hs : Agree W r₀ s) (h0 : W .regs) (h1 : W .box) (h2 : W .disp)
    (h3 : W .ev) :
    Agree W r₀ (ampWatch chs f s) := by
  unfold ampWatch
  repeat' with_reducible first | assumption | apply hf | apply ampReport_agree | apply agree_each | (intro)

theorem ampFbopen_agree (ch : Nat) (s : State)
    (hs : Agree W r₀ s) (h0 : W .regs) (h1 : W .box) (h2 : W .disp) (h3 : W .ev) (h4 : W .flt) (h5 : W .supv)
    (h6 : W .link) :
    Agree W r₀ (ampFbopen ch s) := by
  unfold ampFbopen
  repeat' with_reducible first
    | assumption | apply put_agree | apply setAmpState_agree | apply ampWatch_agree | (intro)

theorem ampCheckOp_agree (ch : Nat) (toggled : Bool) (s : State)
    (hs : Agree W r₀ s) (h0 : W .regs) (h1 : W .box) (h2 : W .disp) (h3 : W .ev) (h4 : W .flt) (h5 : W .supv)
    (h6 : W .link) :
    Agree W r₀ (ampCheckOp ch toggled s) := by
  unfold ampCheckOp
  repeat' with_reducible first
    | assumption | apply ampFbopen_agree | apply modAmp_agree | apply setAmpState_agree | apply ampWatch_agree
    | apply agree_ite | (intro) | split

theorem ampFields_agree (ch : Nat) (c : Cmd) (s : State)
    (hs : Agree W r₀ s) (h0 : W .regs) (h1 : W .held) :
    Agree W r₀ (ampFields ch c s) := by
  unfold ampFields
  dsimp only
  repeat' with_reducible first
    | assumption | apply ampRegWrite_agree | apply agree_ite | apply agree_each | (intro) | split

theorem ampCfgBody_agree (c : Cmd) (s : State)
    (hs : Agree W r₀ s) (h0 : W .regs) (h1 : W .held) (h2 : W .hamp) (h3 : W .disp) (h4 : W .ev) :
    Agree W r₀ (ampCfgBody c s).1 := by
  unfold ampCfgBody
  dsimp only
  repeat' with_reducible first
    | assumption | apply submitCmd_agree | apply ampFields_agree | apply agree_ite_fst | apply agree_ite | (intro)
    | split

theorem execAmpCfg_agree {s' : State} (c : Cmd) (s : State)
    (hs : Agree W r₀ s) (h0 : W .regs) (h1 : W .held) (h2 : W .box) (h3 : W .hamp) (h4 : W .disp) (h5 : W .ev)
    (h6 : W .link) (he : execAmpCfg c s = .next s') :
    Agree W r₀ s' := by
  cases he
  repeat' with_reducible first | assumption | apply silwen_agree | apply ampCfgBody_agree | (intro)

theorem baselineOff_agree (ch : Nat) (s : State)
    (hs : Agree W r₀ s) (h0 : W .regs) :
    Agree W r₀ (baselineOff ch s) := by
  unfold baselineOff
  repeat' with_reducible first | assumption | apply put_agree

theorem ampEngineStart_agree (s : State)
    (hs : Agree W r₀ s) (h0 : W .regs) :
    Agree W r₀ (ampEngineStart s) := by
  unfold ampEngineStart
  dsimp only
  repeat' with_reducible first
    | assumption | apply baselineOff_agree | apply put_agree | apply agree_ite | apply agree_each | (intro) | split

theorem ampPolarityOp_agree (ch : Nat) (reversed : Bool) (s : State)
    (hs : Agree W r₀ s) (h0 : W .regs) (h1 : W .box) (h2 : W .disp) (h3 : W .ev) (h4 : W .flt) (h5 : W .supv) :
    Agree W r₀ (ampPolarityOp ch reversed s) := by
  unfold ampPolarityOp
  dsimp only
  repeat' with_reducible first
    | assumption | apply modAmp_agree | apply put_agree | apply notice_agree | apply agree_ite | apply agree_when
    | (intro) | split

theorem sweepSchedule_agree (start : Nat) (mask : Option Word) (tok : Option Tok) (s : State)
    (hs : Agree W r₀ s) (h0 : W .supv) :
    Agree W r₀ (sweepSchedule start mask tok s) := by
  unfold sweepSchedule
  dsimp only
  repeat' with_reducible first | assumption | apply modSupv_agree | apply agree_ite | (intro) | split

theorem quietSweepBody_agree (c : Cmd) (s : State)
    (hs : Agree W r₀ s) (h0 : W .supv) :
    Agree W r₀ (quietSweepBody c s).1 := by
  unfold quietSweepBody
  repeat' with_reducible first
    | assumption | apply sweepSchedule_agree | apply agree_ite_fst | apply agree_ite | (intro) | split

theorem execQuietSweep_agree {s' : State} (c : Cmd) (s : State)
    (hs : Agree W r₀ s) (h0 : W .regs) (h1 : W .box) (h2 : W .disp) (h3 : W .ev) (h4 : W .supv) (h5 : W .link)
    (he : execQuietSweep c s = .next s') :
    Agree W r₀ s' := by
  cases he
  repeat' with_reducible first | assumption | apply silwen_agree | apply quietSweepBody_agree | (intro)

theorem ampReturnEndOp_agree (ch : Nat) (s : State)
    (hs : Agree W r₀ s) (h0 : W .regs) (h1 : W .box) (h2 : W .disp) (h3 : W .ev) (h4 : W .flt) (h5 : W .supv)
    (h6 : W .link) :
    Agree W r₀ (ampReturnEndOp ch s) := by
  unfold ampReturnEndOp
  repeat' with_reducible first
    | assumption | apply setAmpState_agree | apply ampWatch_agree | apply agree_ite | (intro) | split

theorem execAmpReturnEnd_agree {s' : State} (ch : Fin 32) (s : State)
    (hs : Agree W r₀ s) (h0 : W .regs) (h1 : W .box) (h2 : W .disp) (h3 : W .ev) (h4 : W .flt) (h5 : W .supv)
    (h6 : W .link) (he : execAmpReturnEnd ch s = .next s') :
    Agree W r₀ s' := by
  cases he
  repeat' with_reducible first | assumption | apply ampReturnEndOp_agree

theorem lineBaselineBody_agree (c : Cmd) (s : State)
    (hs : Agree W r₀ s) (h0 : W .supv) :
    Agree W r₀ (lineBaselineBody c s).1 := by
  unfold lineBaselineBody
  dsimp only
  repeat' with_reducible first
    | assumption | apply modAmp_agree | apply modSupv_agree | apply agree_ite_fst | apply agree_ite
    | apply agree_each | (intro) | split

theorem execLineBaseline_agree {s' : State} (c : Cmd) (s : State)
    (hs : Agree W r₀ s) (h0 : W .regs) (h1 : W .box) (h2 : W .disp) (h3 : W .ev) (h4 : W .supv) (h5 : W .link)
    (he : execLineBaseline c s = .next s') :
    Agree W r₀ s' := by
  cases he
  repeat' with_reducible first | assumption | apply silwen_agree | apply lineBaselineBody_agree | (intro)

theorem railCfgBody_agree (c : Cmd) (s : State)
    (hs : Agree W r₀ s) (h0 : W .regs) (h1 : W .held) (h2 : W .supv) :
    Agree W r₀ (railCfgBody c s).1 := by
  unfold railCfgBody
  dsimp only
  repeat' with_reducible first | assumption | apply supvRegWrite_agree

theorem ampPairBody_agree (c : Cmd) (s : State)
    (hs : Agree W r₀ s) (h0 : W .regs) (h1 : W .held) :
    Agree W r₀ (ampPairBody c s).1 := by
  unfold ampPairBody
  dsimp only
  repeat' with_reducible first
    | assumption | apply agree_setReg | apply put_agree | (apply agree_set_held <;> assumption)
    | apply agree_ite_fst | apply agree_ite | apply agree_when | (intro) | split | apply agree_set_held

theorem ampApply_agree (ch : Nat) (s : State)
    (hs : Agree W r₀ s) (h0 : W .regs) (h1 : W .held) :
    Agree W r₀ (ampApply ch s) := by
  unfold ampApply
  dsimp only
  repeat' with_reducible first
    | assumption | apply applyHeld_agree | apply baselineOff_agree | apply put_agree | apply agree_when | (intro)

theorem ampBegin_agree (ch : Nat) (s : State)
    (hs : Agree W r₀ s) (h0 : W .regs) (h1 : W .held) (h2 : W .box) (h3 : W .flt) (h4 : W .supv) (h5 : W .link) :
    Agree W r₀ (ampBegin ch s) := by
  unfold ampBegin
  dsimp only
  repeat' with_reducible first
    | assumption | apply ampApply_agree | apply modAmp_agree | apply put_agree | apply setAmpState_agree
    | apply agree_when | (intro)

theorem powerTick_agree (ch p : Nat) (s : State)
    (hs : Agree W r₀ s) (h0 : W .regs) (h1 : W .supv) :
    Agree W r₀ (powerTick ch p s) := by
  unfold powerTick
  dsimp only
  repeat' with_reducible first
    | assumption | apply modAmp_agree | apply put_agree | apply agree_ite | (intro) | split

theorem runCommit1_agree (ch : Nat) (on : Bool) (n : Nat) (s : State)
    (hs : Agree W r₀ s) (h0 : W .regs) (h1 : W .box) (h2 : W .flt) (h3 : W .supv) (h4 : W .link) :
    Agree W r₀ (runCommit1 ch on n s) := by
  unfold runCommit1
  dsimp only
  repeat' with_reducible first
    | assumption | apply modAmp_agree | apply put_agree | apply setAmpState_agree | apply agree_ite | (intro)
    | split

theorem ampStopEndOp_agree (ch : Nat) (s : State)
    (hs : Agree W r₀ s) (h0 : W .regs) (h1 : W .box) (h2 : W .disp) (h3 : W .ev) (h4 : W .flt) (h5 : W .supv)
    (h6 : W .link) :
    Agree W r₀ (ampStopEndOp ch s) := by
  unfold ampStopEndOp
  repeat' with_reducible first
    | assumption | apply modAmp_agree | apply setAmpState_agree | apply ampWatch_agree | apply agree_ite | (intro)
    | split

theorem shortPos_agree (ch z : Nat) (s : State)
    (hs : Agree W r₀ s) (h0 : W .regs) (h1 : W .free) :
    Agree W r₀ (shortPos ch z s) := by
  unfold shortPos
  dsimp only
  repeat' with_reducible first
    | assumption | apply fresh_agree | apply put_agree | apply agree_ite | (intro) | split

theorem ampShort_agree (ch : Nat) (s : State)
    (hs : Agree W r₀ s) (h0 : W .regs) (h1 : W .box) (h2 : W .flt) (h3 : W .supv) (h4 : W .link) :
    Agree W r₀ (ampShort ch s) := by
  unfold ampShort
  dsimp only
  repeat' with_reducible first
    | assumption | apply incSat_agree | apply sweepLeave_agree | apply modAmp_agree | apply put_agree
    | apply setAmpState_agree

theorem execRailCfg_agree {s' : State} (c : Cmd) (s : State)
    (hs : Agree W r₀ s) (h0 : W .regs) (h1 : W .held) (h2 : W .box) (h3 : W .disp) (h4 : W .ev) (h5 : W .supv)
    (h6 : W .link) (he : execRailCfg c s = .next s') :
    Agree W r₀ s' := by
  cases he
  repeat' with_reducible first | assumption | apply silwen_agree | apply railCfgBody_agree | (intro)

theorem sweepDisturb_agree (ch : Nat) (s : State)
    (hs : Agree W r₀ s) (h0 : W .supv) :
    Agree W r₀ (sweepDisturb ch s) := by
  unfold sweepDisturb
  dsimp only
  repeat' with_reducible first | assumption | apply modSupv_agree | apply agree_ite | (intro) | split

theorem commandTick_agree (ch : Nat) (s : State)
    (hs : Agree W r₀ s) (h0 : W .regs) (h1 : W .supv) :
    Agree W r₀ (commandTick ch s) := by
  unfold commandTick
  dsimp only
  repeat' with_reducible first
    | assumption | apply agree_setReg | apply modAmp_agree | apply put_agree | apply sweepDisturb_agree
    | apply agree_ite | apply agree_when | apply agree_foldl | apply agree_foldl_fst | (intro) | split

theorem ampLimitTick_agree (ch p : Nat) (s : State)
    (hs : Agree W r₀ s) (h0 : W .regs) (h1 : W .supv) :
    Agree W r₀ (ampLimitTick ch p s) := by
  unfold ampLimitTick
  dsimp only
  repeat' with_reducible first
    | assumption | apply powerTick_agree | apply commandTick_agree | apply sweepDisturb_agree | apply agree_when
    | (intro)

theorem railTick_agree (g mv : Nat) (s : State)
    (hs : Agree W r₀ s) (h0 : W .regs) (h1 : W .held) (h2 : W .box) (h3 : W .disp) (h4 : W .ev) (h5 : W .flt)
    (h6 : W .supv) (h7 : W .link) :
    Agree W r₀ (railTick g mv s) := by
  unfold railTick
  dsimp only
  repeat' with_reducible first
    | assumption | apply ampBegin_agree | apply raise_agree | apply put_agree | apply setAmpState_agree
    | apply modSupv_agree | apply agree_ite | apply agree_each | (intro) | split

theorem ampTick_agree (m : RoundMeas) (s : State)
    (hs : Agree W r₀ s) (h0 : W .regs) (h1 : W .held) (h2 : W .box) (h3 : W .disp) (h4 : W .ev) (h5 : W .flt)
    (h6 : W .supv) (h7 : W .link) (h8 : W .free) :
    Agree W r₀ (ampTick m s) := by
  unfold ampTick
  dsimp only
  repeat' with_reducible first
    | assumption | apply fresh_agree | apply ampLimitTick_agree | apply railTick_agree | apply ampWatch_agree
    | apply agree_each | (intro)

theorem ampLooperrOp_agree (ch : Nat) (s : State)
    (hs : Agree W r₀ s) (h0 : W .regs) (h1 : W .box) (h2 : W .disp) (h3 : W .ev) (h4 : W .flt) (h5 : W .supv)
    (h6 : W .link) :
    Agree W r₀ (ampLooperrOp ch s) := by
  unfold ampLooperrOp
  repeat' with_reducible first
    | assumption | apply put_agree | apply setAmpState_agree | apply ampWatch_agree | apply agree_ite | (intro)
    | split

theorem ampCommit_agree (ch fld : Nat) (v : Word) (n : Nat) (s : State)
    (hs : Agree W r₀ s) (h0 : W .regs) (h1 : W .box) (h2 : W .disp) (h3 : W .ev) (h4 : W .flt) (h5 : W .supv)
    (h6 : W .link) :
    Agree W r₀ (ampCommit ch fld v n s) := by
  unfold ampCommit
  repeat' with_reducible first
    | assumption | apply runCommit1_agree | apply put_agree | apply ampWatch_agree | apply agree_each | (intro)
    | split

theorem ampProbeOp_agree (ch : Nat) (s : State)
    (hs : Agree W r₀ s) (h0 : W .supv) :
    Agree W r₀ (ampProbeOp ch s) := by
  unfold ampProbeOp
  dsimp only
  repeat' with_reducible first | assumption | apply modAmp_agree | apply agree_ite | (intro) | split

theorem execAmpProbe_agree {s' : State} (ch : Fin 32) (s : State)
    (hs : Agree W r₀ s) (h0 : W .supv) (he : execAmpProbe ch s = .next s') :
    Agree W r₀ s' := by
  cases he
  repeat' with_reducible first | assumption | apply ampProbeOp_agree

theorem probeClearOp_agree (ch : Nat) (s : State)
    (hs : Agree W r₀ s) (h0 : W .regs) :
    Agree W r₀ (probeClearOp ch s) := by
  unfold probeClearOp
  repeat' with_reducible first | assumption | apply put_agree | apply agree_ite | (intro) | split

theorem execProbeFailureCountClear_agree {s' : State} (ch : Fin 32) (s : State)
    (hs : Agree W r₀ s) (h0 : W .regs) (he : execProbeFailureCountClear ch s = .next s') :
    Agree W r₀ s' := by
  cases he
  repeat' with_reducible first | assumption | apply probeClearOp_agree

theorem ampProbeEndOp_agree (ch : Nat) (limited : Bool) (z : Nat) (s : State)
    (hs : Agree W r₀ s) (h0 : W .regs) (h1 : W .box) (h2 : W .disp) (h3 : W .ev) (h4 : W .flt) (h5 : W .supv)
    (h6 : W .link) (h7 : W .free) :
    Agree W r₀ (ampProbeEndOp ch limited z s) := by
  unfold ampProbeEndOp
  dsimp only
  repeat' with_reducible first
    | assumption | apply shortPos_agree | apply incField_agree | apply modAmp_agree | apply setAmpState_agree
    | apply ampWatch_agree | apply agree_ite | (intro) | split

theorem execAmpProbeEnd_agree {s' : State} (ch : Fin 32) (limited : Bool) (z : BitVec 24) (s : State)
    (hs : Agree W r₀ s) (h0 : W .regs) (h1 : W .box) (h2 : W .disp) (h3 : W .ev) (h4 : W .flt) (h5 : W .supv)
    (h6 : W .link) (h7 : W .free) (he : execAmpProbeEnd ch limited z s = .next s') :
    Agree W r₀ s' := by
  cases he
  repeat' with_reducible first | assumption | apply ampProbeEndOp_agree

theorem ampStartOp_agree (ch : Nat) (s : State)
    (hs : Agree W r₀ s) (h0 : W .regs) (h1 : W .held) (h2 : W .box) (h3 : W .disp) (h4 : W .ev) (h5 : W .flt)
    (h6 : W .supv) (h7 : W .link) :
    Agree W r₀ (ampStartOp ch s) := by
  unfold ampStartOp
  repeat' with_reducible first
    | assumption | apply ampBegin_agree | apply ampWatch_agree | apply agree_ite | (intro) | split

theorem execAmpStart_agree {s' : State} (ch : Fin 32) (s : State)
    (hs : Agree W r₀ s) (h0 : W .regs) (h1 : W .held) (h2 : W .box) (h3 : W .disp) (h4 : W .ev) (h5 : W .flt)
    (h6 : W .supv) (h7 : W .link) (he : execAmpStart ch s = .next s') :
    Agree W r₀ s' := by
  cases he
  repeat' with_reducible first | assumption | apply ampStartOp_agree

theorem ampFbopenOp_agree (ch : Nat) (s : State)
    (hs : Agree W r₀ s) (h0 : W .regs) (h1 : W .box) (h2 : W .disp) (h3 : W .ev) (h4 : W .flt) (h5 : W .supv)
    (h6 : W .link) :
    Agree W r₀ (ampFbopenOp ch s) := by
  unfold ampFbopenOp
  repeat' with_reducible first | assumption | apply ampFbopen_agree | apply agree_ite | (intro) | split

theorem execAmpStopRampEnd_agree {s' : State} (ch : Fin 32) (s : State)
    (hs : Agree W r₀ s) (h0 : W .regs) (h1 : W .box) (h2 : W .disp) (h3 : W .ev) (h4 : W .flt) (h5 : W .supv)
    (h6 : W .link) (he : execAmpStopRampEnd ch s = .next s') :
    Agree W r₀ s' := by
  cases he
  repeat' with_reducible first | assumption | apply ampStopEndOp_agree

theorem execAmpPair_agree {s' : State} (c : Cmd) (s : State)
    (hs : Agree W r₀ s) (h0 : W .regs) (h1 : W .held) (h2 : W .box) (h3 : W .disp) (h4 : W .ev) (h5 : W .link)
    (he : execAmpPair c s = .next s') :
    Agree W r₀ s' := by
  cases he
  repeat' with_reducible first | assumption | apply silwen_agree | apply ampPairBody_agree | (intro)

theorem ampOscOp_agree (ch : Nat) (s : State)
    (hs : Agree W r₀ s) (h0 : W .supv) :
    Agree W r₀ (ampOscOp ch s) := by
  unfold ampOscOp
  repeat' with_reducible first | assumption | apply modAmp_agree | apply agree_ite | (intro) | split

theorem ampLimitOp_agree (ch : Nat) (consecutive : Bool) (s : State)
    (hs : Agree W r₀ s) (h0 : W .regs) (h1 : W .box) (h2 : W .disp) (h3 : W .ev) (h4 : W .flt) (h5 : W .supv)
    (h6 : W .link) :
    Agree W r₀ (ampLimitOp ch consecutive s) := by
  unfold ampLimitOp
  dsimp only
  repeat' with_reducible first
    | assumption | apply incSat_agree | apply agree_setReg | apply ampShort_agree | apply modAmp_agree
    | apply sweepDisturb_agree | apply ampWatch_agree | apply agree_ite | (intro) | split

theorem execAmpOscEnable_agree {s' : State} (ch : Fin 32) (s : State)
    (hs : Agree W r₀ s) (h0 : W .supv) (he : execAmpOscEnable ch s = .next s') :
    Agree W r₀ s' := by
  cases he
  repeat' with_reducible first | assumption | apply ampOscOp_agree

theorem execAmpPolarityCheck_agree {s' : State} (ch : Fin 32) (reversed : Bool) (s : State)
    (hs : Agree W r₀ s) (h0 : W .regs) (h1 : W .box) (h2 : W .disp) (h3 : W .ev) (h4 : W .flt) (h5 : W .supv)
    (he : execAmpPolarityCheck ch reversed s = .next s') :
    Agree W r₀ s' := by
  cases he
  repeat' with_reducible first | assumption | apply ampPolarityOp_agree

theorem execSupvSweepGo_agree {s' : State} (s : State)
    (hs : Agree W r₀ s) (h0 : W .supv) (he : execSupvSweepGo s = .next s') :
    Agree W r₀ s' := by
  cases he
  repeat' with_reducible first | assumption | apply sweepGo_agree

end Sys2Proof.Laws
end

