-- ==== Sys2Proof/Laws/FramesSupv.lean ====
section
/-! SUPPORT. Which parts of the state each operation of Machine/Supv.lean may write. -/

namespace Sys2Proof.Laws
open Sys2Proof.Machine

variable {W : Part → Bool} {r₀ : State}

theorem sweepFinish_agree (s : State)
    (hs : Agree W r₀ s) (h0 : W .regs) (h1 : W .box) (h2 : W .supv) (h3 : W .link) :
    Agree W r₀ (sweepFinish s) := by
  unfold sweepFinish
  dsimp only
  repeat' with_reducible first
    | assumption | apply complete_agree | apply modAmp_agree | apply put_agree | apply lineNotify_agree
    | apply modSupv_agree | apply agree_ite | apply agree_each | (intro) | split

theorem sweepStartOp_agree (s : State)
    (hs : Agree W r₀ s) (h0 : W .regs) (h1 : W .supv) (h2 : W .night) :
    Agree W r₀ (sweepStartOp s) := by
  unfold sweepStartOp
  dsimp only
  repeat' with_reducible first
    | assumption | apply agree_setReg | apply put_agree | apply modSupv_agree
    | (apply agree_set_night <;> assumption) | apply agree_ite | (intro) | split | apply agree_set_night

theorem execQuietSweepStart_agree {s' : State} (s : State)
    (hs : Agree W r₀ s) (h0 : W .regs) (h1 : W .supv) (h2 : W .night) (he : execQuietSweepStart s = .next s') :
    Agree W r₀ s' := by
  cases he
  repeat' with_reducible first | assumption | apply sweepStartOp_agree

theorem trimTake_agree (l : Nat) (i : Option (Nat × Nat)) (s : State)
    (hs : Agree W r₀ s) (h0 : W .regs) :
    Agree W r₀ (trimTake l i s) := by
  unfold trimTake
  dsimp only
  repeat' with_reducible first | assumption | apply put_agree | apply agree_ite | (intro) | split

theorem lineTake_agree (l z : Nat) (s : State)
    (hs : Agree W r₀ s) (h0 : W .regs) (h1 : W .supv) (h2 : W .free) :
    Agree W r₀ (lineTake l z s) := by
  unfold lineTake
  dsimp only
  repeat' with_reducible first
    | assumption | apply fresh_agree | apply modAmp_agree | apply put_agree | apply agree_ite | apply agree_each
    | (intro) | split

theorem baseTake_agree (l z r : Nat) (s : State)
    (hs : Agree W r₀ s) (h0 : W .regs) (h1 : W .supv) (h2 : W .free) :
    Agree W r₀ (baseTake l z r s) := by
  unfold baseTake
  dsimp only
  repeat' with_reducible first
    | assumption | apply fresh_agree | apply modAmp_agree | apply put_agree | apply agree_ite | apply agree_when
    | (intro) | split

theorem cutTake_agree (l r shareA : Nat) (s : State)
    (hs : Agree W r₀ s) (h0 : W .regs) (h1 : W .supv) :
    Agree W r₀ (cutTake l r shareA s) := by
  unfold cutTake
  dsimp only
  repeat' with_reducible first
    | assumption | apply modAmp_agree | apply put_agree | apply agree_ite | (intro) | split

theorem loopTake_agree (ms : List LineMeas) (a b : LineMeas) (s : State)
    (hs : Agree W r₀ s) (h0 : W .regs) (h1 : W .supv) (h2 : W .free) :
    Agree W r₀ (loopTake ms a b s) := by
  unfold loopTake
  dsimp only
  repeat' with_reducible first | assumption | apply cutTake_agree | apply lineTake_agree | apply baseTake_agree

theorem intervalChan_agree (ms : List LineMeas) (m : LineMeas) (s : State)
    (hs : Agree W r₀ s) (h0 : W .regs) (h1 : W .supv) (h2 : W .free) :
    Agree W r₀ (intervalChan ms m s) := by
  unfold intervalChan
  dsimp only
  repeat' with_reducible first
    | assumption | apply put_agree | apply trimTake_agree | apply lineTake_agree | apply baseTake_agree
    | apply loopTake_agree | apply agree_ite | apply agree_when | (intro) | split

theorem pointTake_agree (w : SweepRun) (ch : Nat) (points : List PointMeas) (s : State)
    (hs : Agree W r₀ s) (h0 : W .regs) (h1 : W .supv) (h2 : W .free) :
    Agree W r₀ (pointTake w ch points s) := by
  unfold pointTake
  dsimp only
  repeat' with_reducible first
    | assumption | apply fresh_agree | apply modAmp_agree | apply put_agree | apply agree_ite | apply agree_when
    | (intro) | split

theorem sweepPointOp_agree (points : List PointMeas) (s : State)
    (hs : Agree W r₀ s) (h0 : W .regs) (h1 : W .supv) (h2 : W .free) :
    Agree W r₀ (sweepPointOp points s) := by
  unfold sweepPointOp
  dsimp only
  repeat' with_reducible first
    | assumption | apply pointTake_agree | apply modSupv_agree | apply agree_ite | apply agree_each | (intro)
    | split

theorem execSweepPointEnd_agree {s' : State} (points : List PointMeas) (s : State)
    (hs : Agree W r₀ s) (h0 : W .regs) (h1 : W .supv) (h2 : W .free)
    (he : execSweepPointEnd points s = .next s') :
    Agree W r₀ s' := by
  cases he
  repeat' with_reducible first | assumption | apply sweepPointOp_agree

theorem intervalGroup_agree (m : GroupMeas) (s : State)
    (hs : Agree W r₀ s) (h0 : W .regs) (h1 : W .disp) (h2 : W .ev) :
    Agree W r₀ (intervalGroup m s) := by
  unfold intervalGroup
  dsimp only
  repeat' with_reducible first
    | assumption | apply raise_agree | apply put_agree | apply agree_ite | apply agree_when | (intro) | split

theorem supvIntervalOp_agree (lines : List LineMeas) (groups : List GroupMeas) (s : State)
    (hs : Agree W r₀ s) (h0 : W .regs) (h1 : W .box) (h2 : W .disp) (h3 : W .ev) (h4 : W .supv) (h5 : W .link)
    (h6 : W .free) :
    Agree W r₀ (supvIntervalOp lines groups s) := by
  unfold supvIntervalOp
  dsimp only
  repeat' with_reducible first
    | assumption | apply intervalChan_agree | apply complete_agree | apply modAmp_agree | apply lineNotify_agree
    | apply modSupv_agree | apply ampWatch_agree | apply intervalGroup_agree | apply agree_when | apply agree_each
    | (intro)

end Sys2Proof.Laws
end

