-- ==== Sys2Proof/Laws/FramesEngine.lean ====
section
/-! SUPPORT. Which parts of the state each operation of Machine/Engine.lean may write. -/

namespace Sys2Proof.Laws
open Sys2Proof.Machine

variable {W : Part → Bool} {r₀ : State}

theorem settleStage_agree (isMatrix : Bool) (s : State)
    (hs : Agree W r₀ s) (h0 : W .regs) (h1 : W .mem) (h2 : W .path) :
    Agree W r₀ (settleStage isMatrix s) := by
  unfold settleStage
  dsimp only
  repeat' with_reducible first
    | assumption | apply put_agree | apply modPath_agree | apply copyMem_agree | apply agree_ite | (intro) | split

theorem settleSel_agree (j : Nat) (v : Selector) (s : State)
    (hs : Agree W r₀ s) (h0 : W .regs) (h1 : W .path) :
    Agree W r₀ (settleSel j v s) := by
  unfold settleSel
  dsimp only
  repeat' with_reducible first
    | assumption | apply put_agree | apply setSel_agree | apply agree_ite | (intro) | split

theorem settlePatch_agree (e : Nat) (s : State)
    (hs : Agree W r₀ s) (h0 : W .regs) (h1 : W .mem) (h2 : W .box) (h3 : W .path) (h4 : W .memx) (h5 : W .link) :
    Agree W r₀ (settlePatch e s) := by
  unfold settlePatch
  dsimp only
  repeat' with_reducible first
    | assumption | apply complete_agree | apply put_agree | apply modPath_agree | apply setCoef_agree | split

theorem engineSettle_agree (s : State)
    (hs : Agree W r₀ s) (h0 : W .regs) (h1 : W .mem) (h2 : W .box) (h3 : W .path) (h4 : W .mods) (h5 : W .disp)
    (h6 : W .sig) (h7 : W .supv) (h8 : W .memx) (h9 : W .link) :
    Agree W r₀ (engineSettle s) := by
  unfold engineSettle
  dsimp only
  repeat' with_reducible first
    | assumption | apply sweepLeave_agree | apply setParam_agree | apply sweepFinish_agree | apply complete_agree
    | apply settleStage_agree | apply settleSel_agree | apply modDisp_agree | apply modPath_agree
    | apply modSupv_agree | apply settlePatch_agree | (apply agree_set_sig <;> assumption)
    | (apply agree_set_mods <;> assumption) | apply agree_each | (intro) | split | apply agree_set_sig
    | apply agree_set_mods

theorem modEng_agree (s : State) (f : EngSt → EngSt)
    (hs : Agree W r₀ s) (h0 : W .eng) :
    Agree W r₀ (State.modEng s f) := by
  unfold State.modEng
  repeat' with_reducible first | assumption | (apply agree_set_eng <;> assumption) | (intro) | apply agree_set_eng

theorem rateRampOp_agree (s : State)
    (hs : Agree W r₀ s) (h0 : W .eng) :
    Agree W r₀ (rateRampOp s) := by
  unfold rateRampOp
  repeat' with_reducible first | assumption | apply modEng_agree | apply agree_ite | (intro) | split

theorem engineStart_agree (s : State)
    (hs : Agree W r₀ s) (h0 : W .regs) (h1 : W .held) (h2 : W .mem) (h3 : W .eng) (h4 : W .box) (h5 : W .mods)
    (h6 : W .disp) (h7 : W .sig) (h8 : W .cores) (h9 : W .ev) (h10 : W .flt) (h11 : W .tdm) (h12 : W .net)
    (h13 : W .memx) (h14 : W .free) :
    Agree W r₀ (engineStart s) := by
  unfold engineStart
  dsimp only
  repeat' with_reducible first
    | assumption | apply agree_setReg | apply modEng_agree | apply genCommit_agree | apply imemFlush_agree
    | apply applyHeld_agree | apply ampEngineStart_agree | apply put_agree | apply tdmEngineStart_agree
    | apply streamsCheck_agree | apply netRelock_agree | apply unitDone_agree | apply buildTemplate_agree
    | (apply agree_set_disp_cores <;> assumption) | apply agree_each | (intro) | apply agree_set_disp_cores

theorem engineBootOp_agree (s : State)
    (hs : Agree W r₀ s) (h0 : W .regs) (h1 : W .held) (h2 : W .mem) (h3 : W .eng) (h4 : W .box) (h5 : W .mods)
    (h6 : W .disp) (h7 : W .sig) (h8 : W .cores) (h9 : W .ev) (h10 : W .flt) (h11 : W .boot) (h12 : W .tdm)
    (h13 : W .net) (h14 : W .memx) (h15 : W .free) :
    Agree W r₀ (engineBootOp s) := by
  unfold engineBootOp
  dsimp only
  repeat' with_reducible first
    | assumption | apply engineStart_agree | (apply agree_set_boot <;> assumption) | apply agree_ite | (intro)
    | split | apply agree_set_boot

theorem execEngineStartBoot_agree {s' : State} (s : State)
    (hs : Agree W r₀ s) (h0 : W .regs) (h1 : W .held) (h2 : W .mem) (h3 : W .eng) (h4 : W .box) (h5 : W .mods)
    (h6 : W .disp) (h7 : W .sig) (h8 : W .cores) (h9 : W .ev) (h10 : W .flt) (h11 : W .boot) (h12 : W .tdm)
    (h13 : W .net) (h14 : W .memx) (h15 : W .free) (he : execEngineStartBoot s = .next s') :
    Agree W r₀ s' := by
  cases he
  repeat' with_reducible first | assumption | apply engineBootOp_agree

theorem execEngineRateRamp_agree {s' : State} (s : State)
    (hs : Agree W r₀ s) (h0 : W .eng) (he : execEngineRateRamp s = .next s') :
    Agree W r₀ s' := by
  cases he
  repeat' with_reducible first | assumption | apply rateRampOp_agree

theorem restartAt_agree (rate : Option Nat) (clear : Bool) (tok : Tok) (s : State)
    (hs : Agree W r₀ s) (h0 : W .eng) (h1 : W .box) (h2 : W .link) :
    Agree W r₀ (restartAt rate clear tok s) := by
  unfold restartAt
  dsimp only
  repeat' with_reducible first | assumption | apply modEng_agree | apply complete_agree

theorem resetEngineBody_agree (c : Cmd) (s : State)
    (hs : Agree W r₀ s) (h0 : W .eng) (h1 : W .box) (h2 : W .link) :
    Agree W r₀ (resetEngineBody c s).1 := by
  unfold resetEngineBody
  repeat' with_reducible first
    | assumption | apply restartAt_agree | apply agree_ite_fst | apply agree_ite | (intro) | split

theorem setRoundBody_agree (c : Cmd) (s : State)
    (hs : Agree W r₀ s) (h0 : W .regs) :
    Agree W r₀ (setRoundBody c s).1 := by
  unfold setRoundBody
  dsimp only
  repeat' with_reducible first
    | assumption | apply put_agree | apply agree_ite_fst | apply agree_ite | (intro) | split

theorem getLatencyBody_agree (c : Cmd) (s : State)
    (hs : Agree W r₀ s) :
    Agree W r₀ (getLatencyBody c s).1 := by
  unfold getLatencyBody
  dsimp only
  repeat' with_reducible first | assumption | apply agree_ite_fst | apply agree_ite | (intro) | split

theorem setRateBody_agree (c : Cmd) (s : State)
    (hs : Agree W r₀ s) (h0 : W .regs) (h1 : W .eng) (h2 : W .box) (h3 : W .link) :
    Agree W r₀ (setRateBody c s).1 := by
  unfold setRateBody
  dsimp only
  repeat' with_reducible first
    | assumption | apply restartAt_agree | apply put_agree | apply agree_ite_fst | apply agree_ite | (intro)
    | split

theorem execGetLatency_agree {s' : State} (c : Cmd) (s : State)
    (hs : Agree W r₀ s) (h0 : W .regs) (h1 : W .box) (h2 : W .disp) (h3 : W .ev) (h4 : W .link)
    (he : execGetLatency c s = .next s') :
    Agree W r₀ s' := by
  cases he
  repeat' with_reducible first | assumption | apply silwen_agree | apply getLatencyBody_agree | (intro)

theorem sinkValidOp_agree (k : Nat) (s : State)
    (hs : Agree W r₀ s) (h0 : W .eng) :
    Agree W r₀ (sinkValidOp k s) := by
  unfold sinkValidOp
  dsimp only
  repeat' with_reducible first | assumption | apply modEng_agree | apply agree_ite | (intro) | split

theorem execSinkSourceValid_agree {s' : State} (sink : BitVec 13) (s : State)
    (hs : Agree W r₀ s) (h0 : W .eng) (he : execSinkSourceValid sink s = .next s') :
    Agree W r₀ s' := by
  cases he
  repeat' with_reducible first | assumption | apply sinkValidOp_agree

theorem rateCompleteOp_agree (s : State)
    (hs : Agree W r₀ s) (h0 : W .eng) (h1 : W .box) (h2 : W .link) :
    Agree W r₀ (rateCompleteOp s) := by
  unfold rateCompleteOp
  repeat' with_reducible first
    | assumption | apply modEng_agree | apply complete_agree | apply agree_ite | (intro) | split

theorem execRateChangeComplete_agree {s' : State} (s : State)
    (hs : Agree W r₀ s) (h0 : W .eng) (h1 : W .box) (h2 : W .link) (he : execRateChangeComplete s = .next s') :
    Agree W r₀ s' := by
  cases he
  repeat' with_reducible first | assumption | apply rateCompleteOp_agree

theorem execSetEngineRate_agree {s' : State} (c : Cmd) (s : State)
    (hs : Agree W r₀ s) (h0 : W .regs) (h1 : W .eng) (h2 : W .box) (h3 : W .disp) (h4 : W .ev) (h5 : W .link)
    (he : execSetEngineRate c s = .next s') :
    Agree W r₀ s' := by
  cases he
  repeat' with_reducible first | assumption | apply silwen_agree | apply setRateBody_agree | (intro)

theorem alarmsRated_agree (s : State)
    (hs : Agree W r₀ s) (h0 : W .hamp) :
    Agree W r₀ (alarmsRated s) := by
  unfold alarmsRated
  dsimp only
  repeat' with_reducible first | assumption | (apply agree_set_hamp <;> assumption) | apply agree_set_hamp

theorem clearPaths_agree (s : State)
    (hs : Agree W r₀ s) (h0 : W .regs) (h1 : W .mem) (h2 : W .path) (h3 : W .mods) (h4 : W .sig) (h5 : W .net) :
    Agree W r₀ (clearPaths s) := by
  unfold clearPaths
  dsimp only
  repeat' with_reducible first
    | assumption | apply agree_setReg | apply put_agree | apply clearMem_agree | apply modPath_agree
    | apply modNet_agree | apply setLost_agree | (apply agree_set_mods <;> assumption) | apply agree_ite
    | apply agree_when | apply agree_each | (intro) | split | apply agree_set_mods

theorem execSetRound_agree {s' : State} (c : Cmd) (s : State)
    (hs : Agree W r₀ s) (h0 : W .regs) (h1 : W .box) (h2 : W .disp) (h3 : W .ev) (h4 : W .link)
    (he : execSetRound c s = .next s') :
    Agree W r₀ s' := by
  cases he
  repeat' with_reducible first | assumption | apply silwen_agree | apply setRoundBody_agree | (intro)

theorem cancelSchedules_agree (s : State)
    (hs : Agree W r₀ s) (h0 : W .regs) (h1 : W .box) (h2 : W .hamp) (h3 : W .disp) (h4 : W .ev) (h5 : W .flt)
    (h6 : W .supv) (h7 : W .tnd) (h8 : W .night) (h9 : W .link) :
    Agree W r₀ (cancelSchedules s) := by
  unfold cancelSchedules
  dsimp only
  repeat' with_reducible first
    | assumption | apply complete_agree | apply modDisp_agree | apply modSupv_agree | apply dropMembers_agree
    | apply notice_agree | (apply agree_set_tnd_night <;> assumption) | (apply agree_set_hamp <;> assumption)
    | apply agree_when | apply agree_each | (intro) | apply agree_set_tnd_night | apply agree_set_hamp

theorem engineRestartOp_agree (s : State)
    (hs : Agree W r₀ s) (h0 : W .regs) (h1 : W .held) (h2 : W .mem) (h3 : W .eng) (h4 : W .box) (h5 : W .hamp)
    (h6 : W .path) (h7 : W .mods) (h8 : W .disp) (h9 : W .sig) (h10 : W .cores) (h11 : W .ev) (h12 : W .flt)
    (h13 : W .tdm) (h14 : W .net) (h15 : W .supv) (h16 : W .tnd) (h17 : W .memx) (h18 : W .night)
    (h19 : W .link) (h20 : W .free) :
    Agree W r₀ (engineRestartOp s) := by
  unfold engineRestartOp
  dsimp only
  repeat' with_reducible first
    | assumption | apply engineSettle_agree | apply engineStart_agree | apply modEng_agree
    | apply alarmsRated_agree | apply clearPaths_agree | apply put_agree | apply cancelSchedules_agree
    | apply agree_ite | apply agree_when | (intro) | split

theorem execEngineRestart_agree {s' : State} (s : State)
    (hs : Agree W r₀ s) (h0 : W .regs) (h1 : W .held) (h2 : W .mem) (h3 : W .eng) (h4 : W .box) (h5 : W .hamp)
    (h6 : W .path) (h7 : W .mods) (h8 : W .disp) (h9 : W .sig) (h10 : W .cores) (h11 : W .ev) (h12 : W .flt)
    (h13 : W .tdm) (h14 : W .net) (h15 : W .supv) (h16 : W .tnd) (h17 : W .memx) (h18 : W .night)
    (h19 : W .link) (h20 : W .free) (he : execEngineRestart s = .next s') :
    Agree W r₀ s' := by
  cases he
  repeat' with_reducible first | assumption | apply engineRestartOp_agree

theorem execResetEngine_agree {s' : State} (c : Cmd) (s : State)
    (hs : Agree W r₀ s) (h0 : W .regs) (h1 : W .eng) (h2 : W .box) (h3 : W .disp) (h4 : W .ev) (h5 : W .link)
    (he : execResetEngine c s = .next s') :
    Agree W r₀ s' := by
  cases he
  repeat' with_reducible first | assumption | apply silwen_agree | apply resetEngineBody_agree | (intro)

end Sys2Proof.Laws
end

