-- ==== Sys2Proof/Laws/FramesTandem.lean ====
section
/-! SUPPORT. Which parts of the state each operation of Machine/Tandem.lean may write. -/

namespace Sys2Proof.Laws
open Sys2Proof.Machine

variable {W : Part → Bool} {r₀ : State}

theorem modTnd_agree (s : State) (f : TandemSt → TandemSt)
    (hs : Agree W r₀ s) (h0 : W .tnd) :
    Agree W r₀ (State.modTnd s f) := by
  unfold State.modTnd
  repeat' with_reducible first | assumption | (apply agree_set_tnd <;> assumption) | (intro) | apply agree_set_tnd

theorem tndCtlWrite_agree (v : Word) (s : State)
    (hs : Agree W r₀ s) (h0 : W .regs) (h1 : W .held) (h2 : W .tnd) :
    Agree W r₀ (tndCtlWrite v s) := by
  unfold tndCtlWrite
  dsimp only
  repeat' with_reducible first
    | assumption | apply put_agree | apply modTnd_agree | apply hold_agree | apply agree_ite | (intro) | split

theorem tndRegWrite_agree (off : Nat) (v : Word) (s : State)
    (hs : Agree W r₀ s) (h0 : W .regs) (h1 : W .held) (h2 : W .tnd) :
    Agree W r₀ (tndRegWrite off v s) := by
  unfold tndRegWrite
  repeat' with_reducible first
    | assumption | apply tndCtlWrite_agree | apply writeReg_agree | apply agree_ite | (intro) | split

theorem announce_agree (s : State)
    (hs : Agree W r₀ s) (h0 : W .regs) (h1 : W .net) :
    Agree W r₀ (announce s) := by
  unfold announce
  dsimp only
  repeat' with_reducible first
    | assumption | apply enqueue_agree | apply igmpJoin_agree | apply agree_each | (intro)

theorem tndEnter_agree (st : Nat) (s : State)
    (hs : Agree W r₀ s) (h0 : W .regs) (h1 : W .box) (h2 : W .disp) (h3 : W .ev) (h4 : W .supv) :
    Agree W r₀ (tndEnter st s) := by
  unfold tndEnter
  dsimp only
  repeat' with_reducible first
    | assumption | apply lineFromState_agree | apply put_agree | apply ampWatch_agree | apply agree_each | (intro)

theorem tandemStatusBody_agree (c : Cmd) (s : State)
    (hs : Agree W r₀ s) :
    Agree W r₀ (tandemStatusBody c s).1 := by
  unfold tandemStatusBody
  repeat' with_reducible first | assumption

theorem handoverStart_agree {mti : Nat} {tok : Option Tok} {s : State} {p : State × Nat}
    (he : handoverStart mti tok s = some p) (hs : Agree W r₀ s) (h0 : W .tnd) : Agree W r₀ p.1 := by
  unfold handoverStart at he
  split at he
  · cases he; dsimp only; apply modTnd_agree <;> assumption
  · cases he

theorem handoverBody_agree (c : Cmd) (s : State)
    (hs : Agree W r₀ s) (h0 : W .tnd) :
    Agree W r₀ (handoverBody c s).1 := by
  unfold handoverBody
  split
  · rename_i he
    exact handoverStart_agree he hs h0
  · exact hs

theorem tndNotify_agree (e : Nat) (s : State)
    (hs : Agree W r₀ s) (h0 : W .regs) (h1 : W .box) (h2 : W .disp) (h3 : W .ev) :
    Agree W r₀ (tndNotify e s) := by
  unfold tndNotify
  repeat' with_reducible first | assumption | apply notify_agree | apply raise_agree

theorem syncSet_agree (st : Nat) (s : State)
    (hs : Agree W r₀ s) (h0 : W .regs) (h1 : W .box) (h2 : W .disp) (h3 : W .ev) (h4 : W .supv) (h5 : W .tnd) :
    Agree W r₀ (syncSet st s) := by
  unfold syncSet
  dsimp only
  repeat' with_reducible first
    | assumption | apply tndEnter_agree | apply tndNotify_agree | apply modTnd_agree | apply agree_ite | (intro)
    | split

theorem goStale_agree (s : State)
    (hs : Agree W r₀ s) (h0 : W .regs) (h1 : W .box) (h2 : W .disp) (h3 : W .ev) (h4 : W .supv) (h5 : W .tnd) :
    Agree W r₀ (goStale s) := by
  unfold goStale
  repeat' with_reducible first | assumption | apply syncSet_agree | apply agree_ite | (intro) | split

theorem recordBad_agree (s : State)
    (hs : Agree W r₀ s) (h0 : W .regs) (h1 : W .disp) (h2 : W .ev) :
    Agree W r₀ (recordBad s) := by
  unfold recordBad
  repeat' with_reducible first | assumption | apply incSat_agree | apply raise_agree | apply put_agree

theorem recordDeadlineOp_agree (s : State)
    (hs : Agree W r₀ s) (h0 : W .regs) (h1 : W .box) (h2 : W .disp) (h3 : W .ev) (h4 : W .supv) (h5 : W .tnd) :
    Agree W r₀ (recordDeadlineOp s) := by
  unfold recordDeadlineOp
  repeat' with_reducible first
    | assumption | apply templateRelease_agree | apply barrierCloseOp_agree | apply goStale_agree
    | apply recordBad_agree | apply agree_ite | (intro) | split

theorem handoverAbandon_agree (a0 : HandSt) (s : State)
    (hs : Agree W r₀ s) (h0 : W .regs) (h1 : W .box) (h2 : W .disp) (h3 : W .ev) (h4 : W .supv) (h5 : W .tnd)
    (h6 : W .night) (h7 : W .link) :
    Agree W r₀ (handoverAbandon a0 s) := by
  unfold handoverAbandon
  dsimp only
  repeat' with_reducible first
    | assumption | apply tndEnter_agree | apply complete_agree | apply tndNotify_agree | apply modTnd_agree
    | (apply agree_set_night <;> assumption) | apply agree_ite | (intro) | split | apply agree_set_night

theorem lanesPut_agree (m : BitVec 4) (s : State)
    (hs : Agree W r₀ s) (h0 : W .regs) (h1 : W .tnd) :
    Agree W r₀ (lanesPut m s) := by
  unfold lanesPut
  repeat' with_reducible first | assumption | apply put_agree | apply modTnd_agree

theorem laneLossOp_agree (lane : Nat) (s : State)
    (hs : Agree W r₀ s) (h0 : W .regs) (h1 : W .time) (h2 : W .box) (h3 : W .disp) (h4 : W .ev) (h5 : W .sec)
    (h6 : W .mbx) (h7 : W .supv) (h8 : W .tnd) (h9 : W .memx) :
    Agree W r₀ (laneLossOp lane s) := by
  unfold laneLossOp
  dsimp only
  repeat' with_reducible first
    | assumption | apply masterResetOp_agree | apply refPeer_agree | apply lanesPut_agree | apply goStale_agree
    | apply tndNotify_agree | apply put_agree | apply modTnd_agree | apply agree_ite | (intro) | split

theorem failSilentOp_agree (s : State)
    (hs : Agree W r₀ s) (h0 : W .regs) (h1 : W .eng) (h2 : W .flt) (h3 : W .tnd) :
    Agree W r₀ (failSilentOp s) := by
  unfold failSilentOp
  dsimp only
  repeat' with_reducible first
    | assumption | apply modEng_agree | apply put_agree | apply modTnd_agree | (apply agree_set_flt <;> assumption)
    | apply agree_ite | (intro) | split | apply agree_set_flt

theorem tandemCfgBody_agree (c : Cmd) (s : State)
    (hs : Agree W r₀ s) (h0 : W .regs) (h1 : W .held) (h2 : W .tnd) :
    Agree W r₀ (tandemCfgBody c s).1 := by
  unfold tandemCfgBody
  repeat' with_reducible first
    | assumption | apply tndCtlWrite_agree | apply agree_ite_fst | apply agree_ite | (intro) | split

theorem standbyRelease_agree (s : State)
    (hs : Agree W r₀ s) (h0 : W .regs) (h1 : W .disp) :
    Agree W r₀ (standbyRelease s) := by
  unfold standbyRelease
  repeat' with_reducible first | assumption | apply templateRelease_agree | apply agree_ite | (intro) | split

theorem inputRecordOp_agree (ok : Bool) (ins : List InputRec) (s : State)
    (hs : Agree W r₀ s) (h0 : W .regs) (h1 : W .disp) (h2 : W .sig) (h3 : W .ev) (h4 : W .tnd) :
    Agree W r₀ (inputRecordOp ok ins s) := by
  unfold inputRecordOp
  dsimp only
  repeat' with_reducible first
    | assumption | apply recordBad_agree | apply standbyRelease_agree | apply modTnd_agree
    | (apply agree_set_sig <;> assumption) | apply agree_ite | apply agree_each | (intro) | split
    | apply agree_set_sig

theorem alarmRecordOp_agree (ok : Bool) (edges : List (Fin 4 × Nat)) (s : State)
    (hs : Agree W r₀ s) (h0 : W .regs) (h1 : W .hamp) (h2 : W .disp) (h3 : W .ev) :
    Agree W r₀ (alarmRecordOp ok edges s) := by
  unfold alarmRecordOp
  dsimp only
  repeat' with_reducible first
    | assumption | apply recordBad_agree | (apply agree_set_hamp <;> assumption) | apply agree_ite | (intro)
    | split | apply agree_set_hamp

theorem execTandemAlarmRecord_agree {s' : State} (ok : Bool) (edges : List (Fin 4 × Nat)) (s : State)
    (hs : Agree W r₀ s) (h0 : W .regs) (h1 : W .hamp) (h2 : W .disp) (h3 : W .ev)
    (he : execTandemAlarmRecord ok edges s = .next s') :
    Agree W r₀ s' := by
  cases he
  repeat' with_reducible first | assumption | apply alarmRecordOp_agree

theorem digestTake_agree (same chunkSame : Bool) (s : State)
    (hs : Agree W r₀ s) (h0 : W .regs) (h1 : W .box) (h2 : W .disp) (h3 : W .ev) (h4 : W .supv) (h5 : W .tnd) :
    Agree W r₀ (digestTake same chunkSame s) := by
  unfold digestTake
  dsimp only
  repeat' with_reducible first
    | assumption | apply incSat_agree | apply goStale_agree | apply raise_agree | apply modTnd_agree
    | apply agree_ite | apply agree_when | (intro) | split

theorem bgposPut_agree (pos size : Nat) (s : State)
    (hs : Agree W r₀ s) (h0 : W .regs) (h1 : W .free) :
    Agree W r₀ (bgposPut pos size s) := by
  unfold bgposPut
  dsimp only
  repeat' with_reducible first
    | assumption | apply fresh_agree | apply put_agree | apply agree_ite | (intro) | split

theorem linkTick_agree (stepMti : Option Nat) (before s : State)
    (hs : Agree W r₀ s) (h0 : W .link) :
    Agree W r₀ (linkTick stepMti before s) := by
  unfold linkTick
  dsimp only
  repeat' with_reducible first
    | assumption | apply sendPlans_agree | apply send_agree | (apply agree_set_link <;> assumption)
    | apply agree_ite | (intro) | split | apply agree_set_link

theorem pairTake_agree (r : PairRec) (s : State)
    (hs : Agree W r₀ s) (h0 : W .regs) (h1 : W .tdm) :
    Agree W r₀ (pairTake r s) := by
  unfold pairTake
  dsimp only
  repeat' with_reducible first | assumption | apply pairPut_agree

theorem selTake_agree (n : Nat) (r : SelRec) (s : State)
    (hs : Agree W r₀ s) (h0 : W .regs) (h1 : W .path) :
    Agree W r₀ (selTake n r s) := by
  unfold selTake
  dsimp only
  repeat' with_reducible first
    | assumption | apply put_agree | apply setSel_agree | apply agree_ite | (intro) | split

theorem patchStartTake_agree (n : Nat) (x : Nat × Nat) (s : State)
    (hs : Agree W r₀ s) (h0 : W .path) :
    Agree W r₀ (patchStartTake n x s) := by
  unfold patchStartTake
  dsimp only
  repeat' with_reducible first | assumption | apply modPath_agree | apply agree_ite | (intro) | split

theorem decideRecordOp_agree (r : DecideRec) (s : State)
    (hs : Agree W r₀ s) (h0 : W .regs) (h1 : W .time) (h2 : W .eng) (h3 : W .hamp) (h4 : W .path) (h5 : W .disp)
    (h6 : W .sig) (h7 : W .ev) (h8 : W .tdm) (h9 : W .supv) (h10 : W .tnd) (h11 : W .night) :
    Agree W r₀ (decideRecordOp r s) := by
  unfold decideRecordOp
  dsimp only
  repeat' with_reducible first
    | assumption | apply timeStepApply_agree | apply pairTake_agree | apply selTake_agree | apply recordBad_agree
    | apply patchStartTake_agree | apply modTnd_agree | (apply agree_set_sig <;> assumption) | apply agree_ite
    | apply agree_when | apply agree_each | (intro) | split | apply agree_set_sig

theorem execTandemDecideRecord_agree {s' : State} (r : DecideRec) (s : State)
    (hs : Agree W r₀ s) (h0 : W .regs) (h1 : W .time) (h2 : W .eng) (h3 : W .hamp) (h4 : W .path) (h5 : W .disp)
    (h6 : W .sig) (h7 : W .ev) (h8 : W .tdm) (h9 : W .supv) (h10 : W .tnd) (h11 : W .night)
    (he : execTandemDecideRecord r s = .next s') :
    Agree W r₀ s' := by
  cases he
  repeat' with_reducible first | assumption | apply decideRecordOp_agree

theorem netCatchUp_agree (s : State)
    (hs : Agree W r₀ s) (h0 : W .regs) (h1 : W .net) :
    Agree W r₀ (netCatchUp s) := by
  unfold netCatchUp
  dsimp only
  repeat' with_reducible first | assumption | apply netTxSend_agree | apply agree_each | (intro) | split

theorem promote_agree (planned : Bool) (s : State)
    (hs : Agree W r₀ s) (h0 : W .regs) (h1 : W .time) (h2 : W .box) (h3 : W .disp) (h4 : W .ev) (h5 : W .net)
    (h6 : W .ref) (h7 : W .supv) (h8 : W .tnd) (h9 : W .link) :
    Agree W r₀ (promote planned s) := by
  unfold promote
  dsimp only
  repeat' with_reducible first
    | assumption | apply announce_agree | apply tndEnter_agree | apply templateRelease_agree | apply modBox_agree
    | apply barrierCloseOp_agree | apply netCatchUp_agree | apply refEvaluate_agree | apply tndNotify_agree
    | apply modAmp_agree | apply modRef_agree | apply put_agree | apply modTnd_agree | apply agree_ite
    | apply agree_when | apply agree_each | apply agree_foldl | apply agree_foldl_fst | (intro) | split

theorem handoverBeginOp_agree (s : State)
    (hs : Agree W r₀ s) (h0 : W .regs) (h1 : W .box) (h2 : W .disp) (h3 : W .ev) (h4 : W .supv) (h5 : W .tnd) :
    Agree W r₀ (handoverBeginOp s) := by
  unfold handoverBeginOp
  dsimp only
  repeat' with_reducible first
    | assumption | apply tndEnter_agree | apply agree_setReg | apply tndNotify_agree | apply modTnd_agree
    | apply agree_ite | (intro) | split

theorem linkDownTimeoutOp_agree (s : State)
    (hs : Agree W r₀ s) (h0 : W .regs) (h1 : W .box) (h2 : W .disp) (h3 : W .ev) (h4 : W .supv) (h5 : W .tnd) :
    Agree W r₀ (linkDownTimeoutOp s) := by
  unfold linkDownTimeoutOp
  repeat' with_reducible first | assumption | apply syncSet_agree | apply agree_ite | (intro) | split

theorem execTandemLinkDownTimeout_agree {s' : State} (s : State)
    (hs : Agree W r₀ s) (h0 : W .regs) (h1 : W .box) (h2 : W .disp) (h3 : W .ev) (h4 : W .supv) (h5 : W .tnd)
    (he : execTandemLinkDownTimeout s = .next s') :
    Agree W r₀ s' := by
  cases he
  repeat' with_reducible first | assumption | apply linkDownTimeoutOp_agree

theorem laneReturnOp_agree (lane : Nat) (reversed inverted : Bool) (s : State)
    (hs : Agree W r₀ s) (h0 : W .regs) (h1 : W .time) (h2 : W .box) (h3 : W .disp) (h4 : W .ev) (h5 : W .flt)
    (h6 : W .tnd) :
    Agree W r₀ (laneReturnOp lane reversed inverted s) := by
  unfold laneReturnOp
  dsimp only
  repeat' with_reducible first
    | assumption | apply refPeer_agree | apply lanesPut_agree | apply tndNotify_agree | apply put_agree
    | apply unitDone_agree | apply modTnd_agree | apply agree_ite | (intro) | split

theorem takeRole_agree (s : State)
    (hs : Agree W r₀ s) (h0 : W .regs) (h1 : W .box) (h2 : W .disp) (h3 : W .ev) (h4 : W .supv) (h5 : W .tnd) :
    Agree W r₀ (takeRole s) := by
  unfold takeRole
  dsimp only
  repeat' with_reducible first
    | assumption | apply tndEnter_agree | apply tndNotify_agree | apply modTnd_agree | apply agree_ite | (intro)
    | split

theorem execHandover_agree {s' : State} (c : Cmd) (s : State)
    (hs : Agree W r₀ s) (h0 : W .regs) (h1 : W .box) (h2 : W .disp) (h3 : W .ev) (h4 : W .tnd) (h5 : W .link)
    (he : execHandover c s = .next s') :
    Agree W r₀ s' := by
  cases he
  repeat' with_reducible first | assumption | apply handoverBody_agree | apply silwen_agree | (intro)

theorem missTaken_agree (a0 : Nat) (s : State)
    (hs : Agree W r₀ s) (h0 : W .regs) (h1 : W .mem) (h2 : W .disp) (h3 : W .sig) (h4 : W .cores) (h5 : W .memx) :
    Agree W r₀ (missTaken a0 s) := by
  unfold missTaken
  dsimp only
  repeat' with_reducible first
    | assumption | apply stageHold_agree | apply setItem_agree | apply holdFill_agree | apply modDisp_agree
    | apply missItem_agree | apply agree_ite | apply agree_when | (intro) | split

theorem endApply_agree (r : EndRec) (s : State)
    (hs : Agree W r₀ s) (h0 : W .regs) (h1 : W .mem) (h2 : W .box) (h3 : W .disp) (h4 : W .sig) (h5 : W .cores)
    (h6 : W .ev) (h7 : W .supv) (h8 : W .tnd) (h9 : W .memx) :
    Agree W r₀ (endApply r s) := by
  unfold endApply
  dsimp only
  repeat' with_reducible first
    | assumption | apply goStale_agree | apply missTaken_agree | apply releaseItem_agree | apply modTnd_agree
    | apply agree_when | apply agree_each | (intro)

theorem endRecordOp_agree (r : EndRec) (s : State)
    (hs : Agree W r₀ s) (h0 : W .regs) (h1 : W .mem) (h2 : W .box) (h3 : W .mods) (h4 : W .disp) (h5 : W .sig)
    (h6 : W .cores) (h7 : W .ev) (h8 : W .supv) (h9 : W .tnd) (h10 : W .memx) (h11 : W .free) :
    Agree W r₀ (endRecordOp r s) := by
  unfold endRecordOp
  dsimp only
  repeat' with_reducible first
    | assumption | apply digestTake_agree | apply bgposPut_agree | apply syncSet_agree | apply endApply_agree
    | apply recordBad_agree | apply modTnd_agree | apply setBytes_agree | (apply agree_set_mods <;> assumption)
    | apply agree_ite | apply agree_when | apply agree_each | apply agree_foldl | apply agree_foldl_fst | (intro)
    | split | apply agree_set_mods

theorem tandemEnableOp_agree (s : State)
    (hs : Agree W r₀ s) (h0 : W .regs) (h1 : W .held) (h2 : W .time) (h3 : W .box) (h4 : W .disp) (h5 : W .ev)
    (h6 : W .supv) (h7 : W .tnd) :
    Agree W r₀ (tandemEnableOp s) := by
  unfold tandemEnableOp
  dsimp only
  repeat' with_reducible first
    | assumption | apply tndEnter_agree | apply refPeer_agree | apply takeRole_agree | apply applyHeld_agree
    | apply put_agree | apply modTnd_agree | apply agree_ite | apply agree_when | (intro) | split

theorem execFailSilent_agree {s' : State} (s : State)
    (hs : Agree W r₀ s) (h0 : W .regs) (h1 : W .eng) (h2 : W .flt) (h3 : W .tnd)
    (he : execFailSilent s = .next s') :
    Agree W r₀ s' := by
  cases he
  repeat' with_reducible first | assumption | apply failSilentOp_agree

theorem execTandemCfg_agree {s' : State} (c : Cmd) (s : State)
    (hs : Agree W r₀ s) (h0 : W .regs) (h1 : W .held) (h2 : W .box) (h3 : W .disp) (h4 : W .ev) (h5 : W .tnd)
    (h6 : W .link) (he : execTandemCfg c s = .next s') :
    Agree W r₀ s' := by
  cases he
  repeat' with_reducible first | assumption | apply silwen_agree | apply tandemCfgBody_agree | (intro)

theorem handoverCheckOp_agree (peerChanged : Bool) (s : State)
    (hs : Agree W r₀ s) (h0 : W .regs) (h1 : W .box) (h2 : W .disp) (h3 : W .ev) (h4 : W .supv) (h5 : W .tnd)
    (h6 : W .night) (h7 : W .link) :
    Agree W r₀ (handoverCheckOp peerChanged s) := by
  unfold handoverCheckOp
  repeat' with_reducible first
    | assumption | apply handoverAbandon_agree | apply modTnd_agree | apply agree_ite | (intro) | split

theorem execTandemRecordDeadline_agree {s' : State} (s : State)
    (hs : Agree W r₀ s) (h0 : W .regs) (h1 : W .box) (h2 : W .disp) (h3 : W .ev) (h4 : W .supv) (h5 : W .tnd)
    (he : execTandemRecordDeadline s = .next s') :
    Agree W r₀ s' := by
  cases he
  repeat' with_reducible first | assumption | apply recordDeadlineOp_agree

theorem handoverSwitchOp_agree (s : State)
    (hs : Agree W r₀ s) (h0 : W .regs) (h1 : W .time) (h2 : W .box) (h3 : W .disp) (h4 : W .ev) (h5 : W .net)
    (h6 : W .ref) (h7 : W .supv) (h8 : W .tnd) (h9 : W .link) :
    Agree W r₀ (handoverSwitchOp s) := by
  unfold handoverSwitchOp
  dsimp only
  repeat' with_reducible first
    | assumption | apply tndEnter_agree | apply promote_agree | apply takeRole_agree | apply complete_agree
    | apply tndNotify_agree | apply modTnd_agree | apply agree_ite | (intro) | split

theorem peerReportOp_agree (roleIn : Bool) (st : Nat) (s : State)
    (hs : Agree W r₀ s) (h0 : W .regs) (h1 : W .time) (h2 : W .box) (h3 : W .disp) (h4 : W .ev) (h5 : W .tnd) :
    Agree W r₀ (peerReportOp roleIn st s) := by
  unfold peerReportOp
  dsimp only
  repeat' with_reducible first
    | assumption | apply refPeer_agree | apply tndNotify_agree | apply put_agree | apply modTnd_agree
    | apply agree_ite | apply agree_when | (intro) | split

theorem endSend_agree (s : State)
    (hs : Agree W r₀ s) (h0 : W .regs) (h1 : W .flt) (h2 : W .tnd) (h3 : W .link) (h4 : W .free) :
    Agree W r₀ (endSend s) := by
  unfold endSend
  dsimp only
  repeat' with_reducible first
    | assumption | apply bgposPut_agree | apply modTnd_agree | apply send_agree
    | (apply agree_set_flt <;> assumption) | apply agree_ite | (intro) | split | apply agree_set_flt

theorem barrierOp_agree (s : State)
    (hs : Agree W r₀ s) (h0 : W .regs) (h1 : W .disp) (h2 : W .ev) (h3 : W .flt) (h4 : W .tnd) (h5 : W .link)
    (h6 : W .free) :
    Agree W r₀ (barrierOp s) := by
  unfold barrierOp
  dsimp only
  repeat' with_reducible first
    | assumption | apply barrierCloseOp_agree | apply endSend_agree | apply agree_when | (intro)

theorem execBarrierClose_agree {s' : State} (s : State)
    (hs : Agree W r₀ s) (h0 : W .regs) (h1 : W .disp) (h2 : W .ev) (h3 : W .flt) (h4 : W .tnd) (h5 : W .link)
    (h6 : W .free) (he : execBarrierClose s = .next s') :
    Agree W r₀ s' := by
  cases he
  repeat' with_reducible first | assumption | apply barrierOp_agree

theorem execTandemStatus_agree {s' : State} (c : Cmd) (s : State)
    (hs : Agree W r₀ s) (h0 : W .regs) (h1 : W .box) (h2 : W .disp) (h3 : W .ev) (h4 : W .link)
    (he : execTandemStatus c s = .next s') :
    Agree W r₀ s' := by
  cases he
  repeat' with_reducible first | assumption | apply tandemStatusBody_agree | apply silwen_agree | (intro)

theorem takeoverOp_agree (s : State)
    (hs : Agree W r₀ s) (h0 : W .regs) (h1 : W .time) (h2 : W .box) (h3 : W .disp) (h4 : W .ev) (h5 : W .net)
    (h6 : W .ref) (h7 : W .supv) (h8 : W .tnd) (h9 : W .link) :
    Agree W r₀ (takeoverOp s) := by
  unfold takeoverOp
  repeat' with_reducible first
    | assumption | apply incSat_agree | apply agree_setReg | apply promote_agree | apply agree_ite | (intro)
    | split

theorem execTakeover_agree {s' : State} (s : State)
    (hs : Agree W r₀ s) (h0 : W .regs) (h1 : W .time) (h2 : W .box) (h3 : W .disp) (h4 : W .ev) (h5 : W .net)
    (h6 : W .ref) (h7 : W .supv) (h8 : W .tnd) (h9 : W .link) (he : execTakeover s = .next s') :
    Agree W r₀ s' := by
  cases he
  repeat' with_reducible first | assumption | apply takeoverOp_agree

theorem execPeerStateReport_agree {s' : State} (roleIn : Bool) (state : BitVec 4) (s : State)
    (hs : Agree W r₀ s) (h0 : W .regs) (h1 : W .time) (h2 : W .box) (h3 : W .disp) (h4 : W .ev) (h5 : W .tnd)
    (he : execPeerStateReport roleIn state s = .next s') :
    Agree W r₀ s' := by
  cases he
  repeat' with_reducible first | assumption | apply peerReportOp_agree

theorem resyncDoneOp_agree (protocolOk : Bool) (s : State)
    (hs : Agree W r₀ s) (h0 : W .regs) (h1 : W .box) (h2 : W .disp) (h3 : W .ev) (h4 : W .supv) (h5 : W .tnd) :
    Agree W r₀ (resyncDoneOp protocolOk s) := by
  unfold resyncDoneOp
  repeat' with_reducible first
    | assumption | apply syncSet_agree | apply put_agree | apply modTnd_agree | apply agree_ite | (intro) | split

theorem execResyncCopyDone_agree {s' : State} (protocolOk : Bool) (s : State)
    (hs : Agree W r₀ s) (h0 : W .regs) (h1 : W .box) (h2 : W .disp) (h3 : W .ev) (h4 : W .supv) (h5 : W .tnd)
    (he : execResyncCopyDone protocolOk s = .next s') :
    Agree W r₀ s' := by
  cases he
  repeat' with_reducible first | assumption | apply resyncDoneOp_agree

theorem execHandoverBegin_agree {s' : State} (s : State)
    (hs : Agree W r₀ s) (h0 : W .regs) (h1 : W .box) (h2 : W .disp) (h3 : W .ev) (h4 : W .supv) (h5 : W .tnd)
    (he : execHandoverBegin s = .next s') :
    Agree W r₀ s' := by
  cases he
  repeat' with_reducible first | assumption | apply handoverBeginOp_agree

theorem execTandemInputRecord_agree {s' : State} (ok : Bool) (inputs : List InputRec) (s : State)
    (hs : Agree W r₀ s) (h0 : W .regs) (h1 : W .disp) (h2 : W .sig) (h3 : W .ev) (h4 : W .tnd)
    (he : execTandemInputRecord ok inputs s = .next s') :
    Agree W r₀ s' := by
  cases he
  repeat' with_reducible first | assumption | apply inputRecordOp_agree

theorem execTandemLaneReturn_agree {s' : State} (lane : Fin 4) (reversed inverted : Bool) (s : State)
    (hs : Agree W r₀ s) (h0 : W .regs) (h1 : W .time) (h2 : W .box) (h3 : W .disp) (h4 : W .ev) (h5 : W .flt)
    (h6 : W .tnd) (he : execTandemLaneReturn lane reversed inverted s = .next s') :
    Agree W r₀ s' := by
  cases he
  repeat' with_reducible first | assumption | apply laneReturnOp_agree

theorem roleInOp_agree (level : Bool) (s : State)
    (hs : Agree W r₀ s) (h0 : W .regs) (h1 : W .pins) (h2 : W .box) (h3 : W .disp) (h4 : W .ev) (h5 : W .supv)
    (h6 : W .tnd) :
    Agree W r₀ (roleInOp level s) := by
  unfold roleInOp
  dsimp only
  repeat' with_reducible first
    | assumption | apply takeRole_agree | apply put_agree | apply modTnd_agree
    | (apply agree_set_pins <;> assumption) | apply agree_ite | apply agree_when | (intro) | split
    | apply agree_set_pins

theorem execRoleInChange_agree {s' : State} (level : Bool) (s : State)
    (hs : Agree W r₀ s) (h0 : W .regs) (h1 : W .pins) (h2 : W .box) (h3 : W .disp) (h4 : W .ev) (h5 : W .supv)
    (h6 : W .tnd) (he : execRoleInChange level s = .next s') :
    Agree W r₀ s' := by
  cases he
  repeat' with_reducible first | assumption | apply roleInOp_agree

theorem execHandoverCheck_agree {s' : State} (peerChanged : Bool) (s : State)
    (hs : Agree W r₀ s) (h0 : W .regs) (h1 : W .box) (h2 : W .disp) (h3 : W .ev) (h4 : W .supv) (h5 : W .tnd)
    (h6 : W .night) (h7 : W .link) (he : execHandoverCheck peerChanged s = .next s') :
    Agree W r₀ s' := by
  cases he
  repeat' with_reducible first | assumption | apply handoverCheckOp_agree

theorem execTandemEnable_agree {s' : State} (s : State)
    (hs : Agree W r₀ s) (h0 : W .regs) (h1 : W .held) (h2 : W .time) (h3 : W .box) (h4 : W .disp) (h5 : W .ev)
    (h6 : W .supv) (h7 : W .tnd) (he : execTandemEnable s = .next s') :
    Agree W r₀ s' := by
  cases he
  repeat' with_reducible first | assumption | apply tandemEnableOp_agree

end Sys2Proof.Laws
end

