-- ==== Sys2Proof/Laws/FramesMemory.lean ====
section
/-! SUPPORT. Which parts of the state each operation of Machine/Memory.lean may write. -/

namespace Sys2Proof.Laws
open Sys2Proof.Machine

variable {W : Part → Bool} {r₀ : State}

theorem bksViolation_agree (m : Nat) (s : State)
    (hs : Agree W r₀ s) (h0 : W .regs) :
    Agree W r₀ (bksViolation m s) := by
  unfold bksViolation
  repeat' with_reducible first | assumption | apply put_agree

theorem memStore_agree (m a : Nat) (vs : List Byte) (s : State)
    (hs : Agree W r₀ s) (h0 : W .regs) (h1 : W .mem) (h2 : W .memx) :
    Agree W r₀ (memStore m a vs s) := by
  unfold memStore
  repeat' with_reducible first
    | assumption | apply bksViolation_agree | apply setBytes_agree | apply agree_ite | (intro) | split

theorem modMem_agree (s : State) (f : MemSt → MemSt)
    (hs : Agree W r₀ s) (h0 : W .memx) :
    Agree W r₀ (State.modMem s f) := by
  unfold State.modMem
  repeat' with_reducible first
    | assumption | (apply agree_set_memx <;> assumption) | (intro) | apply agree_set_memx

theorem zeroDone_agree (b : Nat) (s : State)
    (hs : Agree W r₀ s) (h0 : W .box) (h1 : W .memx) (h2 : W .link) :
    Agree W r₀ (zeroDone b s) := by
  unfold zeroDone
  dsimp only
  repeat' with_reducible first
    | assumption | apply complete_agree | apply modMem_agree | apply agree_each | (intro)

theorem bankLose_agree (b : Nat) (s : State)
    (hs : Agree W r₀ s) (h0 : W .mem) (h1 : W .memx) :
    Agree W r₀ (bankLose b s) := by
  unfold bankLose
  dsimp only
  repeat' with_reducible first | assumption | apply clearMem_agree | apply modMem_agree

theorem bankMode_agree (b mode : Nat) (s : State)
    (hs : Agree W r₀ s) (h0 : W .regs) (h1 : W .mem) (h2 : W .box) (h3 : W .memx) (h4 : W .link) :
    Agree W r₀ (bankMode b mode s) := by
  unfold bankMode
  dsimp only
  repeat' with_reducible first
    | assumption | apply zeroDone_agree | apply bankLose_agree | apply put_agree | apply agree_ite | (intro)
    | split

theorem bankPowerWriteOp_agree (v : Word) (s : State)
    (hs : Agree W r₀ s) (h0 : W .regs) (h1 : W .mem) (h2 : W .box) (h3 : W .memx) (h4 : W .link) :
    Agree W r₀ (bankPowerWriteOp v s) := by
  unfold bankPowerWriteOp
  dsimp only
  repeat' with_reducible first
    | assumption | apply bankMode_agree | apply put_agree | apply agree_ite | apply agree_each | (intro) | split

theorem ramblerWrite_agree (v : Word) (s : State)
    (hs : Agree W r₀ s) (h0 : W .regs) (h1 : W .memx) :
    Agree W r₀ (ramblerWrite v s) := by
  unfold ramblerWrite
  dsimp only
  repeat' with_reducible first | assumption | apply agree_setReg | apply modMem_agree | apply agree_when | (intro)

theorem poisonLog_agree (m a : Nat) (s : State)
    (hs : Agree W r₀ s) (h0 : W .regs) (h1 : W .disp) (h2 : W .ev) :
    Agree W r₀ (poisonLog m a s) := by
  unfold poisonLog
  dsimp only
  repeat' with_reducible first
    | assumption | apply agree_setReg | apply raise_agree | apply put_agree | apply agree_when | (intro)

theorem foundAt_agree (s : State) (a n : Nat)
    (hs : Agree W r₀ s) (h0 : W .free) :
    Agree W r₀ (State.foundAt s a n) := by
  unfold State.foundAt
  repeat' with_reducible first
    | assumption | apply agree_putFree | (apply agree_setFree <;> assumption) | apply agree_ite | (intro) | split
    | apply agree_setFree
  all_goals exact Nat.le_add_right _ _

theorem ramblerCfgBody_agree (c : Cmd) (s : State)
    (hs : Agree W r₀ s) (h0 : W .regs) (h1 : W .memx) :
    Agree W r₀ (ramblerCfgBody c s).1 := by
  unfold ramblerCfgBody
  repeat' with_reducible first | assumption | apply ramblerWrite_agree

theorem execRamblerCfg_agree {s' : State} (c : Cmd) (s : State)
    (hs : Agree W r₀ s) (h0 : W .regs) (h1 : W .box) (h2 : W .disp) (h3 : W .ev) (h4 : W .memx) (h5 : W .link)
    (he : execRamblerCfg c s = .next s') :
    Agree W r₀ s' := by
  cases he
  repeat' with_reducible first | assumption | apply silwen_agree | apply ramblerCfgBody_agree | (intro)

theorem memLoad_agree (m a n : Nat) (s : State)
    (hs : Agree W r₀ s) (h0 : W .regs) (h1 : W .free) :
    Agree W r₀ (memLoad m a n s).1 := by
  unfold memLoad
  repeat' with_reducible first
    | assumption | apply touch_agree | apply bksViolation_agree | apply foundAt_agree | apply agree_ite_fst
    | apply agree_ite | (intro) | split

theorem bankZeroDoneOp_agree (b : Nat) (s : State)
    (hs : Agree W r₀ s) (h0 : W .regs) (h1 : W .box) (h2 : W .memx) (h3 : W .link) :
    Agree W r₀ (bankZeroDoneOp b s) := by
  unfold bankZeroDoneOp
  repeat' with_reducible first
    | assumption | apply zeroDone_agree | apply put_agree | apply agree_ite | (intro) | split

theorem execBankZeroDone_agree {s' : State} (b : Fin 14) (s : State)
    (hs : Agree W r₀ s) (h0 : W .regs) (h1 : W .box) (h2 : W .memx) (h3 : W .link)
    (he : execBankZeroDone b s = .next s') :
    Agree W r₀ s' := by
  cases he
  repeat' with_reducible first | assumption | apply bankZeroDoneOp_agree

theorem ramblerPassEndOp_agree (s : State)
    (hs : Agree W r₀ s) (h0 : W .regs) (h1 : W .memx) :
    Agree W r₀ (ramblerPassEndOp s).1 := by
  unfold ramblerPassEndOp
  dsimp only
  repeat' with_reducible first
    | assumption | apply incField_agree | apply put_agree | apply modMem_agree | apply agree_ite_fst
    | apply agree_ite | (intro) | split

theorem setBankPowerBody_agree (c : Cmd) (s : State)
    (hs : Agree W r₀ s) (h0 : W .regs) (h1 : W .mem) (h2 : W .box) (h3 : W .memx) (h4 : W .link) :
    Agree W r₀ (setBankPowerBody c s).1 := by
  unfold setBankPowerBody
  dsimp only
  repeat' with_reducible first
    | assumption | apply bankMode_agree | apply put_agree | apply modMem_agree | apply agree_ite_fst
    | apply agree_ite | apply agree_each | (intro) | split

theorem addField_agree (f : FieldRef) (n : Nat) (s : State)
    (hs : Agree W r₀ s) (h0 : W .regs) :
    Agree W r₀ (addField f n s) := by
  unfold addField
  repeat' with_reducible first | assumption | apply put_agree

theorem ramblerRegionOp_agree (failed : Bool) (s : State)
    (hs : Agree W r₀ s) (h0 : W .regs) (h1 : W .disp) (h2 : W .ev) (h3 : W .memx) (h4 : W .night) :
    Agree W r₀ (ramblerRegionOp failed s) := by
  unfold ramblerRegionOp
  dsimp only
  repeat' with_reducible first
    | assumption | apply incField_agree | apply raise_agree | apply put_agree | apply modMem_agree
    | (apply agree_set_night <;> assumption) | apply agree_ite | (intro) | split | apply agree_set_night

theorem decodeErrorOp_agree (m a : Nat) (s : State)
    (hs : Agree W r₀ s) (h0 : W .regs) (h1 : W .disp) (h2 : W .ev) (h3 : W .memx) :
    Agree W r₀ (decodeErrorOp m a s) := by
  unfold decodeErrorOp
  dsimp only
  repeat' with_reducible first
    | assumption | apply agree_setReg | apply incField_agree | apply raise_agree | apply put_agree
    | apply modMem_agree | apply agree_ite | (intro) | split

theorem execDecodeError_agree {s' : State} (m : Master) (addr : BitVec 40) (s : State)
    (hs : Agree W r₀ s) (h0 : W .regs) (h1 : W .disp) (h2 : W .ev) (h3 : W .memx)
    (he : execDecodeError m addr s = .next s') :
    Agree W r₀ s' := by
  cases he
  repeat' with_reducible first | assumption | apply decodeErrorOp_agree

theorem poisonAdd_agree (a : Nat) (s : State)
    (hs : Agree W r₀ s) (h0 : W .regs) (h1 : W .memx) :
    Agree W r₀ (poisonAdd a s) := by
  unfold poisonAdd
  dsimp only
  repeat' with_reducible first
    | assumption | apply incField_agree | apply modMem_agree | apply agree_ite | (intro) | split

theorem poisonReadOp_agree (m a : Nat) (s : State)
    (hs : Agree W r₀ s) (h0 : W .regs) (h1 : W .disp) (h2 : W .ev) (h3 : W .memx) :
    Agree W r₀ (poisonReadOp m a s) := by
  unfold poisonReadOp
  dsimp only
  repeat' with_reducible first
    | assumption | apply poisonLog_agree | apply modMem_agree | apply poisonAdd_agree | apply agree_ite | (intro)
    | split

theorem execBankPowerWrite_agree {s' : State} (m : Master) (v : Word) (s : State)
    (hs : Agree W r₀ s) (h0 : W .regs) (h1 : W .mem) (h2 : W .box) (h3 : W .memx) (h4 : W .link)
    (he : execBankPowerWrite m v s = .next s') :
    Agree W r₀ s' := by
  cases he
  repeat' with_reducible first | assumption | apply bankPowerWriteOp_agree | apply viaPort_agree | (intro)

theorem scrubBad_agree (bad : List Nat) (s : State)
    (hs : Agree W r₀ s) (h0 : W .regs) (h1 : W .disp) (h2 : W .ev) (h3 : W .memx) (h4 : W .free) :
    Agree W r₀ (scrubBad bad s) := by
  unfold scrubBad
  repeat' with_reducible first
    | assumption | apply fresh_agree | apply poisonLog_agree | apply poisonAdd_agree | apply agree_each | (intro)

theorem ddrScrubOp_agree (corrected : Nat) (bad : List Nat) (s : State)
    (hs : Agree W r₀ s) (h0 : W .regs) (h1 : W .disp) (h2 : W .ev) (h3 : W .memx) (h4 : W .free) :
    Agree W r₀ (ddrScrubOp corrected bad s) := by
  unfold ddrScrubOp
  repeat' with_reducible first
    | assumption | apply addField_agree | apply scrubBad_agree | apply agree_ite | (intro) | split

theorem execDdrPatrolScrub_agree {s' : State} (corrected : Nat) (bad : List (BitVec 40)) (s : State)
    (hs : Agree W r₀ s) (h0 : W .regs) (h1 : W .disp) (h2 : W .ev) (h3 : W .memx) (h4 : W .free)
    (he : execDdrPatrolScrub corrected bad s = .next s') :
    Agree W r₀ s' := by
  cases he
  repeat' with_reducible first | assumption | apply ddrScrubOp_agree

theorem coreFixed_agree (a : Nat) (s : State)
    (hs : Agree W r₀ s) (h0 : W .regs) :
    Agree W r₀ (coreFixed a s) := by
  unfold coreFixed
  repeat' with_reducible first | assumption | apply incField_agree | split

theorem scrubLineOp_agree (t corrected : Nat) (bad fixed : List Nat) (s : State)
    (hs : Agree W r₀ s) (h0 : W .regs) (h1 : W .disp) (h2 : W .ev) (h3 : W .memx) (h4 : W .free) :
    Agree W r₀ (scrubLineOp t corrected bad fixed s) := by
  unfold scrubLineOp
  dsimp only
  repeat' with_reducible first
    | assumption | apply addField_agree | apply coreFixed_agree | apply scrubBad_agree | apply agree_ite
    | apply agree_each | (intro) | split

theorem execRamblerEnable_agree {s' : State} (v : Word) (s : State)
    (hs : Agree W r₀ s) (h0 : W .regs) (h1 : W .memx) (he : execRamblerEnable v s = .next s') :
    Agree W r₀ s' := by
  cases he
  repeat' with_reducible first | assumption | apply ramblerWrite_agree

theorem execRamblerRegion_agree {s' : State} (failed : Bool) (s : State)
    (hs : Agree W r₀ s) (h0 : W .regs) (h1 : W .disp) (h2 : W .ev) (h3 : W .memx) (h4 : W .night)
    (he : execRamblerRegion failed s = .next s') :
    Agree W r₀ s' := by
  cases he
  repeat' with_reducible first | assumption | apply ramblerRegionOp_agree

theorem execScrubLine_agree {s' : State} (t : Fin 15) (corrected : Nat) (words : ScrubWords) (s : State)
    (hs : Agree W r₀ s) (h0 : W .regs) (h1 : W .disp) (h2 : W .ev) (h3 : W .memx) (h4 : W .free)
    (he : execScrubLine t corrected words s = .next s') :
    Agree W r₀ s' := by
  cases he
  repeat' with_reducible first | assumption | apply scrubLineOp_agree

theorem execSetBankPower_agree {s' : State} (c : Cmd) (s : State)
    (hs : Agree W r₀ s) (h0 : W .regs) (h1 : W .mem) (h2 : W .box) (h3 : W .disp) (h4 : W .ev) (h5 : W .memx)
    (h6 : W .link) (he : execSetBankPower c s = .next s') :
    Agree W r₀ s' := by
  cases he
  repeat' with_reducible first | assumption | apply silwen_agree | apply setBankPowerBody_agree | (intro)

end Sys2Proof.Laws
end

