-- ==== Sys2Proof/Laws/FramesFaults.lean ====
section
/-! SUPPORT. Which parts of the state each operation of Machine/Faults.lean may write. -/

namespace Sys2Proof.Laws
open Sys2Proof.Machine

variable {W : Part → Bool} {r₀ : State}

theorem routeWrite_agree (e : Nat) (v : Word) (cc : Bool) (s : State)
    (hs : Agree W r₀ s) (h0 : W .regs) :
    Agree W r₀ (routeWrite e v cc s) := by
  unfold routeWrite
  dsimp only
  repeat' with_reducible first | assumption | apply agree_setReg | apply agree_ite | (intro) | split

theorem swsetOp_agree (m : Master) (v : Word) (s : State)
    (hs : Agree W r₀ s) (h0 : W .regs) (h1 : W .disp) (h2 : W .ev) :
    Agree W r₀ (swsetOp m v s) := by
  unfold swsetOp
  repeat' with_reducible first
    | assumption | apply raise_agree | apply agree_ite | apply agree_each | (intro) | split

theorem pendClearOp_agree (host : Bool) (w : Nat) (v : Word) (s : State)
    (hs : Agree W r₀ s) (h0 : W .regs) :
    Agree W r₀ (pendClearOp host w v s) := by
  unfold pendClearOp
  dsimp only
  repeat' with_reducible first | assumption | apply agree_setReg | apply agree_ite | (intro) | split

theorem evtRegWrite_agree (m : Master) (off : Nat) (v : Word) (s : State)
    (hs : Agree W r₀ s) (h0 : W .regs) (h1 : W .held) (h2 : W .disp) (h3 : W .ev) :
    Agree W r₀ (evtRegWrite m off v s) := by
  unfold evtRegWrite
  dsimp only
  repeat' with_reducible first
    | assumption | apply agree_setReg | apply foutSync_agree | apply routeWrite_agree | apply writeReg_agree
    | apply swsetOp_agree | apply pendClearOp_agree | apply agree_ite | (intro) | split

theorem coreRestartOp_agree (k : Nat) (s : State)
    (hs : Agree W r₀ s) (h0 : W .regs) (h1 : W .mem) (h2 : W .disp) (h3 : W .sig) (h4 : W .cores) (h5 : W .flt)
    (h6 : W .memx) :
    Agree W r₀ (coreRestartOp k s) := by
  unfold coreRestartOp
  dsimp only
  repeat' with_reducible first
    | assumption | apply setBit_agree | apply coreItemMissed_agree | apply setCore_agree | apply unitDone_agree
    | apply agree_ite | (intro) | split

theorem execCoreRestart_agree {s' : State} (k : Fin 48) (s : State)
    (hs : Agree W r₀ s) (h0 : W .regs) (h1 : W .mem) (h2 : W .disp) (h3 : W .sig) (h4 : W .cores) (h5 : W .flt)
    (h6 : W .memx) (he : execCoreRestart k s = .next s') :
    Agree W r₀ s' := by
  cases he
  repeat' with_reducible first | assumption | apply coreRestartOp_agree

theorem gpEdgeOp_agree (p : Nat) (s : State)
    (hs : Agree W r₀ s) (h0 : W .regs) (h1 : W .disp) (h2 : W .ev) :
    Agree W r₀ (gpEdgeOp p s) := by
  unfold gpEdgeOp
  repeat' with_reducible first | assumption | apply raise_agree | apply agree_ite | (intro) | split

theorem execGpEventEdge_agree {s' : State} (p : Fin 32) (s : State)
    (hs : Agree W r₀ s) (h0 : W .regs) (h1 : W .disp) (h2 : W .ev) (he : execGpEventEdge p s = .next s') :
    Agree W r₀ s' := by
  cases he
  repeat' with_reducible first | assumption | apply gpEdgeOp_agree

theorem eventRouteClearBody_agree (c : Cmd) (s : State)
    (hs : Agree W r₀ s) (h0 : W .regs) :
    Agree W r₀ (eventRouteClearBody c s).1 := by
  unfold eventRouteClearBody
  repeat' with_reducible first | assumption | apply pendClearOp_agree

theorem execEventRouteClear_agree {s' : State} (c : Cmd) (s : State)
    (hs : Agree W r₀ s) (h0 : W .regs) (h1 : W .box) (h2 : W .disp) (h3 : W .ev) (h4 : W .link)
    (he : execEventRouteClear c s = .next s') :
    Agree W r₀ s' := by
  cases he
  repeat' with_reducible first | assumption | apply silwen_agree | apply eventRouteClearBody_agree | (intro)

theorem coreIsolate_agree (k : Nat) (s : State)
    (hs : Agree W r₀ s) (h0 : W .regs) (h1 : W .mem) (h2 : W .disp) (h3 : W .sig) (h4 : W .cores) (h5 : W .flt)
    (h6 : W .memx) :
    Agree W r₀ (coreIsolate k s) := by
  unfold coreIsolate
  dsimp only
  repeat' with_reducible first | assumption | apply coreRestartOp_agree | apply setCore_agree

theorem patchReset_agree (s : State)
    (hs : Agree W r₀ s) (h0 : W .path) (h1 : W .sig) :
    Agree W r₀ (patchReset s) := by
  unfold patchReset
  dsimp only
  repeat' with_reducible first
    | assumption | apply modPath_agree | (apply agree_set_sig <;> assumption) | apply agree_ite | apply agree_foldl
    | apply agree_foldl_fst | (intro) | split | apply agree_set_sig

theorem react_agree (u : UnitKind) (i lv : Nat) (s : State)
    (hs : Agree W r₀ s) (h0 : W .regs) (h1 : W .mem) (h2 : W .time) (h3 : W .eng) (h4 : W .box) (h5 : W .path)
    (h6 : W .disp) (h7 : W .sig) (h8 : W .cores) (h9 : W .ev) (h10 : W .flt) (h11 : W .sec) (h12 : W .mbx)
    (h13 : W .tdm) (h14 : W .net) (h15 : W .supv) (h16 : W .tnd) (h17 : W .memx) (h18 : W .link) :
    Agree W r₀ (react u i lv s) := by
  unfold react
  dsimp only
  repeat' with_reducible first
    | assumption | apply masterResetOp_agree | apply coreIsolate_agree | apply egressDone_agree
    | apply coreRestartOp_agree | apply laneLossOp_agree | apply patchReset_agree | apply failSilentOp_agree
    | apply setAmpState_agree | apply tdmLose_agree | apply unitDone_agree | apply tdmAcquire_agree
    | apply ampWatch_agree | apply modNet_agree | apply linkDownOp_agree | apply missItem_agree | apply agree_ite
    | apply agree_each | (intro) | split

theorem modFlt_agree (s : State) (f : FaultSt → FaultSt)
    (hs : Agree W r₀ s) (h0 : W .flt) :
    Agree W r₀ (State.modFlt s f) := by
  unfold State.modFlt
  repeat' with_reducible first | assumption | (apply agree_set_flt <;> assumption) | (intro) | apply agree_set_flt

theorem faultDetectOp_faultHandle_agree (cause : Nat) (u : UnitKind) (i : Nat) (detail : Word) (first : Nat) (s : State)
    (hs : Agree W r₀ s) (h0 : W .regs) (h1 : W .mem) (h2 : W .time) (h3 : W .eng) (h4 : W .box) (h5 : W .path)
    (h6 : W .disp) (h7 : W .sig) (h8 : W .cores) (h9 : W .ev) (h10 : W .flt) (h11 : W .sec) (h12 : W .mbx)
    (h13 : W .tdm) (h14 : W .net) (h15 : W .supv) (h16 : W .tnd) (h17 : W .memx) (h18 : W .link) :
    Agree W r₀ (faultDetectOp.faultHandle cause u i detail first s) := by
  unfold faultDetectOp.faultHandle
  dsimp only
  repeat' with_reducible first
    | assumption | apply foutSync_agree | apply react_agree | apply record_agree | apply raise_agree
    | apply modFlt_agree | apply agree_ite | apply agree_when | (intro) | split

theorem faultDetectOp_agree (cause : Nat) (u : UnitKind) (i : Nat) (detail : Word) (s : State)
    (hs : Agree W r₀ s) (h0 : W .regs) (h1 : W .mem) (h2 : W .time) (h3 : W .eng) (h4 : W .box) (h5 : W .path)
    (h6 : W .disp) (h7 : W .sig) (h8 : W .cores) (h9 : W .ev) (h10 : W .flt) (h11 : W .sec) (h12 : W .mbx)
    (h13 : W .tdm) (h14 : W .net) (h15 : W .supv) (h16 : W .tnd) (h17 : W .memx) (h18 : W .link) :
    Agree W r₀ (faultDetectOp cause u i detail s) := by
  unfold faultDetectOp
  dsimp only
  repeat' with_reducible first
    | assumption | apply faultDetectOp_faultHandle_agree | apply record_agree | apply agree_ite | (intro) | split

theorem t1sCarrierOp_agree (q : Nat) (s : State)
    (hs : Agree W r₀ s) (h0 : W .regs) (h1 : W .mem) (h2 : W .time) (h3 : W .eng) (h4 : W .box) (h5 : W .path)
    (h6 : W .disp) (h7 : W .sig) (h8 : W .cores) (h9 : W .ev) (h10 : W .flt) (h11 : W .sec) (h12 : W .mbx)
    (h13 : W .tdm) (h14 : W .net) (h15 : W .supv) (h16 : W .tnd) (h17 : W .memx) (h18 : W .link) :
    Agree W r₀ (t1sCarrierOp q s) := by
  unfold t1sCarrierOp
  repeat' with_reducible first | assumption | apply faultDetectOp_agree | apply agree_ite | (intro) | split

theorem execT1sCarrierLost_agree {s' : State} (q : Fin 2) (s : State)
    (hs : Agree W r₀ s) (h0 : W .regs) (h1 : W .mem) (h2 : W .time) (h3 : W .eng) (h4 : W .box) (h5 : W .path)
    (h6 : W .disp) (h7 : W .sig) (h8 : W .cores) (h9 : W .ev) (h10 : W .flt) (h11 : W .sec) (h12 : W .mbx)
    (h13 : W .tdm) (h14 : W .net) (h15 : W .supv) (h16 : W .tnd) (h17 : W .memx) (h18 : W .link)
    (he : execT1sCarrierLost q s = .next s') :
    Agree W r₀ s' := by
  cases he
  repeat' with_reducible first | assumption | apply t1sCarrierOp_agree

theorem execEvtPendClear_agree {s' : State} (host : Bool) (w : Fin 8) (v : Word) (s : State)
    (hs : Agree W r₀ s) (h0 : W .regs) (he : execEvtPendClear host w v s = .next s') :
    Agree W r₀ s' := by
  cases he
  repeat' with_reducible first | assumption | apply pendClearOp_agree

theorem faultLogBody_agree (c : Cmd) (s : State)
    (hs : Agree W r₀ s) :
    Agree W r₀ (faultLogBody c s).1 := by
  unfold faultLogBody
  dsimp only
  repeat' with_reducible first | assumption

theorem eventRouteSetBody_agree (c : Cmd) (s : State)
    (hs : Agree W r₀ s) (h0 : W .regs) :
    Agree W r₀ (eventRouteSetBody c s).1 := by
  unfold eventRouteSetBody
  dsimp only
  repeat' with_reducible first | assumption | apply routeWrite_agree | apply agree_each | (intro)

theorem faultTick_agree (s : State)
    (hs : Agree W r₀ s) (h0 : W .regs) (h1 : W .flt) :
    Agree W r₀ (faultTick s) := by
  unfold faultTick
  dsimp only
  repeat' with_reducible first
    | assumption | apply modFlt_agree | apply unitDone_agree | apply agree_ite | apply agree_each | (intro) | split

theorem tdmFault_agree (old : State) (p : Nat) (s : State)
    (hold : Agree W r₀ old) (hs : Agree W r₀ s) (h0 : W .regs) (h1 : W .mem) (h2 : W .time) (h3 : W .eng)
    (h4 : W .box) (h5 : W .path) (h6 : W .disp) (h7 : W .sig) (h8 : W .cores) (h9 : W .ev) (h10 : W .flt)
    (h11 : W .sec) (h12 : W .mbx) (h13 : W .tdm) (h14 : W .net) (h15 : W .supv) (h16 : W .tnd) (h17 : W .memx)
    (h18 : W .link) :
    Agree W r₀ (tdmFault old p s) := by
  unfold tdmFault
  repeat' with_reducible first | assumption | apply faultDetectOp_agree | apply agree_ite | (intro) | split

theorem execTdmClockLost_agree {s' : State} (p : Fin 32) (s : State)
    (hs : Agree W r₀ s) (h0 : W .regs) (h1 : W .mem) (h2 : W .time) (h3 : W .eng) (h4 : W .box) (h5 : W .path)
    (h6 : W .disp) (h7 : W .sig) (h8 : W .cores) (h9 : W .ev) (h10 : W .flt) (h11 : W .sec) (h12 : W .mbx)
    (h13 : W .tdm) (h14 : W .net) (h15 : W .supv) (h16 : W .tnd) (h17 : W .memx) (h18 : W .link)
    (he : execTdmClockLost p s = .next s') :
    Agree W r₀ s' := by
  cases he
  repeat' with_reducible first | assumption | apply tdmClockLostOp_agree | apply tdmFault_agree

theorem linkFault_agree (old s : State)
    (hold : Agree W r₀ old) (hs : Agree W r₀ s) (h0 : W .regs) (h1 : W .mem) (h2 : W .time) (h3 : W .eng)
    (h4 : W .box) (h5 : W .path) (h6 : W .disp) (h7 : W .sig) (h8 : W .cores) (h9 : W .ev) (h10 : W .flt)
    (h11 : W .sec) (h12 : W .mbx) (h13 : W .tdm) (h14 : W .net) (h15 : W .supv) (h16 : W .tnd) (h17 : W .memx)
    (h18 : W .link) :
    Agree W r₀ (linkFault old s) := by
  unfold linkFault
  repeat' with_reducible first | assumption | apply faultDetectOp_agree | apply agree_ite | (intro) | split

theorem execFaultDetect_agree {s' : State} (cause : BitVec 8) (u : UnitKind) (inst : BitVec 16) (detail : Word) (s : State)
    (hs : Agree W r₀ s) (h0 : W .regs) (h1 : W .mem) (h2 : W .time) (h3 : W .eng) (h4 : W .box) (h5 : W .path)
    (h6 : W .disp) (h7 : W .sig) (h8 : W .cores) (h9 : W .ev) (h10 : W .flt) (h11 : W .sec) (h12 : W .mbx)
    (h13 : W .tdm) (h14 : W .net) (h15 : W .supv) (h16 : W .tnd) (h17 : W .memx) (h18 : W .link)
    (he : execFaultDetect cause u inst detail s = .next s') :
    Agree W r₀ s' := by
  cases he
  repeat' with_reducible first | assumption | apply faultDetectOp_agree

theorem roundDeadlineOp_agree (s : State)
    (hs : Agree W r₀ s) (h0 : W .regs) (h1 : W .mem) (h2 : W .time) (h3 : W .eng) (h4 : W .box) (h5 : W .path)
    (h6 : W .disp) (h7 : W .sig) (h8 : W .cores) (h9 : W .ev) (h10 : W .flt) (h11 : W .sec) (h12 : W .mbx)
    (h13 : W .tdm) (h14 : W .net) (h15 : W .supv) (h16 : W .tnd) (h17 : W .memx) (h18 : W .link) :
    Agree W r₀ (roundDeadlineOp s) := by
  unfold roundDeadlineOp
  dsimp only
  repeat' with_reducible first
    | assumption | apply deadlineMiss_agree | apply faultDetectOp_agree | apply agree_ite | apply agree_each
    | (intro) | split

theorem execRoundDeadline_agree {s' : State} (s : State)
    (hs : Agree W r₀ s) (h0 : W .regs) (h1 : W .mem) (h2 : W .time) (h3 : W .eng) (h4 : W .box) (h5 : W .path)
    (h6 : W .disp) (h7 : W .sig) (h8 : W .cores) (h9 : W .ev) (h10 : W .flt) (h11 : W .sec) (h12 : W .mbx)
    (h13 : W .tdm) (h14 : W .net) (h15 : W .supv) (h16 : W .tnd) (h17 : W .memx) (h18 : W .link)
    (he : execRoundDeadline s = .next s') :
    Agree W r₀ s' := by
  cases he
  repeat' with_reducible first | assumption | apply roundDeadlineOp_agree

theorem endTake_agree (r : EndRec) (s : State)
    (hs : Agree W r₀ s) (h0 : W .regs) (h1 : W .mem) (h2 : W .time) (h3 : W .eng) (h4 : W .box) (h5 : W .path)
    (h6 : W .mods) (h7 : W .disp) (h8 : W .sig) (h9 : W .cores) (h10 : W .ev) (h11 : W .flt) (h12 : W .sec)
    (h13 : W .mbx) (h14 : W .tdm) (h15 : W .net) (h16 : W .supv) (h17 : W .tnd) (h18 : W .memx) (h19 : W .link)
    (h20 : W .free) :
    Agree W r₀ (endTake r s) := by
  unfold endTake
  dsimp only
  repeat' with_reducible first
    | assumption | apply react_agree | apply goStale_agree | apply endRecordOp_agree | apply modFlt_agree
    | apply agree_ite | apply agree_when | apply agree_each | (intro) | split

theorem stretchEndOp_agree (s : State)
    (hs : Agree W r₀ s) (h0 : W .regs) (h1 : W .flt) :
    Agree W r₀ (stretchEndOp s) := by
  unfold stretchEndOp
  repeat' with_reducible first
    | assumption | apply foutSync_agree | apply modFlt_agree | apply agree_ite | (intro) | split

theorem ampFault_agree (old : State) (cause st ch : Nat) (s : State)
    (hold : Agree W r₀ old) (hs : Agree W r₀ s) (h0 : W .regs) (h1 : W .mem) (h2 : W .time) (h3 : W .eng)
    (h4 : W .box) (h5 : W .path) (h6 : W .disp) (h7 : W .sig) (h8 : W .cores) (h9 : W .ev) (h10 : W .flt)
    (h11 : W .sec) (h12 : W .mbx) (h13 : W .tdm) (h14 : W .net) (h15 : W .supv) (h16 : W .tnd) (h17 : W .memx)
    (h18 : W .link) :
    Agree W r₀ (ampFault old cause st ch s) := by
  unfold ampFault
  repeat' with_reducible first | assumption | apply faultDetectOp_agree | apply agree_each | (intro)

theorem execAmpFbopen_agree {s' : State} (ch : Fin 32) (s : State)
    (hs : Agree W r₀ s) (h0 : W .regs) (h1 : W .mem) (h2 : W .time) (h3 : W .eng) (h4 : W .box) (h5 : W .path)
    (h6 : W .disp) (h7 : W .sig) (h8 : W .cores) (h9 : W .ev) (h10 : W .flt) (h11 : W .sec) (h12 : W .mbx)
    (h13 : W .tdm) (h14 : W .net) (h15 : W .supv) (h16 : W .tnd) (h17 : W .memx) (h18 : W .link)
    (he : execAmpFbopen ch s = .next s') :
    Agree W r₀ s' := by
  cases he
  repeat' with_reducible first | assumption | apply ampFault_agree | apply ampFbopenOp_agree

theorem poisonFault_agree (m a : Nat) (s : State)
    (hs : Agree W r₀ s) (h0 : W .regs) (h1 : W .mem) (h2 : W .time) (h3 : W .eng) (h4 : W .box) (h5 : W .path)
    (h6 : W .disp) (h7 : W .sig) (h8 : W .cores) (h9 : W .ev) (h10 : W .flt) (h11 : W .sec) (h12 : W .mbx)
    (h13 : W .tdm) (h14 : W .net) (h15 : W .supv) (h16 : W .tnd) (h17 : W .memx) (h18 : W .link) (h19 : W .free) :
    Agree W r₀ (poisonFault m a s) := by
  unfold poisonFault
  repeat' with_reducible first | assumption | apply fresh_agree | apply faultDetectOp_agree | split

theorem faultEndOp_agree (u i : Nat) (s : State)
    (hs : Agree W r₀ s) (h0 : W .regs) (h1 : W .flt) :
    Agree W r₀ (faultEndOp u i s) := by
  unfold faultEndOp
  repeat' with_reducible first
    | assumption | apply foutSync_agree | apply modFlt_agree | apply agree_ite | (intro) | split

theorem execTandemLaneLoss_agree {s' : State} (lane : Fin 4) (s : State)
    (hs : Agree W r₀ s) (h0 : W .regs) (h1 : W .mem) (h2 : W .time) (h3 : W .eng) (h4 : W .box) (h5 : W .path)
    (h6 : W .disp) (h7 : W .sig) (h8 : W .cores) (h9 : W .ev) (h10 : W .flt) (h11 : W .sec) (h12 : W .mbx)
    (h13 : W .tdm) (h14 : W .net) (h15 : W .supv) (h16 : W .tnd) (h17 : W .memx) (h18 : W .link)
    (he : execTandemLaneLoss lane s = .next s') :
    Agree W r₀ s' := by
  cases he
  repeat' with_reducible first | assumption | apply linkFault_agree | apply laneLossOp_agree

theorem execAmpStartCheck_agree {s' : State} (ch : Fin 32) (toggled : Bool) (s : State)
    (hs : Agree W r₀ s) (h0 : W .regs) (h1 : W .mem) (h2 : W .time) (h3 : W .eng) (h4 : W .box) (h5 : W .path)
    (h6 : W .disp) (h7 : W .sig) (h8 : W .cores) (h9 : W .ev) (h10 : W .flt) (h11 : W .sec) (h12 : W .mbx)
    (h13 : W .tdm) (h14 : W .net) (h15 : W .supv) (h16 : W .tnd) (h17 : W .memx) (h18 : W .link)
    (he : execAmpStartCheck ch toggled s = .next s') :
    Agree W r₀ s' := by
  cases he
  repeat' with_reducible first | assumption | apply ampCheckOp_agree | apply ampFault_agree

theorem netLinkLost_agree (p : Nat) (s : State)
    (hs : Agree W r₀ s) (h0 : W .regs) (h1 : W .mem) (h2 : W .time) (h3 : W .eng) (h4 : W .box) (h5 : W .path)
    (h6 : W .disp) (h7 : W .sig) (h8 : W .cores) (h9 : W .ev) (h10 : W .flt) (h11 : W .sec) (h12 : W .mbx)
    (h13 : W .tdm) (h14 : W .net) (h15 : W .supv) (h16 : W .tnd) (h17 : W .memx) (h18 : W .link) :
    Agree W r₀ (netLinkLost p s) := by
  unfold netLinkLost
  dsimp only
  repeat' with_reducible first
    | assumption | apply faultDetectOp_agree | apply linkDownOp_agree | apply agree_when | (intro)

theorem execEvtSwset_agree {s' : State} (m : Master) (v : Word) (s : State)
    (hs : Agree W r₀ s) (h0 : W .regs) (h1 : W .disp) (h2 : W .ev) (he : execEvtSwset m v s = .next s') :
    Agree W r₀ s' := by
  cases he
  repeat' with_reducible first | assumption | apply viaPort_agree | apply swsetOp_agree | (intro)

theorem execFaultHandlingEnd_agree {s' : State} (u : UnitKind) (inst : BitVec 16) (s : State)
    (hs : Agree W r₀ s) (h0 : W .regs) (h1 : W .flt) (he : execFaultHandlingEnd u inst s = .next s') :
    Agree W r₀ s' := by
  cases he
  repeat' with_reducible first | assumption | apply faultEndOp_agree

theorem execTdmFrame_agree {s' : State} (p : Fin 32) (f : TdmFrame) (s : State)
    (hs : Agree W r₀ s) (h0 : W .regs) (h1 : W .mem) (h2 : W .time) (h3 : W .eng) (h4 : W .box) (h5 : W .path)
    (h6 : W .disp) (h7 : W .sig) (h8 : W .cores) (h9 : W .ev) (h10 : W .flt) (h11 : W .sec) (h12 : W .mbx)
    (h13 : W .tdm) (h14 : W .net) (h15 : W .supv) (h16 : W .tnd) (h17 : W .memx) (h18 : W .link) (h19 : W .free)
    (he : execTdmFrame p f s = .next s') :
    Agree W r₀ s' := by
  cases he
  repeat' with_reducible first | assumption | apply tdmFrameOp_agree | apply tdmFault_agree

theorem execNetLinkDown_agree {s' : State} (port : Fin 4) (s : State)
    (hs : Agree W r₀ s) (h0 : W .regs) (h1 : W .mem) (h2 : W .time) (h3 : W .eng) (h4 : W .box) (h5 : W .path)
    (h6 : W .disp) (h7 : W .sig) (h8 : W .cores) (h9 : W .ev) (h10 : W .flt) (h11 : W .sec) (h12 : W .mbx)
    (h13 : W .tdm) (h14 : W .net) (h15 : W .supv) (h16 : W .tnd) (h17 : W .memx) (h18 : W .link)
    (he : execNetLinkDown port s = .next s') :
    Agree W r₀ s' := by
  cases he
  repeat' with_reducible first | assumption | apply netLinkLost_agree

theorem execAmpCurrentLimit_agree {s' : State} (ch : Fin 32) (consecutive : Bool) (s : State)
    (hs : Agree W r₀ s) (h0 : W .regs) (h1 : W .mem) (h2 : W .time) (h3 : W .eng) (h4 : W .box) (h5 : W .path)
    (h6 : W .disp) (h7 : W .sig) (h8 : W .cores) (h9 : W .ev) (h10 : W .flt) (h11 : W .sec) (h12 : W .mbx)
    (h13 : W .tdm) (h14 : W .net) (h15 : W .supv) (h16 : W .tnd) (h17 : W .memx) (h18 : W .link)
    (he : execAmpCurrentLimit ch consecutive s = .next s') :
    Agree W r₀ s' := by
  cases he
  repeat' with_reducible first | assumption | apply ampFault_agree | apply ampLimitOp_agree

theorem execAmpLooperr_agree {s' : State} (ch : Fin 32) (s : State)
    (hs : Agree W r₀ s) (h0 : W .regs) (h1 : W .mem) (h2 : W .time) (h3 : W .eng) (h4 : W .box) (h5 : W .path)
    (h6 : W .disp) (h7 : W .sig) (h8 : W .cores) (h9 : W .ev) (h10 : W .flt) (h11 : W .sec) (h12 : W .mbx)
    (h13 : W .tdm) (h14 : W .net) (h15 : W .supv) (h16 : W .tnd) (h17 : W .memx) (h18 : W .link)
    (he : execAmpLooperr ch s = .next s') :
    Agree W r₀ s' := by
  cases he
  repeat' with_reducible first | assumption | apply ampLooperrOp_agree | apply ampFault_agree

theorem execPoisonRead_agree {s' : State} (m : Master) (addr : BitVec 40) (s : State)
    (hs : Agree W r₀ s) (h0 : W .regs) (h1 : W .mem) (h2 : W .time) (h3 : W .eng) (h4 : W .box) (h5 : W .path)
    (h6 : W .disp) (h7 : W .sig) (h8 : W .cores) (h9 : W .ev) (h10 : W .flt) (h11 : W .sec) (h12 : W .mbx)
    (h13 : W .tdm) (h14 : W .net) (h15 : W .supv) (h16 : W .tnd) (h17 : W .memx) (h18 : W .link) (h19 : W .free)
    (he : execPoisonRead m addr s = .next s') :
    Agree W r₀ s' := by
  cases he
  repeat' with_reducible first | assumption | apply poisonReadOp_agree | apply poisonFault_agree

theorem execFaultOutStretchEnd_agree {s' : State} (s : State)
    (hs : Agree W r₀ s) (h0 : W .regs) (h1 : W .flt) (he : execFaultOutStretchEnd s = .next s') :
    Agree W r₀ s' := by
  cases he
  repeat' with_reducible first | assumption | apply stretchEndOp_agree

theorem execFaultLogRead_agree {s' : State} (c : Cmd) (s : State)
    (hs : Agree W r₀ s) (h0 : W .regs) (h1 : W .box) (h2 : W .disp) (h3 : W .ev) (h4 : W .link)
    (he : execFaultLogRead c s = .next s') :
    Agree W r₀ s' := by
  cases he
  repeat' with_reducible first | assumption | apply silwen_agree | apply faultLogBody_agree | (intro)

theorem execEventRouteSet_agree {s' : State} (c : Cmd) (s : State)
    (hs : Agree W r₀ s) (h0 : W .regs) (h1 : W .box) (h2 : W .disp) (h3 : W .ev) (h4 : W .link)
    (he : execEventRouteSet c s = .next s') :
    Agree W r₀ s' := by
  cases he
  repeat' with_reducible first | assumption | apply silwen_agree | apply eventRouteSetBody_agree | (intro)

theorem execTandemEndRecord_agree {s' : State} (r : EndRec) (s : State)
    (hs : Agree W r₀ s) (h0 : W .regs) (h1 : W .mem) (h2 : W .time) (h3 : W .eng) (h4 : W .box) (h5 : W .path)
    (h6 : W .mods) (h7 : W .disp) (h8 : W .sig) (h9 : W .cores) (h10 : W .ev) (h11 : W .flt) (h12 : W .sec)
    (h13 : W .mbx) (h14 : W .tdm) (h15 : W .net) (h16 : W .supv) (h17 : W .tnd) (h18 : W .memx) (h19 : W .link)
    (h20 : W .free) (he : execTandemEndRecord r s = .next s') :
    Agree W r₀ s' := by
  cases he
  repeat' with_reducible first | assumption | apply endTake_agree

end Sys2Proof.Laws
end

