-- ==== Sys2Proof/Laws/FramesNight.lean ====
section
/-! SUPPORT. Which parts of the state each operation of Machine/Night.lean may write. -/

namespace Sys2Proof.Laws
open Sys2Proof.Machine

variable {W : Part → Bool} {r₀ : State}

theorem cntReadOp_agree (id : Nat) (s : State)
    (hs : Agree W r₀ s) (h0 : W .regs) :
    Agree W r₀ (cntReadOp id s) := by
  unfold cntReadOp
  dsimp only
  repeat' with_reducible first | assumption | apply agree_setReg | apply put_agree

theorem cntRegWrite_agree (off : Nat) (v : Word) (s : State)
    (hs : Agree W r₀ s) (h0 : W .regs) (h1 : W .held) :
    Agree W r₀ (cntRegWrite off v s) := by
  unfold cntRegWrite
  dsimp only
  repeat' with_reducible first
    | assumption | apply cntReadOp_agree | apply applyHeld_agree | apply put_agree | apply writeReg_agree
    | apply hold_agree | apply agree_ite | apply agree_when | apply agree_each | (intro) | split

theorem modNight_agree (f : NightRun → NightRun) (s : State)
    (hs : Agree W r₀ s) (h0 : W .night) :
    Agree W r₀ (modNight f s) := by
  unfold modNight
  dsimp only
  repeat' with_reducible first
    | assumption | (apply agree_set_night <;> assumption) | (intro) | apply agree_set_night

theorem nightEarth_agree (lines : List LineMeas) (groups : List GroupMeas) (s : State)
    (hs : Agree W r₀ s) (h0 : W .night) :
    Agree W r₀ (nightEarth lines groups s) := by
  unfold nightEarth
  dsimp only
  repeat' with_reducible first
    | assumption | apply modNight_agree | apply agree_ite | apply agree_foldl | apply agree_foldl_fst | (intro)
    | split

theorem nightCfgBody_agree (c : Cmd) (s : State)
    (hs : Agree W r₀ s) (h0 : W .night) :
    Agree W r₀ (nightCfgBody c s).1 := by
  unfold nightCfgBody
  dsimp only
  repeat' with_reducible first
    | assumption | (apply agree_set_night <;> assumption) | apply agree_ite_fst | apply agree_ite | (intro) | split
    | apply agree_set_night

theorem nightClose_agree (r : NightRun) (s : State)
    (hs : Agree W r₀ s) (h0 : W .regs) (h1 : W .box) (h2 : W .disp) (h3 : W .ev) (h4 : W .flt) (h5 : W .night) :
    Agree W r₀ (nightClose r s) := by
  unfold nightClose
  dsimp only
  repeat' with_reducible first
    | assumption | apply raise_agree | apply notice_agree | (apply agree_set_night <;> assumption)
    | apply agree_when | (intro) | apply agree_set_night

theorem nightSweep_agree (r : NightRun) (s : State)
    (hs : Agree W r₀ s) (h0 : W .supv) (h1 : W .night) :
    Agree W r₀ (nightSweep r s) := by
  unfold nightSweep
  dsimp only
  repeat' with_reducible first
    | assumption | apply modNight_agree | apply modSupv_agree | apply agree_ite | (intro) | split

theorem nightDrill_agree (r : NightRun) (s : State)
    (hs : Agree W r₀ s) (h0 : W .tnd) (h1 : W .night) :
    Agree W r₀ (nightDrill r s) := by
  unfold nightDrill
  split
  · split
    · exact modNight_agree _ _ hs ‹_›
    · split
      · rename_i he
        exact modNight_agree _ _ (handoverStart_agree he hs ‹_›) ‹_›
      · exact modNight_agree _ _ hs ‹_›
  · exact hs

theorem nightStep_agree (s : State)
    (hs : Agree W r₀ s) (h0 : W .supv) (h1 : W .tnd) (h2 : W .night) :
    Agree W r₀ (nightStep s) := by
  unfold nightStep
  dsimp only
  repeat' with_reducible first | assumption | apply nightSweep_agree | apply nightDrill_agree | split

theorem nightEndOp_agree (s : State)
    (hs : Agree W r₀ s) (h0 : W .regs) (h1 : W .box) (h2 : W .disp) (h3 : W .ev) (h4 : W .flt) (h5 : W .supv)
    (h6 : W .tnd) (h7 : W .night) :
    Agree W r₀ (nightEndOp s) := by
  unfold nightEndOp
  dsimp only
  repeat' with_reducible first
    | assumption | apply nightClose_agree | apply nightStep_agree | apply agree_ite | (intro) | split

theorem nightRambler_agree (s : State)
    (hs : Agree W r₀ s) (h0 : W .regs) (h1 : W .memx) (h2 : W .night) :
    Agree W r₀ (nightRambler s) := by
  unfold nightRambler
  dsimp only
  repeat' with_reducible first
    | assumption | apply modNight_agree | apply ramblerWrite_agree | apply agree_ite | (intro) | split

theorem execRamblerPassEnd_agree {s' : State} (s : State)
    (hs : Agree W r₀ s) (h0 : W .regs) (h1 : W .supv) (h2 : W .tnd) (h3 : W .memx) (h4 : W .night)
    (he : execRamblerPassEnd s = .next s') :
    Agree W r₀ s' := by
  cases he
  have h : Agree W r₀ (ramblerPassEndOp s).1 := by apply ramblerPassEndOp_agree <;> assumption
  split
  · rename_i e
    rw [e] at h
    repeat' with_reducible first | assumption | apply nightStep_agree | apply nightRambler_agree
  · rename_i e
    rw [e] at h
    exact h

theorem counterDumpBody_agree (c : Cmd) (s : State)
    (hs : Agree W r₀ s) (h0 : W .regs) (h1 : W .held) :
    Agree W r₀ (counterDumpBody c s).1 := by
  unfold counterDumpBody
  dsimp only
  repeat' with_reducible first
    | assumption | apply cntReadOp_agree | apply cntRegWrite_agree | apply agree_ite_fst | apply agree_ite
    | apply agree_each | (intro) | split

theorem nightAbort_agree (s : State)
    (hs : Agree W r₀ s) (h0 : W .regs) (h1 : W .box) (h2 : W .disp) (h3 : W .ev) (h4 : W .flt) (h5 : W .supv)
    (h6 : W .memx) (h7 : W .night) :
    Agree W r₀ (nightAbort s) := by
  unfold nightAbort
  dsimp only
  repeat' with_reducible first
    | assumption | apply nightClose_agree | apply ramblerWrite_agree | apply modSupv_agree | apply agree_ite
    | apply agree_when | (intro) | split

theorem nightStartOp_agree (s : State)
    (hs : Agree W r₀ s) (h0 : W .regs) (h1 : W .disp) (h2 : W .ev) (h3 : W .supv) (h4 : W .tnd) (h5 : W .memx)
    (h6 : W .night) :
    Agree W r₀ (nightStartOp s) := by
  unfold nightStartOp
  dsimp only
  repeat' with_reducible first
    | assumption | apply ramblerWrite_agree | apply nightStep_agree | apply raise_agree | apply put_agree
    | (apply agree_set_night <;> assumption) | apply agree_ite | apply agree_when | (intro) | split
    | apply agree_set_night

theorem execNightTestStart_agree {s' : State} (s : State)
    (hs : Agree W r₀ s) (h0 : W .regs) (h1 : W .disp) (h2 : W .ev) (h3 : W .supv) (h4 : W .tnd) (h5 : W .memx)
    (h6 : W .night) (he : execNightTestStart s = .next s') :
    Agree W r₀ s' := by
  cases he
  repeat' with_reducible first | assumption | apply nightStartOp_agree

theorem execCounterDumpCfg_agree {s' : State} (c : Cmd) (s : State)
    (hs : Agree W r₀ s) (h0 : W .regs) (h1 : W .held) (h2 : W .box) (h3 : W .disp) (h4 : W .ev) (h5 : W .link)
    (he : execCounterDumpCfg c s = .next s') :
    Agree W r₀ s' := by
  cases he
  repeat' with_reducible first | assumption | apply silwen_agree | apply counterDumpBody_agree | (intro)

theorem execNightTestCfg_agree {s' : State} (c : Cmd) (s : State)
    (hs : Agree W r₀ s) (h0 : W .regs) (h1 : W .box) (h2 : W .disp) (h3 : W .ev) (h4 : W .night) (h5 : W .link)
    (he : execNightTestCfg c s = .next s') :
    Agree W r₀ s' := by
  cases he
  repeat' with_reducible first | assumption | apply nightCfgBody_agree | apply silwen_agree | (intro)

theorem drillReturnOp_agree (s : State)
    (hs : Agree W r₀ s) (h0 : W .tnd) (h1 : W .night) :
    Agree W r₀ (drillReturnOp s) := by
  unfold drillReturnOp
  split
  · split
    · split
      · rename_i he
        exact modNight_agree _ _ (handoverStart_agree he hs ‹_›) ‹_›
      · exact modNight_agree _ _ hs ‹_›
    · exact hs
  · exact hs

theorem execNightTestDrillReturn_agree {s' : State} (s : State)
    (hs : Agree W r₀ s) (h0 : W .tnd) (h1 : W .night) (he : execNightTestDrillReturn s = .next s') :
    Agree W r₀ s' := by
  cases he
  repeat' with_reducible first | assumption | apply drillReturnOp_agree

theorem nightRef_agree (s : State)
    (hs : Agree W r₀ s) (h0 : W .night) :
    Agree W r₀ (nightRef s) := by
  unfold nightRef
  dsimp only
  repeat' with_reducible first | assumption | apply modNight_agree | apply agree_ite | (intro) | split

theorem execCntRead_agree {s' : State} (id : BitVec 12) (s : State)
    (hs : Agree W r₀ s) (h0 : W .regs) (he : execCntRead id s = .next s') :
    Agree W r₀ s' := by
  cases he
  repeat' with_reducible first | assumption | apply cntReadOp_agree

theorem nightSwitch_agree (old s : State)
    (hold : Agree W r₀ old) (hs : Agree W r₀ s) (h0 : W .night) :
    Agree W r₀ (nightSwitch old s) := by
  unfold nightSwitch
  dsimp only
  repeat' with_reducible first | assumption | apply modNight_agree | apply agree_ite | (intro) | split

theorem execNightTestEnd_agree {s' : State} (s : State)
    (hs : Agree W r₀ s) (h0 : W .regs) (h1 : W .box) (h2 : W .disp) (h3 : W .ev) (h4 : W .flt) (h5 : W .supv)
    (h6 : W .tnd) (h7 : W .night) (he : execNightTestEnd s = .next s') :
    Agree W r₀ s' := by
  cases he
  repeat' with_reducible first | assumption | apply nightEndOp_agree

theorem execHandoverSwitch_agree {s' : State} (s : State)
    (hs : Agree W r₀ s) (h0 : W .regs) (h1 : W .time) (h2 : W .box) (h3 : W .disp) (h4 : W .ev) (h5 : W .net)
    (h6 : W .ref) (h7 : W .supv) (h8 : W .tnd) (h9 : W .night) (h10 : W .link)
    (he : execHandoverSwitch s = .next s') :
    Agree W r₀ s' := by
  cases he
  repeat' with_reducible first | assumption | apply nightSwitch_agree | apply handoverSwitchOp_agree

theorem modCnt_agree (s : State) (f : CntSt → CntSt)
    (hs : Agree W r₀ s) (h0 : W .cnt) :
    Agree W r₀ (State.modCnt s f) := by
  unfold State.modCnt
  repeat' with_reducible first | assumption | (apply agree_set_cnt <;> assumption) | (intro) | apply agree_set_cnt

theorem dumpLatchOp_agree (s : State)
    (hs : Agree W r₀ s) (h0 : W .regs) (h1 : W .mem) (h2 : W .memx) (h3 : W .cnt) :
    Agree W r₀ (dumpLatchOp s) := by
  unfold dumpLatchOp
  dsimp only
  repeat' with_reducible first
    | assumption | apply incField_agree | apply setMemWord_agree | apply modCnt_agree | apply agree_ite | (intro)
    | split

theorem execCounterDumpLatch_agree {s' : State} (s : State)
    (hs : Agree W r₀ s) (h0 : W .regs) (h1 : W .mem) (h2 : W .memx) (h3 : W .cnt)
    (he : execCounterDumpLatch s = .next s') :
    Agree W r₀ s' := by
  cases he
  repeat' with_reducible first | assumption | apply dumpLatchOp_agree

theorem execRefMeasure_agree {s' : State} (cands : List CandMeas) (s : State)
    (hs : Agree W r₀ s) (h0 : W .regs) (h1 : W .time) (h2 : W .box) (h3 : W .disp) (h4 : W .ev) (h5 : W .ref)
    (h6 : W .supv) (h7 : W .tnd) (h8 : W .night) (h9 : W .link) (h10 : W .free)
    (he : execRefMeasure cands s = .next s') :
    Agree W r₀ s' := by
  cases he
  repeat' with_reducible first
    | assumption | apply nightRef_agree | apply nightStep_agree | apply refMeasureOp_agree

theorem counterSweepOp_agree (s : State)
    (hs : Agree W r₀ s) (h0 : W .cnt) :
    Agree W r₀ (counterSweepOp s) := by
  unfold counterSweepOp
  dsimp only
  repeat' with_reducible first
    | assumption | apply modCnt_agree | apply agree_ite | apply agree_when | apply agree_each | (intro) | split

theorem execCounterSweep_agree {s' : State} (s : State)
    (hs : Agree W r₀ s) (h0 : W .cnt) (he : execCounterSweep s = .next s') :
    Agree W r₀ s' := by
  cases he
  repeat' with_reducible first | assumption | apply counterSweepOp_agree

theorem execSupvInterval_agree {s' : State} (lines : List LineMeas) (groups : List GroupMeas) (s : State)
    (hs : Agree W r₀ s) (h0 : W .regs) (h1 : W .box) (h2 : W .disp) (h3 : W .ev) (h4 : W .supv) (h5 : W .tnd)
    (h6 : W .night) (h7 : W .link) (h8 : W .free) (he : execSupvInterval lines groups s = .next s') :
    Agree W r₀ s' := by
  cases he
  repeat' with_reducible first
    | assumption | apply nightEarth_agree | apply nightStep_agree | apply supvIntervalOp_agree | apply agree_ite
    | (intro) | split

theorem dumpDoneOp_agree (s : State)
    (hs : Agree W r₀ s) (h0 : W .regs) (h1 : W .mem) (h2 : W .disp) (h3 : W .ev) (h4 : W .memx) (h5 : W .cnt) :
    Agree W r₀ (dumpDoneOp s) := by
  unfold dumpDoneOp
  dsimp only
  repeat' with_reducible first
    | assumption | apply setMemWord_agree | apply raise_agree | apply put_agree | apply modCnt_agree
    | apply setBytes_agree | split

theorem execCounterDumpDone_agree {s' : State} (s : State)
    (hs : Agree W r₀ s) (h0 : W .regs) (h1 : W .mem) (h2 : W .disp) (h3 : W .ev) (h4 : W .memx) (h5 : W .cnt)
    (he : execCounterDumpDone s = .next s') :
    Agree W r₀ s' := by
  cases he
  repeat' with_reducible first | assumption | apply dumpDoneOp_agree

theorem execQuietSweepEnd_agree {s' : State} (s : State)
    (hs : Agree W r₀ s) (h0 : W .regs) (h1 : W .box) (h2 : W .supv) (h3 : W .tnd) (h4 : W .night) (h5 : W .link)
    (he : execQuietSweepEnd s = .next s') :
    Agree W r₀ s' := by
  cases he
  repeat' with_reducible first | assumption | apply sweepFinish_agree | apply nightStep_agree

end Sys2Proof.Laws
end

