-- ==== Sys2Proof/Laws/FramesPower.lean ====
section
/-! SUPPORT. Which parts of the state each operation of Machine/Power.lean may write. -/

namespace Sys2Proof.Laws
open Sys2Proof.Machine

variable {W : Part → Bool} {r₀ : State}

theorem modPwr_agree (s : State) (f : PowerSt → PowerSt)
    (hs : Agree W r₀ s) (h0 : W .pwr) :
    Agree W r₀ (State.modPwr s f) := by
  unfold State.modPwr
  repeat' with_reducible first | assumption | (apply agree_set_pwr <;> assumption) | (intro) | apply agree_set_pwr

theorem sleepBegin_agree (deep : Bool) (tok : Option Tok) (s : State)
    (hs : Agree W r₀ s) (h0 : W .regs) (h1 : W .pwr) :
    Agree W r₀ (sleepBegin deep tok s) := by
  unfold sleepBegin
  dsimp only
  repeat' with_reducible first
    | assumption | apply modPwr_agree | apply put_agree | apply agree_ite | apply agree_foldl
    | apply agree_foldl_fst | (intro) | split

theorem heldNext_agree (s : State)
    (hs : Agree W r₀ s) (h0 : W .regs) (h1 : W .pwr) :
    Agree W r₀ (heldNext s) := by
  unfold heldNext
  dsimp only
  repeat' with_reducible first | assumption | apply modPwr_agree | apply sleepBegin_agree | apply put_agree | split

theorem powerDone_agree (s : State)
    (hs : Agree W r₀ s) (h0 : W .regs) (h1 : W .box) (h2 : W .disp) (h3 : W .ev) :
    Agree W r₀ (powerDone s) := by
  unfold powerDone
  repeat' with_reducible first | assumption | apply notify_agree | apply raise_agree

theorem paceEndOp_agree (s : State)
    (hs : Agree W r₀ s) (h0 : W .regs) (h1 : W .box) (h2 : W .disp) (h3 : W .ev) (h4 : W .pwr) (h5 : W .link) :
    Agree W r₀ (paceEndOp s) := by
  unfold paceEndOp
  dsimp only
  repeat' with_reducible first
    | assumption | apply modPwr_agree | apply heldNext_agree | apply complete_agree | apply powerDone_agree
    | apply put_agree | apply agree_ite | (intro) | split

theorem execPaceTransitionEnd_agree {s' : State} (s : State)
    (hs : Agree W r₀ s) (h0 : W .regs) (h1 : W .box) (h2 : W .disp) (h3 : W .ev) (h4 : W .pwr) (h5 : W .link)
    (he : execPaceTransitionEnd s = .next s') :
    Agree W r₀ s' := by
  cases he
  repeat' with_reducible first | assumption | apply paceEndOp_agree

theorem lateAfterSleep_agree (s : State)
    (hs : Agree W r₀ s) (h0 : W .hamp) (h1 : W .supv) (h2 : W .night) :
    Agree W r₀ (lateAfterSleep s) := by
  unfold lateAfterSleep
  dsimp only
  repeat' with_reducible first | assumption | apply plansAfterStep_agree | apply schedulesLate_agree

theorem holdReq_agree (r : PowReq) (s : State)
    (hs : Agree W r₀ s) (h0 : W .regs) (h1 : W .box) (h2 : W .pwr) (h3 : W .link) :
    Agree W r₀ (holdReq r s) := by
  unfold holdReq
  dsimp only
  repeat' with_reducible first | assumption | apply modPwr_agree | apply complete_agree | apply put_agree | split

theorem setPaceBody_agree (c : Cmd) (s : State)
    (hs : Agree W r₀ s) (h0 : W .regs) (h1 : W .box) (h2 : W .pwr) (h3 : W .link) :
    Agree W r₀ (setPaceBody c s).1 := by
  unfold setPaceBody
  dsimp only
  repeat' with_reducible first
    | assumption | apply modPwr_agree | apply holdReq_agree | apply agree_ite_fst | apply agree_ite | (intro)
    | split

theorem sleepBody_agree (c : Cmd) (s : State)
    (hs : Agree W r₀ s) (h0 : W .regs) (h1 : W .box) (h2 : W .pwr) (h3 : W .link) :
    Agree W r₀ (sleepBody c s).1 := by
  unfold sleepBody
  dsimp only
  repeat' with_reducible first
    | assumption | apply sleepBegin_agree | apply holdReq_agree | apply agree_ite_fst | apply agree_ite | (intro)
    | split

theorem getPowerBody_agree (c : Cmd) (s : State)
    (hs : Agree W r₀ s) (h0 : W .free) :
    Agree W r₀ (getPowerBody c s).1 := by
  unfold getPowerBody
  repeat' with_reducible first | assumption | apply fresh_agree

theorem banksWake_agree (s : State)
    (hs : Agree W r₀ s) (h0 : W .regs) (h1 : W .mem) (h2 : W .box) (h3 : W .memx) (h4 : W .link) :
    Agree W r₀ (banksWake s) := by
  unfold banksWake
  dsimp only
  repeat' with_reducible first
    | assumption | apply bankMode_agree | apply agree_ite | apply agree_each | (intro) | split

theorem retentionWakeOp_agree (xin : Nat) (s : State)
    (hs : Agree W r₀ s) (h0 : W .regs) (h1 : W .held) (h2 : W .mem) (h3 : W .time) (h4 : W .eng) (h5 : W .box)
    (h6 : W .hamp) (h7 : W .mods) (h8 : W .disp) (h9 : W .sig) (h10 : W .cores) (h11 : W .ev) (h12 : W .flt)
    (h13 : W .tdm) (h14 : W .net) (h15 : W .ref) (h16 : W .supv) (h17 : W .pwr) (h18 : W .memx) (h19 : W .night)
    (h20 : W .link) (h21 : W .free) :
    Agree W r₀ (retentionWakeOp xin s) := by
  unfold retentionWakeOp
  dsimp only
  repeat' with_reducible first
    | assumption | apply modPwr_agree | apply heldNext_agree | apply lateAfterSleep_agree | apply engineStart_agree
    | apply ampBegin_agree | apply fresh_agree | apply foutSync_agree | apply switchTo_agree
    | apply powerDone_agree | apply put_agree | apply banksWake_agree | apply ampWatch_agree | apply modTime_agree
    | apply agree_ite | apply agree_each | (intro) | split

theorem execRetentionWake_agree {s' : State} (xinCount : Nat) (s : State)
    (hs : Agree W r₀ s) (h0 : W .regs) (h1 : W .held) (h2 : W .mem) (h3 : W .time) (h4 : W .eng) (h5 : W .box)
    (h6 : W .hamp) (h7 : W .mods) (h8 : W .disp) (h9 : W .sig) (h10 : W .cores) (h11 : W .ev) (h12 : W .flt)
    (h13 : W .tdm) (h14 : W .net) (h15 : W .ref) (h16 : W .supv) (h17 : W .pwr) (h18 : W .memx) (h19 : W .night)
    (h20 : W .link) (h21 : W .free) (he : execRetentionWake xinCount s = .next s') :
    Agree W r₀ s' := by
  cases he
  repeat' with_reducible first | assumption | apply retentionWakeOp_agree

theorem modSleep_agree (f : SleepRun → SleepRun) (s : State)
    (hs : Agree W r₀ s) (h0 : W .pwr) :
    Agree W r₀ (modSleep f s) := by
  unfold modSleep
  repeat' with_reducible first | assumption | apply modPwr_agree | (intro)

theorem sleepRampOp_agree (s : State)
    (hs : Agree W r₀ s) (h0 : W .regs) (h1 : W .eng) (h2 : W .box) (h3 : W .disp) (h4 : W .ev) (h5 : W .flt)
    (h6 : W .supv) (h7 : W .pwr) (h8 : W .memx) (h9 : W .night) :
    Agree W r₀ (sleepRampOp s) := by
  unfold sleepRampOp
  dsimp only
  repeat' with_reducible first
    | assumption | apply modEng_agree | apply nightAbort_agree | apply modAmp_agree | apply modSleep_agree
    | apply agree_ite | apply agree_each | (intro) | split

theorem execSleepRampStart_agree {s' : State} (s : State)
    (hs : Agree W r₀ s) (h0 : W .regs) (h1 : W .eng) (h2 : W .box) (h3 : W .disp) (h4 : W .ev) (h5 : W .flt)
    (h6 : W .supv) (h7 : W .pwr) (h8 : W .memx) (h9 : W .night) (he : execSleepRampStart s = .next s') :
    Agree W r₀ s' := by
  cases he
  repeat' with_reducible first | assumption | apply sleepRampOp_agree

theorem paceStart_agree (s : State)
    (hs : Agree W r₀ s) (h0 : W .regs) (h1 : W .box) (h2 : W .pwr) (h3 : W .link) :
    Agree W r₀ (paceStart s) := by
  unfold paceStart
  dsimp only
  repeat' with_reducible first
    | assumption | apply modPwr_agree | apply heldNext_agree | apply complete_agree | apply put_agree
    | apply agree_ite | apply agree_when | (intro) | split

theorem sleepAbandon_agree (code value : Nat) (s : State)
    (hs : Agree W r₀ s) (h0 : W .regs) (h1 : W .held) (h2 : W .eng) (h3 : W .box) (h4 : W .disp) (h5 : W .ev)
    (h6 : W .flt) (h7 : W .tdm) (h8 : W .supv) (h9 : W .pwr) (h10 : W .link) :
    Agree W r₀ (sleepAbandon code value s) := by
  unfold sleepAbandon
  dsimp only
  repeat' with_reducible first
    | assumption | apply modPwr_agree | apply heldNext_agree | apply ampBegin_agree | apply modEng_agree
    | apply complete_agree | apply modAmp_agree | apply raise_agree | apply put_agree | apply tdmEngineStart_agree
    | apply ampWatch_agree | apply agree_ite | apply agree_when | apply agree_each | (intro) | split

theorem abortPoint_agree (value : Nat) (s : State)
    (hs : Agree W r₀ s) (h0 : W .regs) (h1 : W .held) (h2 : W .eng) (h3 : W .box) (h4 : W .disp) (h5 : W .ev)
    (h6 : W .flt) (h7 : W .tdm) (h8 : W .supv) (h9 : W .pwr) (h10 : W .link) :
    Agree W r₀ (abortPoint value s) := by
  unfold abortPoint
  repeat' with_reducible first | assumption | apply sleepAbandon_agree | apply agree_ite | (intro) | split

theorem sleepReleaseOp_agree (s : State)
    (hs : Agree W r₀ s) (h0 : W .regs) (h1 : W .held) (h2 : W .eng) (h3 : W .box) (h4 : W .disp) (h5 : W .ev)
    (h6 : W .flt) (h7 : W .tdm) (h8 : W .supv) (h9 : W .pwr) (h10 : W .link) :
    Agree W r₀ (sleepReleaseOp s) := by
  unfold sleepReleaseOp
  repeat' with_reducible first
    | assumption | apply modPwr_agree | apply abortPoint_agree | apply modSleep_agree | apply agree_ite | (intro)
    | split

theorem execSleepReleaseStop_agree {s' : State} (s : State)
    (hs : Agree W r₀ s) (h0 : W .regs) (h1 : W .held) (h2 : W .eng) (h3 : W .box) (h4 : W .disp) (h5 : W .ev)
    (h6 : W .flt) (h7 : W .tdm) (h8 : W .supv) (h9 : W .pwr) (h10 : W .link)
    (he : execSleepReleaseStop s = .next s') :
    Agree W r₀ s' := by
  cases he
  repeat' with_reducible first | assumption | apply sleepReleaseOp_agree

theorem tempOp_agree (tj : BitVec 16) (s : State)
    (hs : Agree W r₀ s) (h0 : W .regs) (h1 : W .disp) (h2 : W .ev) (h3 : W .pwr) :
    Agree W r₀ (tempOp tj s) := by
  unfold tempOp
  dsimp only
  repeat' with_reducible first
    | assumption | apply modPwr_agree | apply raise_agree | apply put_agree | apply agree_ite | (intro) | split

theorem sleepBlockOp_agree (s : State)
    (hs : Agree W r₀ s) (h0 : W .regs) (h1 : W .held) (h2 : W .eng) (h3 : W .box) (h4 : W .disp) (h5 : W .ev)
    (h6 : W .flt) (h7 : W .tdm) (h8 : W .supv) (h9 : W .pwr) (h10 : W .link) :
    Agree W r₀ (sleepBlockOp s) := by
  unfold sleepBlockOp
  dsimp only
  repeat' with_reducible first
    | assumption | apply abortPoint_agree | apply modSleep_agree | apply put_agree | apply sleepAbandon_agree
    | apply agree_ite | apply agree_when | (intro) | split

theorem execSleepBlockStop_agree {s' : State} (s : State)
    (hs : Agree W r₀ s) (h0 : W .regs) (h1 : W .held) (h2 : W .eng) (h3 : W .box) (h4 : W .disp) (h5 : W .ev)
    (h6 : W .flt) (h7 : W .tdm) (h8 : W .supv) (h9 : W .pwr) (h10 : W .link)
    (he : execSleepBlockStop s = .next s') :
    Agree W r₀ s' := by
  cases he
  repeat' with_reducible first | assumption | apply sleepBlockOp_agree

theorem wakeBy_agree (cause : Nat) (s : State)
    (hs : Agree W r₀ s) (h0 : W .regs) (h1 : W .pwr) :
    Agree W r₀ (wakeBy cause s) := by
  unfold wakeBy
  repeat' with_reducible first
    | assumption | apply modPwr_agree | apply put_agree | apply agree_ite | (intro) | split

theorem alarmPin_agree (n : Nat) (b : Bool) (s : State)
    (hs : Agree W r₀ s) (h0 : W .pins) :
    Agree W r₀ (alarmPin n b s) := by
  unfold alarmPin
  dsimp only
  repeat' with_reducible first
    | assumption | (apply agree_set_pins <;> assumption) | apply agree_ite | (intro) | split | apply agree_set_pins

theorem execSleep_agree {s' : State} (c : Cmd) (s : State)
    (hs : Agree W r₀ s) (h0 : W .regs) (h1 : W .box) (h2 : W .disp) (h3 : W .ev) (h4 : W .pwr) (h5 : W .link)
    (he : execSleep c s = .next s') :
    Agree W r₀ s' := by
  cases he
  repeat' with_reducible first | assumption | apply silwen_agree | apply sleepBody_agree | (intro)

theorem sleepDrainOp_agree (s : State)
    (hs : Agree W r₀ s) (h0 : W .regs) (h1 : W .held) (h2 : W .eng) (h3 : W .box) (h4 : W .disp) (h5 : W .ev)
    (h6 : W .flt) (h7 : W .tdm) (h8 : W .supv) (h9 : W .pwr) (h10 : W .link) :
    Agree W r₀ (sleepDrainOp s) := by
  unfold sleepDrainOp
  repeat' with_reducible first
    | assumption | apply abortPoint_agree | apply modSleep_agree | apply agree_ite | (intro) | split

theorem execSleepDrainDone_agree {s' : State} (s : State)
    (hs : Agree W r₀ s) (h0 : W .regs) (h1 : W .held) (h2 : W .eng) (h3 : W .box) (h4 : W .disp) (h5 : W .ev)
    (h6 : W .flt) (h7 : W .tdm) (h8 : W .supv) (h9 : W .pwr) (h10 : W .link)
    (he : execSleepDrainDone s = .next s') :
    Agree W r₀ s' := by
  cases he
  repeat' with_reducible first | assumption | apply sleepDrainOp_agree

theorem banksSleep_agree (s : State)
    (hs : Agree W r₀ s) (h0 : W .regs) (h1 : W .mem) (h2 : W .memx) :
    Agree W r₀ (banksSleep s) := by
  unfold banksSleep
  repeat' with_reducible first
    | assumption | apply bankLose_agree | apply put_agree | apply agree_ite | apply agree_each | (intro) | split

theorem execGetPower_agree {s' : State} (c : Cmd) (s : State)
    (hs : Agree W r₀ s) (h0 : W .regs) (h1 : W .box) (h2 : W .disp) (h3 : W .ev) (h4 : W .link) (h5 : W .free)
    (he : execGetPower c s = .next s') :
    Agree W r₀ s' := by
  cases he
  repeat' with_reducible first | assumption | apply silwen_agree | apply getPowerBody_agree | (intro)

theorem execSetPace_agree {s' : State} (c : Cmd) (s : State)
    (hs : Agree W r₀ s) (h0 : W .regs) (h1 : W .box) (h2 : W .disp) (h3 : W .ev) (h4 : W .pwr) (h5 : W .link)
    (he : execSetPace c s = .next s') :
    Agree W r₀ s' := by
  cases he
  repeat' with_reducible first | assumption | apply silwen_agree | apply setPaceBody_agree | (intro)

theorem sleepEnteredOp_agree (s : State)
    (hs : Agree W r₀ s) (h0 : W .regs) (h1 : W .held) (h2 : W .mem) (h3 : W .eng) (h4 : W .box) (h5 : W .path)
    (h6 : W .mods) (h7 : W .disp) (h8 : W .sig) (h9 : W .ev) (h10 : W .flt) (h11 : W .sec) (h12 : W .mbx)
    (h13 : W .tdm) (h14 : W .supv) (h15 : W .pwr) (h16 : W .memx) (h17 : W .link) :
    Agree W r₀ (sleepEnteredOp s) := by
  unfold sleepEnteredOp
  dsimp only
  repeat' with_reducible first
    | assumption | apply engineSettle_agree | apply masterResetOp_agree | apply modPwr_agree | apply modEng_agree
    | apply foutSync_agree | apply complete_agree | apply put_agree | apply sleepAbandon_agree
    | apply clearMem_agree | apply banksSleep_agree | apply agree_ite | (intro) | split

theorem execSleepEntered_agree {s' : State} (s : State)
    (hs : Agree W r₀ s) (h0 : W .regs) (h1 : W .held) (h2 : W .mem) (h3 : W .eng) (h4 : W .box) (h5 : W .path)
    (h6 : W .mods) (h7 : W .disp) (h8 : W .sig) (h9 : W .ev) (h10 : W .flt) (h11 : W .sec) (h12 : W .mbx)
    (h13 : W .tdm) (h14 : W .supv) (h15 : W .pwr) (h16 : W .memx) (h17 : W .link)
    (he : execSleepEntered s = .next s') :
    Agree W r₀ s' := by
  cases he
  repeat' with_reducible first | assumption | apply sleepEnteredOp_agree

end Sys2Proof.Laws
end

