-- ==== Sys2Proof/Laws/FramesBoot.lean ====
section
/-! SUPPORT. Which parts of the state each operation of Machine/Boot.lean may write. -/

namespace Sys2Proof.Laws
open Sys2Proof.Machine

variable {W : Part → Bool} {r₀ : State}

theorem ddrTrain_agree (s : State)
    (hs : Agree W r₀ s) (h0 : W .regs) (h1 : W .held) :
    Agree W r₀ (ddrTrain s) := by
  unfold ddrTrain
  dsimp only
  repeat' with_reducible first
    | assumption | apply applyHeld_agree | apply put_agree | apply agree_ite | (intro) | split

theorem modSec_agree (s : State) (f : SecSt → SecSt)
    (hs : Agree W r₀ s) (h0 : W .sec) :
    Agree W r₀ (State.modSec s f) := by
  unfold State.modSec
  repeat' with_reducible first | assumption | (apply agree_set_sec <;> assumption) | (intro) | apply agree_set_sec

theorem deriveKeys_agree (s : State)
    (hs : Agree W r₀ s) (h0 : W .regs) (h1 : W .sec) :
    Agree W r₀ (deriveKeys s) := by
  unfold deriveKeys
  dsimp only
  repeat' with_reducible first
    | assumption | apply modSec_agree | apply put_agree | apply agree_ite | (intro) | split

theorem modBoot_agree (s : State) (f : BootSt → BootSt)
    (hs : Agree W r₀ s) (h0 : W .boot) :
    Agree W r₀ (State.modBoot s f) := by
  unfold State.modBoot
  repeat' with_reducible first
    | assumption | (apply agree_set_boot <;> assumption) | (intro) | apply agree_set_boot

theorem firmwareStartOp_agree (s : State)
    (hs : Agree W r₀ s) (h0 : W .regs) (h1 : W .held) (h2 : W .mem) (h3 : W .boot) (h4 : W .sec) :
    Agree W r₀ (firmwareStartOp s) := by
  unfold firmwareStartOp
  dsimp only
  repeat' with_reducible first
    | assumption | apply ddrTrain_agree | apply mbxLockSet_agree | apply routeWrite_agree | apply clearMem_agree
    | apply deriveKeys_agree | apply modBoot_agree | apply agree_ite | (intro) | split

theorem execFirmwareStart_agree {s' : State} (s : State)
    (hs : Agree W r₀ s) (h0 : W .regs) (h1 : W .held) (h2 : W .mem) (h3 : W .boot) (h4 : W .sec)
    (he : execFirmwareStart s = .next s') :
    Agree W r₀ s' := by
  cases he
  repeat' with_reducible first | assumption | apply firmwareStartOp_agree

theorem imgNone_agree (s : State)
    (hs : Agree W r₀ s) (h0 : W .regs) (h1 : W .boot) :
    Agree W r₀ (imgNone s) := by
  unfold imgNone
  repeat' with_reducible first | assumption | apply put_agree | apply modBoot_agree

theorem modOtp_agree (s : State) (f : Otp → Otp)
    (hs : Agree W r₀ s) (h0 : W .sec) :
    Agree W r₀ (State.modOtp s f) := by
  unfold State.modOtp
  repeat' with_reducible first | assumption | apply modSec_agree | (intro)

theorem lcDigestBody_agree (c : Cmd) (s : State)
    (hs : Agree W r₀ s) (h0 : W .sec) :
    Agree W r₀ (lcDigestBody c s).1 := by
  unfold lcDigestBody
  dsimp only
  repeat' with_reducible first
    | assumption | apply modOtp_agree | apply agree_ite_fst | apply agree_ite | (intro) | split

theorem execLifecycleSlotDigest_agree {s' : State} (c : Cmd) (s : State)
    (hs : Agree W r₀ s) (h0 : W .regs) (h1 : W .box) (h2 : W .disp) (h3 : W .ev) (h4 : W .sec) (h5 : W .link)
    (he : execLifecycleSlotDigest c s = .next s') :
    Agree W r₀ s' := by
  cases he
  repeat' with_reducible first | assumption | apply silwen_agree | apply lcDigestBody_agree | (intro)

theorem dropBody_agree (c : Cmd) (s : State)
    (hs : Agree W r₀ s) (h0 : W .sec) :
    Agree W r₀ (dropBody c s).1 := by
  unfold dropBody
  dsimp only
  repeat' with_reducible first
    | assumption | apply modSec_agree | apply agree_ite_fst | apply agree_ite | (intro) | split

theorem execCredentialDrop_agree {s' : State} (c : Cmd) (s : State)
    (hs : Agree W r₀ s) (h0 : W .regs) (h1 : W .box) (h2 : W .disp) (h3 : W .ev) (h4 : W .sec) (h5 : W .link)
    (he : execCredentialDrop c s = .next s') :
    Agree W r₀ s' := by
  cases he
  repeat' with_reducible first | assumption | apply silwen_agree | apply dropBody_agree | (intro)

theorem present_agree (c : Cmd) (role : Nat) (grant : Nat → State → State) (s : State)
    (hgrant : ∀ n s, Agree W r₀ s → Agree W r₀ (grant n s)) (hs : Agree W r₀ s) (h0 : W .sec) :
    Agree W r₀ (present c role grant s).1 := by
  unfold present
  dsimp only
  repeat' with_reducible first
    | assumption | apply hgrant | apply modSec_agree | apply agree_ite_fst | apply agree_ite | (intro) | split

theorem grantAlarm_agree (k : Nat) (s : State)
    (hs : Agree W r₀ s) (h0 : W .sec) :
    Agree W r₀ (grantAlarm k s) := by
  unfold grantAlarm
  repeat' with_reducible first | assumption | apply modSec_agree | apply agree_ite | (intro) | split

theorem presentBody_agree (c : Cmd) (s : State)
    (hs : Agree W r₀ s) (h0 : W .sec) :
    Agree W r₀ (presentBody c s).1 := by
  unfold presentBody
  repeat' with_reducible first
    | assumption | apply present_agree | apply grantAlarm_agree | apply agree_ite_fst | apply agree_ite | (intro)
    | split

theorem execCredentialPresent_agree {s' : State} (c : Cmd) (s : State)
    (hs : Agree W r₀ s) (h0 : W .regs) (h1 : W .box) (h2 : W .disp) (h3 : W .ev) (h4 : W .sec) (h5 : W .link)
    (he : execCredentialPresent c s = .next s') :
    Agree W r₀ s' := by
  cases he
  repeat' with_reducible first | assumption | apply silwen_agree | apply presentBody_agree | (intro)

theorem nonceBody_agree (c : Cmd) (s : State)
    (hs : Agree W r₀ s) (h0 : W .sec) (h1 : W .free) :
    Agree W r₀ (nonceBody c s).1 := by
  unfold nonceBody
  dsimp only
  repeat' with_reducible first
    | assumption | apply agree_putFree | apply modSec_agree | (apply agree_setFree <;> assumption)
    | apply agree_ite_fst | apply agree_ite | (intro) | split | apply agree_setFree
  all_goals exact Nat.le_add_right _ _

theorem grantExpert_agree (k : Nat) (s : State)
    (hs : Agree W r₀ s) (h0 : W .sec) :
    Agree W r₀ (grantExpert k s) := by
  unfold grantExpert
  repeat' with_reducible first | assumption | apply modSec_agree | apply agree_ite | (intro) | split

theorem expertEnableBody_agree (c : Cmd) (s : State)
    (hs : Agree W r₀ s) (h0 : W .sec) :
    Agree W r₀ (expertEnableBody c s).1 := by
  unfold expertEnableBody
  dsimp only
  repeat' with_reducible first
    | assumption | apply modSec_agree | apply grantExpert_agree | apply present_agree | apply agree_ite_fst
    | apply agree_ite | (intro) | split

theorem fuseShow_agree (s : State)
    (hs : Agree W r₀ s) (h0 : W .regs) :
    Agree W r₀ (fuseShow s) := by
  unfold fuseShow
  dsimp only
  repeat' with_reducible first | assumption | apply put_agree

theorem lcRevokeBody_agree (c : Cmd) (s : State)
    (hs : Agree W r₀ s) (h0 : W .regs) (h1 : W .sec) :
    Agree W r₀ (lcRevokeBody c s).1 := by
  unfold lcRevokeBody
  dsimp only
  repeat' with_reducible first
    | assumption | apply modOtp_agree | apply fuseShow_agree | apply agree_ite_fst | apply agree_ite | (intro)
    | split

theorem msgQueryBody_agree (c : Cmd) (s : State)
    (hs : Agree W r₀ s) :
    Agree W r₀ (msgQueryBody c s).1 := by
  unfold msgQueryBody
  repeat' with_reducible first | assumption | apply agree_ite_fst | apply agree_ite | (intro) | split

theorem lcMacBody_agree (c : Cmd) (s : State)
    (hs : Agree W r₀ s) (h0 : W .sec) :
    Agree W r₀ (lcMacBody c s).1 := by
  unfold lcMacBody
  repeat' with_reducible first
    | assumption | apply modOtp_agree | apply agree_ite_fst | apply agree_ite | (intro) | split

theorem msgDeleteBody_agree (c : Cmd) (s : State)
    (hs : Agree W r₀ s) (h0 : W .mods) :
    Agree W r₀ (msgDeleteBody c s).1 := by
  unfold msgDeleteBody
  repeat' with_reducible first
    | assumption | (apply agree_set_mods <;> assumption) | apply agree_ite_fst | apply agree_ite | (intro) | split
    | apply agree_set_mods

theorem helloBody_agree (c : Cmd) (s : State)
    (hs : Agree W r₀ s) (h0 : W .regs) (h1 : W .boot) (h2 : W .sec) :
    Agree W r₀ (helloBody c s).1 := by
  unfold helloBody
  dsimp only
  repeat' with_reducible first
    | assumption | apply modOtp_agree | apply modBoot_agree | apply fuseShow_agree | apply agree_ite_fst
    | apply agree_ite | (intro) | split

theorem wipeDone_agree (s : State)
    (hs : Agree W r₀ s) (h0 : W .regs) (h1 : W .mem) (h2 : W .sec) (h3 : W .memx) :
    Agree W r₀ (wipeDone s) := by
  unfold wipeDone
  dsimp only
  repeat' with_reducible first
    | assumption | apply modSec_agree | apply put_agree | apply clearMem_agree | apply modMem_agree

theorem lcAdvanceBody_agree (c : Cmd) (s : State)
    (hs : Agree W r₀ s) (h0 : W .regs) (h1 : W .mem) (h2 : W .disp) (h3 : W .ev) (h4 : W .boot) (h5 : W .sec)
    (h6 : W .memx) :
    Agree W r₀ (lcAdvanceBody c s).1 := by
  unfold lcAdvanceBody
  dsimp only
  repeat' with_reducible first
    | assumption | apply raise_agree | apply wipeDone_agree | apply modOtp_agree | apply modBoot_agree
    | apply fuseShow_agree | apply agree_ite_fst | apply agree_ite | (intro) | split

theorem msgCreateBody_agree (c : Cmd) (s : State)
    (hs : Agree W r₀ s) (h0 : W .mods) :
    Agree W r₀ (msgCreateBody c s).1 := by
  unfold msgCreateBody
  repeat' with_reducible first
    | assumption | (apply agree_set_mods <;> assumption) | apply agree_ite_fst | apply agree_ite | (intro) | split
    | apply agree_set_mods

theorem setNodeBody_agree (c : Cmd) (s : State)
    (hs : Agree W r₀ s) (h0 : W .boot) :
    Agree W r₀ (setNodeBody c s).1 := by
  unfold setNodeBody
  repeat' with_reducible first | assumption | apply modBoot_agree

theorem msgAppendRun_agree (data : List Byte) (c : Cmd) (s : State)
    (hs : Agree W r₀ s) (h0 : W .mods) :
    Agree W r₀ (msgAppendRun data c s).1 := by
  unfold msgAppendRun
  repeat' with_reducible first | assumption | (apply agree_set_mods <;> assumption) | split | apply agree_set_mods

theorem msgAppendBody_agree (c : Cmd) (s : State)
    (hs : Agree W r₀ s) (h0 : W .mods) :
    Agree W r₀ (msgAppendBody c s).1 := by
  unfold msgAppendBody
  repeat' with_reducible first
    | assumption | apply msgAppendRun_agree | apply agree_ite_fst | apply agree_ite | (intro) | split

theorem getInfoBody_agree (c : Cmd) (s : State)
    (hs : Agree W r₀ s) (h0 : W .free) :
    Agree W r₀ (getInfoBody c s).1 := by
  unfold getInfoBody
  dsimp only
  repeat' with_reducible first
    | assumption | apply fresh_agree | apply agree_ite_fst | apply agree_ite | (intro) | split

theorem imgAccept_agree (img : List Byte) (copy : Nat) (s : State)
    (hs : Agree W r₀ s) (h0 : W .regs) (h1 : W .boot) :
    Agree W r₀ (imgAccept img copy s) := by
  unfold imgAccept
  dsimp only
  repeat' with_reducible first | assumption | apply put_agree | apply modBoot_agree

theorem keepAlwaysOn_agree (old s : State)
    (hold : Agree W r₀ old) (hs : Agree W r₀ s) (h0 : W .regs) (h1 : W .held) (h2 : W .mem) (h3 : W .sec) :
    Agree W r₀ (keepAlwaysOn old s) := by
  unfold keepAlwaysOn
  have hm : Agree W r₀ { s with mem := bksCells old } :=
    agree_setMem hs ‹_› fun x => wf_bksCells (hold.memOk x)
  dsimp only
  repeat' with_reducible first
    | assumption | apply hold_agree | apply agree_setReg | apply put_agree | apply modSec_agree

theorem resetWhole_agree (cause : Nat) (aon : Bool) (sel : BitVec 2) (s : State)
    (hs : Agree W r₀ s) (h0 : W .regs) (h1 : W .held) (h2 : W .mem) (h3 : W .pins) (h4 : W .time) (h5 : W .eng)
    (h6 : W .box) (h7 : W .hamp) (h8 : W .path) (h9 : W .mods) (h10 : W .disp) (h11 : W .sig) (h12 : W .cores)
    (h13 : W .ev) (h14 : W .flt) (h15 : W .boot) (h16 : W .sec) (h17 : W .mbx) (h18 : W .tdm) (h19 : W .net)
    (h20 : W .ref) (h21 : W .supv) (h22 : W .tnd) (h23 : W .pwr) (h24 : W .memx) (h25 : W .cnt) (h26 : W .night)
    (h27 : W .link) :
    Agree W r₀ (resetWhole cause aon sel s) := by
  unfold resetWhole
  have h : Agree W r₀ { State.reset with
      pending := s.pending, free := s.free, pins := { s.pins with bootSel := sel } } :=
    ⟨fun p hp => by cases p <;> first | exact hs.same _ hp | simp_all, fun _ => rfl, fun _ => rfl, hs.free⟩
  dsimp only at h ⊢
  generalize ({ State.reset with
      pending := s.pending, free := s.free, pins := { s.pins with bootSel := sel } } : State) = z at h ⊢
  repeat' with_reducible first
    | assumption | apply mbxLockSet_agree | apply fuseShow_agree | apply keepAlwaysOn_agree | apply put_agree
    | apply modOtp_agree | apply modBoot_agree | (apply agree_set_mbx <;> assumption) | apply agree_ite | (intro) | split
    | apply agree_set_mbx

theorem sysrstOp_agree (sel : BitVec 2) (s : State)
    (hs : Agree W r₀ s) (h0 : W .regs) (h1 : W .held) (h2 : W .mem) (h3 : W .pins) (h4 : W .time) (h5 : W .eng)
    (h6 : W .box) (h7 : W .hamp) (h8 : W .path) (h9 : W .mods) (h10 : W .disp) (h11 : W .sig) (h12 : W .cores)
    (h13 : W .ev) (h14 : W .flt) (h15 : W .boot) (h16 : W .sec) (h17 : W .mbx) (h18 : W .tdm) (h19 : W .net)
    (h20 : W .ref) (h21 : W .supv) (h22 : W .tnd) (h23 : W .pwr) (h24 : W .memx) (h25 : W .cnt) (h26 : W .night)
    (h27 : W .link) :
    Agree W r₀ (sysrstOp sel s) := by
  unfold sysrstOp
  repeat' with_reducible first | assumption | apply resetWhole_agree

theorem lcResetOp_agree (s : State)
    (hs : Agree W r₀ s) (h0 : W .regs) (h1 : W .held) (h2 : W .mem) (h3 : W .pins) (h4 : W .time) (h5 : W .eng)
    (h6 : W .box) (h7 : W .hamp) (h8 : W .path) (h9 : W .mods) (h10 : W .disp) (h11 : W .sig) (h12 : W .cores)
    (h13 : W .ev) (h14 : W .flt) (h15 : W .boot) (h16 : W .sec) (h17 : W .mbx) (h18 : W .tdm) (h19 : W .net)
    (h20 : W .ref) (h21 : W .supv) (h22 : W .tnd) (h23 : W .pwr) (h24 : W .memx) (h25 : W .cnt) (h26 : W .night)
    (h27 : W .link) :
    Agree W r₀ (lcResetOp s) := by
  unfold lcResetOp
  repeat' with_reducible first | assumption | apply sysrstOp_agree | apply agree_ite | (intro) | split

theorem tempMeasureOp_agree (tj : BitVec 16) (s : State)
    (hs : Agree W r₀ s) (h0 : W .regs) (h1 : W .held) (h2 : W .mem) (h3 : W .pins) (h4 : W .time) (h5 : W .eng)
    (h6 : W .box) (h7 : W .hamp) (h8 : W .path) (h9 : W .mods) (h10 : W .disp) (h11 : W .sig) (h12 : W .cores)
    (h13 : W .ev) (h14 : W .flt) (h15 : W .boot) (h16 : W .sec) (h17 : W .mbx) (h18 : W .tdm) (h19 : W .net)
    (h20 : W .ref) (h21 : W .supv) (h22 : W .tnd) (h23 : W .pwr) (h24 : W .memx) (h25 : W .cnt) (h26 : W .night)
    (h27 : W .link) :
    Agree W r₀ (tempMeasureOp tj s) := by
  unfold tempMeasureOp
  repeat' with_reducible first
    | assumption | apply put_agree | apply tempOp_agree | apply resetWhole_agree | apply agree_ite | (intro)
    | split

theorem execLifecycleRevokeSlot_agree {s' : State} (c : Cmd) (s : State)
    (hs : Agree W r₀ s) (h0 : W .regs) (h1 : W .box) (h2 : W .disp) (h3 : W .ev) (h4 : W .sec) (h5 : W .link)
    (he : execLifecycleRevokeSlot c s = .next s') :
    Agree W r₀ s' := by
  cases he
  repeat' with_reducible first | assumption | apply silwen_agree | apply lcRevokeBody_agree | (intro)

theorem execMsgStoreDelete_agree {s' : State} (c : Cmd) (s : State)
    (hs : Agree W r₀ s) (h0 : W .regs) (h1 : W .box) (h2 : W .mods) (h3 : W .disp) (h4 : W .ev) (h5 : W .link)
    (he : execMsgStoreDelete c s = .next s') :
    Agree W r₀ s' := by
  cases he
  repeat' with_reducible first | assumption | apply silwen_agree | apply msgDeleteBody_agree | (intro)

theorem tryCopies_agree (a0 : List (List Byte × Nat)) (a1 : State)
    (ha1 : Agree W r₀ a1) (h0 : W .regs) (h1 : W .mem) (h2 : W .boot) (h3 : W .memx) :
    Agree W r₀ (tryCopies a0 a1) := by
  induction a0 generalizing a1 with
  | nil => exact imgNone_agree _ ha1 h0 h2
  | cons x l ih =>
    unfold tryCopies
    dsimp only
    repeat' with_reducible first | assumption | apply ih | apply imgAccept_agree | apply put_agree | apply setBytes_agree | split

theorem execSysrst_agree {s' : State} (sel : BitVec 2) (s : State)
    (hs : Agree W r₀ s) (h0 : W .regs) (h1 : W .held) (h2 : W .mem) (h3 : W .pins) (h4 : W .time) (h5 : W .eng)
    (h6 : W .box) (h7 : W .hamp) (h8 : W .path) (h9 : W .mods) (h10 : W .disp) (h11 : W .sig) (h12 : W .cores)
    (h13 : W .ev) (h14 : W .flt) (h15 : W .boot) (h16 : W .sec) (h17 : W .mbx) (h18 : W .tdm) (h19 : W .net)
    (h20 : W .ref) (h21 : W .supv) (h22 : W .tnd) (h23 : W .pwr) (h24 : W .memx) (h25 : W .cnt) (h26 : W .night)
    (h27 : W .link) (he : execSysrst sel s = .next s') :
    Agree W r₀ s' := by
  cases he
  repeat' with_reducible first | assumption | apply sysrstOp_agree

theorem wakeOp_agree (cause : Nat) (s : State)
    (hs : Agree W r₀ s) (h0 : W .regs) (h1 : W .held) (h2 : W .mem) (h3 : W .pins) (h4 : W .time) (h5 : W .eng)
    (h6 : W .box) (h7 : W .hamp) (h8 : W .path) (h9 : W .mods) (h10 : W .disp) (h11 : W .sig) (h12 : W .cores)
    (h13 : W .ev) (h14 : W .flt) (h15 : W .boot) (h16 : W .sec) (h17 : W .mbx) (h18 : W .tdm) (h19 : W .net)
    (h20 : W .ref) (h21 : W .supv) (h22 : W .tnd) (h23 : W .pwr) (h24 : W .memx) (h25 : W .cnt) (h26 : W .night)
    (h27 : W .link) :
    Agree W r₀ (wakeOp cause s) := by
  unfold wakeOp
  repeat' with_reducible first
    | assumption | apply wakeBy_agree | apply raise_agree | apply put_agree | apply resetWhole_agree
    | apply agree_ite | (intro) | split

theorem alarmWakeOp_agree (n : Nat) (rising : Bool) (s : State)
    (hs : Agree W r₀ s) (h0 : W .regs) (h1 : W .held) (h2 : W .mem) (h3 : W .pins) (h4 : W .time) (h5 : W .eng)
    (h6 : W .box) (h7 : W .hamp) (h8 : W .path) (h9 : W .mods) (h10 : W .disp) (h11 : W .sig) (h12 : W .cores)
    (h13 : W .ev) (h14 : W .flt) (h15 : W .boot) (h16 : W .sec) (h17 : W .mbx) (h18 : W .tdm) (h19 : W .net)
    (h20 : W .ref) (h21 : W .supv) (h22 : W .tnd) (h23 : W .pwr) (h24 : W .memx) (h25 : W .cnt) (h26 : W .night)
    (h27 : W .link) :
    Agree W r₀ (alarmWakeOp n rising s) := by
  unfold alarmWakeOp
  dsimp only
  repeat' with_reducible first
    | assumption | apply wakeOp_agree | apply alarmPin_agree | apply agree_ite | (intro) | split

theorem execAlarmWake_agree {s' : State} (n : Fin 4) (rising : Bool) (s : State)
    (hs : Agree W r₀ s) (h0 : W .regs) (h1 : W .held) (h2 : W .mem) (h3 : W .pins) (h4 : W .time) (h5 : W .eng)
    (h6 : W .box) (h7 : W .hamp) (h8 : W .path) (h9 : W .mods) (h10 : W .disp) (h11 : W .sig) (h12 : W .cores)
    (h13 : W .ev) (h14 : W .flt) (h15 : W .boot) (h16 : W .sec) (h17 : W .mbx) (h18 : W .tdm) (h19 : W .net)
    (h20 : W .ref) (h21 : W .supv) (h22 : W .tnd) (h23 : W .pwr) (h24 : W .memx) (h25 : W .cnt) (h26 : W .night)
    (h27 : W .link) (he : execAlarmWake n rising s = .next s') :
    Agree W r₀ s' := by
  cases he
  repeat' with_reducible first | assumption | apply alarmWakeOp_agree

theorem spiDownloadOp_agree (ws : List Word) (s : State)
    (hs : Agree W r₀ s) (h0 : W .regs) (h1 : W .disp) (h2 : W .ev) (h3 : W .boot) :
    Agree W r₀ (spiDownloadOp ws s) := by
  unfold spiDownloadOp
  dsimp only
  repeat' with_reducible first
    | assumption | apply agree_setReg | apply setChan_agree | apply modBoot_agree | apply agree_ite | (intro)
    | split

theorem suppliesOp_agree (s : State)
    (hs : Agree W r₀ s) (h0 : W .pwr) :
    Agree W r₀ (suppliesOp s) := by
  unfold suppliesOp
  repeat' with_reducible first | assumption | apply modPwr_agree

theorem porstOp_agree (sel : BitVec 2) (s : State)
    (hs : Agree W r₀ s) (h0 : W .regs) (h1 : W .held) (h2 : W .mem) (h3 : W .pins) (h4 : W .time) (h5 : W .eng)
    (h6 : W .box) (h7 : W .hamp) (h8 : W .path) (h9 : W .mods) (h10 : W .disp) (h11 : W .sig) (h12 : W .cores)
    (h13 : W .ev) (h14 : W .flt) (h15 : W .boot) (h16 : W .sec) (h17 : W .mbx) (h18 : W .tdm) (h19 : W .net)
    (h20 : W .ref) (h21 : W .supv) (h22 : W .tnd) (h23 : W .pwr) (h24 : W .memx) (h25 : W .cnt) (h26 : W .night)
    (h27 : W .link) :
    Agree W r₀ (porstOp sel s) := by
  unfold porstOp
  repeat' with_reducible first | assumption | apply resetWhole_agree

theorem tamperWipeDoneOp_agree (s : State)
    (hs : Agree W r₀ s) (h0 : W .regs) (h1 : W .mem) (h2 : W .sec) (h3 : W .memx) :
    Agree W r₀ (tamperWipeDoneOp s) := by
  unfold tamperWipeDoneOp
  repeat' with_reducible first | assumption | apply wipeDone_agree | apply agree_ite | (intro) | split

theorem execTamperWipeDone_agree {s' : State} (s : State)
    (hs : Agree W r₀ s) (h0 : W .regs) (h1 : W .mem) (h2 : W .sec) (h3 : W .memx)
    (he : execTamperWipeDone s = .next s') :
    Agree W r₀ s' := by
  cases he
  repeat' with_reducible first | assumption | apply tamperWipeDoneOp_agree

theorem tamperReleaseOp_agree (s : State)
    (hs : Agree W r₀ s) (h0 : W .regs) (h1 : W .pins) :
    Agree W r₀ (tamperReleaseOp s) := by
  unfold tamperReleaseOp
  dsimp only
  repeat' with_reducible first
    | assumption | apply put_agree | (apply agree_set_pins <;> assumption) | apply agree_set_pins

theorem romRetire_agree (s : State)
    (hs : Agree W r₀ s) (h0 : W .regs) (h1 : W .disp) (h2 : W .ev) (h3 : W .boot) :
    Agree W r₀ (romRetire s) := by
  unfold romRetire
  dsimp only
  repeat' with_reducible first
    | assumption | apply agree_setReg | apply setChan_agree | apply mbxLockSet_agree | apply modBoot_agree
    | apply agree_each | (intro)

theorem bootVerifyOp_agree (flash : List Byte) (s : State)
    (hs : Agree W r₀ s) (h0 : W .regs) (h1 : W .mem) (h2 : W .disp) (h3 : W .ev) (h4 : W .boot) (h5 : W .memx) :
    Agree W r₀ (bootVerifyOp flash s) := by
  unfold bootVerifyOp
  repeat' with_reducible first
    | assumption | apply imgNone_agree | apply tryCopies_agree | apply romRetire_agree | apply agree_ite | (intro)
    | split

theorem execLifecycleReset_agree {s' : State} (s : State)
    (hs : Agree W r₀ s) (h0 : W .regs) (h1 : W .held) (h2 : W .mem) (h3 : W .pins) (h4 : W .time) (h5 : W .eng)
    (h6 : W .box) (h7 : W .hamp) (h8 : W .path) (h9 : W .mods) (h10 : W .disp) (h11 : W .sig) (h12 : W .cores)
    (h13 : W .ev) (h14 : W .flt) (h15 : W .boot) (h16 : W .sec) (h17 : W .mbx) (h18 : W .tdm) (h19 : W .net)
    (h20 : W .ref) (h21 : W .supv) (h22 : W .tnd) (h23 : W .pwr) (h24 : W .memx) (h25 : W .cnt) (h26 : W .night)
    (h27 : W .link) (he : execLifecycleReset s = .next s') :
    Agree W r₀ s' := by
  cases he
  repeat' with_reducible first | assumption | apply lcResetOp_agree

theorem execLifecycleAdvance_agree {s' : State} (c : Cmd) (s : State)
    (hs : Agree W r₀ s) (h0 : W .regs) (h1 : W .mem) (h2 : W .box) (h3 : W .disp) (h4 : W .ev) (h5 : W .boot)
    (h6 : W .sec) (h7 : W .memx) (h8 : W .link) (he : execLifecycleAdvance c s = .next s') :
    Agree W r₀ s' := by
  cases he
  repeat' with_reducible first | assumption | apply silwen_agree | apply lcAdvanceBody_agree | (intro)

theorem execMsgStoreCreate_agree {s' : State} (c : Cmd) (s : State)
    (hs : Agree W r₀ s) (h0 : W .regs) (h1 : W .box) (h2 : W .mods) (h3 : W .disp) (h4 : W .ev) (h5 : W .link)
    (he : execMsgStoreCreate c s = .next s') :
    Agree W r₀ s' := by
  cases he
  repeat' with_reducible first | assumption | apply silwen_agree | apply msgCreateBody_agree | (intro)

theorem execMsgStoreQuery_agree {s' : State} (c : Cmd) (s : State)
    (hs : Agree W r₀ s) (h0 : W .regs) (h1 : W .box) (h2 : W .disp) (h3 : W .ev) (h4 : W .link)
    (he : execMsgStoreQuery c s = .next s') :
    Agree W r₀ s' := by
  cases he
  repeat' with_reducible first | assumption | apply silwen_agree | apply msgQueryBody_agree | (intro)

theorem execTempMeasure_agree {s' : State} (tj : BitVec 16) (s : State)
    (hs : Agree W r₀ s) (h0 : W .regs) (h1 : W .held) (h2 : W .mem) (h3 : W .pins) (h4 : W .time) (h5 : W .eng)
    (h6 : W .box) (h7 : W .hamp) (h8 : W .path) (h9 : W .mods) (h10 : W .disp) (h11 : W .sig) (h12 : W .cores)
    (h13 : W .ev) (h14 : W .flt) (h15 : W .boot) (h16 : W .sec) (h17 : W .mbx) (h18 : W .tdm) (h19 : W .net)
    (h20 : W .ref) (h21 : W .supv) (h22 : W .tnd) (h23 : W .pwr) (h24 : W .memx) (h25 : W .cnt) (h26 : W .night)
    (h27 : W .link) (he : execTempMeasure tj s = .next s') :
    Agree W r₀ s' := by
  cases he
  repeat' with_reducible first | assumption | apply tempMeasureOp_agree

theorem tamperWipeOp_agree (s : State)
    (hs : Agree W r₀ s) (h0 : W .regs) (h1 : W .pins) (h2 : W .disp) (h3 : W .ev) :
    Agree W r₀ (tamperWipeOp s) := by
  unfold tamperWipeOp
  dsimp only
  repeat' with_reducible first
    | assumption | apply raise_agree | apply put_agree | (apply agree_set_pins <;> assumption) | apply agree_ite
    | (intro) | split | apply agree_set_pins

theorem execTamperWipe_agree {s' : State} (s : State)
    (hs : Agree W r₀ s) (h0 : W .regs) (h1 : W .pins) (h2 : W .disp) (h3 : W .ev)
    (he : execTamperWipe s = .next s') :
    Agree W r₀ s' := by
  cases he
  repeat' with_reducible first | assumption | apply tamperWipeOp_agree

theorem execGetInfo_agree {s' : State} (c : Cmd) (s : State)
    (hs : Agree W r₀ s) (h0 : W .regs) (h1 : W .box) (h2 : W .disp) (h3 : W .ev) (h4 : W .link) (h5 : W .free)
    (he : execGetInfo c s = .next s') :
    Agree W r₀ s' := by
  cases he
  repeat' with_reducible first | assumption | apply silwen_agree | apply getInfoBody_agree | (intro)

theorem wakeAddressOp_agree (a : Nat) (s : State)
    (hs : Agree W r₀ s) (h0 : W .regs) (h1 : W .held) (h2 : W .mem) (h3 : W .pins) (h4 : W .time) (h5 : W .eng)
    (h6 : W .box) (h7 : W .hamp) (h8 : W .path) (h9 : W .mods) (h10 : W .disp) (h11 : W .sig) (h12 : W .cores)
    (h13 : W .ev) (h14 : W .flt) (h15 : W .boot) (h16 : W .sec) (h17 : W .mbx) (h18 : W .tdm) (h19 : W .net)
    (h20 : W .ref) (h21 : W .supv) (h22 : W .tnd) (h23 : W .pwr) (h24 : W .memx) (h25 : W .cnt) (h26 : W .night)
    (h27 : W .link) :
    Agree W r₀ (wakeAddressOp a s) := by
  unfold wakeAddressOp
  repeat' with_reducible first | assumption | apply wakeOp_agree | apply agree_ite | (intro) | split

theorem execWakeAddress_agree {s' : State} (addr : BitVec 7) (s : State)
    (hs : Agree W r₀ s) (h0 : W .regs) (h1 : W .held) (h2 : W .mem) (h3 : W .pins) (h4 : W .time) (h5 : W .eng)
    (h6 : W .box) (h7 : W .hamp) (h8 : W .path) (h9 : W .mods) (h10 : W .disp) (h11 : W .sig) (h12 : W .cores)
    (h13 : W .ev) (h14 : W .flt) (h15 : W .boot) (h16 : W .sec) (h17 : W .mbx) (h18 : W .tdm) (h19 : W .net)
    (h20 : W .ref) (h21 : W .supv) (h22 : W .tnd) (h23 : W .pwr) (h24 : W .memx) (h25 : W .cnt) (h26 : W .night)
    (h27 : W .link) (he : execWakeAddress addr s = .next s') :
    Agree W r₀ s' := by
  cases he
  repeat' with_reducible first | assumption | apply wakeAddressOp_agree

theorem execCredentialNonce_agree {s' : State} (c : Cmd) (s : State)
    (hs : Agree W r₀ s) (h0 : W .regs) (h1 : W .box) (h2 : W .disp) (h3 : W .ev) (h4 : W .sec) (h5 : W .link)
    (h6 : W .free) (he : execCredentialNonce c s = .next s') :
    Agree W r₀ s' := by
  cases he
  repeat' with_reducible first | assumption | apply silwen_agree | apply nonceBody_agree | (intro)

theorem execPorst_agree {s' : State} (sel : BitVec 2) (s : State)
    (hs : Agree W r₀ s) (h0 : W .regs) (h1 : W .held) (h2 : W .mem) (h3 : W .pins) (h4 : W .time) (h5 : W .eng)
    (h6 : W .box) (h7 : W .hamp) (h8 : W .path) (h9 : W .mods) (h10 : W .disp) (h11 : W .sig) (h12 : W .cores)
    (h13 : W .ev) (h14 : W .flt) (h15 : W .boot) (h16 : W .sec) (h17 : W .mbx) (h18 : W .tdm) (h19 : W .net)
    (h20 : W .ref) (h21 : W .supv) (h22 : W .tnd) (h23 : W .pwr) (h24 : W .memx) (h25 : W .cnt) (h26 : W .night)
    (h27 : W .link) (he : execPorst sel s = .next s') :
    Agree W r₀ s' := by
  cases he
  repeat' with_reducible first | assumption | apply porstOp_agree

theorem execSuppliesValid_agree {s' : State} (s : State)
    (hs : Agree W r₀ s) (h0 : W .pwr) (he : execSuppliesValid s = .next s') :
    Agree W r₀ s' := by
  cases he
  repeat' with_reducible first | assumption | apply suppliesOp_agree

theorem execCredentialLockoutEnd_agree {s' : State} (m : Sender) (s : State)
    (hs : Agree W r₀ s) (h0 : W .sec) (he : execCredentialLockoutEnd m s = .next s') :
    Agree W r₀ s' := by
  cases he
  repeat' with_reducible first | assumption | apply modSec_agree

theorem execLifecycleSetMac_agree {s' : State} (c : Cmd) (s : State)
    (hs : Agree W r₀ s) (h0 : W .regs) (h1 : W .box) (h2 : W .disp) (h3 : W .ev) (h4 : W .sec) (h5 : W .link)
    (he : execLifecycleSetMac c s = .next s') :
    Agree W r₀ s' := by
  cases he
  repeat' with_reducible first | assumption | apply silwen_agree | apply lcMacBody_agree | (intro)

theorem execMsgStoreAppend_agree {s' : State} (c : Cmd) (s : State)
    (hs : Agree W r₀ s) (h0 : W .regs) (h1 : W .box) (h2 : W .mods) (h3 : W .disp) (h4 : W .ev) (h5 : W .link)
    (he : execMsgStoreAppend c s = .next s') :
    Agree W r₀ s' := by
  cases he
  repeat' with_reducible first | assumption | apply silwen_agree | apply msgAppendBody_agree | (intro)

theorem execNonceExpiry_agree {s' : State} (m : Sender) (s : State)
    (hs : Agree W r₀ s) (h0 : W .sec) (he : execNonceExpiry m s = .next s') :
    Agree W r₀ s' := by
  cases he
  repeat' with_reducible first | assumption | apply modSec_agree

theorem execExpertEnable_agree {s' : State} (c : Cmd) (s : State)
    (hs : Agree W r₀ s) (h0 : W .regs) (h1 : W .box) (h2 : W .disp) (h3 : W .ev) (h4 : W .sec) (h5 : W .link)
    (he : execExpertEnable c s = .next s') :
    Agree W r₀ s' := by
  cases he
  repeat' with_reducible first | assumption | apply silwen_agree | apply expertEnableBody_agree | (intro)

theorem pcieDownloadOp_agree (len : Nat) (s : State)
    (hs : Agree W r₀ s) (h0 : W .boot) :
    Agree W r₀ (pcieDownloadOp len s) := by
  unfold pcieDownloadOp
  dsimp only
  repeat' with_reducible first | assumption | apply modBoot_agree | apply agree_ite | (intro) | split

theorem execTamperInRelease_agree {s' : State} (s : State)
    (hs : Agree W r₀ s) (h0 : W .regs) (h1 : W .pins) (he : execTamperInRelease s = .next s') :
    Agree W r₀ s' := by
  cases he
  repeat' with_reducible first | assumption | apply tamperReleaseOp_agree

theorem execSpiDownloadMessage_agree {s' : State} (words : List Word) (s : State)
    (hs : Agree W r₀ s) (h0 : W .regs) (h1 : W .disp) (h2 : W .ev) (h3 : W .boot)
    (he : execSpiDownloadMessage words s = .next s') :
    Agree W r₀ s' := by
  cases he
  repeat' with_reducible first | assumption | apply spiDownloadOp_agree

theorem execPcieDownloadPost_agree {s' : State} (len : Word) (s : State)
    (hs : Agree W r₀ s) (h0 : W .boot) (he : execPcieDownloadPost len s = .next s') :
    Agree W r₀ s' := by
  cases he
  repeat' with_reducible first | assumption | apply pcieDownloadOp_agree

theorem execSetNode_agree {s' : State} (c : Cmd) (s : State)
    (hs : Agree W r₀ s) (h0 : W .regs) (h1 : W .box) (h2 : W .disp) (h3 : W .ev) (h4 : W .boot) (h5 : W .link)
    (he : execSetNode c s = .next s') :
    Agree W r₀ s' := by
  cases he
  repeat' with_reducible first | assumption | apply silwen_agree | apply setNodeBody_agree | (intro)

theorem execBootImageVerify_agree {s' : State} (flash : List Byte) (s : State)
    (hs : Agree W r₀ s) (h0 : W .regs) (h1 : W .mem) (h2 : W .disp) (h3 : W .ev) (h4 : W .boot) (h5 : W .memx)
    (he : execBootImageVerify flash s = .next s') :
    Agree W r₀ s' := by
  cases he
  repeat' with_reducible first | assumption | apply bootVerifyOp_agree

theorem execHello_agree {s' : State} (c : Cmd) (s : State)
    (hs : Agree W r₀ s) (h0 : W .regs) (h1 : W .box) (h2 : W .disp) (h3 : W .ev) (h4 : W .boot) (h5 : W .sec)
    (h6 : W .link) (he : execHello c s = .next s') :
    Agree W r₀ s' := by
  cases he
  repeat' with_reducible first | assumption | apply silwen_agree | apply helloBody_agree | (intro)

end Sys2Proof.Laws
end

