-- ==== Sys2Proof/Laws/FramesHamperCmd.lean ====
section
/-! SUPPORT. Which parts of the state each operation of Machine/HamperCmd.lean may write. -/

namespace Sys2Proof.Laws
open Sys2Proof.Machine

variable {W : Part → Bool} {r₀ : State}

theorem modHamp_agree (s : State) (f : HampSt → HampSt)
    (hs : Agree W r₀ s) (h0 : W .hamp) :
    Agree W r₀ (State.modHamp s f) := by
  unfold State.modHamp
  repeat' with_reducible first
    | assumption | (apply agree_set_hamp <;> assumption) | (intro) | apply agree_set_hamp

theorem closeHid_agree (hid : Nat) (s : State)
    (hs : Agree W r₀ s) (h0 : W .hamp) :
    Agree W r₀ (closeHid hid s) := by
  unfold closeHid
  repeat' with_reducible first | assumption | apply modHamp_agree

theorem trailDef_agree (t dur shape : Nat) (s : State)
    (hs : Agree W r₀ s) (h0 : W .regs) :
    Agree W r₀ (trailDef t dur shape s) := by
  unfold trailDef
  repeat' with_reducible first | assumption | apply put_agree

theorem alarmArm_agree (n : Nat) (es : List Entry) (s : State)
    (hs : Agree W r₀ s) (h0 : W .regs) (h1 : W .hamp) :
    Agree W r₀ (alarmArm n es s) := by
  unfold alarmArm
  dsimp only
  repeat' with_reducible first
    | assumption | apply trailDef_agree | apply modHamp_agree | apply put_agree | apply agree_ite
    | apply agree_each | (intro) | split

theorem hamperTake_agree (c : Cmd) (code hid : Nat) (es : List Entry) (form use : List Nat) (wasOpen : Bool) (d : Dest) (s : State)
    (hs : Agree W r₀ s) (h0 : W .regs) (h1 : W .box) (h2 : W .hamp) (h3 : W .disp) (h4 : W .ev) (h5 : W .link) :
    Agree W r₀ (hamperTake c code hid es form use wasOpen d s).1 := by
  unfold hamperTake
  dsimp only
  repeat' with_reducible first
    | assumption | apply closeHid_agree | apply modHamp_agree | apply alarmArm_agree | apply takeMember_agree
    | apply raise_agree | apply dropMembers_agree | apply agree_ite_fst | apply agree_ite | apply agree_when
    | (intro) | split

theorem armAlarmBody_agree (c : Cmd) (s : State)
    (hs : Agree W r₀ s) (h0 : W .regs) (h1 : W .box) (h2 : W .hamp) (h3 : W .disp) (h4 : W .ev) (h5 : W .link) :
    Agree W r₀ (armAlarmBody c s).1 := by
  unfold armAlarmBody
  dsimp only
  repeat' with_reducible first
    | assumption | apply modHamp_agree | apply hamperTake_agree | apply put_agree | apply agree_ite_fst
    | apply agree_ite | (intro) | split

theorem hamperAddBody_agree (c : Cmd) (s : State)
    (hs : Agree W r₀ s) (h0 : W .regs) (h1 : W .hamp) (h2 : W .disp) (h3 : W .ev) :
    Agree W r₀ (hamperAddBody c s).1 := by
  unfold hamperAddBody
  dsimp only
  repeat' with_reducible first
    | assumption | apply modHamp_agree | apply raise_agree | apply agree_ite_fst | apply agree_ite
    | apply agree_when | (intro) | split

theorem sceneRecallBody_agree (c : Cmd) (s : State)
    (hs : Agree W r₀ s) (h0 : W .regs) (h1 : W .hamp) (h2 : W .disp) (h3 : W .ev) :
    Agree W r₀ (sceneRecallBody c s).1 := by
  unfold sceneRecallBody
  dsimp only
  repeat' with_reducible first
    | assumption | apply modHamp_agree | apply submit_agree | apply raise_agree | apply agree_ite_fst
    | apply agree_ite | apply agree_when | (intro) | split

theorem hamperCancelBody_agree (c : Cmd) (s : State)
    (hs : Agree W r₀ s) (h0 : W .regs) (h1 : W .box) (h2 : W .hamp) (h3 : W .disp) (h4 : W .ev) (h5 : W .link) :
    Agree W r₀ (hamperCancelBody c s).1 := by
  unfold hamperCancelBody
  dsimp only
  repeat' with_reducible first
    | assumption | apply replan_agree | apply modHamp_agree | apply raise_agree | apply dropMembers_agree
    | apply agree_ite_fst | apply agree_ite | apply agree_each | (intro) | split

theorem hamperOpenBody_agree (c : Cmd) (s : State)
    (hs : Agree W r₀ s) (h0 : W .regs) (h1 : W .hamp) (h2 : W .disp) (h3 : W .ev) :
    Agree W r₀ (hamperOpenBody c s).1 := by
  unfold hamperOpenBody
  dsimp only
  repeat' with_reducible first
    | assumption | apply modHamp_agree | apply raise_agree | apply agree_ite_fst | apply agree_ite | (intro)
    | split

theorem hamperCloseBody_agree (c : Cmd) (s : State)
    (hs : Agree W r₀ s) (h0 : W .regs) (h1 : W .box) (h2 : W .hamp) (h3 : W .disp) (h4 : W .ev) (h5 : W .link) :
    Agree W r₀ (hamperCloseBody c s).1 := by
  unfold hamperCloseBody
  dsimp only
  repeat' with_reducible first
    | assumption | apply hamperTake_agree | apply agree_ite_fst | apply agree_ite | (intro) | split

theorem hamperRawRun_agree (data : List Byte) (c : Cmd) (s : State)
    (hs : Agree W r₀ s) (h0 : W .regs) (h1 : W .box) (h2 : W .hamp) (h3 : W .disp) (h4 : W .ev) (h5 : W .link) :
    Agree W r₀ (hamperRawRun data c s).1 := by
  unfold hamperRawRun
  dsimp only
  repeat' with_reducible first
    | assumption | apply hamperTake_agree | apply agree_ite_fst | apply agree_ite | (intro) | split

theorem hamperRawBody_agree (c : Cmd) (s : State)
    (hs : Agree W r₀ s) (h0 : W .regs) (h1 : W .box) (h2 : W .hamp) (h3 : W .disp) (h4 : W .ev) (h5 : W .link) :
    Agree W r₀ (hamperRawBody c s).1 := by
  unfold hamperRawBody
  dsimp only
  repeat' with_reducible first
    | assumption | apply hamperRawRun_agree | apply agree_ite_fst | apply agree_ite | (intro) | split

theorem execSceneRecall_agree {s' : State} (c : Cmd) (s : State)
    (hs : Agree W r₀ s) (h0 : W .regs) (h1 : W .box) (h2 : W .hamp) (h3 : W .disp) (h4 : W .ev) (h5 : W .link)
    (he : execSceneRecall c s = .next s') :
    Agree W r₀ s' := by
  cases he
  repeat' with_reducible first | assumption | apply silwen_agree | apply sceneRecallBody_agree | (intro)

theorem execHamperRaw_agree {s' : State} (c : Cmd) (s : State)
    (hs : Agree W r₀ s) (h0 : W .regs) (h1 : W .box) (h2 : W .hamp) (h3 : W .disp) (h4 : W .ev) (h5 : W .link)
    (he : execHamperRaw c s = .next s') :
    Agree W r₀ s' := by
  cases he
  repeat' with_reducible first | assumption | apply silwen_agree | apply hamperRawBody_agree | (intro)

theorem execHamperOpen_agree {s' : State} (c : Cmd) (s : State)
    (hs : Agree W r₀ s) (h0 : W .regs) (h1 : W .box) (h2 : W .hamp) (h3 : W .disp) (h4 : W .ev) (h5 : W .link)
    (he : execHamperOpen c s = .next s') :
    Agree W r₀ s' := by
  cases he
  repeat' with_reducible first | assumption | apply silwen_agree | apply hamperOpenBody_agree | (intro)

theorem execHamperCancel_agree {s' : State} (c : Cmd) (s : State)
    (hs : Agree W r₀ s) (h0 : W .regs) (h1 : W .box) (h2 : W .hamp) (h3 : W .disp) (h4 : W .ev) (h5 : W .link)
    (he : execHamperCancel c s = .next s') :
    Agree W r₀ s' := by
  cases he
  repeat' with_reducible first | assumption | apply silwen_agree | apply hamperCancelBody_agree | (intro)

theorem execArmAlarm_agree {s' : State} (c : Cmd) (s : State)
    (hs : Agree W r₀ s) (h0 : W .regs) (h1 : W .box) (h2 : W .hamp) (h3 : W .disp) (h4 : W .ev) (h5 : W .link)
    (he : execArmAlarm c s = .next s') :
    Agree W r₀ s' := by
  cases he
  repeat' with_reducible first | assumption | apply silwen_agree | apply armAlarmBody_agree | (intro)

theorem execHamperClose_agree {s' : State} (c : Cmd) (s : State)
    (hs : Agree W r₀ s) (h0 : W .regs) (h1 : W .box) (h2 : W .hamp) (h3 : W .disp) (h4 : W .ev) (h5 : W .link)
    (he : execHamperClose c s = .next s') :
    Agree W r₀ s' := by
  cases he
  repeat' with_reducible first | assumption | apply silwen_agree | apply hamperCloseBody_agree | (intro)

theorem execHamperAdd_agree {s' : State} (c : Cmd) (s : State)
    (hs : Agree W r₀ s) (h0 : W .regs) (h1 : W .box) (h2 : W .hamp) (h3 : W .disp) (h4 : W .ev) (h5 : W .link)
    (he : execHamperAdd c s = .next s') :
    Agree W r₀ s' := by
  cases he
  repeat' with_reducible first | assumption | apply silwen_agree | apply hamperAddBody_agree | (intro)

end Sys2Proof.Laws
end

