-- ==== Sys2Proof/Laws/FramesCommit.lean ====
section
/-! SUPPORT. Which parts of the state each operation of Machine/Commit.lean may write. -/

namespace Sys2Proof.Laws
open Sys2Proof.Machine

variable {W : Part → Bool} {r₀ : State}

theorem stageLoad_agree (isMatrix : Bool) (es : List Entry) (s : State)
    (hs : Agree W r₀ s) (h0 : W .regs) (h1 : W .mem) (h2 : W .memx) :
    Agree W r₀ (stageLoad isMatrix es s) := by
  unfold stageLoad
  dsimp only
  repeat' with_reducible first
    | assumption | apply setMemWord_agree | apply setCoef_agree | apply copyMem_agree | apply agree_ite
    | apply agree_each | (intro) | split

theorem blockStore_agree (inst : Nat) (s : State)
    (hs : Agree W r₀ s) (h0 : W .regs) (h1 : W .mem) (h2 : W .memx) :
    Agree W r₀ (blockStore inst s) := by
  unfold blockStore
  dsimp only
  repeat' with_reducible first | assumption | apply setBytes_agree | split

theorem stileWords_agree (es : List Entry) (p : Nat) (s : State)
    (hs : Agree W r₀ s) (h0 : W .regs) (h1 : W .mem) (h2 : W .disp) (h3 : W .memx) :
    Agree W r₀ (stileWords es p s) := by
  unfold stileWords
  dsimp only
  repeat' with_reducible first
    | assumption | apply blockStore_agree | apply modDisp_agree | apply agree_each | apply agree_foldl
    | apply agree_foldl_fst | (intro)

theorem planLoad_agree (pl : Plan) (s : State)
    (hs : Agree W r₀ s) (h0 : W .regs) (h1 : W .mem) (h2 : W .box) (h3 : W .hamp) (h4 : W .disp) (h5 : W .ev)
    (h6 : W .flt) (h7 : W .memx) :
    Agree W r₀ (planLoad pl s) := by
  unfold planLoad
  dsimp only
  repeat' with_reducible first
    | assumption | apply stageLoad_agree | apply modHamp_agree | apply stileWords_agree | apply notice_agree
    | apply agree_ite | apply agree_when | apply agree_each | (intro) | split

theorem loadStartOp_agree (hid : Nat) (s : State)
    (hs : Agree W r₀ s) (h0 : W .regs) (h1 : W .mem) (h2 : W .box) (h3 : W .hamp) (h4 : W .disp) (h5 : W .ev)
    (h6 : W .flt) (h7 : W .memx) :
    Agree W r₀ (loadStartOp hid s) := by
  unfold loadStartOp
  repeat' with_reducible first | assumption | apply planLoad_agree | apply agree_ite | (intro) | split

theorem namedTrails_agree (es : List Entry) (n : Nat) (s : State)
    (hs : Agree W r₀ s) (h0 : W .path) :
    Agree W r₀ (namedTrails es n s) := by
  unfold namedTrails
  dsimp only
  repeat' with_reducible first | assumption | apply trailStart_agree | apply agree_each | (intro)

theorem poolTrails_agree (es : List Entry) (alarm : Option Nat) (n : Nat) (s : State)
    (hs : Agree W r₀ s) (h0 : W .regs) (h1 : W .path) :
    Agree W r₀ (poolTrails es alarm n s).1 := by
  unfold poolTrails
  dsimp only
  repeat' with_reducible first
    | assumption | apply trailDef_agree | apply trailStart_agree | apply agree_foldl | apply agree_foldl_fst
    | (intro) | split

theorem stageCommit_agree (isMatrix : Bool) (es : List Entry) (m : List ((Nat × Nat) × Nat)) (n : Nat) (s : State)
    (hs : Agree W r₀ s) (h0 : W .regs) (h1 : W .mem) (h2 : W .box) (h3 : W .path) (h4 : W .memx) (h5 : W .link) :
    Agree W r₀ (stageCommit isMatrix es m n s) := by
  unfold stageCommit
  dsimp only
  repeat' with_reducible first | assumption | apply transStart_agree | apply agree_ite | (intro) | split

theorem alarmLoad_agree (here : Nat) (s : State)
    (hs : Agree W r₀ s) (h0 : W .regs) (h1 : W .mem) (h2 : W .hamp) (h3 : W .disp) (h4 : W .memx) :
    Agree W r₀ (alarmLoad here s) := by
  unfold alarmLoad
  dsimp only
  repeat' with_reducible first
    | assumption | apply replan_agree | apply modHamp_agree | apply stileWords_agree | apply agree_ite
    | apply agree_each | (intro) | split

theorem execHamperLoadStart_agree {s' : State} (hid : BitVec 16) (s : State)
    (hs : Agree W r₀ s) (h0 : W .regs) (h1 : W .mem) (h2 : W .box) (h3 : W .hamp) (h4 : W .disp) (h5 : W .ev)
    (h6 : W .flt) (h7 : W .memx) (he : execHamperLoadStart hid s = .next s') :
    Agree W r₀ s' := by
  cases he
  repeat' with_reducible first | assumption | apply loadStartOp_agree

theorem entryCommit_agree (n p : Nat) (e : Entry) (s : State)
    (hs : Agree W r₀ s) (h0 : W .regs) (h1 : W .held) (h2 : W .box) (h3 : W .path) (h4 : W .disp) (h5 : W .sig)
    (h6 : W .ev) (h7 : W .flt) (h8 : W .tdm) (h9 : W .net) (h10 : W .supv) (h11 : W .link) :
    Agree W r₀ (entryCommit n p e s).1 := by
  unfold entryCommit
  dsimp only
  repeat' with_reducible first
    | assumption | apply selCommit_agree | apply streamCommit_agree | apply asrcCommit_agree
    | apply tdmMaskCommit_agree | apply muxChange_agree | apply ampCommit_agree | apply agree_ite_fst
    | apply agree_ite | apply agree_each | (intro) | split

theorem paramsCommit_agree (es : List Entry) (toks : List (Nat × Tok)) (late : Bool) (n : Nat) (s : State)
    (hs : Agree W r₀ s) (h0 : W .regs) (h1 : W .box) (h2 : W .path) (h3 : W .mods) (h4 : W .disp) (h5 : W .ev)
    (h6 : W .flt) (h7 : W .link) (h8 : W .free) :
    Agree W r₀ (paramsCommit es toks late n s) := by
  unfold paramsCommit
  dsimp only
  repeat' with_reducible first
    | assumption | apply paramCommit_agree | apply setParam_agree | apply mixChange_agree
    | apply buildTemplate_agree | apply agree_ite | apply agree_each | (intro) | split

theorem alarmQualifyOp_agree (n : Nat) (lvl : Bool) (s : State)
    (hs : Agree W r₀ s) (h0 : W .regs) (h1 : W .pins) (h2 : W .hamp) (h3 : W .disp) (h4 : W .ev) (h5 : W .link) :
    Agree W r₀ (alarmQualifyOp n lvl s) := by
  unfold alarmQualifyOp
  dsimp only
  repeat' with_reducible first
    | assumption | apply alarmPin_agree | apply modHamp_agree | apply raise_agree | apply put_agree
    | apply send_agree | apply agree_ite | (intro) | split

theorem execAlarmQualify_agree {s' : State} (n : Fin 4) (level : Bool) (s : State)
    (hs : Agree W r₀ s) (h0 : W .regs) (h1 : W .pins) (h2 : W .hamp) (h3 : W .disp) (h4 : W .ev) (h5 : W .link)
    (he : execAlarmQualify n level s = .next s') :
    Agree W r₀ s' := by
  cases he
  repeat' with_reducible first | assumption | apply alarmQualifyOp_agree

theorem commitEntries_agree (es : List Entry) (alarm : Option Nat) (toks : List (Nat × Tok)) (late : Bool) (p : Nat) (s : State)
    (hs : Agree W r₀ s) (h0 : W .regs) (h1 : W .held) (h2 : W .mem) (h3 : W .box) (h4 : W .path) (h5 : W .mods)
    (h6 : W .disp) (h7 : W .sig) (h8 : W .ev) (h9 : W .flt) (h10 : W .tdm) (h11 : W .net) (h12 : W .supv)
    (h13 : W .memx) (h14 : W .link) (h15 : W .free) :
    Agree W r₀ (commitEntries es alarm toks late p s).1 := by
  unfold commitEntries
  dsimp only
  repeat' with_reducible first
    | assumption | apply namedTrails_agree | apply poolTrails_agree | apply stageCommit_agree
    | apply entryCommit_agree | apply paramsCommit_agree | apply put_agree | apply agree_ite_fst | apply agree_ite
    | apply agree_each | apply agree_foldl | apply agree_foldl_fst | (intro) | split

theorem planCommit_agree (pl : Plan) (s : State)
    (hs : Agree W r₀ s) (h0 : W .regs) (h1 : W .held) (h2 : W .mem) (h3 : W .box) (h4 : W .hamp) (h5 : W .path)
    (h6 : W .mods) (h7 : W .disp) (h8 : W .sig) (h9 : W .ev) (h10 : W .flt) (h11 : W .tdm) (h12 : W .net)
    (h13 : W .supv) (h14 : W .memx) (h15 : W .link) (h16 : W .free) :
    Agree W r₀ (planCommit pl s) := by
  unfold planCommit
  dsimp only
  repeat' with_reducible first
    | assumption | apply modHamp_agree | apply memberFinal_agree | apply raise_agree | apply commitEntries_agree
    | apply agree_ite | apply agree_when | apply agree_each | (intro) | split

theorem hamperCommitOp_agree (hid : Nat) (s : State)
    (hs : Agree W r₀ s) (h0 : W .regs) (h1 : W .held) (h2 : W .mem) (h3 : W .box) (h4 : W .hamp) (h5 : W .path)
    (h6 : W .mods) (h7 : W .disp) (h8 : W .sig) (h9 : W .ev) (h10 : W .flt) (h11 : W .tdm) (h12 : W .net)
    (h13 : W .supv) (h14 : W .memx) (h15 : W .link) (h16 : W .free) :
    Agree W r₀ (hamperCommitOp hid s) := by
  unfold hamperCommitOp
  repeat' with_reducible first | assumption | apply planCommit_agree | apply agree_ite | (intro) | split

theorem execHamperCommit_agree {s' : State} (hid : BitVec 16) (s : State)
    (hs : Agree W r₀ s) (h0 : W .regs) (h1 : W .held) (h2 : W .mem) (h3 : W .box) (h4 : W .hamp) (h5 : W .path)
    (h6 : W .mods) (h7 : W .disp) (h8 : W .sig) (h9 : W .ev) (h10 : W .flt) (h11 : W .tdm) (h12 : W .net)
    (h13 : W .supv) (h14 : W .memx) (h15 : W .link) (h16 : W .free) (he : execHamperCommit hid s = .next s') :
    Agree W r₀ s' := by
  cases he
  repeat' with_reducible first | assumption | apply hamperCommitOp_agree

theorem alarmCommitOp_agree (n : Nat) (s : State)
    (hs : Agree W r₀ s) (h0 : W .regs) (h1 : W .held) (h2 : W .mem) (h3 : W .box) (h4 : W .hamp) (h5 : W .path)
    (h6 : W .mods) (h7 : W .disp) (h8 : W .sig) (h9 : W .ev) (h10 : W .flt) (h11 : W .tdm) (h12 : W .net)
    (h13 : W .supv) (h14 : W .memx) (h15 : W .night) (h16 : W .link) (h17 : W .free) :
    Agree W r₀ (alarmCommitOp n s) := by
  unfold alarmCommitOp
  dsimp only
  repeat' with_reducible first
    | assumption | apply modHamp_agree | apply planCommit_agree | apply raise_agree | apply commitEntries_agree
    | (apply agree_set_night <;> assumption) | apply agree_each | (intro) | split | apply agree_set_night

theorem execAlarmHamperCommit_agree {s' : State} (n : Fin 4) (s : State)
    (hs : Agree W r₀ s) (h0 : W .regs) (h1 : W .held) (h2 : W .mem) (h3 : W .box) (h4 : W .hamp) (h5 : W .path)
    (h6 : W .mods) (h7 : W .disp) (h8 : W .sig) (h9 : W .ev) (h10 : W .flt) (h11 : W .tdm) (h12 : W .net)
    (h13 : W .supv) (h14 : W .memx) (h15 : W .night) (h16 : W .link) (h17 : W .free)
    (he : execAlarmHamperCommit n s = .next s') :
    Agree W r₀ s' := by
  cases he
  repeat' with_reducible first | assumption | apply alarmCommitOp_agree

end Sys2Proof.Laws
end

