-- ==== Sys2Proof/Laws/FramesCoreRun.lean ====
section
/-! SUPPORT. Which parts of the state each operation of Machine/CoreRun.lean may write. -/

namespace Sys2Proof.Laws
open Sys2Proof.Machine

variable {W : Part → Bool} {r₀ : State}

theorem coreDbgreqOp_agree (k : Nat) (s : State)
    (hs : Agree W r₀ s) (h0 : W .cores) :
    Agree W r₀ (coreDbgreqOp k s) := by
  unfold coreDbgreqOp
  dsimp only
  repeat' with_reducible first | assumption | apply setCore_agree | apply agree_ite | (intro) | split

theorem coreEnd_agree (k : Nat) (s : State)
    (hs : Agree W r₀ s) (h0 : W .regs) (h1 : W .mem) (h2 : W .box) (h3 : W .path) (h4 : W .mods) (h5 : W .disp)
    (h6 : W .sig) (h7 : W .cores) (h8 : W .ev) (h9 : W .flt) (h10 : W .memx) (h11 : W .free) :
    Agree W r₀ (coreEnd k s) := by
  unfold coreEnd
  dsimp only
  repeat' with_reducible first
    | assumption | apply incSat_agree | apply itemDone_agree | apply coreItemMissed_agree | apply setCore_agree
    | apply freeCore_agree | apply agree_ite | (intro) | split

theorem flowAfter_agree (k : Nat) (after : Option (Nat × After)) (t : CoreSt) (s : State)
    (hs : Agree W r₀ s) (h0 : W .regs) (h1 : W .mem) (h2 : W .box) (h3 : W .path) (h4 : W .mods) (h5 : W .disp)
    (h6 : W .sig) (h7 : W .cores) (h8 : W .ev) (h9 : W .flt) (h10 : W .memx) (h11 : W .free) :
    Agree W r₀ (flowAfter k after t s) := by
  unfold flowAfter
  dsimp only
  repeat' with_reducible first | assumption | apply coreEnd_agree | apply setCore_agree | split

theorem coreFlow_agree (k : Nat) (c t : CoreSt) (s : State)
    (hs : Agree W r₀ s) (h0 : W .regs) (h1 : W .mem) (h2 : W .box) (h3 : W .path) (h4 : W .mods) (h5 : W .disp)
    (h6 : W .sig) (h7 : W .cores) (h8 : W .ev) (h9 : W .flt) (h10 : W .memx) (h11 : W .free) :
    Agree W r₀ (coreFlow k c t s) := by
  unfold coreFlow
  dsimp only
  repeat' with_reducible first
    | assumption | apply flowAfter_agree | apply setCore_agree | apply agree_ite | (intro) | split

theorem coreStop_agree (k : Nat) (cause : CoreCause) (a : Word) (s : State)
    (hs : Agree W r₀ s) (h0 : W .regs) (h1 : W .mem) (h2 : W .disp) (h3 : W .sig) (h4 : W .cores) (h5 : W .ev)
    (h6 : W .memx) :
    Agree W r₀ (coreStop k cause a s) := by
  unfold coreStop
  dsimp only
  repeat' with_reducible first
    | assumption | apply agree_setReg | apply setBit_agree | apply incField_agree | apply coreItemMissed_agree
    | apply raise_agree | apply put_agree | apply setCore_agree | apply agree_ite | (intro) | split

theorem storeOne_agree (k : Nat) (x : CoreStore) (s : State)
    (hs : Agree W r₀ s) (h0 : W .regs) (h1 : W .mem) (h2 : W .box) (h3 : W .disp) (h4 : W .ev) (h5 : W .sec)
    (h6 : W .mbx) (h7 : W .memx) :
    Agree W r₀ (storeOne k x s) := by
  unfold storeOne
  repeat' with_reducible first
    | assumption | apply mbxRegWrite_agree | apply setBytes_agree | apply agree_ite | apply agree_each | (intro)
    | split

theorem bundleEnd_agree (k : Nat) (s : State)
    (hs : Agree W r₀ s) (h0 : W .regs) (h1 : W .mem) (h2 : W .box) (h3 : W .path) (h4 : W .mods) (h5 : W .disp)
    (h6 : W .sig) (h7 : W .cores) (h8 : W .ev) (h9 : W .flt) (h10 : W .sec) (h11 : W .mbx) (h12 : W .memx)
    (h13 : W .free) :
    Agree W r₀ (bundleEnd k s) := by
  unfold bundleEnd
  dsimp only
  repeat' with_reducible first
    | assumption | apply incWrap_agree | apply coreFlow_agree | apply coreStop_agree | apply storeOne_agree
    | apply agree_ite | apply agree_each | (intro) | split

theorem runOp_agree (a : At) (f : State → CoreSt → State × CoreSt) (s : State)
    (hf : ∀ s c, Agree W r₀ s → Agree W r₀ (f s c).1) (hs : Agree W r₀ s) (h0 : W .regs) (h1 : W .mem)
    (h2 : W .box) (h3 : W .path) (h4 : W .mods) (h5 : W .disp) (h6 : W .sig) (h7 : W .cores) (h8 : W .ev)
    (h9 : W .flt) (h10 : W .sec) (h11 : W .mbx) (h12 : W .memx) (h13 : W .free) :
    Agree W r₀ (runOp a f s) := by
  unfold runOp
  dsimp only
  repeat' with_reducible first
    | assumption | apply hf | apply bundleEnd_agree | apply setCore_agree | apply coreStop_agree | apply agree_ite
    | (intro) | split

theorem runLocal_agree (a : At) (f : CoreSt → CoreSt) (s : State)
    (hs : Agree W r₀ s) (h0 : W .regs) (h1 : W .mem) (h2 : W .box) (h3 : W .path) (h4 : W .mods) (h5 : W .disp)
    (h6 : W .sig) (h7 : W .cores) (h8 : W .ev) (h9 : W .flt) (h10 : W .sec) (h11 : W .mbx) (h12 : W .memx)
    (h13 : W .free) :
    Agree W r₀ (runLocal a f s) := by
  unfold runLocal
  repeat' with_reducible first | assumption | apply runOp_agree | (intro)

theorem interruptEntryOp_agree (k : Nat) (s : State)
    (hs : Agree W r₀ s) (h0 : W .cores) :
    Agree W r₀ (interruptEntryOp k s) := by
  unfold interruptEntryOp
  dsimp only
  repeat' with_reducible first | assumption | apply setCore_agree | apply agree_ite | (intro) | split

theorem handlerTimeoutOp_agree (k : Nat) (s : State)
    (hs : Agree W r₀ s) (h0 : W .regs) (h1 : W .mem) (h2 : W .disp) (h3 : W .sig) (h4 : W .cores) (h5 : W .ev)
    (h6 : W .flt) (h7 : W .memx) :
    Agree W r₀ (handlerTimeoutOp k s) := by
  unfold handlerTimeoutOp
  dsimp only
  repeat' with_reducible first
    | assumption | apply coreRestartOp_agree | apply coreStop_agree | apply agree_ite | (intro) | split

theorem illegalBundleOp_agree (k : Nat) (b : BitVec 64) (s : State)
    (hs : Agree W r₀ s) (h0 : W .regs) (h1 : W .mem) (h2 : W .disp) (h3 : W .sig) (h4 : W .cores) (h5 : W .ev)
    (h6 : W .memx) :
    Agree W r₀ (illegalBundleOp k b s) := by
  unfold illegalBundleOp
  dsimp only
  repeat' with_reducible first | assumption | apply coreStop_agree | apply agree_ite | (intro) | split

theorem execIllegalBundle_agree {s' : State} (k : Fin 48) (bundle : BitVec 64) (s : State)
    (hs : Agree W r₀ s) (h0 : W .regs) (h1 : W .mem) (h2 : W .disp) (h3 : W .sig) (h4 : W .cores) (h5 : W .ev)
    (h6 : W .memx) (he : execIllegalBundle k bundle s = .next s') :
    Agree W r₀ s' := by
  cases he
  repeat' with_reducible first | assumption | apply illegalBundleOp_agree

theorem execHandlerTimeout_agree {s' : State} (k : Fin 48) (s : State)
    (hs : Agree W r₀ s) (h0 : W .regs) (h1 : W .mem) (h2 : W .disp) (h3 : W .sig) (h4 : W .cores) (h5 : W .ev)
    (h6 : W .flt) (h7 : W .memx) (he : execHandlerTimeout k s = .next s') :
    Agree W r₀ s' := by
  cases he
  repeat' with_reducible first | assumption | apply handlerTimeoutOp_agree

theorem execInterruptEntry_agree {s' : State} (k : Fin 48) (s : State)
    (hs : Agree W r₀ s) (h0 : W .cores) (he : execInterruptEntry k s = .next s') :
    Agree W r₀ s' := by
  cases he
  repeat' with_reducible first | assumption | apply interruptEntryOp_agree

theorem coreUrgentOp_agree (k : Nat) (u : BitVec 8) (s : State)
    (hs : Agree W r₀ s) (h0 : W .cores) :
    Agree W r₀ (coreUrgentOp k u s) := by
  unfold coreUrgentOp
  dsimp only
  repeat' with_reducible first | assumption | apply setCore_agree

theorem execCoreUrgentRaise_agree {s' : State} (k : Fin 48) (ucode : BitVec 8) (s : State)
    (hs : Agree W r₀ s) (h0 : W .cores) (he : execCoreUrgentRaise k ucode s = .next s') :
    Agree W r₀ s' := by
  cases he
  repeat' with_reducible first | assumption | apply coreUrgentOp_agree

theorem execCoreDbgreq_agree {s' : State} (k : Fin 48) (s : State)
    (hs : Agree W r₀ s) (h0 : W .cores) (he : execCoreDbgreq k s = .next s') :
    Agree W r₀ s' := by
  cases he
  repeat' with_reducible first | assumption | apply coreDbgreqOp_agree

end Sys2Proof.Laws
end

