-- ==== Sys2Proof/Laws/FramesCoreVec.lean ====
section
/-! SUPPORT. Which parts of the state each operation of Machine/CoreVec.lean may write. -/

namespace Sys2Proof.Laws
open Sys2Proof.Machine

variable {W : Part → Bool} {r₀ : State}

theorem execMac_agree {s' : State} (a : At) (f : VM) (s : State)
    (hs : Agree W r₀ s) (h0 : W .regs) (h1 : W .mem) (h2 : W .box) (h3 : W .path) (h4 : W .mods) (h5 : W .disp)
    (h6 : W .sig) (h7 : W .cores) (h8 : W .ev) (h9 : W .flt) (h10 : W .sec) (h11 : W .mbx) (h12 : W .memx)
    (h13 : W .free) (he : execMac a f s = .next s') :
    Agree W r₀ s' := by
  cases he
  repeat' with_reducible first | assumption | apply runLocal_agree

theorem execMacx_agree {s' : State} (a : At) (f : VM) (s : State)
    (hs : Agree W r₀ s) (h0 : W .regs) (h1 : W .mem) (h2 : W .box) (h3 : W .path) (h4 : W .mods) (h5 : W .disp)
    (h6 : W .sig) (h7 : W .cores) (h8 : W .ev) (h9 : W .flt) (h10 : W .sec) (h11 : W .mbx) (h12 : W .memx)
    (h13 : W .free) (he : execMacx a f s = .next s') :
    Agree W r₀ s' := by
  cases he
  repeat' with_reducible first | assumption | apply runLocal_agree

theorem execShr_agree {s' : State} (a : At) (f : VA) (s : State)
    (hs : Agree W r₀ s) (h0 : W .regs) (h1 : W .mem) (h2 : W .box) (h3 : W .path) (h4 : W .mods) (h5 : W .disp)
    (h6 : W .sig) (h7 : W .cores) (h8 : W .ev) (h9 : W .flt) (h10 : W .sec) (h11 : W .mbx) (h12 : W .memx)
    (h13 : W .free) (he : execShr a f s = .next s') :
    Agree W r₀ s' := by
  cases he
  repeat' with_reducible first | assumption | apply runLocal_agree

theorem execNega_agree {s' : State} (a : At) (f : VX) (s : State)
    (hs : Agree W r₀ s) (h0 : W .regs) (h1 : W .mem) (h2 : W .box) (h3 : W .path) (h4 : W .mods) (h5 : W .disp)
    (h6 : W .sig) (h7 : W .cores) (h8 : W .ev) (h9 : W .flt) (h10 : W .sec) (h11 : W .mbx) (h12 : W .memx)
    (h13 : W .free) (he : execNega a f s = .next s') :
    Agree W r₀ s' := by
  cases he
  repeat' with_reducible first | assumption | apply runLocal_agree

theorem execLdad_agree {s' : State} (a : At) (f : VX) (s : State)
    (hs : Agree W r₀ s) (h0 : W .regs) (h1 : W .mem) (h2 : W .box) (h3 : W .path) (h4 : W .mods) (h5 : W .disp)
    (h6 : W .sig) (h7 : W .cores) (h8 : W .ev) (h9 : W .flt) (h10 : W .sec) (h11 : W .mbx) (h12 : W .memx)
    (h13 : W .free) (he : execLdad a f s = .next s') :
    Agree W r₀ s' := by
  cases he
  repeat' with_reducible first | assumption | apply runLocal_agree

theorem execSuba_agree {s' : State} (a : At) (f : VX) (s : State)
    (hs : Agree W r₀ s) (h0 : W .regs) (h1 : W .mem) (h2 : W .box) (h3 : W .path) (h4 : W .mods) (h5 : W .disp)
    (h6 : W .sig) (h7 : W .cores) (h8 : W .ev) (h9 : W .flt) (h10 : W .sec) (h11 : W .mbx) (h12 : W .memx)
    (h13 : W .free) (he : execSuba a f s = .next s') :
    Agree W r₀ s' := by
  cases he
  repeat' with_reducible first | assumption | apply runLocal_agree

theorem execSld_agree {s' : State} (a : At) (f : VA) (s : State)
    (hs : Agree W r₀ s) (h0 : W .regs) (h1 : W .mem) (h2 : W .box) (h3 : W .path) (h4 : W .mods) (h5 : W .disp)
    (h6 : W .sig) (h7 : W .cores) (h8 : W .ev) (h9 : W .flt) (h10 : W .sec) (h11 : W .mbx) (h12 : W .memx)
    (h13 : W .free) (he : execSld a f s = .next s') :
    Agree W r₀ s' := by
  cases he
  repeat' with_reducible first | assumption | apply runLocal_agree | apply agree_ite | (intro) | split

theorem execAnd_agree {s' : State} (a : At) (f : VA) (s : State)
    (hs : Agree W r₀ s) (h0 : W .regs) (h1 : W .mem) (h2 : W .box) (h3 : W .path) (h4 : W .mods) (h5 : W .disp)
    (h6 : W .sig) (h7 : W .cores) (h8 : W .ev) (h9 : W .flt) (h10 : W .sec) (h11 : W .mbx) (h12 : W .memx)
    (h13 : W .free) (he : execAnd a f s = .next s') :
    Agree W r₀ s' := by
  cases he
  repeat' with_reducible first | assumption | apply runLocal_agree

theorem execMulx_agree {s' : State} (a : At) (f : VM) (s : State)
    (hs : Agree W r₀ s) (h0 : W .regs) (h1 : W .mem) (h2 : W .box) (h3 : W .path) (h4 : W .mods) (h5 : W .disp)
    (h6 : W .sig) (h7 : W .cores) (h8 : W .ev) (h9 : W .flt) (h10 : W .sec) (h11 : W .mbx) (h12 : W .memx)
    (h13 : W .free) (he : execMulx a f s = .next s') :
    Agree W r₀ s' := by
  cases he
  repeat' with_reducible first | assumption | apply runLocal_agree

theorem execAbs_agree {s' : State} (a : At) (f : VA) (s : State)
    (hs : Agree W r₀ s) (h0 : W .regs) (h1 : W .mem) (h2 : W .box) (h3 : W .path) (h4 : W .mods) (h5 : W .disp)
    (h6 : W .sig) (h7 : W .cores) (h8 : W .ev) (h9 : W .flt) (h10 : W .sec) (h11 : W .mbx) (h12 : W .memx)
    (h13 : W .free) (he : execAbs a f s = .next s') :
    Agree W r₀ s' := by
  cases he
  repeat' with_reducible first | assumption | apply runLocal_agree | apply agree_ite | (intro) | split

theorem execClra_agree {s' : State} (a : At) (f : VX) (s : State)
    (hs : Agree W r₀ s) (h0 : W .regs) (h1 : W .mem) (h2 : W .box) (h3 : W .path) (h4 : W .mods) (h5 : W .disp)
    (h6 : W .sig) (h7 : W .cores) (h8 : W .ev) (h9 : W .flt) (h10 : W .sec) (h11 : W .mbx) (h12 : W .memx)
    (h13 : W .free) (he : execClra a f s = .next s') :
    Agree W r₀ s' := by
  cases he
  repeat' with_reducible first | assumption | apply runLocal_agree

theorem execNeg_agree {s' : State} (a : At) (f : VA) (s : State)
    (hs : Agree W r₀ s) (h0 : W .regs) (h1 : W .mem) (h2 : W .box) (h3 : W .path) (h4 : W .mods) (h5 : W .disp)
    (h6 : W .sig) (h7 : W .cores) (h8 : W .ev) (h9 : W .flt) (h10 : W .sec) (h11 : W .mbx) (h12 : W .memx)
    (h13 : W .free) (he : execNeg a f s = .next s') :
    Agree W r₀ s' := by
  cases he
  repeat' with_reducible first | assumption | apply runLocal_agree

theorem execAdd_agree {s' : State} (a : At) (f : VA) (s : State)
    (hs : Agree W r₀ s) (h0 : W .regs) (h1 : W .mem) (h2 : W .box) (h3 : W .path) (h4 : W .mods) (h5 : W .disp)
    (h6 : W .sig) (h7 : W .cores) (h8 : W .ev) (h9 : W .flt) (h10 : W .sec) (h11 : W .mbx) (h12 : W .memx)
    (h13 : W .free) (he : execAdd a f s = .next s') :
    Agree W r₀ s' := by
  cases he
  repeat' with_reducible first | assumption | apply runLocal_agree

theorem execOr_agree {s' : State} (a : At) (f : VA) (s : State)
    (hs : Agree W r₀ s) (h0 : W .regs) (h1 : W .mem) (h2 : W .box) (h3 : W .path) (h4 : W .mods) (h5 : W .disp)
    (h6 : W .sig) (h7 : W .cores) (h8 : W .ev) (h9 : W .flt) (h10 : W .sec) (h11 : W .mbx) (h12 : W .memx)
    (h13 : W .free) (he : execOr a f s = .next s') :
    Agree W r₀ s' := by
  cases he
  repeat' with_reducible first | assumption | apply runLocal_agree

theorem execSel_agree {s' : State} (a : At) (f : VA) (s : State)
    (hs : Agree W r₀ s) (h0 : W .regs) (h1 : W .mem) (h2 : W .box) (h3 : W .path) (h4 : W .mods) (h5 : W .disp)
    (h6 : W .sig) (h7 : W .cores) (h8 : W .ev) (h9 : W .flt) (h10 : W .sec) (h11 : W .mbx) (h12 : W .memx)
    (h13 : W .free) (he : execSel a f s = .next s') :
    Agree W r₀ s' := by
  cases he
  repeat' with_reducible first | assumption | apply runLocal_agree | apply agree_ite | (intro) | split

theorem execMova_agree {s' : State} (a : At) (f : VX) (s : State)
    (hs : Agree W r₀ s) (h0 : W .regs) (h1 : W .mem) (h2 : W .box) (h3 : W .path) (h4 : W .mods) (h5 : W .disp)
    (h6 : W .sig) (h7 : W .cores) (h8 : W .ev) (h9 : W .flt) (h10 : W .sec) (h11 : W .mbx) (h12 : W .memx)
    (h13 : W .free) (he : execMova a f s = .next s') :
    Agree W r₀ s' := by
  cases he
  repeat' with_reducible first | assumption | apply runLocal_agree

theorem execXor_agree {s' : State} (a : At) (f : VA) (s : State)
    (hs : Agree W r₀ s) (h0 : W .regs) (h1 : W .mem) (h2 : W .box) (h3 : W .path) (h4 : W .mods) (h5 : W .disp)
    (h6 : W .sig) (h7 : W .cores) (h8 : W .ev) (h9 : W .flt) (h10 : W .sec) (h11 : W .mbx) (h12 : W .memx)
    (h13 : W .free) (he : execXor a f s = .next s') :
    Agree W r₀ s' := by
  cases he
  repeat' with_reducible first | assumption | apply runLocal_agree

theorem execMin_agree {s' : State} (a : At) (f : VA) (s : State)
    (hs : Agree W r₀ s) (h0 : W .regs) (h1 : W .mem) (h2 : W .box) (h3 : W .path) (h4 : W .mods) (h5 : W .disp)
    (h6 : W .sig) (h7 : W .cores) (h8 : W .ev) (h9 : W .flt) (h10 : W .sec) (h11 : W .mbx) (h12 : W .memx)
    (h13 : W .free) (he : execMin a f s = .next s') :
    Agree W r₀ s' := by
  cases he
  repeat' with_reducible first | assumption | apply runLocal_agree | apply agree_ite | (intro) | split

theorem execBcast_agree {s' : State} (a : At) (f : VA) (s : State)
    (hs : Agree W r₀ s) (h0 : W .regs) (h1 : W .mem) (h2 : W .box) (h3 : W .path) (h4 : W .mods) (h5 : W .disp)
    (h6 : W .sig) (h7 : W .cores) (h8 : W .ev) (h9 : W .flt) (h10 : W .sec) (h11 : W .mbx) (h12 : W .memx)
    (h13 : W .free) (he : execBcast a f s = .next s') :
    Agree W r₀ s' := by
  cases he
  repeat' with_reducible first | assumption | apply runLocal_agree

theorem execRdad_agree {s' : State} (a : At) (f : VX) (s : State)
    (hs : Agree W r₀ s) (h0 : W .regs) (h1 : W .mem) (h2 : W .box) (h3 : W .path) (h4 : W .mods) (h5 : W .disp)
    (h6 : W .sig) (h7 : W .cores) (h8 : W .ev) (h9 : W .flt) (h10 : W .sec) (h11 : W .mbx) (h12 : W .memx)
    (h13 : W .free) (he : execRdad a f s = .next s') :
    Agree W r₀ s' := by
  cases he
  repeat' with_reducible first | assumption | apply runLocal_agree

theorem execMax_agree {s' : State} (a : At) (f : VA) (s : State)
    (hs : Agree W r₀ s) (h0 : W .regs) (h1 : W .mem) (h2 : W .box) (h3 : W .path) (h4 : W .mods) (h5 : W .disp)
    (h6 : W .sig) (h7 : W .cores) (h8 : W .ev) (h9 : W .flt) (h10 : W .sec) (h11 : W .mbx) (h12 : W .memx)
    (h13 : W .free) (he : execMax a f s = .next s') :
    Agree W r₀ s' := by
  cases he
  repeat' with_reducible first | assumption | apply runLocal_agree | apply agree_ite | (intro) | split

theorem execMul_agree {s' : State} (a : At) (f : VM) (s : State)
    (hs : Agree W r₀ s) (h0 : W .regs) (h1 : W .mem) (h2 : W .box) (h3 : W .path) (h4 : W .mods) (h5 : W .disp)
    (h6 : W .sig) (h7 : W .cores) (h8 : W .ev) (h9 : W .flt) (h10 : W .sec) (h11 : W .mbx) (h12 : W .memx)
    (h13 : W .free) (he : execMul a f s = .next s') :
    Agree W r₀ s' := by
  cases he
  repeat' with_reducible first | assumption | apply runLocal_agree

theorem execSha_agree {s' : State} (a : At) (f : VX) (s : State)
    (hs : Agree W r₀ s) (h0 : W .regs) (h1 : W .mem) (h2 : W .box) (h3 : W .path) (h4 : W .mods) (h5 : W .disp)
    (h6 : W .sig) (h7 : W .cores) (h8 : W .ev) (h9 : W .flt) (h10 : W .sec) (h11 : W .mbx) (h12 : W .memx)
    (h13 : W .free) (he : execSha a f s = .next s') :
    Agree W r₀ s' := by
  cases he
  repeat' with_reducible first | assumption | apply runLocal_agree

theorem execRda_agree {s' : State} (a : At) (f : VX) (s : State)
    (hs : Agree W r₀ s) (h0 : W .regs) (h1 : W .mem) (h2 : W .box) (h3 : W .path) (h4 : W .mods) (h5 : W .disp)
    (h6 : W .sig) (h7 : W .cores) (h8 : W .ev) (h9 : W .flt) (h10 : W .sec) (h11 : W .mbx) (h12 : W .memx)
    (h13 : W .free) (he : execRda a f s = .next s') :
    Agree W r₀ s' := by
  cases he
  repeat' with_reducible first | assumption | apply runLocal_agree

theorem execCmp_agree {s' : State} (a : At) (f : VA) (s : State)
    (hs : Agree W r₀ s) (h0 : W .regs) (h1 : W .mem) (h2 : W .box) (h3 : W .path) (h4 : W .mods) (h5 : W .disp)
    (h6 : W .sig) (h7 : W .cores) (h8 : W .ev) (h9 : W .flt) (h10 : W .sec) (h11 : W .mbx) (h12 : W .memx)
    (h13 : W .free) (he : execCmp a f s = .next s') :
    Agree W r₀ s' := by
  cases he
  repeat' with_reducible first | assumption | apply runLocal_agree

theorem execAdda_agree {s' : State} (a : At) (f : VX) (s : State)
    (hs : Agree W r₀ s) (h0 : W .regs) (h1 : W .mem) (h2 : W .box) (h3 : W .path) (h4 : W .mods) (h5 : W .disp)
    (h6 : W .sig) (h7 : W .cores) (h8 : W .ev) (h9 : W .flt) (h10 : W .sec) (h11 : W .mbx) (h12 : W .memx)
    (h13 : W .free) (he : execAdda a f s = .next s') :
    Agree W r₀ s' := by
  cases he
  repeat' with_reducible first | assumption | apply runLocal_agree

theorem execLda_agree {s' : State} (a : At) (f : VX) (s : State)
    (hs : Agree W r₀ s) (h0 : W .regs) (h1 : W .mem) (h2 : W .box) (h3 : W .path) (h4 : W .mods) (h5 : W .disp)
    (h6 : W .sig) (h7 : W .cores) (h8 : W .ev) (h9 : W .flt) (h10 : W .sec) (h11 : W .mbx) (h12 : W .memx)
    (h13 : W .free) (he : execLda a f s = .next s') :
    Agree W r₀ s' := by
  cases he
  repeat' with_reducible first | assumption | apply runLocal_agree

theorem execShl_agree {s' : State} (a : At) (f : VA) (s : State)
    (hs : Agree W r₀ s) (h0 : W .regs) (h1 : W .mem) (h2 : W .box) (h3 : W .path) (h4 : W .mods) (h5 : W .disp)
    (h6 : W .sig) (h7 : W .cores) (h8 : W .ev) (h9 : W .flt) (h10 : W .sec) (h11 : W .mbx) (h12 : W .memx)
    (h13 : W .free) (he : execShl a f s = .next s') :
    Agree W r₀ s' := by
  cases he
  repeat' with_reducible first | assumption | apply runLocal_agree

theorem execMsux_agree {s' : State} (a : At) (f : VM) (s : State)
    (hs : Agree W r₀ s) (h0 : W .regs) (h1 : W .mem) (h2 : W .box) (h3 : W .path) (h4 : W .mods) (h5 : W .disp)
    (h6 : W .sig) (h7 : W .cores) (h8 : W .ev) (h9 : W .flt) (h10 : W .sec) (h11 : W .mbx) (h12 : W .memx)
    (h13 : W .free) (he : execMsux a f s = .next s') :
    Agree W r₀ s' := by
  cases he
  repeat' with_reducible first | assumption | apply runLocal_agree

theorem execSub_agree {s' : State} (a : At) (f : VA) (s : State)
    (hs : Agree W r₀ s) (h0 : W .regs) (h1 : W .mem) (h2 : W .box) (h3 : W .path) (h4 : W .mods) (h5 : W .disp)
    (h6 : W .sig) (h7 : W .cores) (h8 : W .ev) (h9 : W .flt) (h10 : W .sec) (h11 : W .mbx) (h12 : W .memx)
    (h13 : W .free) (he : execSub a f s = .next s') :
    Agree W r₀ s' := by
  cases he
  repeat' with_reducible first | assumption | apply runLocal_agree

theorem execMsu_agree {s' : State} (a : At) (f : VM) (s : State)
    (hs : Agree W r₀ s) (h0 : W .regs) (h1 : W .mem) (h2 : W .box) (h3 : W .path) (h4 : W .mods) (h5 : W .disp)
    (h6 : W .sig) (h7 : W .cores) (h8 : W .ev) (h9 : W .flt) (h10 : W .sec) (h11 : W .mbx) (h12 : W .memx)
    (h13 : W .free) (he : execMsu a f s = .next s') :
    Agree W r₀ s' := by
  cases he
  repeat' with_reducible first | assumption | apply runLocal_agree

end Sys2Proof.Laws
end

