-- ==== Sys2Proof/Laws/FramesCoreMem.lean ====
section
/-! SUPPORT. Which parts of the state each operation of Machine/CoreMem.lean may write. -/

namespace Sys2Proof.Laws
open Sys2Proof.Machine

variable {W : Part → Bool} {r₀ : State}

theorem coreStall_agree (k : Nat) (s : State)
    (hs : Agree W r₀ s) (h0 : W .regs) (h1 : W .free) :
    Agree W r₀ (coreStall k s) := by
  unfold coreStall
  repeat' with_reducible first | assumption | apply agree_setReg | apply fresh_agree

theorem loadOne_agree (k n : Nat) (a : Word) (s : State) (c : CoreSt)
    (hs : Agree W r₀ s) (h0 : W .regs) (h1 : W .disp) (h2 : W .ev) (h3 : W .free) :
    Agree W r₀ (loadOne k n a s c).1 := by
  unfold loadOne
  dsimp only
  repeat' with_reducible first
    | assumption | apply touch_agree | apply coreStall_agree | apply poisonLog_agree | apply foundAt_agree
    | apply agree_ite_fst | apply agree_ite | (intro) | split

theorem loadAll_agree (k n : Nat) (a2 : List Word) (a3 : State) (a4 : CoreSt)
    (ha3 : Agree W r₀ a3) (h0 : W .regs) (h1 : W .disp) (h2 : W .ev) (h3 : W .free) :
    Agree W r₀ (loadAll k n a2 a3 a4).1 := by
  induction a2 generalizing a3 a4 with
  | nil => exact ha3
  | cons x l ih =>
    unfold loadAll
    dsimp only
    exact ih _ _ (by apply loadOne_agree <;> assumption)

theorem loadOp_agree (k : Nat) (x : Mem) (n count : Nat) (f : List Nat → CoreSt → CoreSt) (s : State) (c : CoreSt)
    (hs : Agree W r₀ s) (h0 : W .regs) (h1 : W .disp) (h2 : W .ev) (h3 : W .free) :
    Agree W r₀ (loadOp k x n count f s c).1 := by
  unfold loadOp
  dsimp only
  repeat' with_reducible first | assumption | apply loadAll_agree | (intro) | split

theorem execLdw_agree {s' : State} (a : At) (x : Mem) (pq : Fin 16) (s : State)
    (hs : Agree W r₀ s) (h0 : W .regs) (h1 : W .mem) (h2 : W .box) (h3 : W .path) (h4 : W .mods) (h5 : W .disp)
    (h6 : W .sig) (h7 : W .cores) (h8 : W .ev) (h9 : W .flt) (h10 : W .sec) (h11 : W .mbx) (h12 : W .memx)
    (h13 : W .free) (he : execLdw a x pq s = .next s') :
    Agree W r₀ s' := by
  cases he
  repeat' with_reducible first | assumption | apply runOp_agree | apply loadOp_agree | (intro)

theorem execGetl_agree {s' : State} (a : At) (slot : MSlot) (pd : Fin 16) (dx : Fin 32) (k : Fin 8) (s : State)
    (hs : Agree W r₀ s) (h0 : W .regs) (h1 : W .mem) (h2 : W .box) (h3 : W .path) (h4 : W .mods) (h5 : W .disp)
    (h6 : W .sig) (h7 : W .cores) (h8 : W .ev) (h9 : W .flt) (h10 : W .sec) (h11 : W .mbx) (h12 : W .memx)
    (h13 : W .free) (he : execGetl a slot pd dx k s = .next s') :
    Agree W r₀ s' := by
  cases he
  repeat' with_reducible first | assumption | apply runLocal_agree

theorem execPutl_agree {s' : State} (a : At) (slot : MSlot) (dd : Fin 32) (k : Fin 8) (px : Fin 16) (s : State)
    (hs : Agree W r₀ s) (h0 : W .regs) (h1 : W .mem) (h2 : W .box) (h3 : W .path) (h4 : W .mods) (h5 : W .disp)
    (h6 : W .sig) (h7 : W .cores) (h8 : W .ev) (h9 : W .flt) (h10 : W .sec) (h11 : W .mbx) (h12 : W .memx)
    (h13 : W .free) (he : execPutl a slot dd k px s = .next s') :
    Agree W r₀ s' := by
  cases he
  repeat' with_reducible first | assumption | apply runLocal_agree

theorem storeOp_agree (k : Nat) (x : Mem) (n : Nat) (vs : List Nat) (s : State) (c : CoreSt)
    (hs : Agree W r₀ s) (h0 : W .regs) (h1 : W .free) :
    Agree W r₀ (storeOp k x n vs s c).1 := by
  unfold storeOp
  dsimp only
  repeat' with_reducible first
    | assumption | apply coreStall_agree | apply agree_ite_fst | apply agree_ite | (intro) | split

theorem execStw_agree {s' : State} (a : At) (x : Mem) (pq : Fin 16) (s : State)
    (hs : Agree W r₀ s) (h0 : W .regs) (h1 : W .mem) (h2 : W .box) (h3 : W .path) (h4 : W .mods) (h5 : W .disp)
    (h6 : W .sig) (h7 : W .cores) (h8 : W .ev) (h9 : W .flt) (h10 : W .sec) (h11 : W .mbx) (h12 : W .memx)
    (h13 : W .free) (he : execStw a x pq s = .next s') :
    Agree W r₀ s' := by
  cases he
  repeat' with_reducible first | assumption | apply runOp_agree | apply storeOp_agree | (intro)

theorem execMovs_agree {s' : State} (a : At) (slot : MSlot) (pq : Fin 16) (dir : Fin 4) (sys : BitVec 7) (s : State)
    (hs : Agree W r₀ s) (h0 : W .regs) (h1 : W .mem) (h2 : W .box) (h3 : W .path) (h4 : W .mods) (h5 : W .disp)
    (h6 : W .sig) (h7 : W .cores) (h8 : W .ev) (h9 : W .flt) (h10 : W .sec) (h11 : W .mbx) (h12 : W .memx)
    (h13 : W .free) (he : execMovs a slot pq dir sys s = .next s') :
    Agree W r₀ s' := by
  cases he
  repeat' with_reducible first | assumption | apply runLocal_agree

theorem execLdl_agree {s' : State} (a : At) (x : Mem) (dd : Fin 32) (k : Fin 8) (s : State)
    (hs : Agree W r₀ s) (h0 : W .regs) (h1 : W .mem) (h2 : W .box) (h3 : W .path) (h4 : W .mods) (h5 : W .disp)
    (h6 : W .sig) (h7 : W .cores) (h8 : W .ev) (h9 : W .flt) (h10 : W .sec) (h11 : W .mbx) (h12 : W .memx)
    (h13 : W .free) (he : execLdl a x dd k s = .next s') :
    Agree W r₀ s' := by
  cases he
  repeat' with_reducible first | assumption | apply runOp_agree | apply loadOp_agree | (intro)

theorem execLdv_agree {s' : State} (a : At) (x : Mem) (dd : Fin 32) (s : State)
    (hs : Agree W r₀ s) (h0 : W .regs) (h1 : W .mem) (h2 : W .box) (h3 : W .path) (h4 : W .mods) (h5 : W .disp)
    (h6 : W .sig) (h7 : W .cores) (h8 : W .ev) (h9 : W .flt) (h10 : W .sec) (h11 : W .mbx) (h12 : W .memx)
    (h13 : W .free) (he : execLdv a x dd s = .next s') :
    Agree W r₀ s' := by
  cases he
  repeat' with_reducible first | assumption | apply runOp_agree | apply loadOp_agree | (intro)

theorem execStvd_agree {s' : State} (a : At) (x : Mem) (dd : Fin 32) (s : State)
    (hs : Agree W r₀ s) (h0 : W .regs) (h1 : W .mem) (h2 : W .box) (h3 : W .path) (h4 : W .mods) (h5 : W .disp)
    (h6 : W .sig) (h7 : W .cores) (h8 : W .ev) (h9 : W .flt) (h10 : W .sec) (h11 : W .mbx) (h12 : W .memx)
    (h13 : W .free) (he : execStvd a x dd s = .next s') :
    Agree W r₀ s' := by
  cases he
  repeat' with_reducible first | assumption | apply runOp_agree | apply storeOp_agree | (intro)

theorem execAddp_agree {s' : State} (a : At) (slot : MSlot) (pd : Fin 16) (imm : BitVec 10) (s : State)
    (hs : Agree W r₀ s) (h0 : W .regs) (h1 : W .mem) (h2 : W .box) (h3 : W .path) (h4 : W .mods) (h5 : W .disp)
    (h6 : W .sig) (h7 : W .cores) (h8 : W .ev) (h9 : W .flt) (h10 : W .sec) (h11 : W .mbx) (h12 : W .memx)
    (h13 : W .free) (he : execAddp a slot pd imm s = .next s') :
    Agree W r₀ s' := by
  cases he
  repeat' with_reducible first | assumption | apply runLocal_agree

theorem execSta_agree {s' : State} (a : At) (x : Mem) (aa : Fin 8) (sh : BitVec 3) (s : State)
    (hs : Agree W r₀ s) (h0 : W .regs) (h1 : W .mem) (h2 : W .box) (h3 : W .path) (h4 : W .mods) (h5 : W .disp)
    (h6 : W .sig) (h7 : W .cores) (h8 : W .ev) (h9 : W .flt) (h10 : W .sec) (h11 : W .mbx) (h12 : W .memx)
    (h13 : W .free) (he : execSta a x aa sh s = .next s') :
    Agree W r₀ s' := by
  cases he
  dsimp only
  repeat' with_reducible first | assumption | apply runOp_agree | apply storeOp_agree | (intro)

theorem execLdvd_agree {s' : State} (a : At) (x : Mem) (dd : Fin 32) (s : State)
    (hs : Agree W r₀ s) (h0 : W .regs) (h1 : W .mem) (h2 : W .box) (h3 : W .path) (h4 : W .mods) (h5 : W .disp)
    (h6 : W .sig) (h7 : W .cores) (h8 : W .ev) (h9 : W .flt) (h10 : W .sec) (h11 : W .mbx) (h12 : W .memx)
    (h13 : W .free) (he : execLdvd a x dd s = .next s') :
    Agree W r₀ s' := by
  cases he
  repeat' with_reducible first | assumption | apply runOp_agree | apply loadOp_agree | (intro)

theorem execLdar_agree {s' : State} (a : At) (x : Mem) (aa : Fin 8) (s : State)
    (hs : Agree W r₀ s) (h0 : W .regs) (h1 : W .mem) (h2 : W .box) (h3 : W .path) (h4 : W .mods) (h5 : W .disp)
    (h6 : W .sig) (h7 : W .cores) (h8 : W .ev) (h9 : W .flt) (h10 : W .sec) (h11 : W .mbx) (h12 : W .memx)
    (h13 : W .free) (he : execLdar a x aa s = .next s') :
    Agree W r₀ s' := by
  cases he
  dsimp only
  repeat' with_reducible first | assumption | apply runOp_agree | apply loadOp_agree | (intro)

theorem execAddpp_agree {s' : State} (a : At) (slot : MSlot) (pd px py : Fin 16) (s : State)
    (hs : Agree W r₀ s) (h0 : W .regs) (h1 : W .mem) (h2 : W .box) (h3 : W .path) (h4 : W .mods) (h5 : W .disp)
    (h6 : W .sig) (h7 : W .cores) (h8 : W .ev) (h9 : W .flt) (h10 : W .sec) (h11 : W .mbx) (h12 : W .memx)
    (h13 : W .free) (he : execAddpp a slot pd px py s = .next s') :
    Agree W r₀ s' := by
  cases he
  repeat' with_reducible first | assumption | apply runLocal_agree

theorem execLdb_agree {s' : State} (a : At) (x : Mem) (dd : Fin 32) (s : State)
    (hs : Agree W r₀ s) (h0 : W .regs) (h1 : W .mem) (h2 : W .box) (h3 : W .path) (h4 : W .mods) (h5 : W .disp)
    (h6 : W .sig) (h7 : W .cores) (h8 : W .ev) (h9 : W .flt) (h10 : W .sec) (h11 : W .mbx) (h12 : W .memx)
    (h13 : W .free) (he : execLdb a x dd s = .next s') :
    Agree W r₀ s' := by
  cases he
  repeat' with_reducible first | assumption | apply runOp_agree | apply loadOp_agree | (intro)

theorem execMovi_agree {s' : State} (a : At) (slot : MSlot) (pd : Fin 16) (imm : BitVec 10) (s : State)
    (hs : Agree W r₀ s) (h0 : W .regs) (h1 : W .mem) (h2 : W .box) (h3 : W .path) (h4 : W .mods) (h5 : W .disp)
    (h6 : W .sig) (h7 : W .cores) (h8 : W .ev) (h9 : W .flt) (h10 : W .sec) (h11 : W .mbx) (h12 : W .memx)
    (h13 : W .free) (he : execMovi a slot pd imm s = .next s') :
    Agree W r₀ s' := by
  cases he
  repeat' with_reducible first | assumption | apply runLocal_agree

theorem execStl_agree {s' : State} (a : At) (x : Mem) (dd : Fin 32) (k : Fin 8) (s : State)
    (hs : Agree W r₀ s) (h0 : W .regs) (h1 : W .mem) (h2 : W .box) (h3 : W .path) (h4 : W .mods) (h5 : W .disp)
    (h6 : W .sig) (h7 : W .cores) (h8 : W .ev) (h9 : W .flt) (h10 : W .sec) (h11 : W .mbx) (h12 : W .memx)
    (h13 : W .free) (he : execStl a x dd k s = .next s') :
    Agree W r₀ s' := by
  cases he
  repeat' with_reducible first | assumption | apply runOp_agree | apply storeOp_agree | (intro)

theorem execMovp_agree {s' : State} (a : At) (slot : MSlot) (pd px : Fin 16) (s : State)
    (hs : Agree W r₀ s) (h0 : W .regs) (h1 : W .mem) (h2 : W .box) (h3 : W .path) (h4 : W .mods) (h5 : W .disp)
    (h6 : W .sig) (h7 : W .cores) (h8 : W .ev) (h9 : W .flt) (h10 : W .sec) (h11 : W .mbx) (h12 : W .memx)
    (h13 : W .free) (he : execMovp a slot pd px s = .next s') :
    Agree W r₀ s' := by
  cases he
  repeat' with_reducible first | assumption | apply runLocal_agree

theorem execMovd_agree {s' : State} (a : At) (slot : MSlot) (dd dx : Fin 32) (s : State)
    (hs : Agree W r₀ s) (h0 : W .regs) (h1 : W .mem) (h2 : W .box) (h3 : W .path) (h4 : W .mods) (h5 : W .disp)
    (h6 : W .sig) (h7 : W .cores) (h8 : W .ev) (h9 : W .flt) (h10 : W .sec) (h11 : W .mbx) (h12 : W .memx)
    (h13 : W .free) (he : execMovd a slot dd dx s = .next s') :
    Agree W r₀ s' := by
  cases he
  repeat' with_reducible first | assumption | apply runLocal_agree

theorem execStv_agree {s' : State} (a : At) (x : Mem) (dd : Fin 32) (s : State)
    (hs : Agree W r₀ s) (h0 : W .regs) (h1 : W .mem) (h2 : W .box) (h3 : W .path) (h4 : W .mods) (h5 : W .disp)
    (h6 : W .sig) (h7 : W .cores) (h8 : W .ev) (h9 : W .flt) (h10 : W .sec) (h11 : W .mbx) (h12 : W .memx)
    (h13 : W .free) (he : execStv a x dd s = .next s') :
    Agree W r₀ s' := by
  cases he
  repeat' with_reducible first | assumption | apply runOp_agree | apply storeOp_agree | (intro)

theorem execStar_agree {s' : State} (a : At) (x : Mem) (aa : Fin 8) (s : State)
    (hs : Agree W r₀ s) (h0 : W .regs) (h1 : W .mem) (h2 : W .box) (h3 : W .path) (h4 : W .mods) (h5 : W .disp)
    (h6 : W .sig) (h7 : W .cores) (h8 : W .ev) (h9 : W .flt) (h10 : W .sec) (h11 : W .mbx) (h12 : W .memx)
    (h13 : W .free) (he : execStar a x aa s = .next s') :
    Agree W r₀ s' := by
  cases he
  repeat' with_reducible first | assumption | apply runOp_agree | apply storeOp_agree | (intro)

theorem execStad_agree {s' : State} (a : At) (x : Mem) (aa : Fin 8) (sh : BitVec 3) (s : State)
    (hs : Agree W r₀ s) (h0 : W .regs) (h1 : W .mem) (h2 : W .box) (h3 : W .path) (h4 : W .mods) (h5 : W .disp)
    (h6 : W .sig) (h7 : W .cores) (h8 : W .ev) (h9 : W .flt) (h10 : W .sec) (h11 : W .mbx) (h12 : W .memx)
    (h13 : W .free) (he : execStad a x aa sh s = .next s') :
    Agree W r₀ s' := by
  cases he
  dsimp only
  repeat' with_reducible first | assumption | apply runOp_agree | apply storeOp_agree | (intro)

end Sys2Proof.Laws
end

