-- ==== Sys2Proof/Laws/FramesCoreCtl.lean ====
section
/-! SUPPORT. Which parts of the state each operation of Machine/CoreCtl.lean may write. -/

namespace Sys2Proof.Laws
open Sys2Proof.Machine

variable {W : Part → Bool} {r₀ : State}

theorem execLmovi_agree {s' : State} (a : At) (pd : Fin 16) (imm : BitVec 28) (s : State)
    (hs : Agree W r₀ s) (h0 : W .regs) (h1 : W .mem) (h2 : W .box) (h3 : W .path) (h4 : W .mods) (h5 : W .disp)
    (h6 : W .sig) (h7 : W .cores) (h8 : W .ev) (h9 : W .flt) (h10 : W .sec) (h11 : W .mbx) (h12 : W .memx)
    (h13 : W .free) (he : execLmovi a pd imm s = .next s') :
    Agree W r₀ s' := by
  cases he
  repeat' with_reducible first | assumption | apply runLocal_agree

theorem execLoop_agree {s' : State} (a : At) (pc : Fin 16) (endOff : BitVec 11) (s : State)
    (hs : Agree W r₀ s) (h0 : W .regs) (h1 : W .mem) (h2 : W .box) (h3 : W .path) (h4 : W .mods) (h5 : W .disp)
    (h6 : W .sig) (h7 : W .cores) (h8 : W .ev) (h9 : W .flt) (h10 : W .sec) (h11 : W .mbx) (h12 : W .memx)
    (h13 : W .free) (he : execLoop a pc endOff s = .next s') :
    Agree W r₀ s' := by
  cases he
  repeat' with_reducible first | assumption | apply runLocal_agree

theorem execFence_agree {s' : State} (a : At) (s : State)
    (hs : Agree W r₀ s) (h0 : W .regs) (h1 : W .mem) (h2 : W .box) (h3 : W .path) (h4 : W .mods) (h5 : W .disp)
    (h6 : W .sig) (h7 : W .cores) (h8 : W .ev) (h9 : W .flt) (h10 : W .sec) (h11 : W .mbx) (h12 : W .memx)
    (h13 : W .free) (he : execFence a s = .next s') :
    Agree W r₀ s' := by
  cases he
  repeat' with_reducible first | assumption | apply coreStall_agree | apply runOp_agree | (intro)

theorem execBrz_agree {s' : State} (a : At) (pp : Fin 16) (off : BitVec 11) (s : State)
    (hs : Agree W r₀ s) (h0 : W .regs) (h1 : W .mem) (h2 : W .box) (h3 : W .path) (h4 : W .mods) (h5 : W .disp)
    (h6 : W .sig) (h7 : W .cores) (h8 : W .ev) (h9 : W .flt) (h10 : W .sec) (h11 : W .mbx) (h12 : W .memx)
    (h13 : W .free) (he : execBrz a pp off s = .next s') :
    Agree W r₀ s' := by
  cases he
  repeat' with_reducible first | assumption | apply runLocal_agree

theorem execLjmp_agree {s' : State} (a : At) (target : BitVec 14) (s : State)
    (hs : Agree W r₀ s) (h0 : W .regs) (h1 : W .mem) (h2 : W .box) (h3 : W .path) (h4 : W .mods) (h5 : W .disp)
    (h6 : W .sig) (h7 : W .cores) (h8 : W .ev) (h9 : W .flt) (h10 : W .sec) (h11 : W .mbx) (h12 : W .memx)
    (h13 : W .free) (he : execLjmp a target s = .next s') :
    Agree W r₀ s' := by
  cases he
  repeat' with_reducible first | assumption | apply runLocal_agree

theorem execDone_agree {s' : State} (a : At) (s : State)
    (hs : Agree W r₀ s) (h0 : W .regs) (h1 : W .mem) (h2 : W .box) (h3 : W .path) (h4 : W .mods) (h5 : W .disp)
    (h6 : W .sig) (h7 : W .cores) (h8 : W .ev) (h9 : W .flt) (h10 : W .sec) (h11 : W .mbx) (h12 : W .memx)
    (h13 : W .free) (he : execDone a s = .next s') :
    Agree W r₀ s' := by
  cases he
  repeat' with_reducible first | assumption | apply runLocal_agree

theorem execBrnz_agree {s' : State} (a : At) (pp : Fin 16) (off : BitVec 11) (s : State)
    (hs : Agree W r₀ s) (h0 : W .regs) (h1 : W .mem) (h2 : W .box) (h3 : W .path) (h4 : W .mods) (h5 : W .disp)
    (h6 : W .sig) (h7 : W .cores) (h8 : W .ev) (h9 : W .flt) (h10 : W .sec) (h11 : W .mbx) (h12 : W .memx)
    (h13 : W .free) (he : execBrnz a pp off s = .next s') :
    Agree W r₀ s' := by
  cases he
  repeat' with_reducible first | assumption | apply runLocal_agree

theorem execCall_agree {s' : State} (a : At) (off : BitVec 11) (s : State)
    (hs : Agree W r₀ s) (h0 : W .regs) (h1 : W .mem) (h2 : W .box) (h3 : W .path) (h4 : W .mods) (h5 : W .disp)
    (h6 : W .sig) (h7 : W .cores) (h8 : W .ev) (h9 : W .flt) (h10 : W .sec) (h11 : W .mbx) (h12 : W .memx)
    (h13 : W .free) (he : execCall a off s = .next s') :
    Agree W r₀ s' := by
  cases he
  repeat' with_reducible first | assumption | apply runLocal_agree

theorem execLexit_agree {s' : State} (a : At) (n : Fin 8) (s : State)
    (hs : Agree W r₀ s) (h0 : W .regs) (h1 : W .mem) (h2 : W .box) (h3 : W .path) (h4 : W .mods) (h5 : W .disp)
    (h6 : W .sig) (h7 : W .cores) (h8 : W .ev) (h9 : W .flt) (h10 : W .sec) (h11 : W .mbx) (h12 : W .memx)
    (h13 : W .free) (he : execLexit a n s = .next s') :
    Agree W r₀ s' := by
  cases he
  repeat' with_reducible first | assumption | apply runLocal_agree

theorem execReti_agree {s' : State} (a : At) (s : State)
    (hs : Agree W r₀ s) (h0 : W .regs) (h1 : W .mem) (h2 : W .box) (h3 : W .path) (h4 : W .mods) (h5 : W .disp)
    (h6 : W .sig) (h7 : W .cores) (h8 : W .ev) (h9 : W .flt) (h10 : W .sec) (h11 : W .mbx) (h12 : W .memx)
    (h13 : W .free) (he : execReti a s = .next s') :
    Agree W r₀ s' := by
  cases he
  repeat' with_reducible first | assumption | apply runLocal_agree

theorem execBrk_agree {s' : State} (a : At) (s : State)
    (hs : Agree W r₀ s) (h0 : W .regs) (h1 : W .mem) (h2 : W .box) (h3 : W .path) (h4 : W .mods) (h5 : W .disp)
    (h6 : W .sig) (h7 : W .cores) (h8 : W .ev) (h9 : W .flt) (h10 : W .sec) (h11 : W .mbx) (h12 : W .memx)
    (h13 : W .free) (he : execBrk a s = .next s') :
    Agree W r₀ s' := by
  cases he
  repeat' with_reducible first | assumption | apply runLocal_agree

theorem execLcall_agree {s' : State} (a : At) (target : BitVec 14) (s : State)
    (hs : Agree W r₀ s) (h0 : W .regs) (h1 : W .mem) (h2 : W .box) (h3 : W .path) (h4 : W .mods) (h5 : W .disp)
    (h6 : W .sig) (h7 : W .cores) (h8 : W .ev) (h9 : W .flt) (h10 : W .sec) (h11 : W .mbx) (h12 : W .memx)
    (h13 : W .free) (he : execLcall a target s = .next s') :
    Agree W r₀ s' := by
  cases he
  repeat' with_reducible first | assumption | apply runLocal_agree

theorem execLmovu_agree {s' : State} (a : At) (pd : Fin 16) (imm : BitVec 28) (s : State)
    (hs : Agree W r₀ s) (h0 : W .regs) (h1 : W .mem) (h2 : W .box) (h3 : W .path) (h4 : W .mods) (h5 : W .disp)
    (h6 : W .sig) (h7 : W .cores) (h8 : W .ev) (h9 : W .flt) (h10 : W .sec) (h11 : W .mbx) (h12 : W .memx)
    (h13 : W .free) (he : execLmovu a pd imm s = .next s') :
    Agree W r₀ s' := by
  cases he
  repeat' with_reducible first | assumption | apply runLocal_agree

theorem execJr_agree {s' : State} (a : At) (pp : Fin 16) (s : State)
    (hs : Agree W r₀ s) (h0 : W .regs) (h1 : W .mem) (h2 : W .box) (h3 : W .path) (h4 : W .mods) (h5 : W .disp)
    (h6 : W .sig) (h7 : W .cores) (h8 : W .ev) (h9 : W .flt) (h10 : W .sec) (h11 : W .mbx) (h12 : W .memx)
    (h13 : W .free) (he : execJr a pp s = .next s') :
    Agree W r₀ s' := by
  cases he
  repeat' with_reducible first | assumption | apply runLocal_agree

theorem execBr_agree {s' : State} (a : At) (cond : Fin 16) (off : BitVec 11) (s : State)
    (hs : Agree W r₀ s) (h0 : W .regs) (h1 : W .mem) (h2 : W .box) (h3 : W .path) (h4 : W .mods) (h5 : W .disp)
    (h6 : W .sig) (h7 : W .cores) (h8 : W .ev) (h9 : W .flt) (h10 : W .sec) (h11 : W .mbx) (h12 : W .memx)
    (h13 : W .free) (he : execBr a cond off s = .next s') :
    Agree W r₀ s' := by
  cases he
  repeat' with_reducible first | assumption | apply runLocal_agree

theorem execClrsat_agree {s' : State} (a : At) (s : State)
    (hs : Agree W r₀ s) (h0 : W .regs) (h1 : W .mem) (h2 : W .box) (h3 : W .path) (h4 : W .mods) (h5 : W .disp)
    (h6 : W .sig) (h7 : W .cores) (h8 : W .ev) (h9 : W .flt) (h10 : W .sec) (h11 : W .mbx) (h12 : W .memx)
    (h13 : W .free) (he : execClrsat a s = .next s') :
    Agree W r₀ s' := by
  cases he
  repeat' with_reducible first | assumption | apply runLocal_agree

theorem execLoopi_agree {s' : State} (a : At) (count : BitVec 16) (endOff : BitVec 12) (s : State)
    (hs : Agree W r₀ s) (h0 : W .regs) (h1 : W .mem) (h2 : W .box) (h3 : W .path) (h4 : W .mods) (h5 : W .disp)
    (h6 : W .sig) (h7 : W .cores) (h8 : W .ev) (h9 : W .flt) (h10 : W .sec) (h11 : W .mbx) (h12 : W .memx)
    (h13 : W .free) (he : execLoopi a count endOff s = .next s') :
    Agree W r₀ s' := by
  cases he
  repeat' with_reducible first | assumption | apply runLocal_agree

theorem execSetrnd_agree {s' : State} (a : At) (r : Fin 8) (s : State)
    (hs : Agree W r₀ s) (h0 : W .regs) (h1 : W .mem) (h2 : W .box) (h3 : W .path) (h4 : W .mods) (h5 : W .disp)
    (h6 : W .sig) (h7 : W .cores) (h8 : W .ev) (h9 : W .flt) (h10 : W .sec) (h11 : W .mbx) (h12 : W .memx)
    (h13 : W .free) (he : execSetrnd a r s = .next s') :
    Agree W r₀ s' := by
  cases he
  repeat' with_reducible first | assumption | apply runLocal_agree

end Sys2Proof.Laws
end

