-- ==== Sys2Proof/Laws/FramesBus.lean ====
section
/-! SUPPORT. Which parts of the state each operation of Machine/Bus.lean may write. -/

namespace Sys2Proof.Laws
open Sys2Proof.Machine

variable {W : Part → Bool} {r₀ : State}

theorem memPut_agree (m a : Nat) (vs : List Byte) (s : State)
    (hs : Agree W r₀ s) (h0 : W .regs) (h1 : W .mem) (h2 : W .memx) :
    Agree W r₀ (memPut m a vs s) := by
  unfold memPut
  repeat' with_reducible first
    | assumption | apply memStore_agree | apply modMem_agree | apply agree_ite | (intro) | split

theorem descWrite_agree (off : Nat) (v : Word) (s : State)
    (hs : Agree W r₀ s) (h0 : W .disp) :
    Agree W r₀ (descWrite off v s) := by
  unfold descWrite
  repeat' with_reducible first | assumption | apply modDisp_agree

theorem dispRegWrite_agree (off : Nat) (v : Word) (s : State)
    (hs : Agree W r₀ s) (h0 : W .regs) (h1 : W .held) (h2 : W .disp) :
    Agree W r₀ (dispRegWrite off v s) := by
  unfold dispRegWrite
  repeat' with_reducible first
    | assumption | apply dispDisarmOp_agree | apply put_agree | apply dispArmOp_agree | apply writeReg_agree
    | apply agree_ite | (intro) | split

theorem cluRegWrite_agree (c off : Nat) (v : Word) (s : State)
    (hs : Agree W r₀ s) (h0 : W .regs) (h1 : W .held) (h2 : W .mem) (h3 : W .disp) (h4 : W .sig) (h5 : W .cores)
    (h6 : W .flt) (h7 : W .memx) :
    Agree W r₀ (cluRegWrite c off v s) := by
  unfold cluRegWrite
  dsimp only
  repeat' with_reducible first
    | assumption | apply coreRestartOp_agree | apply coreDbgreqOp_agree | apply writeReg_agree | apply agree_ite
    | apply agree_when | (intro) | split

theorem patchRegWrite_agree (off : Nat) (v : Word) (s : State)
    (hs : Agree W r₀ s) (h0 : W .regs) (h1 : W .held) (h2 : W .box) (h3 : W .path) (h4 : W .link) :
    Agree W r₀ (patchRegWrite off v s) := by
  unfold patchRegWrite
  dsimp only
  repeat' with_reducible first
    | assumption | apply put_agree | apply patchGo_agree | apply writeReg_agree | apply agree_ite | (intro) | split

theorem regWriteOp_agree (m : Master) (a : Nat) (v : Word) (s : State)
    (hs : Agree W r₀ s) (h0 : W .regs) (h1 : W .held) (h2 : W .mem) (h3 : W .time) (h4 : W .box) (h5 : W .path)
    (h6 : W .disp) (h7 : W .sig) (h8 : W .cores) (h9 : W .ev) (h10 : W .flt) (h11 : W .sec) (h12 : W .mbx)
    (h13 : W .tdm) (h14 : W .net) (h15 : W .ref) (h16 : W .supv) (h17 : W .tnd) (h18 : W .memx) (h19 : W .link) :
    Agree W r₀ (regWriteOp m a v s) := by
  unfold regWriteOp
  dsimp only
  repeat' with_reducible first
    | assumption | apply bankPowerWriteOp_agree | apply tndRegWrite_agree | apply descWrite_agree
    | apply evtRegWrite_agree | apply setBit_agree | apply ramblerWrite_agree | apply tdmRegWrite_agree
    | apply dispRegWrite_agree | apply mbxRegWrite_agree | apply cntRegWrite_agree | apply netRegWrite_agree
    | apply refsRegWrite_agree | apply writeReg_agree | apply timeRegWrite_agree | apply ampRegWrite_agree
    | apply cluRegWrite_agree | apply patchRegWrite_agree | apply supvRegWrite_agree | apply agree_ite
    | apply agree_when | (intro) | split

theorem wordWrite_agree (m : Master) (a : Nat) (v : Word) (s : State)
    (hs : Agree W r₀ s) (h0 : W .regs) (h1 : W .held) (h2 : W .mem) (h3 : W .time) (h4 : W .box) (h5 : W .path)
    (h6 : W .disp) (h7 : W .sig) (h8 : W .cores) (h9 : W .ev) (h10 : W .flt) (h11 : W .sec) (h12 : W .mbx)
    (h13 : W .tdm) (h14 : W .net) (h15 : W .ref) (h16 : W .supv) (h17 : W .tnd) (h18 : W .memx) (h19 : W .link) :
    Agree W r₀ (wordWrite m a v s) := by
  unfold wordWrite
  repeat' with_reducible first
    | assumption | apply memPut_agree | apply regWriteOp_agree | apply agree_ite | (intro) | split

theorem writeWords_agree (m : Master) (a : Nat) (vs : List Word) (s : State)
    (hs : Agree W r₀ s) (h0 : W .regs) (h1 : W .held) (h2 : W .mem) (h3 : W .time) (h4 : W .box) (h5 : W .path)
    (h6 : W .disp) (h7 : W .sig) (h8 : W .cores) (h9 : W .ev) (h10 : W .flt) (h11 : W .sec) (h12 : W .mbx)
    (h13 : W .tdm) (h14 : W .net) (h15 : W .ref) (h16 : W .supv) (h17 : W .tnd) (h18 : W .memx) (h19 : W .link) :
    Agree W r₀ (writeWords m a vs s) := by
  unfold writeWords
  repeat' with_reducible first | assumption | apply wordWrite_agree | apply agree_each | (intro)

theorem pokeBody_agree (c : Cmd) (s : State)
    (hs : Agree W r₀ s) (h0 : W .regs) (h1 : W .held) (h2 : W .mem) (h3 : W .time) (h4 : W .box) (h5 : W .path)
    (h6 : W .disp) (h7 : W .sig) (h8 : W .cores) (h9 : W .ev) (h10 : W .flt) (h11 : W .sec) (h12 : W .mbx)
    (h13 : W .tdm) (h14 : W .net) (h15 : W .ref) (h16 : W .supv) (h17 : W .tnd) (h18 : W .memx) (h19 : W .link) :
    Agree W r₀ (pokeBody c s).1 := by
  unfold pokeBody
  dsimp only
  repeat' with_reducible first
    | assumption | apply writeWords_agree | apply modTnd_agree | apply agree_ite_fst | apply agree_ite | (intro)
    | split

theorem execPoke_agree {s' : State} (c : Cmd) (s : State)
    (hs : Agree W r₀ s) (h0 : W .regs) (h1 : W .held) (h2 : W .mem) (h3 : W .time) (h4 : W .box) (h5 : W .path)
    (h6 : W .disp) (h7 : W .sig) (h8 : W .cores) (h9 : W .ev) (h10 : W .flt) (h11 : W .sec) (h12 : W .mbx)
    (h13 : W .tdm) (h14 : W .net) (h15 : W .ref) (h16 : W .supv) (h17 : W .tnd) (h18 : W .memx) (h19 : W .link)
    (he : execPoke c s = .next s') :
    Agree W r₀ s' := by
  cases he
  repeat' with_reducible first | assumption | apply pokeBody_agree | apply silwen_agree | (intro)

theorem regReadOp_agree (a : Nat) (s : State)
    (hs : Agree W r₀ s) (h0 : W .regs) (h1 : W .time) (h2 : W .disp) (h3 : W .ev) (h4 : W .free) :
    Agree W r₀ (regReadOp a s).1 := by
  unfold regReadOp
  dsimp only
  repeat' with_reducible first
    | assumption | apply agree_setReg | apply capPop_agree | apply fresh_agree | apply agree_ite_fst
    | apply agree_ite | (intro) | split

theorem wordRead_agree (m : Master) (a : Nat) (s : State)
    (hs : Agree W r₀ s) (h0 : W .regs) (h1 : W .time) (h2 : W .disp) (h3 : W .ev) (h4 : W .free) :
    Agree W r₀ (wordRead m a s).1 := by
  unfold wordRead
  dsimp only
  repeat' with_reducible first
    | assumption | apply fresh_agree | apply regReadOp_agree | apply poisonLog_agree | apply memLoad_agree
    | apply agree_ite_fst | apply agree_ite | (intro) | split

theorem dmaWords_agree (m : Master) (src dst a3 : Nat) (a4 : State)
    (ha4 : Agree W r₀ a4) (h0 : W .regs) (h1 : W .held) (h2 : W .mem) (h3 : W .time) (h4 : W .box)
    (h5 : W .path) (h6 : W .disp) (h7 : W .sig) (h8 : W .cores) (h9 : W .ev) (h10 : W .flt) (h11 : W .sec)
    (h12 : W .mbx) (h13 : W .tdm) (h14 : W .net) (h15 : W .ref) (h16 : W .supv) (h17 : W .tnd) (h18 : W .memx)
    (h19 : W .link) (h20 : W .free) :
    Agree W r₀ (dmaWords m src dst a3 a4) := by
  induction a3 generalizing src dst a4 with
  | zero => exact ha4
  | succ n ih =>
    unfold dmaWords
    dsimp only
    exact ih _ _ _ (by repeat' with_reducible first | assumption | apply wordWrite_agree | apply wordRead_agree)

theorem dmaOp_agree (ch : Nat) (d : DmaDesc) (s : State)
    (hs : Agree W r₀ s) (h0 : W .regs) (h1 : W .held) (h2 : W .mem) (h3 : W .time) (h4 : W .box) (h5 : W .path)
    (h6 : W .disp) (h7 : W .sig) (h8 : W .cores) (h9 : W .ev) (h10 : W .flt) (h11 : W .sec) (h12 : W .mbx)
    (h13 : W .tdm) (h14 : W .net) (h15 : W .ref) (h16 : W .supv) (h17 : W .tnd) (h18 : W .memx) (h19 : W .link)
    (h20 : W .free) :
    Agree W r₀ (dmaOp ch d s) := by
  unfold dmaOp
  dsimp only
  repeat' with_reducible first
    | assumption | apply dmaWords_agree | apply memPut_agree | apply poisonLog_agree | apply modMem_agree
    | apply memLoad_agree | apply agree_ite | (intro) | split

theorem readWords_agree (m : Master) (a a2 : Nat) (a3 : State)
    (ha3 : Agree W r₀ a3) (h0 : W .regs) (h1 : W .time) (h2 : W .disp) (h3 : W .ev) (h4 : W .free) :
    Agree W r₀ (readWords m a a2 a3).1 := by
  induction a2 generalizing a a3 with
  | zero => exact ha3
  | succ n ih =>
    unfold readWords
    exact ih _ _ (by repeat' with_reducible first | assumption | apply wordRead_agree)

theorem peekBody_agree (c : Cmd) (s : State)
    (hs : Agree W r₀ s) (h0 : W .regs) (h1 : W .time) (h2 : W .disp) (h3 : W .ev) (h4 : W .free) :
    Agree W r₀ (peekBody c s).1 := by
  unfold peekBody
  dsimp only
  repeat' with_reducible first
    | assumption | apply readWords_agree | apply agree_ite_fst | apply agree_ite | (intro) | split

theorem execDmaDescriptor_agree {s' : State} (ch : Fin 4) (d : DmaDesc) (s : State)
    (hs : Agree W r₀ s) (h0 : W .regs) (h1 : W .held) (h2 : W .mem) (h3 : W .time) (h4 : W .box) (h5 : W .path)
    (h6 : W .disp) (h7 : W .sig) (h8 : W .cores) (h9 : W .ev) (h10 : W .flt) (h11 : W .sec) (h12 : W .mbx)
    (h13 : W .tdm) (h14 : W .net) (h15 : W .ref) (h16 : W .supv) (h17 : W .tnd) (h18 : W .memx) (h19 : W .link)
    (h20 : W .free) (he : execDmaDescriptor ch d s = .next s') :
    Agree W r₀ s' := by
  cases he
  repeat' with_reducible first | assumption | apply dmaOp_agree

theorem spiWriteOp_agree (a : Nat) (data : List Byte) (s : State)
    (hs : Agree W r₀ s) (h0 : W .regs) (h1 : W .box) (h2 : W .disp) (h3 : W .ev) (h4 : W .sec) (h5 : W .mbx)
    (h6 : W .memx) :
    Agree W r₀ (spiWriteOp a data s) := by
  unfold spiWriteOp
  dsimp only
  repeat' with_reducible first
    | assumption | apply viaPort_agree | apply mbxRegWrite_agree | apply agree_ite | apply agree_each | (intro)
    | split

theorem spiReadOp_agree (a n : Nat) (s : State)
    (hs : Agree W r₀ s) (h0 : W .mbx) :
    Agree W r₀ (spiReadOp a n s) := by
  unfold spiReadOp
  dsimp only
  repeat' with_reducible first
    | assumption | (apply agree_set_mbx <;> assumption) | apply agree_ite | (intro) | split | apply agree_set_mbx

theorem execSpiRead_agree {s' : State} (addr : BitVec 24) (n : Nat) (s : State)
    (hs : Agree W r₀ s) (h0 : W .mbx) (he : execSpiRead addr n s = .next s') :
    Agree W r₀ s' := by
  cases he
  repeat' with_reducible first | assumption | apply spiReadOp_agree

theorem execSpiWrite_agree {s' : State} (addr : BitVec 24) (data : List Byte) (s : State)
    (hs : Agree W r₀ s) (h0 : W .regs) (h1 : W .box) (h2 : W .disp) (h3 : W .ev) (h4 : W .sec) (h5 : W .mbx)
    (h6 : W .memx) (he : execSpiWrite addr data s = .next s') :
    Agree W r₀ s' := by
  cases he
  repeat' with_reducible first | assumption | apply spiWriteOp_agree

theorem execPeek_agree {s' : State} (c : Cmd) (s : State)
    (hs : Agree W r₀ s) (h0 : W .regs) (h1 : W .time) (h2 : W .box) (h3 : W .disp) (h4 : W .ev) (h5 : W .link)
    (h6 : W .free) (he : execPeek c s = .next s') :
    Agree W r₀ s' := by
  cases he
  repeat' with_reducible first | assumption | apply silwen_agree | apply peekBody_agree | (intro)

theorem registerWriteOp_agree (m : Master) (a : Nat) (v : Word) (s : State)
    (hs : Agree W r₀ s) (h0 : W .regs) (h1 : W .held) (h2 : W .mem) (h3 : W .time) (h4 : W .box) (h5 : W .path)
    (h6 : W .disp) (h7 : W .sig) (h8 : W .cores) (h9 : W .ev) (h10 : W .flt) (h11 : W .sec) (h12 : W .mbx)
    (h13 : W .tdm) (h14 : W .net) (h15 : W .ref) (h16 : W .supv) (h17 : W .tnd) (h18 : W .memx) (h19 : W .link) :
    Agree W r₀ (registerWriteOp m a v s) := by
  unfold registerWriteOp
  repeat' with_reducible first
    | assumption | apply wordWrite_agree | apply viaPort_agree | apply decodeErrorOp_agree | apply agree_ite
    | (intro) | split

theorem execRegisterWrite_agree {s' : State} (m : Master) (addr : BitVec 40) (v : Word) (s : State)
    (hs : Agree W r₀ s) (h0 : W .regs) (h1 : W .held) (h2 : W .mem) (h3 : W .time) (h4 : W .box) (h5 : W .path)
    (h6 : W .disp) (h7 : W .sig) (h8 : W .cores) (h9 : W .ev) (h10 : W .flt) (h11 : W .sec) (h12 : W .mbx)
    (h13 : W .tdm) (h14 : W .net) (h15 : W .ref) (h16 : W .supv) (h17 : W .tnd) (h18 : W .memx) (h19 : W .link)
    (he : execRegisterWrite m addr v s = .next s') :
    Agree W r₀ s' := by
  cases he
  repeat' with_reducible first | assumption | apply registerWriteOp_agree

end Sys2Proof.Laws
end

