-- ==== Sys2Proof/Laws/FramesRoundTick.lean ====
section
/-! SUPPORT. Which parts of the state each operation of Machine/RoundTick.lean may write. -/

namespace Sys2Proof.Laws
open Sys2Proof.Machine

variable {W : Part → Bool} {r₀ : State}

theorem busyTick_agree (s : State)
    (hs : Agree W r₀ s) (h0 : W .regs) (h1 : W .free) :
    Agree W r₀ (busyTick s) := by
  unfold busyTick
  repeat' with_reducible first | assumption | apply fresh_agree | apply put_agree

theorem releaseTick_agree (s : State)
    (hs : Agree W r₀ s) (h0 : W .regs) (h1 : W .mods) (h2 : W .disp) (h3 : W .free) :
    Agree W r₀ (releaseTick s) := by
  unfold releaseTick
  dsimp only
  repeat' with_reducible first
    | assumption | apply templateRelease_agree | apply templateSwap_agree | apply busyTick_agree | apply agree_ite
    | (intro) | split

theorem stepTick_agree (s : State)
    (hs : Agree W r₀ s) (h0 : W .regs) (h1 : W .time) (h2 : W .eng) (h3 : W .box) (h4 : W .hamp) (h5 : W .disp)
    (h6 : W .sig) (h7 : W .ev) (h8 : W .ref) (h9 : W .supv) (h10 : W .tnd) (h11 : W .night) (h12 : W .link) :
    Agree W r₀ (stepTick s) := by
  unfold stepTick
  dsimp only
  repeat' with_reducible first
    | assumption | apply timeStepApply_agree | apply handoverAbandon_agree | apply realignTick_agree
    | apply agree_ite | (intro) | split

theorem blocksTick_agree (k : Nat) (meas : RoundMeas) (s : State)
    (hs : Agree W r₀ s) (h0 : W .regs) (h1 : W .held) (h2 : W .mem) (h3 : W .box) (h4 : W .hamp) (h5 : W .path)
    (h6 : W .disp) (h7 : W .sig) (h8 : W .ev) (h9 : W .flt) (h10 : W .tdm) (h11 : W .net) (h12 : W .supv)
    (h13 : W .pwr) (h14 : W .memx) (h15 : W .link) (h16 : W .free) :
    Agree W r₀ (blocksTick k meas s) := by
  unfold blocksTick
  dsimp only
  repeat' with_reducible first
    | assumption | apply selDecide_agree | apply netRxTick_agree | apply alarmLoad_agree | apply ampTick_agree
    | apply tdmTick_agree | apply faultTick_agree | apply paceStart_agree | apply agree_ite | apply agree_each
    | (intro) | split

theorem forgetRuns_agree (s : State)
    (hs : Agree W r₀ s) (h0 : W .path) (h1 : W .mods) :
    Agree W r₀ (forgetRuns s) := by
  unfold forgetRuns
  dsimp only
  repeat' with_reducible first
    | assumption | apply modPath_agree | (apply agree_set_mods <;> assumption) | apply agree_set_mods

theorem engineTick_agree (k : Nat) (s : State)
    (hs : Agree W r₀ s) (h0 : W .eng) (h1 : W .path) (h2 : W .mods) (h3 : W .sig) :
    Agree W r₀ (engineTick k s) := by
  unfold engineTick
  dsimp only
  repeat' with_reducible first
    | assumption | apply modEng_agree | apply forgetRuns_agree | apply modPath_agree
    | (apply agree_set_sig <;> assumption) | split | apply agree_set_sig

theorem pokesApply_agree (s : State)
    (hs : Agree W r₀ s) (h0 : W .regs) (h1 : W .held) (h2 : W .mem) (h3 : W .time) (h4 : W .box) (h5 : W .path)
    (h6 : W .disp) (h7 : W .sig) (h8 : W .cores) (h9 : W .ev) (h10 : W .flt) (h11 : W .sec) (h12 : W .mbx)
    (h13 : W .tdm) (h14 : W .net) (h15 : W .ref) (h16 : W .supv) (h17 : W .tnd) (h18 : W .memx) (h19 : W .link) :
    Agree W r₀ (pokesApply s) := by
  unfold pokesApply
  dsimp only
  repeat' with_reducible first
    | assumption | apply writeWords_agree | apply modTnd_agree | apply agree_each | (intro)

theorem roundTickOp_agree (meas : RoundMeas) (s : State)
    (hs : Agree W r₀ s) (h0 : W .regs) (h1 : W .held) (h2 : W .mem) (h3 : W .time) (h4 : W .eng) (h5 : W .box)
    (h6 : W .hamp) (h7 : W .path) (h8 : W .mods) (h9 : W .disp) (h10 : W .sig) (h11 : W .cores) (h12 : W .ev)
    (h13 : W .flt) (h14 : W .sec) (h15 : W .mbx) (h16 : W .tdm) (h17 : W .net) (h18 : W .ref) (h19 : W .supv)
    (h20 : W .tnd) (h21 : W .pwr) (h22 : W .memx) (h23 : W .night) (h24 : W .link) (h25 : W .free) :
    Agree W r₀ (roundTickOp meas s) := by
  unfold roundTickOp
  dsimp only
  repeat' with_reducible first
    | assumption | apply netTxTick_agree | apply releaseTick_agree | apply stepTick_agree | apply blocksTick_agree
    | apply linkTick_agree | apply clockModeApply_agree | apply engineTick_agree | apply pokesApply_agree
    | apply agree_ite | (intro) | split

theorem execRoundTick_agree {s' : State} (meas : RoundMeas) (s : State)
    (hs : Agree W r₀ s) (h0 : W .regs) (h1 : W .held) (h2 : W .mem) (h3 : W .time) (h4 : W .eng) (h5 : W .box)
    (h6 : W .hamp) (h7 : W .path) (h8 : W .mods) (h9 : W .disp) (h10 : W .sig) (h11 : W .cores) (h12 : W .ev)
    (h13 : W .flt) (h14 : W .sec) (h15 : W .mbx) (h16 : W .tdm) (h17 : W .net) (h18 : W .ref) (h19 : W .supv)
    (h20 : W .tnd) (h21 : W .pwr) (h22 : W .memx) (h23 : W .night) (h24 : W .link) (h25 : W .free)
    (he : execRoundTick meas s = .next s') :
    Agree W r₀ s' := by
  cases he
  repeat' with_reducible first | assumption | apply roundTickOp_agree

end Sys2Proof.Laws
end

