-- ==== Sys2Proof/Laws/FramesRemote.lean ====
section
/-! SUPPORT. Which parts of the state each operation of Machine/Remote.lean may write. -/

namespace Sys2Proof.Laws
open Sys2Proof.Machine

variable {W : Part → Bool} {r₀ : State}

theorem silwenRow_agree {code n : Nat} {c : Cmd} {x : Bool} {body : Cmd → State → State × Rep}
    (he : silwenRow code c = some (n, x, body)) (h0 : W .regs) (h1 : W .held) (h2 : W .mem) (h3 : W .time)
    (h4 : W .eng) (h5 : W .box) (h6 : W .hamp) (h7 : W .path) (h8 : W .mods) (h9 : W .disp) (h10 : W .sig)
    (h11 : W .cores) (h12 : W .ev) (h13 : W .flt) (h14 : W .boot) (h15 : W .sec) (h16 : W .mbx) (h17 : W .tdm)
    (h18 : W .net) (h19 : W .ref) (h20 : W .supv) (h21 : W .tnd) (h22 : W .pwr) (h23 : W .memx) (h24 : W .night)
    (h25 : W .link) (h26 : W .free) :
    ∀ c s, Agree W r₀ s → Agree W r₀ (body c s).1 := by
  unfold silwenRow at he
  dsimp only at he
  repeat' split at he
  all_goals cases he
  all_goals intro c s hs
  all_goals repeat' with_reducible first
    | assumption | apply captureReadBody_agree | apply getTimeBody_agree | apply pokeBody_agree
    | apply nightCfgBody_agree | apply tandemStatusBody_agree | apply handoverBody_agree
    | apply tdmSlotmaskBody_agree | apply nonceBody_agree | apply railCfgBody_agree | apply t1sCfgBody_agree
    | apply routeBackupBody_agree | apply captureConfigureBody_agree | apply ptpCfgBody_agree
    | apply setPaceBody_agree | apply expertEnableBody_agree | apply armAlarmBody_agree
    | apply asrcCfgBody_agree | apply streamAddBody_agree | apply loadModuleBody_agree
    | apply ramblerCfgBody_agree | apply faultLogBody_agree | apply resetEngineBody_agree
    | apply lcRevokeBody_agree | apply ampPairBody_agree | apply msgQueryBody_agree | apply setRoundBody_agree
    | apply peekBody_agree | apply setRefPriorityBody_agree | apply hamperAddBody_agree
    | apply presentBody_agree | apply ampCfgBody_agree | apply setMatrixBody_agree | apply getRouteBody_agree
    | apply lcMacBody_agree | apply msgDeleteBody_agree | apply helloBody_agree | apply streamRemoveBody_agree
    | apply setSendBody_agree | apply sleepBody_agree | apply sceneRecallBody_agree | apply lcAdvanceBody_agree
    | apply msgCreateBody_agree | apply counterDumpBody_agree | apply setNodeBody_agree | apply placeBody_agree
    | apply playMessageBody_agree | apply realignBody_agree | apply netPortCfgBody_agree
    | apply msgAppendBody_agree | apply setBankPowerBody_agree | apply hamperCancelBody_agree
    | apply hamperOpenBody_agree | apply dropBody_agree | apply routeBody_agree | apply setClockModeBody_agree
    | apply lcDigestBody_agree | apply setHeadroomBody_agree | apply tandemCfgBody_agree
    | apply setParamBody_agree | apply quietSweepBody_agree | apply tdmCfgBody_agree
    | apply eventRouteSetBody_agree | apply hamperCloseBody_agree | apply hamperRawBody_agree
    | apply getLatencyBody_agree | apply getPowerBody_agree | apply eventRouteClearBody_agree
    | apply lineBaselineBody_agree | apply setRateBody_agree | apply getParamBody_agree
    | apply getInfoBody_agree

theorem silwenTake_agree (code : Nat) (c : Cmd) (s : State)
    (hs : Agree W r₀ s) (h0 : W .regs) (h1 : W .held) (h2 : W .mem) (h3 : W .time) (h4 : W .eng) (h5 : W .box)
    (h6 : W .hamp) (h7 : W .path) (h8 : W .mods) (h9 : W .disp) (h10 : W .sig) (h11 : W .cores) (h12 : W .ev)
    (h13 : W .flt) (h14 : W .boot) (h15 : W .sec) (h16 : W .mbx) (h17 : W .tdm) (h18 : W .net) (h19 : W .ref)
    (h20 : W .supv) (h21 : W .tnd) (h22 : W .pwr) (h23 : W .memx) (h24 : W .night) (h25 : W .link)
    (h26 : W .free) :
    Agree W r₀ (silwenTake code c s) := by
  unfold silwenTake
  split
  · rename_i n x body he
    have hb : ∀ c s, Agree W r₀ s → Agree W r₀ (body c s).1 := by apply silwenRow_agree he <;> assumption
    apply silwen_agree <;> assumption
  · apply silwenUnknown_agree <;> assumption

theorem remoteOp_agree (node : BitVec 16) (seq : BitVec 64) (code : BitVec 16) (tag : BitVec 8) (ws : List Word) (mac : BitVec 128) (s : State)
    (hs : Agree W r₀ s) (h0 : W .regs) (h1 : W .held) (h2 : W .mem) (h3 : W .time) (h4 : W .eng) (h5 : W .box)
    (h6 : W .hamp) (h7 : W .path) (h8 : W .mods) (h9 : W .disp) (h10 : W .sig) (h11 : W .cores) (h12 : W .ev)
    (h13 : W .flt) (h14 : W .boot) (h15 : W .sec) (h16 : W .mbx) (h17 : W .tdm) (h18 : W .net) (h19 : W .ref)
    (h20 : W .supv) (h21 : W .tnd) (h22 : W .pwr) (h23 : W .memx) (h24 : W .night) (h25 : W .link)
    (h26 : W .free) :
    Agree W r₀ (remoteOp node seq code tag ws mac s) := by
  unfold remoteOp
  dsimp only
  repeat' with_reducible first
    | assumption | apply incSat_agree | apply silwenTake_agree | (apply agree_set_sec <;> assumption)
    | apply agree_ite | (intro) | split | apply agree_set_sec

theorem execRemoteDatagram_agree {s' : State} (node : BitVec 16) (seq : BitVec 64) (code : BitVec 16) (tag : BitVec 8) (words : List Word) (mac : BitVec 128) (s : State)
    (hs : Agree W r₀ s) (h0 : W .regs) (h1 : W .held) (h2 : W .mem) (h3 : W .time) (h4 : W .eng) (h5 : W .box)
    (h6 : W .hamp) (h7 : W .path) (h8 : W .mods) (h9 : W .disp) (h10 : W .sig) (h11 : W .cores) (h12 : W .ev)
    (h13 : W .flt) (h14 : W .boot) (h15 : W .sec) (h16 : W .mbx) (h17 : W .tdm) (h18 : W .net) (h19 : W .ref)
    (h20 : W .supv) (h21 : W .tnd) (h22 : W .pwr) (h23 : W .memx) (h24 : W .night) (h25 : W .link)
    (h26 : W .free) (he : execRemoteDatagram node seq code tag words mac s = .next s') :
    Agree W r₀ s' := by
  cases he
  repeat' with_reducible first | assumption | apply remoteOp_agree

theorem bulkRun_agree (code : Nat) (data : List Byte) (c : Cmd) (s : State)
    (hs : Agree W r₀ s) (h0 : W .regs) (h1 : W .box) (h2 : W .hamp) (h3 : W .path) (h4 : W .mods) (h5 : W .disp)
    (h6 : W .ev) (h7 : W .link) :
    Agree W r₀ (bulkRun code data c s).1 := by
  unfold bulkRun
  repeat' with_reducible first
    | assumption | apply hamperRawRun_agree | apply setParamRun_agree | apply loadModuleRun_agree
    | apply msgAppendRun_agree | split

theorem ackBulk_agree (sd : Sender) (code : Nat) (s : State)
    (hs : Agree W r₀ s) (h0 : W .regs) (h1 : W .disp) (h2 : W .ev) :
    Agree W r₀ (ackBulk sd code s) := by
  unfold ackBulk
  repeat' with_reducible first
    | assumption | apply agree_setReg | apply setChan_agree | apply agree_ite | (intro) | split

theorem bulkTake_agree (sd : Sender) (tag seg : Nat) (ws : List Word) (b : BulkRun) (s : State)
    (hs : Agree W r₀ s) (h0 : W .regs) (h1 : W .box) (h2 : W .hamp) (h3 : W .path) (h4 : W .mods) (h5 : W .disp)
    (h6 : W .ev) (h7 : W .link) :
    Agree W r₀ (bulkTake sd tag seg ws b s) := by
  unfold bulkTake
  dsimp only
  repeat' with_reducible first
    | assumption | apply modBox_agree | apply bulkRun_agree | apply answerCmd_agree | apply ackBulk_agree
    | apply agree_ite | (intro) | split

theorem copyTags_agree (sd : Sender) (l : List (Nat × Nat)) (s : State)
    (hs : Agree W r₀ s) (h0 : W .tnd) :
    Agree W r₀ (copyTags sd l s) := by
  unfold copyTags
  repeat' with_reducible first | assumption | apply modTnd_agree

theorem copyHamper_agree (hid stile : Nat) (es : List Entry) (tok : Option Tok) (s : State)
    (hs : Agree W r₀ s) (h0 : W .hamp) :
    Agree W r₀ (copyHamper hid stile es tok s) := by
  unfold copyHamper
  dsimp only
  repeat' with_reducible first
    | assumption | apply closeHid_agree | apply modHamp_agree | apply agree_ite | (intro) | split

theorem copyItemOp_agree (i : CopyItem) (s : State)
    (hs : Agree W r₀ s) (h0 : W .regs) (h1 : W .held) (h2 : W .mem) (h3 : W .time) (h4 : W .eng) (h5 : W .box)
    (h6 : W .hamp) (h7 : W .path) (h8 : W .mods) (h9 : W .disp) (h10 : W .sig) (h11 : W .cores) (h12 : W .ev)
    (h13 : W .flt) (h14 : W .boot) (h15 : W .sec) (h16 : W .mbx) (h17 : W .tdm) (h18 : W .net) (h19 : W .ref)
    (h20 : W .supv) (h21 : W .tnd) (h22 : W .pwr) (h23 : W .memx) (h24 : W .night) (h25 : W .link)
    (h26 : W .free) :
    Agree W r₀ (copyItemOp i s) := by
  unfold copyItemOp
  split
  · exact hs
  · split
    · apply copyHamper_agree <;> assumption
    · split
      · exact hs
      · rename_i n x body he
        split
        · exact hs
        · have hb : ∀ c s, Agree W r₀ s → Agree W r₀ (body c s).1 := by apply silwenRow_agree he <;> assumption
          have h1 := fun c => hb c _ hs
          dsimp only
          split
          · apply bulkRun_agree <;> first | assumption | apply h1
          · apply h1
    · apply modTnd_agree <;> assumption
    · split
      · apply agree_setReg <;> assumption
      · exact hs
    · apply copyTags_agree <;> assumption

theorem execTandemCopyItem_agree {s' : State} (i : CopyItem) (s : State)
    (hs : Agree W r₀ s) (h0 : W .regs) (h1 : W .held) (h2 : W .mem) (h3 : W .time) (h4 : W .eng) (h5 : W .box)
    (h6 : W .hamp) (h7 : W .path) (h8 : W .mods) (h9 : W .disp) (h10 : W .sig) (h11 : W .cores) (h12 : W .ev)
    (h13 : W .flt) (h14 : W .boot) (h15 : W .sec) (h16 : W .mbx) (h17 : W .tdm) (h18 : W .net) (h19 : W .ref)
    (h20 : W .supv) (h21 : W .tnd) (h22 : W .pwr) (h23 : W .memx) (h24 : W .night) (h25 : W .link)
    (h26 : W .free) (he : execTandemCopyItem i s = .next s') :
    Agree W r₀ s' := by
  cases he
  repeat' with_reducible first | assumption | apply copyItemOp_agree

theorem bulkTimeoutOp_agree (sd : Sender) (tag : Nat) (s : State)
    (hs : Agree W r₀ s) (h0 : W .box) :
    Agree W r₀ (bulkTimeoutOp sd tag s) := by
  unfold bulkTimeoutOp
  dsimp only
  repeat' with_reducible first | assumption | apply modBox_agree | apply holdReply_agree | split

theorem execBulkTimeout_agree {s' : State} (sender : Sender) (tag : BitVec 8) (s : State)
    (hs : Agree W r₀ s) (h0 : W .box) (he : execBulkTimeout sender tag s = .next s') :
    Agree W r₀ s' := by
  cases he
  repeat' with_reducible first | assumption | apply bulkTimeoutOp_agree

theorem bulkSegmentOp_agree (sd : Sender) (tag seg : Nat) (ws : List Word) (s : State)
    (hs : Agree W r₀ s) (h0 : W .regs) (h1 : W .box) (h2 : W .hamp) (h3 : W .path) (h4 : W .mods) (h5 : W .disp)
    (h6 : W .ev) (h7 : W .link) :
    Agree W r₀ (bulkSegmentOp sd tag seg ws s) := by
  unfold bulkSegmentOp
  repeat' with_reducible first
    | assumption | apply bulkTake_agree | apply ackBulk_agree | apply agree_ite | (intro) | split

theorem execBulkSegment_agree {s' : State} (sender : Sender) (tag : BitVec 8) (seg : BitVec 16) (words : List Word) (s : State)
    (hs : Agree W r₀ s) (h0 : W .regs) (h1 : W .box) (h2 : W .hamp) (h3 : W .path) (h4 : W .mods) (h5 : W .disp)
    (h6 : W .ev) (h7 : W .link) (he : execBulkSegment sender tag seg words s = .next s') :
    Agree W r₀ s' := by
  cases he
  repeat' with_reducible first | assumption | apply bulkSegmentOp_agree

end Sys2Proof.Laws
end

