-- ==== Sys2Proof/WellFormed.lean ====
section
/-! DEFINITION. Which commands are well formed: what the spec bounds and the operand types do not. The
machine gives every command a meaning, well formed or not; a command outside these bounds is one no sender or
pin can produce, or an operation R165 calls illegal. -/

namespace Sys2Proof

/-- A Silwen message as a buffer of 64 words can carry it, from a sender that has a command channel
(R95, R103, R110) or from a node. -/
def Cmd.wf (c : Cmd) : Bool :=
  decide (c.words.length ≤ 63) &&
  match c.sender with
  | .master m => m == 0x01 || m == 0x02 || m == 0x30
  | .node _ => true

/-- Whether a command is well formed. -/
def Instr.wf (i : Instr) : Bool :=
  match i with
  | .porst _ => true
  | .sysrst _ => true
  | .tempMeasure _ => true
  | .bootImageVerify _ => true
  | .pcieDownloadPost _ => true
  | .spiDownloadMessage words => decide (words.length ≤ 64)
  | .firmwareStart => true
  | .engineStartBoot => true
  | .tamperWipe => true
  | .tamperWipeDone => true
  | .hello c => c.wf
  | .getInfo c => c.wf
  | .resetEngine c => c.wf
  | .setNode c => c.wf
  | .getLatency c => c.wf
  | .setPace c => c.wf
  | .sleep c => c.wf
  | .getPower c => c.wf
  | .setBankPower c => c.wf
  | .getTime c => c.wf
  | .setClockMode c => c.wf
  | .setRefPriority c => c.wf
  | .realign c => c.wf
  | .setEngineRate c => c.wf
  | .setRound c => c.wf
  | .captureCfgConfigure c => c.wf
  | .captureCfgRead c => c.wf
  | .netPortCfg c => c.wf
  | .streamRxAdd c => c.wf
  | .streamTxAdd c => c.wf
  | .streamRemove c => c.wf
  | .ptpCfg c => c.wf
  | .t1sCfg c => c.wf
  | .route c => c.wf
  | .routeBackup c => c.wf
  | .getRoute c => c.wf
  | .setSend c => c.wf
  | .setMatrix c => c.wf
  | .setBusHeadroom c => c.wf
  | .setParam c => c.wf
  | .getParam c => c.wf
  | .loadModule c => c.wf
  | .place c => c.wf
  | .hamperOpen c => c.wf
  | .hamperAdd c => c.wf
  | .hamperClose c => c.wf
  | .hamperCancel c => c.wf
  | .sceneRecall c => c.wf
  | .armAlarm c => c.wf
  | .hamperRaw c => c.wf
  | .tdmCfg c => c.wf
  | .tdmSlotmask c => c.wf
  | .asrcCfg c => c.wf
  | .ampCfg c => c.wf
  | .ampPair c => c.wf
  | .lineBaseline c => c.wf
  | .quietSweep c => c.wf
  | .railCfg c => c.wf
  | .tandemCfg c => c.wf
  | .handover c => c.wf
  | .tandemStatus c => c.wf
  | .ramblerCfg c => c.wf
  | .msgStoreCreate c => c.wf
  | .msgStoreAppend c => c.wf
  | .msgStoreDelete c => c.wf
  | .msgStoreQuery c => c.wf
  | .playMessage c => c.wf
  | .eventRouteSet c => c.wf
  | .eventRouteClear c => c.wf
  | .faultLogRead c => c.wf
  | .counterDumpCfg c => c.wf
  | .nightTestCfg c => c.wf
  | .lifecycleAdvance c => c.wf
  | .lifecycleSlotDigest c => c.wf
  | .lifecycleRevokeSlot c => c.wf
  | .lifecycleSetMac c => c.wf
  | .credentialNonce c => c.wf
  | .credentialPresent c => c.wf
  | .credentialDrop c => c.wf
  | .expertEnable c => c.wf
  | .peek c => c.wf
  | .poke c => c.wf
  | .bulkSegment _ _ _ words => decide (words.length ≤ 62)
  | .bulkTimeout _ _ => true
  | .remoteDatagram _ _ _ _ words _ => decide (words.length ≤ 62)
  | .nonceExpiry _ => true
  | .credentialLockoutEnd _ => true
  | .mbxBufWrite _ _ _ _ => true
  | .mbxPost _ _ => true
  | .mbxTake _ _ => true
  | .mbxAck _ _ _ => true
  | .mbxClr _ _ => true
  | .mbxSreset _ _ => true
  | .mbxLock _ => true
  | .masterReset _ => true
  | .controlCoreRestart _ => true
  | .ccWatchdogExpiry _ => true
  | .outboundPost _ => true
  | .spiWrite _ _ => true
  | .spiRead _ n => decide (0 < n)
  | .registerWrite _ _ _ => true
  | .timeSnap => true
  | .timeStepRequest _ => true
  | .timeModeWrite _ => true
  | .timeRateWrite _ => true
  | .timeRoundWrite _ => true
  | .timeCapw0Read => true
  | .timeCapFlush => true
  | .gpEdgeCapture _ _ _ => true
  | .timeCounterTick _ => true
  | .roundTick meas => decide (meas.power.length = 32 ∧ meas.vrail.length = 4)
  | .selectorFadeEnd _ => true
  | .selectorRestoreHoldEnd _ => true
  | .hamperLoadStart _ => true
  | .hamperCommit _ => true
  | .alarmQualify _ _ => true
  | .alarmHamperCommit _ => true
  | .trailEnd _ => true
  | .muxCrossfadeEnd _ => true
  | .stageTransitionEnd _ => true
  | .stageRefillEnd _ => true
  | .patchRampEnd _ => true
  | .patchRampGo _ _ _ => true
  | .paramInterpEnd _ _ => true
  | .engineRateRamp => true
  | .engineRestart => true
  | .rateChangeComplete => true
  | .sinkSourceValid _ => true
  | .itemStart => true
  | .itemComplete _ => true
  | .joinComplete _ => true
  | .sumBlockComplete _ => true
  | .roundDeadline => true
  | .barrierClose => true
  | .dispTswap => true
  | .dispArm _ => true
  | .dispDisarm _ => true
  | .dispEventSlot _ => true
  | .coreRestart _ => true
  | .coreDbgreq _ => true
  | .coreUrgentRaise _ _ => true
  | .interruptEntry _ => true
  | .handlerTimeout _ => true
  | .illegalBundle _ _ => true
  | .mul _ _ => true
  | .mac _ _ => true
  | .msu _ _ => true
  | .mulx _ _ => true
  | .macx _ _ => true
  | .msux _ _ => true
  | .add _ _ => true
  | .sub _ _ => true
  | .min _ _ => true
  | .max _ _ => true
  | .and _ _ => true
  | .or _ _ => true
  | .xor _ _ => true
  | .abs _ _ => true
  | .neg _ _ => true
  | .shl _ _ => true
  | .shr _ _ => true
  | .sld _ _ => true
  | .cmp _ f => decide (f.f.val < 6)
  | .sel _ _ => true
  | .bcast _ _ => true
  | .rda _ _ => true
  | .rdad _ _ => true
  | .lda _ _ => true
  | .ldad _ _ => true
  | .adda _ _ => true
  | .suba _ _ => true
  | .mova _ _ => true
  | .clra _ _ => true
  | .sha _ _ => true
  | .nega _ _ => true
  | .ldv _ _ _ => true
  | .ldb _ _ _ => true
  | .ldl _ _ _ _ => true
  | .ldvd _ _ _ => true
  | .stv _ _ _ => true
  | .stl _ _ _ _ => true
  | .stvd _ _ _ => true
  | .sta _ _ _ _ => true
  | .stad _ _ _ _ => true
  | .star _ _ _ => true
  | .ldar _ _ _ => true
  | .ldw _ _ _ => true
  | .stw _ _ _ => true
  | .movd _ _ _ _ => true
  | .movp _ _ _ _ => true
  | .addp _ _ _ _ => true
  | .addpp _ _ _ _ _ => true
  | .movi _ _ _ _ => true
  | .getl _ _ _ _ _ => true
  | .putl _ _ _ _ _ => true
  | .movs _ _ _ dir _ => decide (dir.val < 3)
  | .br _ cond _ => decide (cond.val < 6)
  | .brz _ _ _ => true
  | .brnz _ _ _ => true
  | .call _ _ => true
  | .jr _ _ => true
  | .loop _ _ _ => true
  | .fence _ => true
  | .done _ => true
  | .reti _ => true
  | .brk _ => true
  | .lexit _ _ => true
  | .setrnd _ _ => true
  | .clrsat _ => true
  | .lmovi _ _ _ => true
  | .lmovu _ _ _ => true
  | .loopi _ _ _ => true
  | .ljmp _ _ => true
  | .lcall _ _ => true
  | .tdmEnable _ _ => true
  | .tdmMaskgo _ => true
  | .tdmMaskMove _ => true
  | .tdmFrame _ f => decide ((f.clocks.length - 1) * (1000000000 * 2 ^ 32) ≤ 49152000 * f.len)
  | .tdmSyncLock _ => true
  | .asrcLock _ _ => true
  | .asrcRelock _ => true
  | .tdmClockLost _ => true
  | .tdmCaptureStart _ => true
  | .netEnable _ => true
  | .netFrameRx _ f => decide (64 ≤ f.len)
  | .netFrameTx _ _ => true
  | .pauseExpiry _ => true
  | .pauseWatchdog _ => true
  | .pauseHoldoffEnd _ => true
  | .loopProbe => true
  | .addressAgeOut _ => true
  | .netLinkDown _ => true
  | .netLinkUp _ _ => true
  | .streamLegDown _ _ => true
  | .t1sFrameTx _ _ => true
  | .t1sCarrierLost _ => true
  | .bmcaRun _ _ _ _ => true
  | .pdelayExchange _ _ => true
  | .refMeasure cands => decide (cands.length = 7)
  | .candidateLoss _ => true
  | .refSwitchMeasured _ => true
  | .refSwitchEnd _ => true
  | .realignWrite _ => true
  | .realignDone => true
  | .ampStart _ => true
  | .ampPolarityCheck _ _ => true
  | .ampOscEnable _ => true
  | .ampStartCheck _ _ => true
  | .ampStopRampEnd _ => true
  | .ampFbopen _ => true
  | .ampLooperr _ => true
  | .ampCurrentLimit _ _ => true
  | .ampProbe _ => true
  | .ampProbeEnd _ _ _ => true
  | .ampReturnEnd _ => true
  | .supvInterval _ _ => true
  | .quietSweepStart => true
  | .supvSweepGo => true
  | .sweepPointEnd _ => true
  | .quietSweepEnd => true
  | .playbackEnd _ => true
  | .generatorSweepEnd _ => true
  | .roleInChange _ => true
  | .takeover => true
  | .tandemDecideRecord _ => true
  | .tandemInputRecord _ inputs => decide (∀ i ∈ inputs, i.src < 8192)
  | .tandemAlarmRecord _ _ => true
  | .tandemEndRecord _ => true
  | .tandemRecordDeadline => true
  | .tandemCopyItem _ => true
  | .handoverBegin => true
  | .handoverCheck _ => true
  | .handoverSwitch => true
  | .tandemLaneLoss _ => true
  | .tandemLaneReturn _ _ _ => true
  | .tandemLinkDownTimeout => true
  | .resyncCopyDone _ => true
  | .tandemEnable => true
  | .failSilent => true
  | .paceTransitionEnd => true
  | .sleepRampStart => true
  | .sleepReleaseStop => true
  | .sleepDrainDone => true
  | .sleepBlockStop => true
  | .sleepEntered => true
  | .wakeAddress _ => true
  | .alarmWake _ _ => true
  | .retentionWake _ => true
  | .bankZeroDone _ => true
  | .bankPowerWrite _ _ => true
  | .scrubLine _ _ _ => true
  | .ddrPatrolScrub _ _ => true
  | .ramblerRegion _ => true
  | .ramblerPassEnd => true
  | .ramblerEnable _ => true
  | .decodeError _ _ => true
  | .poisonRead _ _ => true
  | .faultDetect _ _ _ _ => true
  | .faultHandlingEnd _ _ => true
  | .faultOutStretchEnd => true
  | .evtSwset _ _ => true
  | .evtPendClear _ _ _ => true
  | .gpEventEdge _ => true
  | .counterSweep => true
  | .cntRead _ => true
  | .counterDumpLatch => true
  | .counterDumpDone => true
  | .nightTestStart => true
  | .nightTestDrillReturn => true
  | .nightTestEnd => true
  | .peerStateReport _ _ => true
  | .probeFailureCountClear _ => true
  | .tamperInRelease => true
  | .lifecycleReset => true
  | .suppliesValid => true
  | .dmaDescriptor _ _ => true
  | .priorityMixerCrossfadeEnd _ => true
  | .syncInterval _ _ => true

end Sys2Proof
end

