-- ==== Sys2Proof/Tests/Slice0.lean ====
section
/-! SUPPORT. Small tests: what WellFormed refuses, words of the spec decoded, and for each clause of the statements a
state and operands that meet its hypotheses, with what the spec says follows there. Expected values come from the rules of
spec/ named at each group. -/

namespace Sys2Proof.Tests
open Sys2Proof Sys2Proof.Machine
set_option Elab.async false

/-- The next state of a command. -/
def nx (i : Instr) (s : State) : State :=
  match exec i s with
  | .next t => t
  | _ => State.reset

/-- The block after reset with its firmware running. -/
def up : State := { State.reset with boot := { State.reset.boot with phase := .running } }

/-- A message of the PCIe host with tag 7. -/
def msg (ws : List Word) : Cmd := ⟨.master 0x01, 7, ws⟩

/-- Return code and words of the last reply held for the PCIe host. -/
def rep (t : State) : Option (Nat × List Word) :=
  (t.outbox 1).replies.getLast?.map fun m => ((m.words.headD 0).toNat % 65536, m.words.drop 1)



/-! ### The step (R8, R95) -/

/-- A queue of two commands, the first a register write. -/
def queue2 : State := { up with pending := [.registerWrite 0x08 0x100 7, .timeSnap] }
theorem test_step : (step queue2 = exec (.registerWrite 0x08 0x100 7) { up with pending := [.timeSnap] }) ∧ step up = .next up := ⟨rfl, rfl⟩
theorem test_step_canonical : queue2.memOk ∧ queue2.regsOk ∧ ((match step queue2 with | .next t => t | _ => up).memWord 0x100 = 7)
    ∧ ((match step queue2 with | .next t => t | _ => up).pending = [.timeSnap]) := by
  unfold State.memOk State.regsOk; decide +kernel
theorem test_touches : Part.mem ∉ touches (.mbxPost 1 0) ∧ Part.sig ∉ touches .timeSnap ∧ Part.mem ∈ touches (.registerWrite 0x08 0x100 7) := by decide +kernel
/-! ### The mailbox (R95–R109) -/

/-- A posted and a taken message on MB0, and an acknowledged one. -/
def mb1 : State := nx (.mbxPost 1 0) (nx (.mbxBufWrite 1 0 0 0x0100#32) up)
def mb2 : State := nx (.mbxTake 8 0) mb1
def mb3 : State := nx (.mbxAck 8 0 5#32) mb2

theorem test_mbxPost : (chanOpen 1 0 && up.portOpen 1 && up.bound 1 0 false && up.chan 0 == 0 && up.boot.phase != .retired
    && mb1.chan 0 == 1 && mb1.get (F.MBX_STAMP_SENDER 0) == 1 && mb1.get (F.MBX_STAMP_SEQ 0) == 1) = true := by decide +kernel
theorem test_mbxPost_unknown : (up.reg (R.MBX_BUF 0 0)).toNat % 65536 ∉ assignedCodes ∧ (nx (.mbxPost 1 0) up).chan 0 = 3
    ∧ (nx (.mbxPost 1 0) up).reg (R.MBX_ACK 0) = word rcUnknown := by decide +kernel
theorem test_mbxTake : (mb1.bound 8 0 true && mb1.chan 0 == 1 && mb2.chan 0 == 2) = true := by decide +kernel
theorem test_mbxAck : (mb2.bound 8 0 true && mb2.chan 0 == 2 && mb3.chan 0 == 3 && mb3.reg (R.MBX_ACK 0) == 5) = true := by
  decide +kernel
theorem test_mbxClr : (mb3.bound 1 0 false && (nx (.mbxClr 1 0) mb3).chan 0 == 0) = true := by decide +kernel
theorem test_mbxBufWrite : ((nx (.mbxBufWrite 1 0 63 9#32) up).reg (R.MBX_BUF 0 63) == 9) = true := by decide +kernel
theorem test_mbxPost_retired :
    ({ up with boot := { up.boot with phase := .retired } }.bound 1 0 false
      && (nx (.mbxPost 1 0) { up with boot := { up.boot with phase := .retired } }).chan 0 == 3) = true := by decide +kernel
theorem test_mbx_out_of_place : nx (.mbxPost 1 0) mb1 = mb1.put (F.MBX_STAT_SEQERR 0) 1
    ∧ nx (.mbxClr 1 0) mb2 = (mb2.put (F.MBX_STAT_SEQERR 0) 1)
    ∧ nx (.mbxTake 8 0) up = (up.put (F.MBX_STAT_SEQERR 0) 1) := by decide +kernel
theorem test_mbx_unbound : up.bound 2 0 false = false ∧ up.bound 1 0 true = false
    ∧ nx (.mbxPost 3 0) up = (up.put (F.MBX_STAT_BINDERR 0) 1)
    ∧ nx (.mbxAck 1 0 0#32) mb2 = (mb2.put (F.MBX_STAT_BINDERR 0) 1) := by decide +kernel
theorem test_clr_after_take : nx (.mbxClr 1 0) (nx (.mbxTake 8 0) mb1)
    = ((nx (.mbxTake 8 0) mb1).put (F.MBX_STAT_SEQERR 0) 1) := by decide +kernel
/-- A channel the host's reset finds taken (R105): MB1 posted by CC0, received by the host. -/
def mr1 : State := nx (.mbxPost 8 1) (nx (.mbxBufWrite 8 1 0 4#32) up)
theorem test_masterReset : mr1.get (F.MBX_BIND_RECEIVER 1) = 1 ∧ mr1.chan 1 = 1 ∧ (nx (.masterReset 1) mr1).chan 1 = 3
    ∧ (nx (.masterReset 1) mr1).reg (R.MBX_BUF 1 0) = 0 ∧ (nx (.masterReset 1) mr1).epoch 1 = 1 := by decide +kernel
theorem test_masterReset_orphan : mb1.get (F.MBX_BIND_SENDER 0) = 1 ∧ mb1.chan 0 = 1
    ∧ (nx (.masterReset 1) mb1).get (F.MBX_STAT_ORPHAN 0) = 1 ∧ (nx (.masterReset 1) mb1).chan 0 = 1 := by decide +kernel
theorem test_mbxSreset : nx (.mbxSreset 1 1#32) up = nx (.masterReset 1) up ∧ nx (.mbxSreset 1 2#32) up = up := by
  decide +kernel
theorem test_mbxLock : up.portOpen 8 = true ∧ nx (.mbxLock 8) up = (up.put F.MBX_LOCK_LOCK 1) := by decide +kernel
theorem test_bindings : (nx (.porst 0) mb1).reg (R.MBX_BIND 0) = 0x0801 ∧ (nx (.porst 0) mb1).chan 0 = 0
    ∧ (nx (.sysrst 0) mb1).reg (R.MBX_BIND 10) = 0x300A := by decide +kernel
theorem test_controlCoreRestart : (nx (.controlCoreRestart 0) up).epoch 8 = 1 ∧ (nx (.controlCoreRestart 0) up).boot.fwEpoch = 1
    ∧ (nx (.controlCoreRestart 3) up).boot = up.boot := by decide +kernel
theorem test_ccWatchdogExpiry : (nx (.ccWatchdogExpiry 3) up).bitAt (R.EVT_PEND 1) 30 = true
    ∧ (nx (.ccWatchdogExpiry 3) up).epoch 11 = 1 := by decide +kernel
/-- A reply of two words held for the host. -/
def ob1 : State := up.modBox 1 fun b => { b with replies := [⟨0x0300, 9, [1#32, 2#32]⟩] }
theorem test_outboundPost : hostChans 1 = some (0, 1, 2, 8) ∧ ob1.chan 1 = 0 ∧ (nx (.outboundPost 1) ob1).chan 1 = 1
    ∧ (nx (.outboundPost 1) ob1).reg (R.MBX_BUF 1 0) = 0x09020300 ∧ (nx (.outboundPost 1) ob1).reg (R.MBX_BUF 1 2) = 2
    ∧ (nx (.outboundPost 1) ob1).get (F.MBX_STAMP_SENDER 1) = 8 := by decide +kernel

/-! ### Resets, boot and tamper (R406, R435–R445, R448) -/

/-- A state with one byte of BKS and one of BK0 written, in FIELD. -/
def kept : State :=
  let s := (up.setByte 0xE000000 3).setByte 0 4
  { s with sec := { s.sec with otp := { s.sec.otp with lc := 2 } } }
theorem test_porst : (nx (.porst 2) kept).get F.SYS_RSTCAUSE_CAUSE = 1 ∧ (nx (.porst 2) kept).byte 0xE000000 = 0
    ∧ (nx (.porst 2) kept).sec.otp = kept.sec.otp ∧ (nx (.porst 2) kept).get F.SYS_BOOT_SEL = 2
    ∧ (nx (.porst 2) kept).boot.phase = .rom := by decide +kernel
theorem test_sysrst : (nx (.sysrst 0) kept).get F.SYS_RSTCAUSE_CAUSE = 3 ∧ (nx (.sysrst 0) kept).byte 0xE000000 = 3
    ∧ (nx (.sysrst 0) kept).byte 0 = 0 := by decide +kernel
/-- A retired device after a power-on reset, and with its ROM's checks ended. -/
def retired1 : State := nx (.porst 0) { up with sec := { up.sec with otp := { up.sec.otp with lc := 3 } } }
def retired2 : State := nx (.bootImageVerify []) (nx (.mbxPost 1 0) retired1)
theorem test_porst_retired : retired1.boot.phase = .rom ∧ retired1.get F.MBX_LOCK_LOCK = 0 ∧ retired1.sec.otp.lc = 3
    ∧ retired2.boot.phase = .retired ∧ retired2.get F.MBX_LOCK_LOCK = 1 ∧ retired2.chan 0 = 3
    ∧ retired2.reg (R.MBX_ACK 0) = word rcRefused := by decide +kernel
theorem test_lifecycleReset : nx .lifecycleReset up = up
    ∧ (nx .lifecycleReset { up with boot := { up.boot with pendingLc := true } }).boot.phase = .rom := by decide +kernel
/-- The ROM with an empty image downloaded. -/
def got : State := { State.reset with boot := { State.reset.boot with complete := true } }
theorem test_bootImageVerify_download : got.boot.phase = .rom ∧ got.imgCheck got.boot.image ≠ 0
    ∧ (nx (.bootImageVerify []) got).boot.phase = .waiting
    ∧ (nx (.bootImageVerify []) got).get F.SYS_BOOT_ERR = got.imgCheck got.boot.image
    ∧ (nx (.bootImageVerify []) got).get F.EVT_FLTSTAT_FOUT = 1 := by decide +kernel
theorem test_bootImageVerify_blank : State.reset.bootSource = 0 ∧ State.reset.boot.complete = false ∧ State.reset.sec.otp.lc = 0
    ∧ (nx (.bootImageVerify []) State.reset).boot.phase = .waiting := by decide +kernel
/-- A download of BK6 and of MB4. -/
def wait : State := { State.reset with boot := { State.reset.boot with phase := .waiting } }
theorem test_pcieDownloadPost : (nx (.pcieDownloadPost 2#32) (wait.setByte 0x6000001 7)).boot.image = [0, 7]
    ∧ (nx (.pcieDownloadPost 2#32) wait).boot.complete = true := by decide +kernel
def spib : State := { State.reset with pins := { State.reset.pins with bootSel := 2 } }.put F.SYS_BOOT_SEL 2
theorem test_spiDownloadMessage : spib.bootSource = 2 ∧ spib.boot.phase = .rom
    ∧ (nx (.spiDownloadMessage [0x04030201#32]) (spib.put (F.MBX_STAT_STATE 4) 1)).boot.image = [1, 2, 3, 4]
    ∧ (nx (.spiDownloadMessage [0x04030201#32]) (spib.put (F.MBX_STAT_STATE 4) 1)).boot.complete = true
    ∧ (nx (.spiDownloadMessage [0x04030201#32]) (spib.put (F.MBX_STAT_STATE 4) 1)).chan 4 = 3 := by decide +kernel
/-- A verified image in FIELD. -/
def ready : State := { kept with boot := { kept.boot with phase := .verified } }
theorem test_firmwareStart : (nx .firmwareStart ready).boot.phase = .running ∧ (nx .firmwareStart ready).get F.MBX_LOCK_LOCK = 1
    ∧ (nx .firmwareStart ready).get F.SEC_STAT_KEYS = 1 ∧ (nx .firmwareStart ready).byte 0 = 0
    ∧ nx .firmwareStart up = up := by decide +kernel
theorem test_suppliesValid : (nx .suppliesValid up).pwr.vsel = 0 ∧ (nx .suppliesValid up).pwr.pwrenC = true := by decide +kernel
/-- A wipe under way. -/
def wiping : State := nx .tamperWipe kept
theorem test_tamperWipe : kept.get F.MEM_SECSTAT_WIPING = 0 ∧ wiping.get F.MEM_SECSTAT_WIPING = 1
    ∧ wiping.bitAt (R.EVT_PEND 5) 28 = true ∧ wiping.pins.tamperIn = false := by decide +kernel
theorem test_tamperWipeDone : (nx .tamperWipeDone wiping).byte 0xE000000 = 0 ∧ (nx .tamperWipeDone wiping).byte 0 = 4
    ∧ (nx .tamperWipeDone wiping).sec.shut = true ∧ (nx .tamperWipeDone wiping).get F.SEC_STAT_TAMPER = 1
    ∧ (nx .tamperWipeDone wiping).expert (.master 0x2F) = false := by decide +kernel
theorem test_tamperInRelease : (nx .tamperInRelease wiping).pins.tamperIn = true
    ∧ (nx .tamperInRelease wiping).get F.MEM_SECSTAT_HELD = 0 := by decide +kernel

/-! ### Identity, life cycle, credentials, messages (R439–R446, R455, R466) -/

/-- The block in FACTORY, and with keys. -/
def lcAt (n : Nat) (s : State) : State := { s with sec := { s.sec with otp := { s.sec.otp with lc := n } } }
def keyed : State := { up with sec := { up.sec with keys := some ([], [], []) } }

theorem test_hello : up.takes (msg []) 0x0100 0 false = true ∧ (nx (.hello (msg [])) up).boot.hello = true
    ∧ (rep (nx (.hello (msg [])) up)).map (fun r => (r.1, r.2.getD 1 0)) = some (rcDone, word (up.get F.SYS_BOOT_VERSION + 256 * 65536)) := by
  decide +kernel
theorem test_getInfo : up.takes (msg [0]) 0x0101 1 false = true
    ∧ (rep (nx (.getInfo (msg [0])) up)).map (fun r => r.2.headD 0) = some (up.reg R.SYS_ID)
    ∧ rep (nx (.getInfo (msg [1])) up) = some (rcDone, (capacities up.rateClass).map word)
    ∧ rep (nx (.getInfo (msg [3])) up) = some (rcRefused, []) := by decide +kernel
theorem test_setNode : (nx (.setNode (msg [0x1FF])) up).boot.nodeId = 511 ∧ rep (nx (.setNode (msg [0x1FF])) up) = some (rcDone, []) := by
  decide +kernel
theorem test_lifecycleAdvance : up.takes (msg (0x100 :: List.replicate 20 0)) 0x0E00 1 false = true ∧ up.on F.TND_CTL_EN = false
    ∧ (nx (.lifecycleAdvance (msg (0x100 :: List.replicate 20 0))) up).sec.otp.lc = 1
    ∧ (nx (.lifecycleAdvance (msg (0x100 :: List.replicate 20 0))) up).get F.SEC_LC_STATE = 1
    ∧ (nx (.lifecycleAdvance (msg (0x100 :: List.replicate 20 0))) up).boot.pendingLc = true := by decide +kernel
theorem test_lifecycleAdvance_refused : rep (nx (.lifecycleAdvance (msg [0x300])) up) = some (rcRefused, [])
    ∧ (nx (.lifecycleAdvance (msg [0x300])) up).sec = up.sec := by decide +kernel
theorem test_lifecycleSlotDigest : (lcAt 1 up).takes (msg (0x100 :: List.replicate 12 5)) 0x0E00 13 true = true
    ∧ kget (nx (.lifecycleSlotDigest (msg (0x100 :: List.replicate 12 5))) (lcAt 1 up)).sec.otp.digests 1 = some (List.replicate 12 5) := by
  decide +kernel
theorem test_lifecycleRevokeSlot : (lcAt 1 up).takes (msg [0x300]) 0x0E00 1 true = true ∧ (lcAt 1 up).get F.SYS_BOOT_KSLOT ≠ 3
    ∧ (nx (.lifecycleRevokeSlot (msg [0x300])) (lcAt 1 up)).sec.otp.revoked = 8
    ∧ (nx (.lifecycleRevokeSlot (msg [0x300])) (lcAt 1 up)).get F.SEC_LC_REVOKED = 8 := by decide +kernel
theorem test_lifecycleSetMac : (lcAt 1 up).takes (msg [0, 5, 1]) 0x0E00 3 true = true ∧ (lcAt 1 up).sec.otp.mac = 0
    ∧ (nx (.lifecycleSetMac (msg [0, 5, 1])) (lcAt 1 up)).sec.otp.mac = 0x100000005 := by decide +kernel
theorem test_credentialNonce : keyed.takes (msg [0]) 0x0E01 1 false = true
    ∧ (kget (nx (.credentialNonce (msg [0])) keyed).sec.nonces 1).map List.length = some 4
    ∧ (nx (.credentialNonce (msg [0])) keyed).free = 4 := by decide +kernel
/-- Seven wrong responses counted; no nonce is open, so the next response is wrong. -/
def wrong7 : State := { keyed with sec := { keyed.sec with wrong := [(1, 7)] } }
theorem test_credentialPresent : wrong7.takes (msg (0x100 :: List.replicate 8 0)) 0x0E01 9 false = true
    ∧ (nx (.credentialPresent (msg (0x100 :: List.replicate 8 0))) wrong7).sec.lockouts = [1]
    ∧ rep (nx (.credentialPresent (msg (0x100 :: List.replicate 8 0))) wrong7) = some (rcRefused, [])
    ∧ kget (nx (.credentialPresent (msg (0x100 :: List.replicate 8 0))) keyed).sec.wrong 1 = some 1 := by decide +kernel
theorem test_credentialDrop : (nx (.credentialDrop (msg [0x100])) { up with sec := { up.sec with alarmRole := [1], expertRole := [1] } }).sec.alarmRole = []
    ∧ (nx (.credentialDrop (msg [0])) { up with sec := { up.sec with alarmRole := [1], expertRole := [1] } }).sec.expertRole = [] := by
  decide +kernel
theorem test_expertEnable : (nx (.expertEnable (msg [1])) up).expert (.master 1) = false ∧ up.expert (.master 1) = true
    ∧ (nx (.expertEnable (msg [1])) (lcAt 2 up)).expert (.master 1) = false := by decide +kernel
theorem test_nonceExpiry : (nx (.nonceExpiry (.master 1)) { up with sec := { up.sec with nonces := [(1, [0])] } }).sec.nonces = [] := by
  decide +kernel
theorem test_credentialLockoutEnd : (nx (.credentialLockoutEnd (.master 1)) { up with sec := { up.sec with lockouts := [1] } }).sec.lockouts = [] := by
  decide +kernel
/-- LPDDR5 fitted; message 3 of 6 bytes created. -/
def ddr : State := up.put F.DDR_STAT_SIZE 1
def made : State := nx (.msgStoreCreate (msg [0x30000, 1, 2])) ddr
theorem test_msgStoreCreate : ddr.ddrBytes ≠ 0 ∧ ddr.takes (msg [0x30000, 1, 2]) 0x0C01 3 false = true
    ∧ kget made.mods.msgs (msgNo (msg [0x30000, 1, 2])) = some ⟨1, 2, []⟩ := by decide +kernel
theorem test_msgStoreAppend : appendCode (msg [0x30001, 0, 6]) made = rcDone
    ∧ (kget (nx (.msgStoreAppend (msg [0x30001, 0, 6])) (made.setByte 0x6000001 9)).mods.msgs (msgNo (msg [0x30000]))).map Message.data
      = some [0, 9, 0, 0, 0, 0] := by decide +kernel
theorem test_msgStoreAppend_bulk : ((kget ((nx (.msgStoreAppend ⟨.master 1, 8, [0x30001, 0x80000000, 6]⟩) made).outbox 1).bulk 8).map BulkRun.need) = some 6 := by
  decide +kernel
theorem test_msgStoreDelete : made.msgInUse (msgNo (msg [0x30002])) = false ∧ (nx (.msgStoreDelete (msg [0x30002])) made).mods.msgs = [] := by
  decide +kernel
theorem test_msgStoreQuery : (rep (nx (.msgStoreQuery (msg [0x30003])) made)).map (fun r => r.2.take 3) = some [0, 2, 1] := by decide +kernel

/-! ### Media time (R33–R60, R456) -/

theorem test_timeRateWrite_limit : (nx (.timeRateWrite 0x7FFFFFFF) up).reg R.TIME_RATEADJ = 137438953
    ∧ (nx (.timeRateWrite 0x7FFFFFFF) up).get F.TIME_STAT_RATECLAMP = 1
    ∧ (nx (.timeRateWrite 137438953) up).get F.TIME_STAT_RATECLAMP = 0 := by decide +kernel
theorem test_timeCounterTick : up.asleep = false ∧ (nx (.timeCounterTick 2) up).time.units = up.time.units + 2748779069440 := by decide +kernel
/-- A time of 3 s and 5 ns. -/
def at3 : State := { up with time := { up.time with sec := 3, ns := 5 } }
theorem test_timeSnap : (nx .timeSnap at3).reg R.TIME_SSECL = 3 ∧ (nx .timeSnap at3).reg R.TIME_SNS = 5
    ∧ (nx .timeSnap at3).reg R.TIME_SMTIL = loWord at3.mti := by decide +kernel
theorem test_timeModeWrite : (nx (.timeModeWrite 0x3E802) up).time.modeReq = some 2 ∧ (nx (.timeModeWrite 0x3E802) up).get F.TIME_CTL_MPEND = 1
    ∧ (nx (.timeModeWrite 0x3E802) up).get F.TIME_CTL_MODE = up.get F.TIME_CTL_MODE
    ∧ (nx (.timeModeWrite 0x3E802) up).get F.TIME_CTL_STHR = 999 ∧ (nx (.timeModeWrite 0x3FF02) up).get F.TIME_CTL_STHR = 1023 := by
  decide +kernel
theorem test_timeStepRequest : (nx (.timeStepRequest 3) up).get F.TIME_STEPCTL_GO = 1 ∧ (nx (.timeStepRequest 3) up).time.stepReq.isSome = true
    ∧ (nx (.timeStepRequest 2) up).time.stepReq = none ∧ (nx (.timeStepRequest 2) up).get F.TIME_STEPCTL_NEG = 1 := by decide +kernel
theorem test_timeRoundWrite : (nx (.timeRoundWrite 0x400) up).get F.TIME_ROUND_NHELD = 4 ∧ (nx (.timeRoundWrite 0x500) up).get F.TIME_ROUND_NHELD = 3
    ∧ (nx (.timeRoundWrite 0x400) up).roundLen = up.roundLen := by decide +kernel
/-- An edge captured, and a full queue. -/
def cap1 : State := nx (.gpEdgeCapture 1 true 1) (at3.setReg R.TIME_CAPCFG 12)
def full : State := { at3 with time := { at3.time with capQ := List.replicate 64 ⟨1, 2, 3, 4⟩ } }
theorem test_gpEdgeCapture : cap1.time.capQ.map (fun e => (e.w0, e.w1, e.w2)) = [(0x41, 3, 0x40000005)]
    ∧ nx (.gpEdgeCapture 1 true 1) at3 = at3 := by decide +kernel
/-- An edge on pin 0 in the same tick: its entry stands before the one of pin 1 (R57). -/
theorem test_capture_same_tick : ((nx (.gpEdgeCapture 0 true 1) (cap1.setReg R.TIME_CAPCFG 13)).time.capQ.map fun e => bits e.w0 5 0) = [0, 1] := by decide +kernel
theorem test_capture_drops : (nx (.gpEdgeCapture 1 false 0) (full.setReg R.TIME_CAPCFG 12)).time.capLost = 1
    ∧ (nx (.gpEdgeCapture 1 false 0) (full.setReg R.TIME_CAPCFG 12)).reg R.TIME_CAPOVF = 1
    ∧ (nx (.gpEdgeCapture 1 false 0) (full.setReg R.TIME_CAPCFG 12)).bitAt (R.EVT_PEND 5) 9 = true := by decide +kernel
/-- Three events lost, then one stored. -/
def gap3 : State := { at3 with time := { at3.time with capLost := 3 } }.setReg R.TIME_CAPCFG 12
theorem test_capture_gap : (nx (.gpEdgeCapture 1 false 0) gap3).time.capQ.map CapEntry.w0 = [0x381] := by decide +kernel
theorem test_timeCapFlush : (nx .timeCapFlush full).time.capQ = [] ∧ (nx .timeCapFlush full).get F.TIME_CAPCNT_COUNT = 0 := by decide +kernel
theorem test_timeCapw0Read : (nx .timeCapw0Read full).reg R.TIME_CAPW3 = 4 ∧ (nx .timeCapw0Read full).get F.TIME_CAPCNT_COUNT = 63
    ∧ (nx .timeCapw0Read up).reg R.TIME_CAPW0 = 63 := by decide +kernel
theorem test_getTime : up.takes (msg []) 0x0300 0 false = true
    ∧ (rep (nx (.getTime (msg [])) at3)).map (fun r => r.2.take 4) = some [0, 3, 5, 0] := by decide +kernel
theorem test_setClockMode : (nx (.setClockMode (msg [1, 0])) up).time.modeReq = some 1
    ∧ (nx (.setClockMode (msg [1, 0])) up).get F.TIME_CTL_MPEND = 1 := by decide +kernel
theorem test_captureCfgConfigure : (nx (.captureCfgConfigure (msg [0, 12, 0x10])) full).time.capQ = []
    ∧ (nx (.captureCfgConfigure (msg [0, 12, 0x10])) full).get F.TIME_CAPPTP_THRESH = 1 := by decide +kernel
theorem test_captureCfgRead : rep (nx (.captureCfgRead (msg [1, 2])) { up with time := { up.time with fwQ := [⟨1, 2, 3, 4⟩] } })
    = some (rcDone, [1, 1, 2, 3, 4]) := by decide +kernel
/-- The engine runs and its last tick was at another Stile. -/
def ticks : State := { up with eng := { up.eng with running := true, lastTick := some 999999 }, time := { up.time with modeReq := some 2 } }
def noMeas : RoundMeas := ⟨[], []⟩
theorem test_roundTick : ticks.roundAt ticks.mti ≠ 999999 ∧ ticks.time.stepReq = none ∧ ticks.tnd.pokes = []
    ∧ ticks.eng.running = true ∧ ticks.eng.lastTick = some 999999 ∧ ticks.time.modeReq = some 2 := by decide +kernel
theorem test_roundTick_waits : nx (.roundTick noMeas) up = up
    ∧ nx (.roundTick noMeas) { ticks with eng := { ticks.eng with lastTick := some (ticks.roundAt ticks.mti) } }
      = { ticks with eng := { ticks.eng with lastTick := some (ticks.roundAt ticks.mti) } } := by decide +kernel

/-! ### Fades, Trails, stages, patches, modules (R27–R30, R79–R90, R220–R229) -/

/-- A million samples after the start. -/
def late : State := { up with eng := { up.eng with base := 1000000 } }
/-- A fade that has just ended there, and one that ends a sample later. -/
def ended : Fade := ⟨999000, 1000, 0⟩
def goes : Fade := ⟨999000, 1001, 0⟩
theorem test_selectorFadeEnd : (nx (.selectorFadeEnd 3) ((late.setSel 3 { fade := some (ended, 0, 1) }).put (F.PATCH_FOSTAT_SEL 3) 3)).get (F.PATCH_FOSTAT_SEL 3) = 1
    ∧ ended.over late.now = true ∧ goes.over late.now = false
    ∧ nx (.selectorFadeEnd 3) (late.setSel 3 { fade := some (goes, 0, 1) }) = late.setSel 3 { fade := some (goes, 0, 1) } := by decide +kernel
/-- A restore hold of no length that has begun. -/
def holds : State := (((late.setSel 3 { holdFrom := some 0 }).put (F.PATCH_FOCTL_MODE 3) 0).put (F.PATCH_FOSTAT_SEL 3) 1).put (F.PATCH_FOCTL_HOLD 3) 0
theorem test_selectorRestoreHoldEnd : holds.get (F.PATCH_FOCTL_MODE 3) = 0
    ∧ 0 + holds.samplesOf (1000 * holds.get (F.PATCH_FOCTL_HOLD 3)) ≤ holds.sampleAt (holds.roundAt holds.mti)
    ∧ (nx (.selectorRestoreHoldEnd 3) holds).get (F.PATCH_FOSTAT_SEL 3) = 2
    ∧ (nx (.selectorRestoreHoldEnd 3) holds).get (F.PATCH_FOSTAT_SWITCHED 3) = 1 := by decide +kernel
theorem test_selectorRestoreHoldEnd_only : (holds.sel 3).holdFrom = some 0 ∧ holds.pLost 3 = false ∧ holds.follows = false
    ∧ holds.on (F.PATCH_FOCTL_REVERT 3) = true
    ∧ (nx (.selectorRestoreHoldEnd 3) (holds.put (F.PATCH_FOCTL_REVERT 3) 0)).get (F.PATCH_FOSTAT_SEL 3) = 1
    ∧ nx (.selectorRestoreHoldEnd 3) (holds.put (F.PATCH_FOCTL_HOLD 3) 60000) = holds.put (F.PATCH_FOCTL_HOLD 3) 60000 := by decide +kernel
theorem test_trailEnd : (nx (.trailEnd 5) { late with path := { late.path with trails := [(5, { fade := ended }), (6, { fade := goes })] } }).path.trails = [(6, { fade := goes })]
    ∧ (nx (.trailEnd 6) { late with path := { late.path with trails := [(5, { fade := ended }), (6, { fade := goes })] } }).path.trails
      = [(5, { fade := ended }), (6, { fade := goes })] := by decide +kernel
theorem test_muxCrossfadeEnd : (nx (.muxCrossfadeEnd 7) (late.setMux 7 ⟨1, some (.src 2, ended), none⟩)).mux 7 = ⟨1, none, some (.src 2, ended)⟩
    ∧ nx (.muxCrossfadeEnd 7) (late.setMux 7 ⟨1, some (.src 2, goes), none⟩) = late.setMux 7 ⟨1, some (.src 2, goes), none⟩ := by decide +kernel
/-- A transition of the send stage, and of one that goes on. -/
def swaps (f : Fade) : State := { late with path := { late.path with send := some ⟨f, 0, [], false⟩ } }
theorem test_stageTransitionEnd : (nx (.stageTransitionEnd false) (swaps ended)).activeB false = true
    ∧ (nx (.stageTransitionEnd false) (swaps ended)).path.sendRefill.isSome = true
    ∧ nx (.stageTransitionEnd false) (swaps goes) = swaps goes := by decide +kernel
/-- A refill due, with a word in the active set A of the matrix. -/
def refills : State := { (late.setByte 0x400001 7) with path := { late.path with matrixRefill := some 0 } }
theorem test_stageRefillEnd : refills.bankState (setBase true true) ≠ 2 ∧ (nx (.stageRefillEnd true) refills).byte (setBase true true + 1) = 7
    ∧ (nx (.stageRefillEnd true) refills).byte 0x400001 = 7 ∧ (nx (.stageRefillEnd true) refills).path.matrixRefill = none := by decide +kernel
theorem test_patchRampGo : kget late.path.patches 9 = none ∧ late.patchOf (late.on (F.PATCH_PTADR_STAGE 9)) (late.get (F.PATCH_PTADR_XP 9)) = none
    ∧ ((kget (nx (.patchRampGo 8 9 0x80000000) late).path.patches 9).map fun r => r.fade.dur) = some late.minRamp
    ∧ (nx (.patchRampGo 8 9 0x80000000) late).get (F.PATCH_PTSTAT_RUN 9) = 1
    ∧ (nx (.patchRampGo 8 9 0) late).get (F.PATCH_PTRMP_DUR 9) = late.minRamp := by decide +kernel
/-- A ramp of crosspoint 4 of the send stage to +0 dB. -/
def ramps (f : Fade) : State := { late with path := { late.path with patches := [(9, ⟨false, 4, 0, 0x80000, none, f, none⟩)] } }
theorem test_patchRampEnd : 4 * 4 < setSize false ∧ (nx (.patchRampEnd 9) (ramps ended)).path.patches = []
    ∧ (nx (.patchRampEnd 9) (ramps ended)).coefWord false ((ramps ended).activeB false) 4 = 0x80000
    ∧ nx (.patchRampEnd 9) (ramps goes) = ramps goes := by decide +kernel
theorem test_paramInterpEnd : (nx (.paramInterpEnd 0 0) { late with path := { late.path with moves := [(paramKey 0 0, ⟨0, 1, 2, ended, none⟩)] } }).path.moves = [] := by
  decide +kernel
theorem test_playbackEnd : (nx (.playbackEnd 2) { late with mods := { late.mods with players := [(2, ⟨1, 1, 0, 0, none, false, some 0⟩)] } }).mods.players = []
    ∧ 0 + late.minRamp ≤ late.now := by decide +kernel
/-- One play of a message of ten samples that has ended. -/
def plays : State := { late with mods := { late.mods with msgs := [(1, ⟨1, 10, []⟩)], players := [(2, ⟨1, 1, 0, 0, none, false, none⟩)] } }
theorem test_playbackEnd_play : plays.rateCode = 1 ∧ 0 + 10 ≤ plays.now ∧ (nx (.playbackEnd 2) plays).mods.players = []
    ∧ (nx (.playbackEnd 2) plays).param (1792 + 2) 4 = 0 := by decide +kernel
theorem test_generatorSweepEnd : late.param (1856 + 1) 5 ≠ 1
    ∧ (nx (.generatorSweepEnd 1) { late with mods := { late.mods with gens := [(1, ⟨0, some (0, 0, 0, 1000000), false⟩)] } }).mods.gens
      = [(1, ⟨0, none, true⟩)] := by decide +kernel
theorem test_priorityMixerCrossfadeEnd :
    (nx (.priorityMixerCrossfadeEnd 1) { late with mods := { late.mods with mixers := [(1, ⟨.mix [], ended, []⟩)] } }).mods.mixers = [] := by decide +kernel

/-! ### The dispatcher (R183–R202) -/

/-- A core item that core 0 may run, with one successor, handle 6; a join. -/
def coreDesc : List Word := [0x40, 0x101, 0x8006, 0, 0, 11, 12]
def item (d : List Word) (st : ItemState) (n : Nat) : Item := ⟨d, n, st, 0, 99, false⟩
def roundWith (l : KMap Item) : State := { up with disp := { up.disp with inRound := true, items := l } }
def ready1 : State := roundWith [(5, item coreDesc .ready 0), (6, item [0x30000000] .waiting 1)]
theorem test_itemStart : ((List.range 48).findSome? fun k => if ready1.coreFree k then (ready1.readyFor k).map fun x => (k, x) else none)
      = some (0, 5, item coreDesc .ready 0)
    ∧ (nx .itemStart ready1).coreRuns 0 ∧ ((nx .itemStart ready1).core 0).pc = 0x40 ∧ kgetD ((nx .itemStart ready1).core 0).p 1 0 = 12
    ∧ nx .itemStart up = up := by
  unfold State.coreRuns; decide +kernel
/-- Core 0 at work on handle 5. -/
def works : State := nx .itemStart ready1
theorem test_itemComplete : ((kget works.disp.items 5).map fun i => (i.st, dSuccs i.desc)) = some (.running, [6])
    ∧ ((kget (nx (.itemComplete 5) works).disp.items 5).map Item.st) = some .done
    ∧ ((kget (nx (.itemComplete 5) works).disp.items 6).map Item.st) = some .ready
    ∧ ((nx (.itemComplete 5) works).core 0).running = false := by decide +kernel
theorem test_joinComplete : ((kget (nx (.joinComplete 6) (nx (.itemComplete 5) works)).disp.items 6).map Item.st) = some .done := by decide +kernel
/-- A block of the send stage. -/
def blocks : State := roundWith [(7, item [0x10000000] .ready 0)]
theorem test_itemStart_block : (blocks.readyBlock.map (·.1)) = some 7
    ∧ ((List.range 48).findSome? fun k => if blocks.coreFree k then (blocks.readyFor k).map fun x => (k, x) else none) = none
    ∧ ((kget (nx .itemStart blocks).disp.items 7).map Item.st) = some .running := by decide +kernel
def blockRuns : State := nx .itemStart blocks
theorem test_sumBlockComplete : ((blockRuns.disp.items.find? fun p => p.2.st == .running && dKind p.2.desc == 1).map (·.1)) = some 7
    ∧ ((kget (nx (.sumBlockComplete false) blockRuns).disp.items 7).map Item.st) = some .done := by decide +kernel
/-- The same a second later: its outputs are long due. -/
def lateWorks : State := { works with time := { works.time with sec := 1 } }
def missed1 : State := nx .roundDeadline lateWorks
theorem test_roundDeadline : works.deadlineDue = false ∧ nx .roundDeadline works = works ∧ lateWorks.deadlineDue = true
    ∧ missed1.disp.deadline = true ∧ (missed1.core 0).pendAbort = true
    ∧ (missed1.disp.items.map fun x => x.2.st) = [.missed, .missed] := by decide +kernel
theorem test_barrierClose : (nx .barrierClose (roundWith [(7, item [] .done 0)])).disp.barrier = true
    ∧ (nx .barrierClose (roundWith [])).regs = up.regs ∧ nx .barrierClose up = up := by decide +kernel
theorem test_barrierClose_missed : missed1.disp.missed ≠ [] ∧ missed1.disp.barrier = false
    ∧ (nx .barrierClose missed1).get F.DISP_STAT_MISSED = 1 ∧ (nx .barrierClose missed1).reg R.DISP_MISSRND = 1
    ∧ (nx .barrierClose missed1).reg R.DISP_MISSITEM = 2 ∧ nx .barrierClose works = works := by decide +kernel
/-- Core 0 with URGENT raised while it had no item (R180). -/
def asked : State := ready1.setCore 0 { ready1.core 0 with pendUrgent := some 1 }
theorem test_itemStart_interrupt : ((asked.core 0).irq).isSome = true ∧ ((nx .itemStart asked).core 0).handler = some .urgent
    ∧ ((nx .itemStart asked).core 0).S 0x41 = 0x40 := by decide +kernel
/-- Bundles of the item's program are given: ITEM_COMPLETE does not end it. -/
def begun1 : State := works.setCore 0 { works.core 0 with begun := true }
theorem test_itemComplete_begun : nx (.itemComplete 5) begun1 = begun1 ∧ ((kget begun1.disp.items 5).map Item.st) = some .running := by decide +kernel
theorem test_dispTswap : (nx .dispTswap up).get F.DISP_STAT_TSWPEND = 1 := by decide +kernel
/-- Handle 9 is one-shot, and event 3 names it in slot 1. -/
def shots : State := { ((((up.put (F.EVT_ROUTE_DISP 3) 1).put (F.DISP_EVSLOT_EN 1) 1).put (F.DISP_EVSLOT_EVENT 1) 3).put (F.DISP_EVSLOT_HANDLE 1) 9) with
  disp := { up.disp with desc := [(144, 0x40000000)] } }
theorem test_dispArm : bit (shots.descWord 9 0) 30 = true ∧ (nx (.dispArm 9) shots).disp.delay = [9]
    ∧ nx (.dispArm 8) shots = shots.put F.DISP_STAT_ARMERR 1 := by decide +kernel
theorem test_dispDisarm : (nx (.dispDisarm 9) (nx (.dispArm 9) shots)).disp.delay = [] := by decide +kernel
theorem test_dispEventSlot : shots.on (F.EVT_ROUTE_DISP 3) = true ∧ (nx (.dispEventSlot 3) shots).disp.evRel = [9]
    ∧ nx (.dispEventSlot 4) shots = shots := by decide +kernel
theorem test_dispEventSlot_alarm : nx (.dispEventSlot 184) shots = shots ∧ shots.follows = false
    ∧ (nx (.dispEventSlot 3) { shots with disp := { shots.disp with inRound := true, items := [(9, item [] .done 0)] } }).disp.evRel = [] := by
  decide +kernel

/-! ### The engine (R51–R54, R455, R498) -/

theorem test_resetEngine : up.scheduled = false ∧ up.takes (msg [1]) 0x0102 1 false = true
    ∧ ((nx (.resetEngine (msg [1])) up).eng.restart.map fun r => (r.stile, r.clear)) = some (up.restartStile, true)
    ∧ rep (nx (.resetEngine (msg [1])) up) = some (rcScheduled, []) := by decide +kernel
/-- A handover is scheduled. -/
def hands : State := { up with tnd := { up.tnd with handover := some { h := 1, tok := none } } }
theorem test_resetEngine_refused : hands.scheduled = true ∧ rep (nx (.resetEngine (msg [1])) hands) = some (rcRefused, []) := by decide +kernel
theorem test_setEngineRate : up.rateCode ≠ 3 ∧ (up.put F.TIME_ROUND_FS 3).admits = true
    ∧ ((nx (.setEngineRate (msg [3])) up).eng.restart.map Restart.rate) = some (some 3)
    ∧ rep (nx (.setEngineRate (msg [up.rateCode])) up) = some (rcDone, []) := by decide +kernel
theorem test_setRound : (up.put F.TIME_ROUND_NCODE 4).admits = true ∧ (nx (.setRound (msg [4])) up).get F.TIME_ROUND_NHELD = 4
    ∧ (nx (.setRound (msg [4])) up).roundLen = up.roundLen := by decide +kernel
theorem test_getLatency : up.takes (msg [8191, 0]) 0x0104 2 false = true ∧ sinkValid up.rateClass 0 = true
    ∧ rep (nx (.getLatency (msg [8191, 0])) up) = some (rcDone, [0, 0, 2]) := by decide +kernel
/-- Sink 0 selects source 5. -/
def routed : State := up.setMux 0 ⟨5, none, none⟩
theorem test_getLatency_direct : srcValid routed.rateClass 5 = true
    ∧ ((rep (nx (.getLatency (msg [5, 0])) routed)).map fun r => r.2.headD 0) =
      some (word (((2 * routed.roundLen * 65536 : Int) + (routed.inLat 5).1 + (routed.outLat 0).1).toNat / 65536)) := by decide +kernel
/-- A restart due, and one to come. -/
def due (n : Nat) : State := { up with eng := { up.eng with restart := some ⟨n, some 3, true, false, none⟩ } }
theorem test_getLatency_bad : sinkExists 1600 = false ∧ rep (nx (.getLatency (msg [5, 1600])) up) = some (rcMalformed, []) := by decide +kernel
theorem test_engineRateRamp : 0 ≤ (due 0).mti + (due 0).samplesOf 25
    ∧ ((nx .engineRateRamp (due 0)).eng.restart.map Restart.ramping) = some true ∧ nx .engineRestart (due 1) = due 1 := by decide +kernel
theorem test_engineRestart : (nx .engineRestart (due 0)).eng.running = true ∧ (nx .engineRestart (due 0)).rateCode = 3
    ∧ (nx .engineRestart (due 0)).mods.placed = [] := by decide +kernel
/-- A million samples after the start. -/
def sec1 : State := { up with eng := { up.eng with base := 1000000 } }
/-- A second after a restart. -/
def settles : State := { sec1 with eng := { sec1.eng with settling := some (0, none) } }
theorem test_rateChangeComplete : 0 + settles.fs ≤ settles.now ∧ (nx .rateChangeComplete settles).eng.settling = none
    ∧ nx .rateChangeComplete { settles with eng := { settles.eng with settling := some (999999, none) }, tdm := [] }
      = { settles with eng := { settles.eng with settling := if settles.portsRun then none else some (999999, none) } } := by decide +kernel
theorem test_sinkSourceValid : (nx (.sinkSourceValid 4) ({ up with eng := { up.eng with gate := some [] } }.setMux 4 ⟨2048, none, none⟩)).eng.gate = some [(4, 0)]
    ∧ srcValid up.rateClass 2048 = true := by decide +kernel
theorem test_engineStartBoot : up.boot.engineStarted = false ∧ (nx .engineStartBoot up).eng.running = true
    ∧ nx .engineStartBoot { up with boot := { up.boot with engineStarted := true } } = { up with boot := { up.boot with engineStarted := true } } := by
  decide +kernel

/-! ### Hampers (R60–R93, R461–R464) -/

/-- An entry that routes source 5 to sink 0, and Hamper 17 open with it. -/
def routeE : Entry := { tgt := 3, obj := 0, fld := 0, ramp := .none, val := 5 }
def open17 : State := { up with hamp := { up.hamp with opened := [⟨17, .master 1, [routeE]⟩] } }
theorem test_hamperOpen : up.hamperCount < 64 ∧ up.hidInUse 17 = false ∧ (nx (.hamperOpen (msg [17])) up).hamp.opened = [⟨17, .master 1, []⟩] := by decide +kernel
/-- Sixty-four Hampers are open. -/
def many : State := { up with hamp := { up.hamp with opened := (List.range 64).map fun i => ⟨i + 1, .master 1, []⟩ } }
theorem test_hamperOpen_full : many.hamperCount = 64 ∧ rep (nx (.hamperOpen (msg [99])) many) = some (rcNoSpace, []) := by decide +kernel
theorem test_hamperAdd : rep (nx (.hamperAdd (msg [0x05000011, 1, 6, 0])) open17) = some (rcDone, [2])
    ∧ ((nx (.hamperAdd (msg [0x05000011, 1, 6, 0])) open17).openHid 17).map (fun h => h.entries.map fun e => (e.obj, e.val)) = some [(0, 5), (1, 6)] := by
  decide +kernel
theorem test_hamperClose : open17.destCodes (.master 1) 17 [routeE] (.store 0) = []
    ∧ ((nx (.hamperClose (msg [17, 0, 0, 0])) open17).hamp.plans.map fun p => (p.entries, p.s)) = [([routeE], 0)]
    ∧ (rep (nx (.hamperClose (msg [17, 0, 0, 0])) open17)).map (·.1) = some rcScheduled := by decide +kernel
theorem test_hamperClose_store : (open17.put F.DDR_STAT_SIZE 1).ddrBytes ≠ 0
    ∧ ((kgetD (nx (.hamperClose (msg [17, 0x10400, 0, 0])) (open17.put F.DDR_STAT_SIZE 1)).hamp.scenes 4 []).map Member.entries) = [[routeE]] := by
  decide +kernel
theorem test_armAlarm : open17.destCodes (.master 1) 17 [routeE] (.arm 2) = []
    ∧ kget (nx (.armAlarm (msg [0x20011])) open17).hamp.alarms 2 = some [routeE] ∧ (nx (.armAlarm (msg [0x20011])) open17).get (armBit 2) = 1
    ∧ (nx (.armAlarm (msg [0x60000])) (nx (.armAlarm (msg [0x20011])) open17)).get (armBit 2) = 0 := by decide +kernel
/-- A raw Hamper of one entry at the start of BK6: HID 18, its CRC in word 7. -/
def rawWords : List Word :=
  let w : List Word := [18, 1, 0, 0, 0, 0, 0, 0, 0x3, 0x1000000, 5, 0]
  w.set 7 (crcWords (w.take 7 ++ w.drop 8))
def rawIn : State := up.setBytes 0x6000000 (rawWords.flatMap wordBytes)
theorem test_hamperRaw : up.takes (msg [0, 48, 0]) 0x0F02 3 true = true ∧ bytesWords (rawIn.bytes (bk6 0) 48) = rawWords
    ∧ crcWords (rawWords.take 7 ++ rawWords.drop 8) = rawWords.getD 7 0
    ∧ rawIn.destCodes (.master 1) 18 (entriesOf (rawWords.drop 8)) (.store 0) = [] ∧ (nx (.hamperRaw (msg [0, 48, 0])) rawIn).hamp.plans.length = 1 := by
  decide +kernel
theorem test_hamperRaw_malformed : rep (nx (.hamperRaw (msg [2, 48, 0])) rawIn) = some (rcMalformed, [])
    ∧ ((kget ((nx (.hamperRaw (msg [0x80000000, 48, 0])) up).outbox 1).bulk 7).map BulkRun.need) = some 48 := by decide +kernel
/-- A scene of one member. -/
def scened : State := { up with hamp := { up.hamp with scenes := [(4, [⟨17, 0, 1, 0, [routeE], .master 1, none, false, 0⟩])] } }
theorem test_sceneRecall : scened.hamperCodes (.master 1) .basic [routeE] = [] ∧ scened.firCodes [routeE] = []
    ∧ ((nx (.sceneRecall (msg [4, 0, 0])) scened).hamp.plans.map Plan.entries) = [[routeE]]
    ∧ (nx (.sceneRecall (msg [0x104])) scened).hamp.scenes = [] := by decide +kernel
/-- A plan of HID 17 due at once, before and after its load has started. -/
def plan17 (loading : Bool) : State :=
  { up with hamp := { up.hamp with plans := [⟨[⟨17, 0, 1, 0, [routeE], .master 1, none, false, 0⟩], 0, 0, 0, 0, false, loading, 0, 0⟩] } }
theorem test_hamperCancel : (nx (.hamperCancel (msg [17])) (plan17 false)).hamp.plans = []
    ∧ (nx (.hamperCancel (msg [17])) open17).hamp.opened = [] ∧ rep (nx (.hamperCancel (msg [16])) open17) = some (rcRefused, []) := by decide +kernel
theorem test_hamperLoadStart : ((plan17 false).planOf 17).isSome = true ∧ (((nx (.hamperLoadStart 17) (plan17 false)).planOf 17).map Plan.loading) = some true
    ∧ nx (.hamperLoadStart 17) (plan17 true) = plan17 true := by decide +kernel
theorem test_parBlock : (up.parBlock [{ tgt := 0x10, obj := 2048, fld := 3, ramp := .none, val := 7 }] 64 2048)
    = { new := true, dur := 0, stile := 64, shape := 0, copy0 := [], copy1 := [(3, 7)] } := by decide +kernel
theorem test_hamperCommit : objValid (plan17 true).rateClass routeE = true ∧ (nx (.hamperCommit 17) (plan17 true)).hamp.plans = []
    ∧ ((nx (.hamperCommit 17) (plan17 true)).mux 0).src = 5 ∧ (nx (.hamperCommit 17) (plan17 true)).bitAt (R.EVT_PEND 6) 8 = true
    ∧ nx (.hamperCommit 17) (plan17 false) = plan17 false := by decide +kernel
/-- Alarm input 1 enabled, and its edge due with an alarm Hamper. -/
def input1 : State := up.put (F.EVT_ALCFG_EN 1) 1
def asleepIn : State := input1.put F.PWR_STAT_STATE 4
theorem test_alarmQualify : input1.on ⟨R.EVT_ALSTAT, 1, 1⟩ ≠ true ∧ (nx (.alarmQualify 1 true) input1).on ⟨R.EVT_ALSTAT, 1, 1⟩ = true
    ∧ (nx (.alarmQualify 1 true) input1).hamp.alarmEdges.length = 1 ∧ (nx (.alarmQualify 1 true) input1).bitAt (R.EVT_PEND 5) 25 = true
    ∧ nx (.alarmQualify 1 false) input1 = input1 := by decide +kernel
def edge1 (as : KMap (List Entry)) : State := { up with hamp := { up.hamp with alarmEdges := [(1, 0)], alarms := as } }
theorem test_alarmHamperCommit : (nx (.alarmHamperCommit 1) (edge1 [])).hamp.alarmEdges = []
    ∧ (nx (.alarmHamperCommit 1) (edge1 [(1, [routeE])])).bitAt (R.EVT_PEND 6) 12 = true
    ∧ (nx (.alarmHamperCommit 1) (edge1 [(1, [routeE])])).night.lastAlarm = some up.time.dur := by decide +kernel
theorem test_hamperOpen_refused : rep (nx (.hamperOpen (msg [0xF000])) up) = some (rcRefused, []) ∧ open17.hidInUse 17 = true
    ∧ rep (nx (.hamperOpen (msg [17])) open17) = some (rcRefused, []) ∧ (nx (.hamperOpen (msg [17])) open17).hamp = open17.hamp
    ∧ many.hidInUse 99 = false ∧ (nx (.hamperOpen (msg [99])) many).bitAt (R.EVT_PEND 6) 13 = true := by decide +kernel
theorem test_sceneRecall_short : rep (nx (.sceneRecall (msg [4])) scened) = some (rcMalformed, []) := by decide +kernel
theorem test_alarmQualify_asleep : (asleepIn.asleep) = true ∧ nx (.alarmQualify 1 true) asleepIn = asleepIn := by decide +kernel

/-! ### Routing, gains, parameters, placement (R83–R88, R124, R207, R453, R459, R460) -/

theorem test_route : up.freeFor (msg [0, 5, 0]) (routeEntries (msg [0, 5, 0]) up) = true
    ∧ ((nx (.route (msg [0, 5, 0])) up).hamp.plans.map Plan.entries) = [routeEntries (msg [0, 5, 0]) up]
    ∧ (rep (nx (.route (msg [0, 5, 0])) up)).map (·.1) = some rcScheduled := by decide +kernel
theorem test_routeBackup : up.freeFor (msg [0, 9]) (backupEntries (msg [0, 9])) = true
    ∧ ((nx (.routeBackup (msg [0, 9])) up).hamp.plans.map Plan.entries) = [backupEntries (msg [0, 9])] := by decide +kernel
/-- Strip 0, an output and a player are placed. -/
def placed3 : State := { up with mods := { up.mods with placed := [0, 1536, 1792] } }
theorem test_setParam : placed3.freeFor (msg [0x10000, 0x1002, 0, 0]) (paramEntries (msg [0x10000, 0x1002, 0, 0]) [] placed3) = true
    ∧ wantsFir (msg [0x10000, 0x1002, 0, 0]) = false ∧ (nx (.setParam (msg [0x10000, 0x1002, 0, 0])) placed3).hamp.plans.length = 1
    ∧ rep (nx (.setParam (msg [0x20000, 0, 0, 0])) up) = some (rcMalformed, []) := by decide +kernel
theorem test_setParam_fir : wantsFir (msg [0x20600, 0x5001, 2, 0, 0x5002, 0, 0]) = true ∧ firWords (msg [0x20600, 0x5001, 2, 0, 0x5002, 0, 0]) up = 2
    ∧ ((kget ((nx (.setParam (msg [0x20600, 0x5001, 2, 0, 0x5002, 0, 0])) up).outbox 1).bulk 7).map BulkRun.need) = some 8 := by decide +kernel
theorem test_setParam_oem : (lcAt 2 up).expert (.master 1) = false ∧ paramEntries (msg [0x10800, 0, 0, 0]) [] (lcAt 2 up) = []
    ∧ rep (nx (.setParam (msg [0x10800, 0, 0, 0])) (lcAt 2 up)) = some (rcDone, []) := by decide +kernel
theorem test_playMessage : placed3.isPlaced (1792 + 0) = true ∧ placed3.freeFor (msg [0x100]) (playEntries (msg [0x100])) = true
    ∧ (nx (.playMessage (msg [0x100])) placed3).hamp.plans.length = 1 ∧ rep (nx (.playMessage (msg [0x101])) placed3) = some (rcRefused, []) := by
  decide +kernel
theorem test_setSend : (sendEntries false (msg [0, 0, 0]) placed3).flatMap (placed3.entryCodes (.master 1) .basic) = []
    ∧ placed3.patchOf false 0 = none ∧ placed3.patchFree = some 0
    ∧ ((kget (nx (.setSend (msg [0, 0, 0])) placed3).path.patches 0).map fun r => (r.isMatrix, r.target)) = some (false, 0x80000)
    ∧ (rep (nx (.setSend (msg [0, 0, 0])) placed3)).map (·.1) = some rcScheduled := by decide +kernel
theorem test_setSend_tap : bit (cw (msg [0, 0x30000, 0]) 2) 16 = !bit (placed3.coefWord false (placed3.activeB false) 0) 24
    ∧ placed3.freeFor (msg [0, 0x30000, 0]) (sendEntries true (msg [0, 0x30000, 0]) placed3) = true
    ∧ (nx (.setSend (msg [0, 0x30000, 0])) placed3).hamp.plans.length = 1 := by decide +kernel
/-- The patch entries of a list serve a crosspoint that no command names. -/
def fullRun (m : Bool) : PatchRun := ⟨m, 2 ^ 20, 0, 0, none, ⟨0, 1, 0⟩, none⟩
def patchTaken (l : List Nat) (m : Bool) : State := { placed3 with path := { placed3.path with patches := l.map fun e => (e, fullRun m) } }
theorem kget_taken (r : PatchRun) (l : List Nat) (k : Nat) (h : k ∈ l) : (kget (l.map fun e => (e, r)) k).isSome = true := by
  induction l with
  | nil => cases h
  | cons x l ih =>
    simp only [List.map_cons, kget]
    split
    · rfl
    · exact ih ((List.mem_cons.mp h).resolve_left fun e => by simp_all)
theorem patchTaken_free (l : List Nat) (m : Bool) (h : ∀ k ∈ List.range 4096, k ∈ l) : (patchTaken l m).patchFree = none :=
  List.find?_eq_none.mpr fun k hk => by
    have := kget_taken (fullRun m) l k (h k hk)
    simp only [patchTaken, Option.isNone_iff_eq_none]
    intro hn; rw [hn] at this; cases this
theorem patchTaken_of (l : List Nat) (m : Bool) : (patchTaken l m).patchOf m 0 = none := by
  simp only [State.patchOf, Option.map_eq_none_iff]
  refine List.find?_eq_none.mpr fun p hp => ?_
  obtain ⟨e, _, rfl⟩ := List.mem_map.mp hp
  simp [fullRun]
/-- With every entry taken. -/
theorem test_patchFull (m : Bool) : (patchTaken (List.range 4096) m).patchFree = none ∧ (patchTaken (List.range 4096) m).patchOf m 0 = none :=
  ⟨patchTaken_free _ m fun _ h => h, patchTaken_of _ m⟩
theorem test_setMatrix : (matrixEntries (msg [0, 0, 0]) placed3).flatMap (placed3.entryCodes (.master 1) .basic) = []
    ∧ ((kget (nx (.setMatrix (msg [0, 0, 0])) placed3).path.patches 0).map fun r => (r.isMatrix, r.target)) = some (true, 0x80000) := by decide +kernel
theorem test_setBusHeadroom : kget (nx (.setBusHeadroom (msg [0x70003])) up).held (R.SUM_HRB 3) = some 6
    ∧ kget (nx (.setBusHeadroom (msg [0x28003])) up).held (R.SUM_HRM 3) = some 2 ∧ rep (nx (.setBusHeadroom (msg [0x8100])) up) = some (rcMalformed, []) := by
  decide +kernel
theorem test_getRoute : rep (nx (.getRoute (msg [0])) routed) = some (rcDone, [5]) ∧ rep (nx (.getRoute (msg [1600])) up) = some (rcMalformed, [])
    ∧ sinkExists 1600 = false ∧ ((rep (nx (.getRoute (msg [2048])) up)).map fun r => r.2.length) = some 3 := by decide +kernel
theorem test_getParam : (paramRow up.rateCode 0 0x1002).isSome = true ∧ instValid up.rateClass 0 = true
    ∧ rep (nx (.getParam (msg [0, 0x1002])) up) = some (rcDone, [up.paramActive 0 0x1002])
    ∧ rep (nx (.getParam (msg [0x600, 0x5002])) up) = some (rcDone, [crcWords (up.firSet 0)]) := by decide +kernel
theorem test_place : up.isPlaced 3 = false ∧ placeCode 3 (up.mods.placed ++ [3]) up.mods.oemPlaced up = rcDone
    ∧ (nx (.place (msg [3])) up).mods.placed = [3] ∧ (nx (.place (msg [3])) up).get F.SUM_EXTS_NSTRIP = 4
    ∧ (nx (.place (msg [0x80000000])) placed3).mods.placed = [1536, 1792] ∧ (nx (.place (msg [0])) placed3).mods = placed3.mods := by decide +kernel
/-- A module loaded, for the image's own header is free. -/
def loaded : State := { up with mods := { up.mods with oem := [(1, ⟨0, 0, [0, 0, 0, 0, 0], [0, 0, 0, 0, 0], 0, false, []⟩)] } }
theorem test_place_oem : modKind 2048 = some .oem ∧ (kget loaded.mods.oem (oemPlaceOf (msg [2048, 1, 0, 0, 0])).mod).isSome = true
    ∧ rep (nx (.place (msg [2048])) (lcAt 2 up)) = some (rcLocked, [])
    ∧ rep (nx (.place (msg [0x80000800])) up) = some (rcDone, []) := by decide +kernel
theorem test_loadModule : up.takes (msg [0x80000001, 4, 0]) 0x0702 3 true = true
    ∧ ((kget ((nx (.loadModule (msg [1, 8, 0])) up).outbox 1).bulk 7).map BulkRun.need) = some 8 := by decide +kernel
theorem test_setBusHeadroom_refused : (512 : Nat) / (if up.rateClass = 2 then 2 else 1) = 512
    ∧ rep (nx (.setBusHeadroom (msg [0x100])) (up.put F.TIME_ROUND_FS 5)) = some (rcRefused, []) ∧ (up.put F.TIME_ROUND_FS 5).rateClass = 2 := by decide +kernel
theorem test_place_none : modKind 2047 = none ∨ modKind 4000 = none := by decide +kernel


/-! ### TDM ports and converters (R236–R256, R465) -/

/-- Port 0 in a state of its own, enabled. -/
def tdmIn (st : Nat) : State := ((up.put (F.TDM_CFG_EN 0) 1).put (F.TDM_CFG_MODE 0) 0).put (F.TDM_STAT_STATE 0) st
/-- The same with a number of good and of bad frames in a row. -/
def tdmRow (st good bad : Nat) : State := (tdmIn st).modPort 0 fun q => { q with good := good, bad := bad }
/-- Asynchronous: converter 32 holds lock. -/
def tdmConv (st : Nat) : State := ((tdmIn st).put (F.TDM_CFG_MODE 0) 1).put (F.ASRC_STAT_LOCKED 32) 1
/-- A frame at the pins: `bits` bits of slots after one bit clock, FS high in the first half; its slots begin 0x123456. -/
def pinFrame (bits len : Nat) : TdmFrame :=
  { fsBefore := false
    clocks := (false :: (List.range bits).map fun k => (0x123456 >>> (23 - k)) % 2 == 1 && decide (k < 24)).zipIdx.map fun x =>
      ⟨decide (x.2 < bits / 2 ∨ x.2 = bits), x.1, decide (x.2 < bits / 2 ∨ x.2 = bits), x.1⟩
    len := len, inUnder := false, inOver := false, outUnder := false, outOver := false }
/-- A good frame of eight slots of 32 bits at 48 kHz, and a frame of two bits. -/
def goodFrame : TdmFrame := pinFrame 256 (sec32 / 48000)
def shortFrame : TdmFrame := pinFrame 2 (sec32 / 48000)
/-- Port 0 running, its first edge `n` samples ago, `c` frames taken, a Hamper's masks due. -/
def tdmRuns (n c : Nat) : State := (({ tdmIn 2 with eng := { up.eng with base := 100 } }).modPort 0 fun q =>
  { q with first := some ((100 - n) * sec32), count := c, hampRx := [⟨5, 0, 6⟩], hampTx := [⟨5, 0, 7⟩] })
theorem test_tdmEnable : up.on (F.TDM_CFG_EN 0) = false ∧ (nx (.tdmEnable 0 true) up).tdmState 0 = 1
    ∧ (nx (.tdmEnable 31 true) up).get (F.TDM_CFG_EN 31) = 1 ∧ (nx (.tdmEnable 0 false) (tdmIn 2)).tdmState 0 = 0
    ∧ (tdmIn 2).on (F.TDM_CFG_EN 0) = true ∧ nx (.tdmEnable 0 true) (tdmIn 2) = tdmIn 2 := by decide +kernel
theorem test_tdmSyncLock : (tdmRow 1 64 0).tdmState 0 = 1 ∧ (tdmRow 1 64 0).tdmAsync 0 = false ∧ ((tdmRow 1 64 0).port 0).good = 64
    ∧ (nx (.tdmSyncLock 0) (tdmRow 1 64 0)).tdmState 0 = 2 ∧ nx (.tdmSyncLock 0) (tdmRow 1 63 0) = tdmRow 1 63 0 := by decide +kernel
/-- Converter `c` tracked since the start, and one whose position has strayed. -/
def conv1 (st c : Nat) (e : Int) : State :=
  let s := tdmConv st
  { s with time := { s.time with sec := 1 } }.modPort 0 fun q => q.setConv c { q.conv c with acq := none, since := some 0, ratio := some 1000, err := e }
theorem test_asrcLock : (conv1 1 0 0).tdmAsync 0 = true ∧ (conv1 1 0 0).tdmState 0 = 1 ∧ (conv1 1 0 0).on (F.ASRC_STAT_LOCKED 32) = true
    ∧ (conv1 1 0 0).tracked 0 = true ∧ (nx (.asrcLock 0 false) (conv1 1 0 0)).tdmState 0 = 2 ∧ (conv1 1 32 0).tracked 32 = true
    ∧ (nx (.asrcLock 0 true) (conv1 1 32 0)).tdmState 0 = 1 ∧ (nx (.asrcLock 0 true) (conv1 1 32 0)).get (F.ASRC_STAT_LOCKED 32) = 1
    ∧ (tdmConv 1).tracked 0 = false ∧ nx (.asrcLock 0 false) (tdmConv 1) = tdmConv 1 ∧ nx (.asrcLock 0 false) (tdmIn 1) = tdmIn 1 := by decide +kernel
theorem test_asrcRelock : (conv1 2 32 (10 ^ 15)).strayed 32 = true ∧ (nx (.asrcRelock 32) (conv1 2 32 (10 ^ 15))).tdmState 0 = 1
    ∧ (nx (.asrcRelock 32) (conv1 2 32 (10 ^ 15))).get (F.ASRC_STAT_RELOCK 32) = 1
    ∧ ((nx (.asrcRelock 32) (conv1 2 32 (10 ^ 15))).port 0).outDown.isSome = true ∧ (conv1 2 32 0).strayed 32 = false
    ∧ nx (.asrcRelock 32) (conv1 2 32 0) = conv1 2 32 0
    ∧ (tdmConv 2).on (F.ASRC_STAT_LOCKED 0) = false ∧ nx (.asrcRelock 0) (tdmConv 2) = tdmConv 2 := by decide +kernel
/-- A port whose last edge came a second ago, and one whose clock has just come. -/
def quiet0 (st : Nat) : State := ({ tdmIn st with time := { up.time with sec := 1 } }).modPort 0 fun q => { q with lastEdge := some 0 }
def edge0 : State := (tdmIn 2).modPort 0 fun q => { q with lastEdge := some 0 }
theorem test_tdmClockLost : ((quiet0 2).fourPeriods 0).1 ≤ ((quiet0 2).time.dur - 0) * ((quiet0 2).fourPeriods 0).2
    ∧ (nx (.tdmClockLost 0) (quiet0 2)).tdmState 0 = 3 ∧ (nx (.tdmClockLost 0) (quiet0 1)).reg (R.TDM_LOST 0) = 1
    ∧ nx (.tdmClockLost 0) (quiet0 3) = quiet0 3 ∧ nx (.tdmClockLost 0) edge0 = edge0
    ∧ (edge0.time.dur - 0) * (edge0.fourPeriods 0).2 < (edge0.fourPeriods 0).1∧ ((tdmIn 2).port 0).lastEdge = none := by decide +kernel
theorem test_tdmFrame_short : (tdmIn 2).frameBits 0 = 256 ∧ ((tdmIn 2).frameAt 0 shortFrame).map (·.2) = some 2
    ∧ (nx (.tdmFrame 0 shortFrame) (tdmRow 2 0 3)).tdmState 0 = 3 ∧ (nx (.tdmFrame 0 shortFrame) (tdmRow 2 0 2)).tdmState 0 = 2
    ∧ (nx (.tdmFrame 0 shortFrame) (tdmRow 2 0 2)).reg (R.TDM_FRMERR 0) = 1 := by decide +kernel
theorem test_tdmFrame_good : ((tdmIn 1).frameAt 0 goodFrame).map (·.2) = some 256 ∧ (tdmIn 1).rateOk 0 goodFrame.len = true
    ∧ ((nx (.tdmFrame 0 goodFrame) (tdmRow 1 4 2)).port 0).good = 5 ∧ (nx (.tdmFrame 0 goodFrame) (tdmIn 3)).tdmState 0 = 1
    ∧ nx (.tdmFrame 0 goodFrame) up = up ∧ (tdmIn 2).frameAt 0 { goodFrame with clocks := [] } = none := by decide +kernel
theorem test_tdmFrame_runs : (tdmRuns 10 10).wander 0 = 0 ∧ (tdmRuns 10 10).framePeriod 0 = 100 ∧ (tdmRuns 10 10).tdmAsync 0 = false
    ∧ ((nx (.tdmFrame 0 goodFrame) (tdmRuns 10 10)).port 0).inq.map (fun g => (g.num, g.slots.headD 0)) = [(102, 0x123456)]
    ∧ ((nx (.tdmFrame 0 goodFrame) (tdmRuns 10 10)).port 0).rxMask = 6 ∧ ((nx (.tdmFrame 0 goodFrame) (tdmRuns 10 10)).port 0).txMask = 7
    ∧ (nx (.tdmFrame 0 goodFrame) (tdmRuns 10 10)).on (F.TDM_STAT_SLIP 0) = false := by decide +kernel
theorem test_tdmFrame_slip : (tdmRuns 10 7).wander 0 = 3 * (sec32 : Int) ∧ (tdmRuns 10 13).wander 0 = -3 * (sec32 : Int)
    ∧ (nx (.tdmFrame 0 goodFrame) (tdmRuns 10 8)).on (F.TDM_STAT_SLIP 0) = false
    ∧ (nx (.tdmFrame 0 goodFrame) (tdmRuns 10 7)).on (F.TDM_STAT_SLIP 0) = true
    ∧ ((nx (.tdmFrame 0 goodFrame) (tdmRuns 10 7)).port 0).align = 1 ∧ (nx (.tdmFrame 0 goodFrame) (tdmRuns 10 7)).reg (R.TDM_RXURUN 0) = 1
    ∧ ((nx (.tdmFrame 0 goodFrame) (tdmRuns 10 13)).port 0).align = -1 ∧ (nx (.tdmFrame 0 goodFrame) (tdmRuns 10 13)).reg (R.TDM_RXORUN 0) = 1 := by
  decide +kernel
theorem test_tdmMask : (nx (.tdmMaskgo 0) up).get (F.TDM_STAT_MASKPEND 0) = 1
    ∧ ((nx (.tdmMaskMove 0) ((up.setReg (R.TDM_RXMASK 0) 7).put (F.TDM_STAT_MASKPEND 0) 1)).port 0).rxMask = 7 := by decide +kernel
theorem test_tdmCaptureStart : ((nx (.tdmCaptureStart 0) (up.put (F.TDM_CAPCTL_EN 0) 1)).port 0).capOn = true
    ∧ nx (.tdmCaptureStart 0) up = up := by decide +kernel
theorem test_tdmCfg : up.takes (msg [0, 0x80000000, 0, 0]) 0x0900 4 false = true
    ∧ (∀ q, q < 32 → up.on (F.TDM_CFG_EN q) = false) ∧ (nx (.tdmCfg (msg [3, 0x80000000, 0x080000, 0])) up).tdmState 3 = 1
    ∧ (nx (.tdmCfg (msg [0, 0, 0, 0])) (tdmIn 2)).tdmState 0 = 0 := by decide +kernel
/-- Port 1 carries receive channels 0 to 7. -/
def carries : State := (up.put (F.TDM_CFG_EN 1) 1).setReg (R.TDM_RXMAP 1) 0x080000
theorem test_tdmCfg_carried : carries.on (F.TDM_CFG_EN 1) = true ∧ 7 ∈ mapChans carries.rateClass 0x010007
    ∧ 7 ∈ mapChans carries.rateClass (carries.heldReg (mapReg true 1))
    ∧ rep (nx (.tdmCfg (msg [0, 0x80000000, 0x010007, 0])) carries) = some (rcRefused, [])
    ∧ rep (nx (.tdmCfg (msg [0, 0x80000000, 0x010008, 0])) carries) = some (rcDone, []) := by decide +kernel
theorem test_tdmCfg_running : (∀ q, q < 32 → q ≠ 0 → (tdmIn 2).on (F.TDM_CFG_EN q) = false)
    ∧ (nx (.tdmCfg (msg [0, 0x80000000, 0, 0])) (tdmIn 2)).tdm = (tdmIn 2).tdm := by decide +kernel
theorem test_tdmSlotmask : up.takes (msg [3, 1, 2]) 0x0901 3 false = true
    ∧ (nx (.tdmSlotmask (msg [3, 1, 2])) up).reg (R.TDM_TXMASK 3) = 2 := by decide +kernel
theorem test_asrcCfg : up.takes (msg [63, 0xFF01]) 0x0902 2 false = true
    ∧ (nx (.asrcCfg (msg [63, 0xFF01])) up).get (F.ASRC_CTL_BW 63) = 200 := by decide +kernel


/-! ### The network (R257–R297, R457, R458) -/

/-- The engine on, both links up. -/
def net2 : State := ((up.put F.NET_CTL_EN 1).put (F.NET_PSTAT_LINK 0) 1).put (F.NET_PSTAT_LINK 1) 1
/-- The same in CHAIN mode. -/
def chained : State := net2.put F.NET_CTL_MODE 1
/-- A frame between two other stations. -/
def frameOf (p : Payload) : Frame := ⟨0x020000000001, 0x020000000002, 100, true, true, true, none, p, false⟩

theorem test_netEnable : bit (0x80000001 : Word) 31 = true ∧ (nx (.netEnable 0x80000001) up).get F.NET_CTL_MODE = 1
    ∧ (nx (.netEnable 0x80000002) up).get F.NET_CTL_MODE = 0 ∧ up.netOn = false ∧ (nx (.netEnable 0) net2).get (F.NET_PSTAT_LINK 1) = 0 := by
  decide +kernel
theorem test_netLinkDown : net2.on (F.NET_PSTAT_LINK 1) = true ∧ (nx (.netLinkDown 1) net2).get (F.NET_PSTAT_LINK 1) = 0
    ∧ nx (.netLinkDown 1) up = up := by decide +kernel
/-- Interface `i` at port 0. -/
def iface (i : Nat) : State := (up.put F.NET_CTL_EN 1).put (F.NET_PCFG_IF 0) i
theorem test_netLinkUp : (iface 3).netOn = true ∧ (iface 3).get (F.NET_PCFG_IF 0) = 3
    ∧ (nx (.netLinkUp 0 3) (iface 3)).get (F.NET_PSTAT_SPEEDERR 0) = 1 ∧ (nx (.netLinkUp 0 2) (iface 3)).get (F.NET_PSTAT_SPD 0) = 2
    ∧ (nx (.netLinkUp 0 0) (iface 0)).get (F.NET_PSTAT_SPD 0) = 4 ∧ nx (.netLinkUp 0 2) up = up := by decide +kernel
/-- T1S port 1 enabled. -/
def t1sOn : State := up.put (F.T1S_CFG_EN 1) 1
theorem test_t1sLink : (nx (.netLinkUp 3 0) t1sOn).get (F.T1S_STAT_ACT 1) = 1 ∧ t1sOn.on (F.T1S_STAT_ACT 1) = false
    ∧ (nx (.netLinkDown 3) (t1sOn.put (F.T1S_STAT_ACT 1) 1)).get (F.T1S_STAT_ACT 1) = 0 := by decide +kernel
theorem test_netPortCfg : up.takes (msg [0x80000000, 0, 0, 0xC0A80101, 0, 0, 0, 0, 0, 0, 0x1388002E, 0]) 0x0400 12 false = true
    ∧ (nx (.netPortCfg (msg [0x80000000, 0, 0, 0xC0A80101, 0, 0, 0, 0, 0, 0, 0x1388002E, 0])) up).get F.NET_CLASS_CTLPORT = 5000
    ∧ up.takes (msg [3]) 0x0405 1 false = true ∧ (nx (.t1sCfg (msg [3])) up).get (F.T1S_CFG_EN 1) = 1 := by decide +kernel

/-- PAUSE enabled at port 0, at 1 Gb/s, in a PAUSE state of its own, at T = 1000 s. -/
def pausing (p : PauseSt) : State :=
  let s := ((net2.put (F.NET_PCFG_PAUSEEN 0) 1).put (F.NET_PSTAT_SPD 0) 2).setPause 0 p
  { s with time := { s.time with sec := 1000 } }
theorem test_pause : (pausing {}).linkUp 0 = true ∧ (pausing {}).on (F.NET_PCFG_PAUSEEN 0) = true
    ∧ ((nx (.netFrameRx 0 (frameOf (.macControl 1 100))) (pausing {})).pauseOf 0).till = some ((pausing {}).time.dur + 51200 * 2 ^ 32)
    ∧ (nx (.netFrameRx 0 (frameOf (.macControl 1 0))) (pausing ⟨some 5, some 1, none⟩)).get (F.NET_PSTAT_PAUSED 0) = 0
    ∧ (nx (.netFrameRx 0 (frameOf (.macControl 1 100))) (net2.put (F.NET_PCFG_PAUSEEN 0) 0)).reg R.NET_PAUSEIGN = 1
    ∧ (nx (.netFrameRx 0 (frameOf (.macControl 1 100))) (pausing ⟨none, none, some 5⟩)).reg R.NET_PAUSEIGN = 1 := by decide +kernel
theorem test_pauseExpiry : ((pausing ⟨some 5, none, none⟩).pauseOf 0).till = some 5 ∧ 5 ≤ (pausing {}).time.dur
    ∧ ((nx (.pauseExpiry 0) (pausing ⟨some 5, none, none⟩)).pauseOf 0).till = none
    ∧ nx (.pauseExpiry 0) { pausing ⟨some 5, none, none⟩ with time := up.time } = { pausing ⟨some 5, none, none⟩ with time := up.time } := by decide +kernel
theorem test_pauseWatchdog : 5 + (pausing {}).get F.NET_PAUSE_LIMIT * 10000 * 2 ^ 32 ≤ (pausing {}).time.dur
    ∧ (nx (.pauseWatchdog 0) (pausing ⟨some (2 ^ 80), some 5, none⟩)).get (F.NET_PSTAT_WDOG 0) = 1
    ∧ nx (.pauseWatchdog 0) (pausing ⟨some (2 ^ 80), some (2 ^ 79), none⟩) = pausing ⟨some (2 ^ 80), some (2 ^ 79), none⟩ := by decide +kernel
theorem test_pauseHoldoff : (nx (.pauseHoldoffEnd 0) ((pausing ⟨none, none, some 5⟩).put (F.NET_PSTAT_HOLDOFF 0) 1)).get (F.NET_PSTAT_HOLDOFF 0) = 0
    ∧ nx (.pauseHoldoffEnd 0) (pausing ⟨none, none, some (2 ^ 80)⟩) = pausing ⟨none, none, some (2 ^ 80)⟩ := by decide +kernel

theorem test_netFrameRx_bad : up.linkUp 0 = false ∧ nx (.netFrameRx 0 (frameOf (.other 0))) up = up
    ∧ (nx (.netFrameRx 0 { frameOf (.other 0) with len := 2001 }) net2).reg R.NET_OVERSIZE = 1
    ∧ (nx (.netFrameRx 0 { frameOf (.other 0) with fcsOk := false }) net2).reg R.NET_FCSERR = 1
    ∧ up.on (F.T1S_CFG_EN 0) = false ∧ nx (.netFrameRx 2 (frameOf (.other 0))) up = up := by decide +kernel
theorem test_netFrameRx_forward : (learn 0x020000000001 0 chained).forwards 0 (frameOf (.other 0)) = true
    ∧ (frameOf (.other 0)).src ≠ chained.ownMac ∧ (frameOf (.other 0)).dst ≠ chained.ownMac ∧ groupMac (frameOf (.other 0)).dst = false
    ∧ (chained.room (chained.classF (frameOf (.other 0))) 100).isSome = true
    ∧ ((nx (.netFrameRx 0 (frameOf (.other 0))) chained).queue 1).map QFrame.len = [100] := by decide +kernel
/-- Every pool full: one frame of each class is held that fills it. -/
def fullPools : State := { chained with net := { chained.net with held := [(0, ⟨3, 10000000, false, 1⟩), (1, ⟨3, 10000000, true, 1⟩)] } }
theorem test_netFrameRx_drop : fullPools.room (fullPools.classF (frameOf (.other 0))) 100 = none
    ∧ (nx (.netFrameRx 0 (frameOf (.other 0))) fullPools).reg (dropReg 3) = 1 := by decide +kernel
/-- A receive stream of one channel, PTIME 1 ms, from port 0. -/
def stream1 : StreamCfg :=
  { ports := 0, l16 := false, ptime := 0, ch := 1, pt := 98, dst := 1, dport := 5004, dstb := 1, dportb := 5004, base := 0, off := 0, lofs := 1000, losst := 100 }
/-- It waits or runs under handle 0, at MTI 1000. -/
def receives : State :=
  let s := (net2.put (F.NET_RXSTAT_STATE 0) 1).modNet fun n => { n with streams := [(0, { stream1 with run := true })] }
  { s with time := { s.time with ns := 20833334 } }
/-- A packet of it with six samples from timestamp 1000. -/
def packet (pt : BitVec 7) : Frame := { frameOf (.rtp 9 1 5004 46 false pt 1000 0 [[1], [2], [3], [4], [5], [6]]) with dst := receives.ownMac }
theorem test_netFrameRx_rtp : receives.rtpMatch 0 9 1 5004 = some (0, { stream1 with run := true }, 0) ∧ (receives.room 1 100).isSome = true
    ∧ receives.chain = false ∧ kgetD (receives.rx 0).got (nearMti 1000 receives.mti) 0 = 0
    ∧ (receives.mti < (nearMti (1000 - 0) receives.mti + receives.lofsSamples stream1) / receives.roundLen * receives.roundLen + receives.roundLen)
    ∧ nearMti (1000 - 0) receives.mti + receives.lofsSamples stream1 + 5
        ≤ receives.mti + receives.samplesOf 2000 + 2 * sppOf receives.rateClass stream1.ptime
    ∧ kget ((nx (.netFrameRx 0 (packet 98)) receives).rx 0).buf (nearMti 1000 1000 + 48 + 5) = some (rtpSamples stream1 [6])
    ∧ (nx (.netFrameRx 0 (packet 99)) receives).get ⟨R.NET_RXLATE 0, 15, 0⟩ = 1 := by decide +kernel
/-- Two frames queued at port 1, the later one of a higher class. -/
def queued : State := net2.modNet fun n => { n with queues := [(1, [{ id := 0, cls := 3, len := 80 }, { id := 1, cls := 1, len := 90 }])] }
theorem test_netFrameTx : nextFrame (queued.queue 1) = some { id := 1, cls := 1, len := 90 } ∧ queued.linkUp 1 = true
    ∧ (nx (.netFrameTx 1 0) queued).queue 1 = [{ id := 0, cls := 3, len := 80 }] ∧ nx (.netFrameTx 0 0) queued = queued
    ∧ nextFrame (queued.queue 0) = none := by decide +kernel
theorem test_addressAgeOut : ((nx (.addressAgeOut 7) (net2.modNet fun n => { n with learned := [(7, 0), (8, 1)] })).net.learned) = [(8, 1)] := by
  decide +kernel
theorem test_loopProbe : net2.chain = false ∧ nx .loopProbe net2 = net2 ∧ chained.chain = true ∧ (chained.room 2 64).isSome = true
    ∧ ((nx .loopProbe chained).queue 0).map QFrame.cls = [2]
    ∧ ((nx .loopProbe (chained.put (F.NET_PSTAT_LINK 0) 0)).queue 1).length = 1 := by decide +kernel

/-- STREAM_RX_ADD of one channel under the lowest free handle. -/
def addRx (base : Nat) : Cmd := msg [0x1FF, 0x00620100, 1, 5004, 0, 0, word base, 0, 1000, 100]
/-- STREAM_TX_ADD of one channel under handle 256. -/
def addTx (h : Word) : Cmd := msg [h, 0x00620100, 1, 5004, 0, 0, 0, 0, 0]
theorem test_streamRxAdd : up.takes (addRx 0) 0x0401 10 false = true ∧ up.streamHandle (addRx 0) true = some 0
    ∧ up.streamRefused true (streamOf (addRx 0) true 0) = false
    ∧ (streamHeld true 0 (streamOf (addRx 0) true 0) (bit (cw (addRx 0) 7) 24) up).freeFor (addRx 0) [runEntry 0] = true
    ∧ ((nx (.streamRxAdd (addRx 0)) up).hamp.plans.map Plan.entries) = [[runEntry 0]]
    ∧ (nx (.streamRxAdd (addRx 0)) up).stream 0 = some (streamOf (addRx 0) true 0) := by decide +kernel
/-- A receive stream on channel 1023. -/
def last1 : State := up.modNet fun n => { n with streams := [(4, { stream1 with base := 1023 })] }
theorem test_streamRxAdd_refused : up.streamRefused true (streamOf (addRx 1023) true 0) = false
    ∧ last1.streamRefused true (streamOf (addRx 1023) true 0) = true
    ∧ rep (nx (.streamRxAdd (addRx 1023)) last1) = some (rcRefused, []) ∧ (last1.stream 4).isSome = true := by decide +kernel
theorem test_streamTxAdd : up.takes (addTx 256) 0x0402 9 false = true ∧ up.streamHandle (addTx 256) false = some 256
    ∧ up.stream 256 = none ∧ up.streamRefused false (streamOf (addTx 256) false 256) = false
    ∧ ((nx (.streamTxAdd (addTx 256)) up).stream 256).isSome = true ∧ decide (5 < 256) ≠ false
    ∧ rep (nx (.streamTxAdd (addTx 5)) up) = some (rcMalformed, []) := by decide +kernel
/-- Every receive handle taken. -/
def allTaken : State := up.modNet fun n => { n with streams := (List.range 256).map fun h => (h, stream1) }
theorem test_streamRxAdd_noSpace : allTaken.streamHandle (addRx 0) true = none
    ∧ rep (nx (.streamRxAdd (addRx 0)) allTaken) = some (rcNoSpace, []) := by decide +kernel
theorem test_streamRemove : up.stream 5 = none ∧ rep (nx (.streamRemove (msg [5])) up) = some (rcRefused, [])
    ∧ receives.freeFor (msg [0]) [removeEntry (msg [0])] = true
    ∧ ((nx (.streamRemove (msg [0])) receives).hamp.plans.map Plan.entries) = [[removeEntry (msg [0])]] := by decide +kernel
/-- Leg A is up; its last packet came at a time of its own. -/
def legged (n : Option Nat) : State :=
  ((receives.put (F.NET_RXSTAT_LEGA 0) 1).modNet fun m => { m with rx := [(0, { lastA := n })] }).put F.TIME_ROUND_NCODE 0
theorem test_streamLegDown : (legged (some 1000)).on (F.NET_RXSTAT_LEGA 0) = true
    ∧ (nx (.streamLegDown 0 false) (legged none)).get (F.NET_RXSTAT_LEGA 0) = 0
    ∧ (legged (some 1000)).mti < 1000 + (legged (some 1000)).samplesOf 10000
    ∧ nx (.streamLegDown 0 false) (legged (some 1000)) = legged (some 1000) := by decide +kernel

/-- A frame queued at T1S port 1. -/
def t1sQueued : State := t1sOn.modNet fun n => { n with queues := [(3, [{ id := 0, cls := 3, len := 80 }])] }
theorem test_t1sFrameTx : nextFrame (t1sQueued.queue (2 + 1)) = some { id := 0, cls := 3, len := 80 }
    ∧ (nx (.t1sFrameTx 1 (.sent 2)) t1sQueued).queue 3 = [] ∧ (nx (.t1sFrameTx 1 (.sent 2)) t1sQueued).reg (R.T1S_COLL 1) = 2
    ∧ (nx (.t1sFrameTx 1 .excessive) t1sQueued).reg (R.T1S_EXCOL 1) = 1 ∧ (nx (.t1sFrameTx 1 (.late 0)) t1sQueued).reg (R.T1S_LATECOL 1) = 1
    ∧ nx (.t1sFrameTx 0 .excessive) t1sQueued = t1sQueued := by decide +kernel
/-- PTP instance 0 is enabled and its port A is master. -/
def master : State := { t1sOn with ref := { t1sOn.ref with insts := [(0, { en := true, portA := .master })] }, net := net2.net, regs := ((net2.put (F.T1S_CFG_EN 1) 1).put F.REFS_STAT_SEL 0).regs }
theorem test_syncInterval : (master.inst 0).en = true ∧ master.linkUp 0 = true ∧ (master.room 0 90).isSome = true
    ∧ master.get F.REFS_STAT_SEL = 0 ∧ (master.inst 2).en = false ∧ ((nx (.syncInterval 0 .sync) master).queue 0).map QFrame.len = [90]
    ∧ ((nx (.syncInterval 0 .sync) master).queue 3).map QFrame.cls = [0] ∧ nx (.syncInterval 1 .announce) up = up := by decide +kernel


/-! ### PTP, references, realignment (R289–R308, R314, R456, R457) -/

/-- Instance 2 is enabled. -/
def ptp2 (q : PtpInst) : State := { up with ref := { up.ref with insts := [(2, { q with en := true })] } }
theorem test_ptpCfg : up.takes (msg [3, 0, 0]) 0x0404 3 false = true ∧ rep (nx (.ptpCfg (msg [3, 0, 0])) up) = some (rcMalformed, [])
    ∧ (ptp2 {}).ptpConflict 0 0 true = true ∧ rep (nx (.ptpCfg (msg [0x800, 0, 0])) (ptp2 {})) = some (rcRefused, [])
    ∧ up.ptpConflict 1 0 true = false ∧ ((nx (.ptpCfg (msg [0x801, 200, 0xF0201])) up).inst 1).domain = 127
    ∧ ((nx (.ptpCfg (msg [0x801, 200, 0xF0201])) up).inst 1).annrx = 10 ∧ ((nx (.ptpCfg (msg [2, 0, 0])) (ptp2 { portA := .slave })).inst 2).portA = .disabled := by
  decide +kernel
theorem test_bmcaRun : (up.inst 0).en = false ∧ nx (.bmcaRun 0 .slave .slave none) up = up
    ∧ ((nx (.bmcaRun 2 .slave .slave none) (ptp2 {})).inst 2).portB = .passive
    ∧ ((nx (.bmcaRun 2 .slave .slave none) (ptp2 {})).inst 2).portA = .slave := by decide +kernel
theorem test_pdelayExchange : kget (nx (.pdelayExchange 1 12345) (ptp2 { p2p := true })).ref.linkDelay 1 = some 12345
    ∧ nx (.pdelayExchange 1 12345) (ptp2 {}) = ptp2 {} := by decide +kernel

/-- Candidate 3 in a state of its own. -/
def cand (st : Nat) : State := up.put (F.REFS_CSTAT_STATE 3) st
/-- Candidate 3 measured, the others absent. -/
def seen (f : Int) : List CandMeas := [⟨false, 0⟩, ⟨false, 0⟩, ⟨false, 0⟩, ⟨true, f⟩, ⟨false, 0⟩, ⟨false, 0⟩, ⟨false, 0⟩]
theorem test_refMeasure : (seen 0)[3]? = some ⟨true, 0⟩ ∧ (nx (.refMeasure (seen 0)) (cand 1)).get (F.REFS_CSTAT_STATE 3) = 2
    ∧ (nx (.refMeasure (seen 6000)) (cand 1)).get (F.REFS_CSTAT_STATE 3) = 1
    ∧ up.ptpPresent 0 = false ∧ (nx (.refMeasure (seen 0)) (up.put (F.REFS_CSTAT_STATE 0) 3)).get (F.REFS_CSTAT_STATE 0) = 0 := by decide +kernel
theorem test_refMeasure_wait : (cand 2).on F.REFS_STAT_SWITCHING = false
    ∧ min ((cand 2).get (F.REFS_CSTAT_WTRREM 3)) (cand 2).wtrFull ≤ 1 ∧ (nx (.refMeasure (seen 0)) (cand 2)).get (F.REFS_CSTAT_STATE 3) = 3 := by
  decide +kernel
theorem test_refMeasure_qualified : up.get F.REFS_QUAL_WIN * 10 < (6000 : Int).natAbs
    ∧ (nx (.refMeasure (seen 6000)) (cand 3)).ref.outside = [3] ∧ (nx (.refMeasure (seen 6000)) (cand 3)).get (F.REFS_CSTAT_STATE 3) = 3
    ∧ (nx (.refMeasure (seen 6000)) { cand 3 with ref := { (cand 3).ref with outside := [3] } }).get (F.REFS_CSTAT_STATE 3) = 1
    ∧ (nx (.refMeasure (seen 0)) { cand 3 with ref := { (cand 3).ref with outside := [3] } }).ref.outside = [] := by decide +kernel
/-- Candidate 3 is selected and the last qualified one. -/
def sel3 : State := (cand 3).put F.REFS_STAT_SEL 3
theorem test_candidateLoss : sel3.standby = false ∧ sel3.on F.REFS_STAT_SWITCHING = false ∧ (∀ d, d < 5 → d ≠ 3 → sel3.qualified d = false)
    ∧ (nx (.candidateLoss 3) sel3).get F.REFS_STAT_SEL = 6 ∧ (nx (.candidateLoss 3) sel3).get F.REFS_STAT_FREERUN = 1
    ∧ nx (.candidateLoss 6) sel3 = sel3 := by decide +kernel
/-- A switch to candidate 3 begun; its offset not measured. -/
def switching : State :=
  { sel3.put F.REFS_STAT_SWITCHING 1 with ref := { sel3.ref with incoming := some (3, false) }, time := { sel3.time with sec := 1 } }
theorem test_refSwitchMeasured : switching.measuredLong 3 = true ∧ (switching.modTime fun t => { t with sec := 0 }).measuredLong 3 = false
    ∧ (nx (.refSwitchMeasured (-7)) (switching.put F.TIME_CTL_MODE 1)).absorbed = -7
    ∧ (nx (.refSwitchMeasured (-7)) (switching.put F.TIME_CTL_MODE 2)).absorbed = 0
    ∧ nx (.refSwitchMeasured 7) up = up := by decide +kernel
/-- An acquisition of candidate 3 in mode 2 that may step, its threshold 1 µs. -/
def acquires : State := { ((sel3.put F.TIME_CTL_MODE 2).put F.TIME_CTL_STHR 0) with time := { sel3.time with acqStep := true } }
theorem test_refSwitchMeasured_acq : acquires.standby = false ∧ acquires.get F.TIME_CTL_MODE ≠ 1 ∧ acquires.get F.REFS_STAT_SEL ≠ 6
    ∧ acquires.ref.incoming = none ∧ (nx (.refSwitchMeasured 2000000001) acquires).time.stepReq = some (2, 1, true)
    ∧ (nx (.refSwitchMeasured 2000000001) acquires).get F.TIME_STEPCTL_GO = 1
    ∧ (nx (.refSwitchMeasured (-1000)) acquires).time.stepReq = none ∧ (nx (.refSwitchMeasured (-1000)) acquires).time.acqStep = false := by
  decide +kernel
theorem test_refSwitchEnd : nx (.refSwitchEnd false) switching = switching ∧ (nx (.refSwitchEnd true) switching).get F.REFS_STAT_SWITCHING = 0 ∧ (nx (.refSwitchEnd true) switching).ref.incoming = none
    ∧ nx (.refSwitchEnd false) up = up := by decide +kernel
theorem test_setRefPriority : up.takes (msg [0x7FFF, 0x15, 0x1FF, 200, 0, 0, 0, 0, 0, 0, 0, 0]) 0x0302 12 false = true
    ∧ (nx (.setRefPriority (msg [0x7FFF, 0x15, 0x1FF, 200, 0, 0, 0, 0, 0, 0, 0, 0])) up).get F.REFS_CTL_FORCE = 5
    ∧ (nx (.setRefPriority (msg [0x7FFF, 0x15, 0x1FF, 200, 0, 0, 0, 0, 0, 0, 0, 0])) up).get F.REFS_QUAL_WIN = 500
    ∧ (nx (.setRefPriority (msg [0x7FFF, 0x15, 0x1FF, 200, 0, 0, 0, 0, 0, 0, 0, 0])) up).get F.REFS_QUAL_WTR = 1
    ∧ (nx (.setRefPriority (msg [0x7FFF, 0x15, 0x1FF, 200, 0, 0, 0, 0, 0, 0, 0, 0])) up).get F.REFS_DPLL_BW = 72 := by decide +kernel
/-- An offset of the wall clock stands. -/
def offset2 : State := up.setReg R.REFS_WCOFS 9
theorem test_realign : up.takes (msg [0x20000]) 0x0303 1 false = true ∧ up.realignNamed 2 = false
    ∧ rep (nx (.realign (msg [0x20000])) up) = some (rcDone, []) ∧ offset2.get F.TIME_CTL_MODE ≠ 3
    ∧ rep (nx (.realign (msg [0x40020000])) offset2) = some (rcRefused, [])
    ∧ offset2.realignNamed 2 = true ∧ rep (nx (.realign (msg [0x20000])) offset2) = some (rcScheduled, [])
    ∧ ((nx (.realign (msg [0x20000])) offset2).ref.realign.map RealignSt.rate) = some 1 := by decide +kernel
theorem test_realignWrite : ((nx (.realignWrite 0x80021FFF) offset2).ref.realign.map RealignSt.rate) = some 5000
    ∧ (nx (.realignWrite 0x00020000) offset2).get F.REFS_REALIGN_TGT = 2 ∧ (nx (.realignWrite 0x00020000) offset2).ref.realign = none := by decide +kernel
/-- A realignment at work for tag 7 of the PCIe host. -/
def aligning (step : Bool) : State :=
  let s := nx (.realign (msg [0x20000])) offset2
  { s with ref := { s.ref with realign := s.ref.realign.map fun r => { r with step := step } }, time := { s.time with sec := 1 } }
theorem test_realignDone : ((aligning false).ref.realign.map fun r => (r.step, r.tgt)) = some (false, 2)
    ∧ kget ((aligning false).outbox 1).tags 7 = some 0x0303 ∧ (nx .realignDone (aligning false)).reg R.REFS_WCOFS = 0
    ∧ kget ((nx .realignDone (aligning false)).outbox 1).tags 7 = none ∧ nx .realignDone (aligning true) = aligning true
    ∧ (aligning false).realignReached ⟨false, 2, 1, 0, none⟩ = true ∧ nx .realignDone up = up
    ∧ (aligning false).realignReached ⟨false, 2, 1, (aligning false).time.dur, none⟩ = false := by decide +kernel


/-! ### Amplifiers, short circuits, lines (R320–R346, R453, R465) -/

/-- Channel 4 in a state of its own, long after the start of the engine, at T = 1000 s. -/
def ampIn (st : Nat) (a : AmpSt) : State :=
  let s := (late.put (F.AMP_STAT_STATE 4) st).modAmp 4 fun _ => a
  { s with time := { s.time with sec := 1000 } }
theorem test_ampStart : (ampIn 6 { startDue := some 0 }).emissionOf 0 ≤ (ampIn 0 {}).now
    ∧ (nx (.ampStart 4) ((ampIn 6 { startDue := some 0 }).put (F.AMP_STAT_FBOPEN 4) 1)).get (F.AMP_STAT_FBOPEN 4) = 0
    ∧ (nx (.ampStart 4) (ampIn 0 { startDue := some 0 })).ampState 4 = 1
    ∧ nx (.ampStart 4) (ampIn 0 { startDue := some (2 ^ 60) }) = ampIn 0 { startDue := some (2 ^ 60) } ∧ nx (.ampStart 4) (ampIn 0 {}) = ampIn 0 {} := by
  decide +kernel
theorem test_ampStart_steps : ((nx (.ampPolarityCheck 4 true) (ampIn 1 {})).amp 4).phase = 1
    ∧ (nx (.ampPolarityCheck 4 true) (ampIn 1 {})).get (F.AMP_STAT_FBREV 4) = 1 ∧ nx (.ampPolarityCheck 4 true) (ampIn 2 {}) = ampIn 2 {}
    ∧ ((nx (.ampOscEnable 4) (ampIn 1 { phase := 1 })).amp 4).phase = 2 ∧ nx (.ampOscEnable 4) (ampIn 1 {}) = ampIn 1 {}
    ∧ (nx (.ampStartCheck 4 true) (ampIn 1 { phase := 2 })).ampState 4 = 2 ∧ (nx (.ampStartCheck 4 false) (ampIn 1 { phase := 2 })).ampState 4 = 6
    ∧ nx (.ampStartCheck 4 true) (ampIn 1 { phase := 1 }) = ampIn 1 { phase := 1 }
    ∧ nx (.ampOscEnable 4) (ampIn 1 { phase := 1, startAt := (ampIn 1 {}).time.dur }) = ampIn 1 { phase := 1, startAt := (ampIn 1 {}).time.dur } := by
  decide +kernel
theorem test_ampStop : (ampIn 2 {}).emissionOf 0 + (ampIn 2 {}).samplesOf 1000 ≤ (ampIn 2 {}).now
    ∧ (nx (.ampStopRampEnd 4) (ampIn 2 { stopDue := some 0 })).ampState 4 = 0
    ∧ nx (.ampStopRampEnd 4) (ampIn 2 { stopDue := some 1000000 }) = ampIn 2 { stopDue := some 1000000 } := by decide +kernel
theorem test_ampFault : (nx (.ampFbopen 4) (ampIn 2 {})).ampState 4 = 6 ∧ (nx (.ampLooperr 4) (ampIn 4 {})).get (F.AMP_STAT_LOOPERR 4) = 1
    ∧ nx (.ampFbopen 4) (ampIn 1 {}) = ampIn 1 {} ∧ nx (.ampLooperr 4) (ampIn 3 {}) = ampIn 3 {} := by decide +kernel
theorem test_ampCurrentLimit : (nx (.ampCurrentLimit 4 true) (ampIn 2 { limRun := 7, limBase := 3 })).ampState 4 = 3
    ∧ (nx (.ampCurrentLimit 4 true) (ampIn 2 { limRun := 7, limBase := 3 })).reg (R.AMP_LIMCNT 4) = 3
    ∧ ((nx (.ampCurrentLimit 4 true) (ampIn 2 { limRun := 6 })).amp 4).limRun = 7 ∧ (nx (.ampCurrentLimit 4 true) (ampIn 2 { limRun := 6 })).ampState 4 = 2
    ∧ ((nx (.ampCurrentLimit 4 false) (ampIn 1 { phase := 2, limRun := 7 })).amp 4).limRun = 1
    ∧ nx (.ampCurrentLimit 4 true) (ampIn 1 { phase := 1 }) = ampIn 1 { phase := 1 } := by decide +kernel
theorem test_ampProbe : (ampIn 3 {}).probeDue 4 ≤ (ampIn 3 {}).time.dur ∧ (ampIn 3 {}).paired 4 = false
    ∧ ((nx (.ampProbe 4) (ampIn 3 {})).amp 4).probing = true
    ∧ (ampIn 3 { shortAt := (ampIn 3 {}).time.dur }).time.dur < (ampIn 3 { shortAt := (ampIn 3 {}).time.dur }).probeDue 4
    ∧ nx (.ampProbe 4) (ampIn 3 { shortAt := (ampIn 3 {}).time.dur }) = ampIn 3 { shortAt := (ampIn 3 {}).time.dur } := by decide +kernel
theorem test_ampProbeEnd : (nx (.ampProbeEnd 4 true 0) (ampIn 3 { probing := true })).get (F.AMP_PROBEF_CUR 4) = 1
    ∧ (ampIn 3 { probing := true }).probeLow 4 0 = true ∧ (ampIn 3 { probing := true }).probeLow 4 0xFFFFFF = false
    ∧ (nx (.ampProbeEnd 4 false 0xFFFFFF) (ampIn 3 { probing := true })).ampState 4 = 4 := by decide +kernel
theorem test_ampReturnEnd : 0 + (ampIn 4 {}).samplesOf 50000 ≤ (ampIn 4 {}).now ∧ (nx (.ampReturnEnd 4) (ampIn 4 { rampFrom := some 0 })).ampState 4 = 2
    ∧ nx (.ampReturnEnd 4) (ampIn 4 { rampFrom := some (2 ^ 60) }) = ampIn 4 { rampFrom := some (2 ^ 60) } := by decide +kernel
theorem test_probeFailureCountClear : 0 + ms32 10000 ≤ (ampIn 2 {}).time.dur
    ∧ (nx (.probeFailureCountClear 4) ((ampIn 2 { shortEnd := some 0 }).put (F.AMP_PROBEF_CUR 4) 9)).get (F.AMP_PROBEF_CUR 4) = 0
    ∧ nx (.probeFailureCountClear 4) (ampIn 3 { shortEnd := some 0 }) = ampIn 3 { shortEnd := some 0 } := by decide +kernel

/-- Measurements of channel 4: at 150.0 V full scale and 50 mΩ, a line voltage of 150 V and a current of `i` µV across them;
earth leakage `e` µV. -/
def lineOf4 (i e : Nat) : LineMeas := ⟨4, false, 2 ^ 23, i, 0, e, 0, 0, 100, 200⟩
/-- Channel 4 in RUN with its pilot on and a valid baseline of 8.00 Ω, earth supervision of its group on. -/
def measured (n : Nat) : State :=
  (((((ampIn 2 { normals := n }).put (F.AMP_CTL_PILOTON 4) 1).put (F.AMP_LINE_VALID 4) 1).put (F.AMP_ZBASE_ZBASE 4) 800).put (F.AMP_ZLIM_DEV 4) 10).put (F.SUPV_EFCFG_EN 0) 1
/-- 150 V over 8.00 Ω is 18.75 A, 937,500 µV at 50 mΩ; 100 kΩ and a gain of 0.020 see 2 V at the node for a leakage of 50 kΩ. -/
theorem test_supvInterval : (measured 1).intervalDue = true ∧ (measured 1).standby = false ∧ (measured 1).paired 4 = false
    ∧ (measured 1).measures (lineOf4 937500 1000000) = true
    ∧ (([lineOf4 937500 1000000].filter fun x => x.ch == (lineOf4 937500 1000000).ch) = [lineOf4 937500 1000000])
    ∧ (measured 1).on (F.SUPV_EFCFG_EN (4 / 8 : Nat)) = true
    ∧ (nx (.supvInterval [lineOf4 937500 1000000] []) (measured 1)).get (F.AMP_ZMAG_VALUE 4) = 800
    ∧ (nx (.supvInterval [lineOf4 937500 1000000] []) (measured 1)).get (F.AMP_LEAK_RLEAK 4) = 200
    ∧ (nx (.supvInterval [lineOf4 937500 2000000] []) (measured 1)).get (F.AMP_LEAK_RLEAK 4) = 50
    ∧ (nx (.supvInterval [lineOf4 937500 2400000] []) (measured 1)).get (F.AMP_LINE_EARTH 4) = 1
    ∧ up.measures (lineOf4 937500 0) = false := by decide +kernel
theorem test_supvInterval_early :
    nx (.supvInterval [] []) ((measured 0).modSupv fun v => { v with lastInterval := some (measured 0).time.dur })
      = (measured 0).modSupv fun v => { v with lastInterval := some (measured 0).time.dur } := by decide +kernel
theorem test_supvInterval_state : ratioState 880 800 10 = 1 ∧ ratioState 881 800 10 = 2 ∧ ratioState 1200 800 10 = 2 ∧ ratioState 1201 800 10 = 3 ∧ ratioState 400 800 10 = 2
    ∧ ratioState 399 800 10 = 4 := by decide +kernel
theorem test_supvInterval_normal : (measured 1).pfBroken 4 = false ∧ ((measured 1).amp 4).base = none
    ∧ (nx (.supvInterval [lineOf4 937500 0] []) (measured 1)).get (F.AMP_LINE_LSTATE 4) = 1
    ∧ (nx (.supvInterval [lineOf4 937500 0] []) (measured 0)).get (F.AMP_LINE_LSTATE 4) = (measured 0).get (F.AMP_LINE_LSTATE 4)
    ∧ (nx (.supvInterval [lineOf4 1875000 0] []) (measured 0)).get (F.AMP_LINE_LSTATE 4) = 2
    ∧ (nx (.supvInterval [lineOf4 3750000 0] []) (measured 0)).get (F.AMP_LINE_LSTATE 4) = 4 := by decide +kernel
/-- Rbias 1000 kΩ, Rref 100 kΩ, 100 mV on the node: of 3600 mV that is 40 kΩ beside Rref, of 2100 mV 100 kΩ, of 1100 mV none. -/
theorem test_supvInterval_group : (([⟨0, 100, 3600⟩] : List GroupMeas).filter fun x => x.g == (0 : Fin 4)) = [⟨0, 100, 3600⟩]
    ∧ (nx (.supvInterval [] [⟨0, 100, 3600⟩]) (measured 0)).get (F.SUPV_EFSTAT_RETFLT 0) = 1
    ∧ (nx (.supvInterval [] [⟨0, 100, 2100⟩]) (measured 0)).get (F.SUPV_EFSTAT_RETFLT 0) = 0
    ∧ (nx (.supvInterval [] [⟨0, 100, 1100⟩]) (measured 0)).get (F.SUPV_EFSTAT_RETLEAK 0) = 0xFFFFF := by decide +kernel
/-- A sweep scheduled for channel 4. -/
def sweeps (n : Nat) : State := (ampIn 2 {}).modSupv fun v => { v with sched := [(n, some 0x30, none, false)] }
theorem test_quietSweepStart : 0 ≤ (sweeps 0).mti ∧ ((nx .quietSweepStart (sweeps 0)).supv.sweep.map SweepRun.chans) = some [4]
    ∧ (nx .quietSweepStart (sweeps 0)).get F.SUPV_SWCTL_BUSY = 1 ∧ nx .quietSweepStart (sweeps (2 ^ 60)) = sweeps (2 ^ 60)
    ∧ (nx .supvSweepGo up).supv.sched = [(up.roundLen, none, none, false)] := by decide +kernel
/-- A sweep of channel 4 at work, with a sweep baseline. -/
def sweptAt (p start : Nat) : State := ((ampIn 2 { basePh := [(15, 3)] }).put (F.SUPV_SWBASE_ZB 4 15) 800).modSupv fun v => { v with sweep := some ⟨[4], p, start, false, none, [], [], false⟩ }
theorem test_sweepPointEnd : 0 + (15 + 1) * ((sweptAt 15 0).fs / 10) ≤ (sweptAt 15 0).now
    ∧ (nx (.sweepPointEnd [⟨4, true, 800, 0x123⟩]) (sweptAt 15 0)).get (F.SUPV_SWRES_PH 4 15) = 0x120
    ∧ ((nx (.sweepPointEnd [⟨4, true, 800, 0x123⟩]) (sweptAt 15 0)).supv.sweep.map SweepRun.point) = some 16
    ∧ nx (.sweepPointEnd []) (sweptAt 16 0) = sweptAt 16 0 ∧ nx .quietSweepStart (sweptAt 3 0) = sweptAt 3 0 := by decide +kernel
theorem test_quietSweepEnd : (nx .quietSweepEnd (sweptAt 16 0)).get F.SUPV_SWCTL_DONE = 1 ∧ (nx .quietSweepEnd (sweptAt 16 0)).supv.sweep = none := by
  decide +kernel

/-- AMP_CFG of channel 4 with its ZLIM; `n` is its ZMIN. -/
def zlim (n : Word) : Cmd := msg [4, 0, 0, 0, 0, 0, 0, 0, 0, 0xFF0000 ||| n, 0x100]
theorem test_ampCfg_limits : up.takes (zlim 0) 0x0A00 11 false = true ∧ ampEntries 4 (zlim 0) up = [] ∧ bit (cw (zlim 0) 11) 7 = false ∧ (nx (.ampCfg (zlim 0)) up).get (F.AMP_ZLIM_ZMIN 4) = 1
    ∧ (nx (.ampCfg (zlim 0)) up).get (F.AMP_ZLIM_DEV 4) = 40 := by decide +kernel
theorem test_ampCfg_pf : up.pfBreaks 4 (pfClamp up.rateClass 2125) up.pfHeld = true ∧ up.pfHeld 5 = 2125
    ∧ rep (nx (.ampCfg (msg [4, 0, 0, 0, 0, 0, 0, 0, word (up.pfHeld 5), 0, 0x80])) up) = some (rcRefused, []) := by decide +kernel
theorem test_ampCfg_run : ampEntries 4 (msg [4, 1, 0, 0, 0, 0, 0, 0, 0, 0, 1]) up ≠ []
    ∧ up.freeFor (msg [4, 1, 0, 0, 0, 0, 0, 0, 0, 0, 1]) (ampEntries 4 (msg [4, 1, 0, 0, 0, 0, 0, 0, 0, 0, 1]) up) = true
    ∧ ((nx (.ampCfg (msg [4, 1, 0, 0, 0, 0, 0, 0, 0, 0, 1])) up).hamp.plans.map fun p => p.entries.map Entry.obj) = [[4, 4]] := by decide +kernel
theorem test_ampPair : up.takes (msg [2]) 0x0A01 1 false = true ∧ rep (nx (.ampPair (msg [2])) (ampIn 2 {})) = some (rcRefused, [])
    ∧ up.ampState 4 = 0 ∧ up.ampState 5 = 0 ∧ (nx (.ampPair (msg [2])) up).get (F.AMP_PAIR_PAIRED 4) = 1
    ∧ (nx (.ampPair (msg [0x102])) up).get (F.AMP_PAIR_PAIRED 4) = 0 := by decide +kernel
theorem test_lineBaseline : (ampIn 2 {}).takes (msg [0x10]) 0x0A02 1 false = true ∧ rep (nx (.lineBaseline (msg [0x30])) (ampIn 2 {})) = some (rcRefused, [])
    ∧ (∀ ch, ch < 32 → bit (0x10 : Word) ch = true → (ampIn 2 {}).ampState ch = 2)
    ∧ ((nx (.lineBaseline (msg [0x10])) (ampIn 2 {})).amp 4).base = some (0, 0, 0) := by decide +kernel
theorem test_quietSweep : up.takes (msg [0, 0, 0x10]) 0x0A03 3 false = true ∧ rep (nx (.quietSweep (msg [0, 0, 0x10])) (sweptAt 0 0)) = some (rcRefused, [])
    ∧ ((nx (.quietSweep (msg [0, 0, 0x10])) up).supv.sched.map fun x => (x.1, x.2.2.2)) = [(up.roundLen, true)]
    ∧ ((nx (.quietSweep (msg [1, 0, 0x10])) up).supv.sched.map fun x => (x.1, x.2.2.2)) = [(1, false)] := by decide +kernel
theorem test_railCfg : up.takes (msg [3, 0xFFF, 0, 0x3FF, 0x100]) 0x0A04 5 false = true
    ∧ (nx (.railCfg (msg [3, 0xFFF, 0, 0x3FF, 0x100])) up).get (F.SUPV_EFSCALE_KEF 3) = 1000
    ∧ (nx (.railCfg (msg [3, 0xFFF, 0, 0x3FF, 0x100])) up).get (F.SUPV_RAILCFG_RATIO 3) = 1
    ∧ (nx (.railCfg (msg [3, 0xFFF, 0, 0x3FF, 0x100])) up).get F.SUPV_MCFG_METER = 1 := by decide +kernel


/-! ### The tandem pair (R349–R371, R465) -/

/-- A chip of a pair in a state of its own, ROLE_IN high, the link up on all lanes. -/
def tnd (st : Nat) : State :=
  let s := (((up.put F.TND_CTL_EN 1).put F.TND_STAT_STATE st).put F.TND_STAT_ROLEIN 1).put F.TND_LINK_LANES 15
  { s with tnd := { s.tnd with lanes := 15 }, pins := { s.pins with roleIn := true } }
/-- The same with ROLE_IN low. -/
def low (st : Nat) : State := (tnd st).put F.TND_STAT_ROLEIN 0
/-- An active with a handover at work. -/
def handed (h : HandSt) (st : Nat) : State := { tnd st with tnd := { (tnd st).tnd with handover := some h } }
theorem test_roleInChange : (nx (.roleInChange false) (tnd 1)).tndState = 3 ∧ (nx (.roleInChange false) up).pins.roleIn = false
    ∧ (nx (.roleInChange true) (tnd 1)).tndState = 1 ∧ (tnd 1).tnd.failed = false ∧ (nx (.roleInChange true) up).get F.TND_STAT_ROLEIN = 1 := by decide +kernel
theorem test_takeover : (tnd 5).standby = true ∧ (tnd 5).handing = false ∧ (nx .takeover (tnd 5)).tndState = 1
    ∧ (nx .takeover (tnd 5)).reg R.TND_TAKEOVERS = 1 ∧ nx .takeover (low 5) = low 5 ∧ nx .takeover up = up := by decide +kernel
theorem test_tandemEnable : (nx .tandemEnable { tnd 0 with tnd := { (tnd 0).tnd with enDue := some true } }).tndState = 1
    ∧ (nx .tandemEnable { tnd 5 with tnd := { (tnd 5).tnd with enDue := some false } }).get F.TND_CTL_EN = 0 ∧ nx .tandemEnable up = up := by decide +kernel
theorem test_failSilent : up.tnd.failed = false ∧ (nx .failSilent up).tndState = 7 ∧ (nx .failSilent up).flt.l4 = true
    ∧ (nx .failSilent (nx .failSilent up)).tndState = 7 := by decide +kernel
theorem test_peerStateReport : (nx (.peerStateReport true 1) (tnd 1)).get F.TND_STAT_PEER = 1
    ∧ (nx (.peerStateReport true 1) (tnd 1)).tnd.bothSince = some 0 ∧ (nx (.peerStateReport false 5) (tnd 1)).tnd.bothSince = none
    ∧ nx (.peerStateReport true 1) up = up := by decide +kernel
theorem test_tandemCfg : up.takes (msg [0xFF]) 0x0B00 1 false = true ∧ (nx (.tandemCfg (msg [0xFF])) up).get F.TND_CTL_LSWDLY = 200
    ∧ up.admitsAs true = true ∧ (nx (.tandemCfg (msg [0x80000000])) up).tnd.enDue = some true
    ∧ (nx (.tandemCfg (msg [0x80000000])) (tnd 1)).tnd.enDue = none ∧ (nx (.tandemCfg (msg [0])) (tnd 1)).tnd.enDue = some false := by decide +kernel
theorem test_handover : ((tnd 1).put F.TND_STAT_PEER 5).takes (msg [100, 0]) 0x0B01 2 false = true
    ∧ ((nx (.handover (msg [100, 0])) ((tnd 1).put F.TND_STAT_PEER 5)).tnd.handover.map HandSt.h) = some ((tnd 1).roundFrom 100)
    ∧ ((nx (.handover (msg [0, 0])) ((tnd 1).put F.TND_STAT_PEER 5)).tnd.handover.map HandSt.h) = some ((tnd 1).roundFrom 64)
    ∧ rep (nx (.handover (msg [0, 0])) ((tnd 1).put F.TND_STAT_PEER 6)) = some (rcRefused, []) := by decide +kernel
theorem test_tandemStatus : up.takes (msg []) 0x0B02 0 false = true
    ∧ ((rep (nx (.tandemStatus (msg [])) (tnd 1))).map fun r => r.2.take 2) = some [(tnd 1).reg R.TND_STAT, (tnd 1).reg R.TND_LINK] := by decide +kernel
theorem test_handoverBegin : 32 ≤ (handed { h := 32, tok := none } 1).mti + 32 ∧ (nx .handoverBegin (handed { h := 32, tok := none } 1)).tndState = 2
    ∧ (nx .handoverBegin (handed { h := 32, tok := none } 1)).reg R.TND_HOMTIL = 32
    ∧ nx .handoverBegin (handed { h := 33, tok := none } 1) = handed { h := 33, tok := none } 1 ∧ nx .handoverBegin up = up := by decide +kernel
theorem test_handoverCheck : ((nx (.handoverCheck true) (handed { h := 4, tok := none, begun := true, mine := true } 2)).tnd.handover.map HandSt.peer) = some true
    ∧ (nx (.handoverCheck false) (handed { h := 4, tok := none, begun := true, mine := true } 2)).tndState = 1
    ∧ nx (.handoverCheck true) (handed { h := 5, tok := none, begun := true } 2) = handed { h := 5, tok := none, begun := true } 2
    ∧ nx (.handoverCheck true) up = up := by decide +kernel
theorem test_handoverSwitch : nx .handoverSwitch (handed { h := 1, tok := none } 2) = handed { h := 1, tok := none } 2
    ∧ (nx .handoverSwitch (handed ⟨0, some { sender := .master 1, tag := 7, code := 0x0B01 }, true, true, true, false⟩ 2)).tndState = 5
    ∧ (nx .handoverSwitch (handed ⟨0, none, true, false, false, true⟩ 1)).tndState = 1
    ∧ (nx .handoverSwitch (handed ⟨0, none, true, false, false, true⟩ 1)).tnd.handover = none
    ∧ ((tnd 5).put F.TND_STAT_PEER 2).handing = true ∧ (nx .handoverSwitch ((tnd 5).put F.TND_STAT_PEER 2)).tndState = 1 := by decide +kernel

/-- A standby whose round in process begins at MTI 0 of a round of its length. -/
def follow (st : Nat) : State := { low st with eng := { (low st).eng with lastTick := some (low st).roundLen } }
/-- Its round is released. -/
def freed (st : Nat) : State := { follow st with disp := { (follow st).disp with inRound := true, rmti := 0 } }
/-- A good DECIDE record and a good END record. -/
def decideRec : DecideRec := ⟨true, [5], [], [], [], [], none, []⟩
def endRec : EndRec := ⟨true, [], [], [], 0, [], [], 0, 256⟩
theorem test_records_not_followed : up.follows = false ∧ nx (.tandemDecideRecord decideRec) up = up ∧ nx (.tandemInputRecord true []) up = up
    ∧ nx (.tandemAlarmRecord true []) up = up ∧ nx (.tandemEndRecord endRec) up = up ∧ nx .tandemRecordDeadline up = up := by decide +kernel
theorem test_records_bad : (follow 5).follows = true ∧ (nx (.tandemDecideRecord { decideRec with ok := false }) (follow 5)).reg R.TND_RECCNT = 1
    ∧ (nx (.tandemInputRecord false []) (follow 5)).get F.TND_STAT_RECLOST = 1 ∧ (nx (.tandemAlarmRecord false []) (follow 5)).reg R.TND_RECCNT = 1
    ∧ (nx (.tandemEndRecord { endRec with ok := false }) (follow 5)).reg R.TND_RECCNT = 1 := by decide +kernel
theorem test_tandemDecideRecord : (nx (.tandemDecideRecord decideRec) (follow 5)).tnd.decide = some (follow 5).roundLen
    ∧ (nx (.tandemDecideRecord decideRec) (follow 5)).sig.lost = [5] := by decide +kernel
/-- The DECIDE record of the round in process is here. -/
def decided : State := { follow 5 with tnd := { (follow 5).tnd with decide := some 0 } }
theorem test_tandemDecideRecord_sel : (nx (.tandemDecideRecord { decideRec with selector := [⟨3, true, false, true, false, 1, 9, none⟩] }) (follow 5)).get (F.PATCH_FOSTAT_FOCNT 3) = 9 := by decide +kernel
theorem test_tandemInputRecord : decided.tnd.decide = some decided.procMti ∧ (nx (.tandemInputRecord true []) decided).released = true
    ∧ (follow 5).tnd.decide ≠ some (follow 5).procMti
    ∧ kget (nx (.tandemInputRecord true [⟨3, [7]⟩]) (follow 5)).sig.cur 3 = some [7] := by decide +kernel
theorem test_tandemAlarmRecord : (nx (.tandemAlarmRecord true [(2, 9)]) (follow 5)).hamp.alarmEdges = [(2, 9)] := by decide +kernel
/-- CRC-64 of ECMA-182 over the nine characters 1 to 9, whose check value its definition fixes (R361). -/
theorem test_crc64 : crc64 [0x31, 0x32, 0x33, 0x34, 0x35, 0x36, 0x37, 0x38, 0x39] = 0x6C40DF5F0B497347 := by decide +kernel
/-- An END record of the last chunk whose digest is this chip's own, and one whose digest is not; a block that differs. -/
def endSame (s : State) : EndRec :=
  { endRec with image := 0, digest := (endApply { endRec with image := 0 } s).digest ((endApply { endRec with image := 0 } s).ownChunk []) [] }
theorem test_tandemEndRecord : (∀ x ∈ (follow 5).disp.missed, x.1 ∈ endRec.misses) ∧ (follow 5).tndState = 5
    ∧ (follow 5).flt.reacted = [] ∧ endRec.reactions = [] ∧ (follow 6).tndState = 6
    ∧ ({ follow 6 with tnd := { (follow 6).tnd with clean := true } } : State).follows = true
    ∧ (endApply { endRec with chunk := [(0x200, [1])] } (follow 5)).bankState 0x200 ≠ 2 := by decide +kernel
theorem test_tandemEndRecord_same (s : State) :
    (endSame s).digest = (endApply (endSame s) s).digest ((endApply (endSame s) s).ownChunk (endSame s).chunk)
          ((endApply (endSame s) s).ownStates (endSame s).states)
      ∧ (endApply (endSame s) s).ownStates (endSame s).states = (endSame s).states
      ∧ (endApply (endSame s) s).ownChunk (endSame s).chunk = (endSame s).chunk
      ∧ (endSame s).image ≤ (endSame s).pos + ((endSame s).chunk.map fun b => b.2.length).sum := by
  have h : endApply (endSame s) s = endApply { endRec with image := 0 } s := by unfold endSame endApply; dsimp only
  rw [h]
  exact ⟨by unfold endSame; dsimp only; rw [show endRec.chunk = [] from rfl, show endRec.states = [] from rfl]; rfl, rfl, by simp [endSame, endRec, State.ownChunk], Nat.zero_le _⟩
theorem test_tandemEndRecord_differs (d : BitVec 64) : ~~~d ≠ d := fun h => by
  have h := congrArg (BitVec.getLsbD · 0) h
  simp at h
/-- A chip 1000 s on, when every record of its round is late. -/
def later (s : State) : State := { s with time := { s.time with sec := 1000 } }
theorem test_tandemRecordDeadline : (later (follow 5)).recordLate = true ∧ (later (follow 5)).released = false
    ∧ (nx .tandemRecordDeadline (later (follow 5))).tndState = 6
    ∧ (later (freed 5)).recordLate = true ∧ (later (freed 5)).released = true ∧ (nx .tandemRecordDeadline (later (freed 5))).reg R.TND_RECCNT = 1
    ∧ (follow 5).recordLate = false ∧ nx .tandemRecordDeadline (follow 5) = follow 5
    ∧ nx .tandemRecordDeadline { later (freed 5) with tnd := { (freed 5).tnd with ended := some 0 } }
      = { later (freed 5) with tnd := { (freed 5).tnd with ended := some 0 } } := by decide +kernel
theorem test_tandemCopyItem : up.standby = false ∧ nx (.tandemCopyItem (.poke 8 [1])) up = up
    ∧ (nx (.tandemCopyItem (.poke 8 [1])) (low 4)).tnd.pokes = [(8, [1])] ∧ (nx (.tandemCopyItem (.clusterWord 23 63 9)) (low 4)).reg (R.MBX_BUF 23 63) = 9
    ∧ (nx (.tandemCopyItem (.tags (.master 1) [(7, 0x0403)])) (low 4)).tnd.tags = [(.master 1, [(7, 0x0403)])]
    ∧ (low 4).planOf 5 = none ∧ ((nx (.tandemCopyItem (.hamper 5 96 [⟨0, 0, 0, .none, 0, 0, [], false, false, false⟩] none)) (low 4)).hamp.plans.map Plan.p) = [96] := by decide +kernel

/-- SET_ROUND of code 2 copied from the active, and a Hamper it plans anew. -/
theorem test_tandemCopyItem_command : (silwenRow 0x0305 (msg [2])).isSome = true ∧ silwenRow 0xFFFF (msg []) = none
    ∧ (nx (.tandemCopyItem (.command 0x0305 (msg [2]) [])) (low 4)).get F.TIME_ROUND_NHELD = 2
    ∧ nx (.tandemCopyItem (.command 0x0305 (msg []) [])) (low 4) = low 4
    ∧ nx (.tandemCopyItem (.command 0xFFFF (msg []) [])) (low 4) = low 4
    ∧ nx (.tandemCopyItem (.clusterWord 17 0 9)) (low 4) = low 4 := by decide +kernel
theorem test_tandemCopyItem_moved :
    ((nx (.tandemCopyItem (.hamper 5 128 [⟨0, 0, 0, .none, 0, 0, [], false, false, false⟩] none)) (nx (.tandemCopyItem (.hamper 5 96 [⟨0, 0, 0, .none, 0, 0, [], false, false, false⟩] none)) (low 4))).hamp.plans.map Plan.p)
      = [128] := by decide +kernel

/-- One lane of the link is left. -/
def oneLane (st : Nat) : State := { (low st).put F.TND_LINK_LANES 1 with tnd := { (low st).tnd with lanes := 1 } }
theorem test_tandemLaneLoss : (oneLane 5).tnd.lanes.getLsbD 0 = true ∧ (nx (.tandemLaneLoss 0) (oneLane 5)).tndState = 6
    ∧ (nx (.tandemLaneLoss 0) (oneLane 5)).get F.TND_LINK_DOWNEV = 1 ∧ (nx (.tandemLaneLoss 3) (low 5)).tnd.lanes = 7
    ∧ nx (.tandemLaneLoss 3) (oneLane 5) = oneLane 5 := by decide +kernel
theorem test_tandemLaneReturn : nx (.tandemLaneReturn 0 true true) (oneLane 5) = oneLane 5
    ∧ (nx (.tandemLaneReturn 3 true true) (oneLane 5)).tnd.lanes = 9 ∧ (nx (.tandemLaneReturn 3 true true) (oneLane 5)).get F.TND_LINK_REV = 1 := by decide +kernel
/-- The link down since T = 0, at T = 1000 s or at 0. -/
def down (st sec : Nat) : State :=
  { low st with tnd := { (low st).tnd with downSince := some 0 }, time := { (low st).time with sec := BitVec.ofNat 48 sec } }
theorem test_tandemLinkDownTimeout : (down 5 1000).standby = true ∧ 0 + ms32 1000 < (down 5 1000).time.dur
    ∧ (nx .tandemLinkDownTimeout (down 5 1000)).tndState = 3 ∧ nx .tandemLinkDownTimeout (down 5 0) = down 5 0
    ∧ nx .tandemLinkDownTimeout up = up := by decide +kernel
theorem test_resyncCopyDone : (nx (.resyncCopyDone true) (low 3)).tndState = 4 ∧ (nx (.resyncCopyDone false) (low 3)).get F.TND_STAT_COMPAT = 1
    ∧ nx (.resyncCopyDone true) up = up := by decide +kernel


/-! ### Pace, sleep, wake (R376–R390, R455) -/

/-- A transition to Pace 2 at work that ends at a time of its own, with a held request. -/
def pacing (n : Nat) (h : Option PowReq) : State := { up with pwr := { up.pwr with trans := some ⟨2, true, n, none⟩, held := h } }
theorem test_setPace : up.takes (msg [0]) 0x0200 1 false = true ∧ up.powBusy = false ∧ up.pace = 0
    ∧ rep (nx (.setPace (msg [0])) up) = some (rcDone, [0]) ∧ (nx (.setPace (msg [7])) up).pwr.current = some (.pace 3 (some (up.tokOf (msg [7]) 0x0200)))
    ∧ (pacing 0 none).powBusy = true ∧ (nx (.setPace (msg [1])) (pacing 0 none)).pwr.held = some (.pace 1 (some (up.tokOf (msg [1]) 0x0200))) := by decide +kernel
theorem test_sleep : up.takes (msg [1]) 0x0201 1 false = true ∧ up.bulkRuns = false
    ∧ ((nx (.sleep (msg [1])) up).pwr.sleep.map fun r => (r.deep, r.step, r.stile)) = some (true, 0, up.roundFrom (4 * up.roundLen))
    ∧ (nx (.sleep (msg [1])) up).get F.PWR_STAT_TARGET = 5 ∧ rep (nx (.sleep (msg [1])) (up.put F.TND_CTL_EN 1)) = some (rcRefused, [])
    ∧ (nx (.sleep (msg [0])) (pacing 0 none)).pwr.held = some (.sleep false (some (up.tokOf (msg [0]) 0x0201))) := by decide +kernel
theorem test_getPower : up.takes (msg []) 0x0202 0 false = true := by decide +kernel
theorem test_paceTransitionEnd : 0 ≤ (pacing 0 none).time.dur ∧ (nx .paceTransitionEnd (pacing 0 none)).pace = 2 ∧ (nx .paceTransitionEnd (pacing 0 none)).pwr.trans = none
    ∧ (nx .paceTransitionEnd (pacing 0 (some (.pace 3 none)))).pwr.current = some (.pace 3 none)
    ∧ ((nx .paceTransitionEnd (pacing 0 (some (.sleep true none)))).pwr.sleep.map SleepRun.deep) = some true
    ∧ nx .paceTransitionEnd (pacing 1 none) = pacing 1 none ∧ nx .paceTransitionEnd up = up := by decide +kernel
theorem test_tempMeasure : (nx (.tempMeasure 1400) up).get F.SYS_RSTCAUSE_CAUSE = 2 ∧ (nx (.tempMeasure 1399) up).get F.PWR_TEMP_TJ = 1399
    ∧ (nx (.tempMeasure 1001) up).pwr.hot = true ∧ (nx (.tempMeasure 1000) up).pwr.hot = false
    ∧ (nx (.tempMeasure 951) { up with pwr := { up.pwr with hot := true } }).pwr.hot = true
    ∧ (nx (.tempMeasure 950) { up with pwr := { up.pwr with hot := true } }).pwr.hot = false := by decide +kernel

/-- A sleep entry at a step, with so many blocks stopped, from Stile 0, at T = 1000 s. -/
def dozes (deep : Bool) (step blocks : Nat) : State :=
  { up with pwr := { up.pwr with sleep := some { deep := deep, tok := none, stile := 0, step := step, blocks := blocks } },
            time := { up.time with sec := 1000 } }
/-- The same with a wake noted. -/
def woke (deep : Bool) (step blocks : Nat) : State := { dozes deep step blocks with pwr := { (dozes deep step blocks).pwr with woken := true } }
theorem test_sleepRampStart : ((nx .sleepRampStart (dozes false 0 0)).pwr.sleep.map SleepRun.step) = some 1 ∧ (nx .sleepRampStart (dozes false 0 0)).eng.down.isSome = true
    ∧ nx .sleepRampStart (dozes false 1 0) = dozes false 1 0 ∧ nx .sleepRampStart up = up := by decide +kernel
theorem test_sleepReleaseStop : (dozes false 1 0).roundFrom (0 + (dozes false 1 0).samplesOf 1000) ≤ (dozes false 1 0).mti
    ∧ (nx .sleepReleaseStop (dozes false 1 0)).pwr.noRelease = true ∧ (nx .sleepReleaseStop (woke false 1 0)).get F.PWR_SLPSTAT_POINT = 1
    ∧ (nx .sleepReleaseStop (woke false 1 0)).pwr.sleep = none ∧ nx .sleepReleaseStop (dozes false 2 0) = dozes false 2 0 ∧ nx .sleepReleaseStop up = up := by
  decide +kernel
theorem test_sleepDrainDone : (dozes false 2 0).disp.inRound = false ∧ ((nx .sleepDrainDone (dozes false 2 0)).pwr.sleep.map SleepRun.step) = some 3
    ∧ nx .sleepDrainDone (dozes false 3 0) = dozes false 3 0 ∧ nx .sleepDrainDone up = up := by decide +kernel
theorem test_sleepBlockStop : (dozes false 3 6).blockRefuses 6 = none ∧ (nx .sleepBlockStop (dozes false 3 6)).get F.DDR_STAT_SREF = 1
    ∧ ((dozes false 3 3).modSupv fun v => { v with sweep := some ⟨[], 0, 0, false, none, [], [], false⟩ }).blockRefuses 3 = some 0x58
    ∧ (nx .sleepBlockStop ((dozes false 3 3).modSupv fun v => { v with sweep := some ⟨[], 0, 0, false, none, [], [], false⟩ })).get F.PWR_SLPSTAT_BLKID = 0x58
    ∧ nx .sleepBlockStop (dozes false 3 8) = dozes false 3 8 ∧ nx .sleepBlockStop up = up := by decide +kernel
theorem test_sleep_abandoned : (nx .sleepDrainDone (woke false 2 0)).get F.PWR_SLPSTAT_POINT = 2 ∧ (nx .sleepDrainDone (woke false 2 0)).pwr.sleep = none
    ∧ (woke false 3 6).blockRefuses 6 = none ∧ (nx .sleepBlockStop (woke false 3 6)).get F.PWR_SLPSTAT_POINT = 3
    ∧ (nx .sleepEntered (woke false 3 8)).get F.PWR_SLPSTAT_POINT = 3 ∧ (nx .sleepEntered (woke false 3 8)).pwr.sleep = none
    ∧ (woke false 3 6).pwr.held = none := by decide +kernel
theorem test_sleepEntered : (nx .sleepEntered (dozes true 3 8)).get F.PWR_STAT_STATE = 5 ∧ (nx .sleepEntered (dozes true 3 8)).pwr.pwrenM = false
    ∧ (nx .sleepEntered (dozes false 3 8)).pwr.vmret = true ∧ (nx .sleepEntered ((dozes true 3 8).setByte 0x1234567 9)).byte 0x1234567 = 0
    ∧ nx .sleepEntered (dozes true 3 7) = dozes true 3 7 ∧ nx .sleepEntered up = up := by decide +kernel
/-- Asleep: 4 retention, 5 deep. -/
def asleep (st : Nat) : State := up.put F.PWR_STAT_STATE st
theorem test_wakeAddress : up.get F.PWR_WAKECFG_ADDR = 0x3A ∧ nx (.wakeAddress 0x3B) (asleep 4) = asleep 4 ∧ (nx (.wakeAddress 0x3A) (asleep 4)).pwr.woken = true
    ∧ (nx (.wakeAddress 0x3A) (asleep 5)).get F.SYS_RSTCAUSE_CAUSE = 4 ∧ nx (.wakeAddress 0x3A) up = up
    ∧ (dozes true 0 0).sleeping = true ∧ (nx (.wakeAddress 0x3A) (dozes true 0 0)).get F.PWR_STAT_WCAUSE = 1 := by decide +kernel
theorem test_alarmWake : up.alarmWakes 2 true = false ∧ (nx (.alarmWake 2 true) up).pins.alarmIn.getLsbD 2 = true
    ∧ ((asleep 4).put F.PWR_WAKECFG_ALMASK 4).alarmWakes 2 true = true
    ∧ (nx (.alarmWake 2 true) ((asleep 4).put F.PWR_WAKECFG_ALMASK 4)).get F.PWR_STAT_WCAUSE = 2
    ∧ (nx (.alarmWake 2 true) ((asleep 5).put F.PWR_WAKECFG_ALMASK 4)).get F.SYS_RSTCAUSE_CAUSE = 4 := by decide +kernel
theorem test_retentionWake : (nx (.retentionWake 0) { asleep 4 with pwr := { up.pwr with woken := true, vsel := 2 } }).get F.PWR_STAT_STATE = 2
    ∧ (nx (.retentionWake 0) { asleep 4 with pwr := { up.pwr with woken := true, vsel := 2 } }).eng.running = true
    ∧ nx (.retentionWake 0) (asleep 4) = asleep 4 := by decide +kernel


/-! ### Banks, memory errors, the Rambler (R385, R393–R410, R455, R466) -/

/-- A bank in a state of its own: 0 on, 1 retention, 2 off, 3 being zeroed. -/
def bankAt (b st : Nat) : State := up.put (bankSt b) st
theorem test_setBankPower : up.takes (msg [2, 2]) 0x0203 2 false = true ∧ (nx (.setBankPower (msg [0x80000001, 0])) up).get F.PWR_BANKSLP_RET = 0x21
    ∧ up.bankUsed 5 = true ∧ up.bankUsed 3 = false ∧ (nx (.setBankPower (msg [8, 2])) up).get (bankSt 3) = 2
    ∧ rep (nx (.setBankPower (msg [0x20, 1])) up) = some (rcRefused, []) := by decide +kernel
theorem test_setBankPower_on : (nx (.setBankPower (msg [0x2008, 3])) (bankAt 3 2)).get (bankSt 3) = 3
    ∧ rep (nx (.setBankPower (msg [0x2008, 3])) (bankAt 3 2)) = some (rcScheduled, []) ∧ rep (nx (.setBankPower (msg [8, 0])) (bankAt 3 1)) = some (rcDone, []) := by
  decide +kernel
theorem test_bankZeroDone : (bankAt 3 3).get (bankSt 3) = 3 ∧ (nx (.bankZeroDone 3) (bankAt 3 3)).get (bankSt 3) = 0 ∧ nx (.bankZeroDone 3) up = up := by decide +kernel
/-- A master whose port hangs. -/
def hangs (m : Nat) : State := up.modMem fun x => { x with hung := [m] }
theorem test_bankPowerWrite : (hangs 0x10).portOpen 0x10 = false ∧ nx (.bankPowerWrite 0x10 2) (hangs 0x10) = hangs 0x10 ∧ up.portOpen 0x10 = true
    ∧ (nx (.bankPowerWrite 0x10 0x8000000) (up.setByte 0xD123456 7)).get (bankSt 13) = 2
    ∧ (nx (.bankPowerWrite 0x10 0x8000000) (up.setByte 0xD123456 7)).byte 0xD123456 = 0
    ∧ (nx (.bankPowerWrite 0x10 0xC00) up).get (bankSt 5) = 0 := by decide +kernel
theorem test_decodeError : up.decoded 0xE040000 = false ∧ up.decoded 0xE03FFFF = true ∧ nx (.decodeError 0x10 0xE03FFFF) up = up
    ∧ nx (.decodeError 0x10 0xE040000) (hangs 0x10) = hangs 0x10 ∧ (nx (.decodeError 0x10 0xE040000) up).memx.hung = [0x10]
    ∧ (nx (.decodeError 0x11 0xFF0E040000) up).get F.MTX_DECADDRH_ADDR = 0xFF
    ∧ (nx (.decodeError 0x11 0xE040000) (nx (.decodeError 0x10 0xE040000) up)).get F.MTX_DECERR_MASTER = 0x10
    ∧ (nx (.decodeError 0x11 0xE040000) (nx (.decodeError 0x10 0xE040000) up)).get F.MTX_DECERR_COUNT = 2 := by decide +kernel
theorem test_poisonRead : (nx (.poisonRead 0x23 0x100007) up).memx.poison = [0x100000] ∧ (nx (.poisonRead 0x23 0x100007) up).memx.dmaErr = [3]
    ∧ (nx (.poisonRead 0x24 0x100007) up).memx.dmaErr = [] ∧ (nx (.poisonRead 0x24 0x100007) up).get F.MEM_ECCLOG0_MASTER = 0x24 := by decide +kernel
theorem test_scrubLine : up.on F.MEM_SCRUB_EN = true ∧ up.bankState (14 * 0x1000000) < 2 ∧ (nx (.scrubLine 14 9 ⟨[], []⟩) (up.put (F.MEM_ECCCNT_COR 14) 65530)).get (F.MEM_ECCCNT_COR 14) = 65535
    ∧ (14 * 0x1000000 ≤ (0xE03FFFF : Nat) ∧ (0xE03FFFF : Nat) < 14 * 0x1000000 + 0x40000) ∧ nx (.scrubLine 3 1 ⟨[], []⟩) (bankAt 3 2) = bankAt 3 2
    ∧ nx (.scrubLine 3 1 ⟨[], []⟩) (up.put F.MEM_SCRUB_EN 0) = up.put F.MEM_SCRUB_EN 0 := by decide +kernel
theorem test_scrubLine_core : coreHolds 0x20000000 = some (0, true) ∧ coreHolds 0x22F40000 = some (47, false)
    ∧ (nx (.scrubLine 3 0 ⟨[], [0x22F40000]⟩) up).get (F.CLU_ECC_DCOR 5 7) = 1 := by decide +kernel
/-- DDR trained, with its code. -/
def ddrOn : State := (up.put F.DDR_CFG_DENS 1).put F.DDR_STAT_SIZE 14
theorem test_ddrPatrolScrub : ddrOn.on F.DDR_CFG_ECCEN = true ∧ 0x100000008 < 0x100000000 + ddrOn.ddrBytes
    ∧ (nx (.ddrPatrolScrub 3 []) ddrOn).get F.DDR_ECC_COR = 3
    ∧ nx (.ddrPatrolScrub 3 []) up = up := by decide +kernel
/-- The Rambler at work on bank 13, at a row of its own, with so many spares used. -/
def ram (pos used : Nat) : State :=
  (((up.put F.MEM_RAMCFG_EN 1).put F.MEM_RAMCFG_BMASK 0x2000).put (F.MEM_REPAIR_USED 13) used).modMem fun x => { x with ramNext := pos }
theorem test_ramblerRegion : (ram 0 0).ramRuns = true ∧ (ram 0 0).ramRegion 0 = some (13 * 65536) ∧ (nx (.ramblerRegion true) (ram 0 63)).get (F.MEM_REPAIR_USED 13) = 64
    ∧ (nx (.ramblerRegion true) (ram 0 64)).get F.MEM_RAMSTAT_NOSPARE = 1 ∧ (nx (.ramblerRegion false) (ram (13 * 65536 + 65535) 0)).memx.ramNext = 14 * 65536
    ∧ nx (.ramblerRegion true) (ram (14 * 65536) 0) = ram (14 * 65536) 0 ∧ nx (.ramblerRegion true) up = up := by decide +kernel
theorem test_ramblerPassEnd : (ram (14 * 65536) 0).ramRegion (14 * 65536) = none ∧ (nx .ramblerPassEnd (ram (14 * 65536) 0)).get F.MEM_RAMSTAT_PASSES = 1
    ∧ (nx .ramblerPassEnd ((ram (14 * 65536) 0).put F.MEM_RAMCFG_ONEPASS 1)).get F.MEM_RAMCFG_EN = 0
    ∧ nx .ramblerPassEnd (ram 0 0) = ram 0 0 ∧ nx .ramblerPassEnd up = up := by decide +kernel
theorem test_ramblerCfg : (nx (.ramblerEnable 0xC3FF3FFF) up).get F.MEM_RAMCFG_REGINT = 1000 ∧ (nx (.ramblerEnable 0xC3FF3FFF) (up.modMem fun x => { x with ramNext := 9 })).memx.ramNext = 0
    ∧ up.takes (msg [0x80003FFF]) 0x0C00 1 false = true ∧ (nx (.ramblerCfg (msg [0x80003FFF])) up).get F.MEM_RAMCFG_BMASK = 0x3FFF := by decide +kernel


/-! ### Faults, events, counters, the nightly test (R182, R412–R434, R466) -/

/-- A unit in handling. -/
def handling (key : Nat) (h : UnitH) : State := { up with flt := { up.flt with units := [(key, h)] } }
theorem test_faultDetect : firstLevel 5 .core = none ∧ nx (.faultDetect 5 .core 0 0) up = up ∧ nx (.faultDetect 2 .core 48 0) up = up
    ∧ firstLevel 7 .amp = some 3 ∧ (kget (nx (.faultDetect 7 .amp 31 9) up).flt.units (unitKey 5 31)).map UnitH.level = some 3
    ∧ ((nx (.faultDetect 7 .amp 31 9) up).flt.log.map fun r => (bits r.1 23 16, r.2.1, r.2.2.2)) = [(7, 31, 9)] := by decide +kernel
theorem test_faultDetect_again : kget (handling (unitKey 6 1) ⟨2, true, 0, 99, false⟩).flt.units (unitKey (unitCode .net) 1) = some ⟨2, true, 0, 99, false⟩
    ∧ (99 ≠ up.roundAt up.mti) ∧ (kget (nx (.faultDetect 4 .net 1 0) (handling (unitKey 6 1) ⟨2, true, 0, 99, false⟩)).flt.units (unitKey 6 1)).map UnitH.level = some 3 := by
  decide +kernel
theorem test_faultDetect_l4 : firstLevel 11 .engine = some 4 ∧ (nx (.faultDetect 11 .engine 0 0) up).tnd.failed = true
    ∧ nx (.faultDetect 7 .amp 0 0) { up with flt := { up.flt with l4 := true } } = { up with flt := { up.flt with l4 := true } } := by decide +kernel
theorem test_faultHandlingEnd : up.get F.EVT_FLTCFG_CLEAN = 64 ∧ (nx (.faultHandlingEnd .amp 3) (handling (unitKey 5 3) ⟨3, true, 64, 0, false⟩)).flt.units = []
    ∧ nx (.faultHandlingEnd .amp 3) (handling (unitKey 5 3) ⟨3, true, 63, 0, false⟩) = handling (unitKey 5 3) ⟨3, true, 63, 0, false⟩ := by decide +kernel
/-- FAULT_OUT stretched from T = 0, at a second of its own. -/
def stretched (sec : Nat) : State :=
  { up.put F.EVT_FLTSTAT_FOUT 1 with flt := { up.flt with stretch := some 0 }, time := { up.time with sec := BitVec.ofNat 48 sec } }
theorem test_faultOutStretchEnd : 0 + (stretched 1).get F.EVT_FLTCFG_STRETCH * 1000000 * 2 ^ 32 ≤ (stretched 1).time.dur
    ∧ (nx .faultOutStretchEnd (stretched 1)).get F.EVT_FLTSTAT_FOUT = 0 ∧ nx .faultOutStretchEnd (stretched 0) = stretched 0
    ∧ nx .faultOutStretchEnd up = up := by decide +kernel
theorem test_t1sCarrierLost : (nx (.t1sCarrierLost 1) (up.put (F.T1S_STAT_ACT 1) 1)).get (F.T1S_STAT_ACT 1) = 0
    ∧ ((nx (.t1sCarrierLost 1) (up.put (F.T1S_STAT_ACT 1) 1)).flt.log.map fun r => (bits r.1 27 24, r.2.1)) = [(6, 3)] ∧ nx (.t1sCarrierLost 1) up = up := by
  decide +kernel
theorem test_coreRestart : (up.core 47).running = false ∧ ((nx (.coreRestart 47) up).core 47).running = false ∧ ((nx (.coreRestart 47) up).core 47).ended = true := by
  decide +kernel

theorem test_evtSwset : (nx (.evtSwset 8 0x80000001) up).reg (R.EVT_PEND 7) = 0x80000001 ∧ nx (.evtSwset 12 1) up = up ∧ nx (.evtSwset 7 1) up = up := by decide +kernel
theorem test_evtPendClear : (nx (.evtPendClear false 5 0x101) (up.setReg (R.EVT_PEND 5) 0x103)).reg (R.EVT_PEND 5) = 0x102
    ∧ (nx (.evtPendClear true 2 0xFFFFFFFF) (up.setReg (R.MBX_EVPEND 2) 1)).reg (R.MBX_EVPEND 2) = 1 := by decide +kernel
theorem test_gpEventEdge : (nx (.gpEventEdge 31) (up.setReg R.EVT_GPEN 0x80000000)).bitAt (R.EVT_PEND 6) 4 = true ∧ nx (.gpEventEdge 31) up = up
    ∧ (189 + 31 / 4) / 32 = 6 ∧ (189 + 31 / 4) % 32 = 4 := by decide +kernel
theorem test_eventRoute : up.takes (msg [0x03B800, 0x003]) 0x0D00 2 false = true ∧ (nx (.eventRouteSet (msg [0x03B800, 0x003])) up).reg (R.EVT_ROUTE 184) = (nx (.eventRouteSet (msg [0x03B800, 0x003])) up).reg (R.EVT_ROUTE 187)
    ∧ (nx (.eventRouteSet (msg [0x03B800, 0x003])) up).get (F.EVT_ROUTE_DISP 187) = 1 ∧ (nx (.eventRouteSet (msg [0xC800, 0x003])) up).get (F.EVT_ROUTE_DISP 200) = 0
    ∧ (nx (.eventRouteClear (msg [0x500, 0x103])) (up.setReg (R.MBX_EVPEND 5) 0x103)).reg (R.MBX_EVPEND 5) = 0x100 := by decide +kernel
/-- One record in the log. -/
def logged : State := { up with flt := { up.flt with log := [(0x00070005, 1, 2, 3)] } }
theorem test_faultLogRead : up.takes (msg [0x10005]) 0x0D01 1 false = true
    ∧ rep (nx (.faultLogRead (msg [0x10005])) logged) = some (rcDone, [1, 0x00070005, 1, 2, 3]) := by decide +kernel

theorem test_counterSweep : up.readerRuns = true ∧ up.on F.CNT_CFG_EN = true ∧ nx .counterSweep (up.put F.CNT_CFG_EN 0) = up.put F.CNT_CFG_EN 0 := by decide +kernel
theorem test_cntRead : (nx (.cntRead 1888) ((up.setReg R.DISP_ROUNDS 3).modCnt fun c => { c with high := [(1888, 2)] })).reg R.CNT_RDHI = 2
    ∧ (nx (.cntRead 1888) (up.setReg R.DISP_ROUNDS 3)).reg R.CNT_RDLO = 3 ∧ (nx (.cntRead 2960) (up.setReg R.CNT_RDLO 3)).reg R.CNT_RDLO = 0 := by decide +kernel
/-- A dump of counters 1888 and 1889 every round. -/
def dumps : State := (((up.put F.CNT_DCFG_EN 1).put F.CNT_DCFG_P 1).put (F.CNT_DRANGE_FIRST 0) 1888).put (F.CNT_DRANGE_COUNT 0) 2
theorem test_counterDumpLatch : dumps.roundAt dumps.mti / dumps.roundLen % max 1 (dumps.get F.CNT_DCFG_P) = 0 ∧ dumps.cnt.dump = none
    ∧ (nx .counterDumpLatch (dumps.setReg R.DISP_ROUNDS 3)).cnt.dump = some (0, 0, [3, 0]) ∧ (nx .counterDumpLatch dumps).memWord (dumps.dumpBase 2 0 + 12) = 2
    ∧ (nx .counterDumpLatch (dumps.modCnt fun c => { c with dump := some (0, 0, []) })).get F.CNT_DSTAT_SKIP = 1 ∧ nx .counterDumpLatch up = up := by decide +kernel
/-- A dump under way. -/
def dumping : State := dumps.modCnt fun c => { c with dump := some (7, 32, [3, 2 ^ 40]) }
theorem test_counterDumpDone : dumping.get (bankSt 6) = 0 ∧ dumping.dumpBase 2 0 + 16 < 0x7000000
    ∧ (nx .counterDumpDone dumping).memWord (dumping.dumpBase 2 0) = 7 ∧ (nx .counterDumpDone dumping).memWord (dumping.dumpBase 2 0 + 12) = 0x80000002
    ∧ (nx .counterDumpDone dumping).memWord (dumping.dumpBase 2 0 + 28) = 256 ∧ nx .counterDumpDone up = up := by decide +kernel
/-- COUNTER_DUMP_CFG of two words and of ten. -/
def dumpCfg (w1 w2 : Word) : Cmd := msg [w1, w2, 0x10000760, 0, 0, 0, 0, 0, 0, 0]
theorem test_counterDumpCfg : up.takes (msg [0x40000000, 1888]) 0x0D02 2 false = true
    ∧ rep (nx (.counterDumpCfg (msg [0x40000000, 1888])) (up.setReg R.DISP_ROUNDS 3)) = some (rcDone, [3, 0, 0])
    ∧ rep (nx (.counterDumpCfg (msg [0x80000001, 0])) up) = some (rcMalformed, []) ∧ (dumpCfg 0 0).words.length = 10
    ∧ (nx (.counterDumpCfg (dumpCfg 0x80000000 0)) up).get F.CNT_DCFG_P = 1 ∧ (nx (.counterDumpCfg (dumpCfg 0x80000000 0)) up).get (F.CNT_DRANGE_COUNT 0) = 2208 := by
  decide +kernel

/-- A test at Stile `n` with its steps, and one at work. -/
def night (n : Nat) (steps : Nat) : State := { up with night := { up.night with sched := some ⟨n, 0, steps, 0, 0x2000, false, 0⟩ } }
def atNight (r : NightRun) : State := { (tnd 1).put F.TND_STAT_PEER 5 with night := { up.night with run := some r }, time := { up.time with sec := 100 } }
/-- Every step of it passed but DRILL. -/
def passed (d : StepRes) (n : Nat) (a : Option Nat) : NightRun :=
  { cfg := ⟨0, 0, 0x1F, 0, 0, true, 0⟩, ref := .pass, earth := .pass, sweep := .pass, rambler := .pass, drill := d, drills := n, drillAt := a }
theorem test_nightTestCfg : up.takes (msg [0, 0, 0x1FFF, 0, 0]) 0x0D03 5 false = true
    ∧ ((nx (.nightTestCfg (msg [0, 0, 0x1FFF, 0, 0])) up).night.sched.map fun c => (c.start, c.period, c.steps, c.late)) = some (up.roundLen, 168, 31, true)
    ∧ ((nx (.nightTestCfg (msg [7, 0, 0, 0, 0])) up).night.sched.map fun c => (c.start, c.late)) = some (7, false) := by decide +kernel
theorem test_nightTestStart : (nx .nightTestStart (night 0 8)).night.sched = none ∧ ((nx .nightTestStart (night 0 8)).night.run.map fun r => (r.ref, r.rambler)) = some (.skipped, .running)
    ∧ (nx .nightTestStart (night 0 8)).get F.MEM_RAMCFG_BMASK = 0x2000 ∧ nx .nightTestStart (night 1 8) = night 1 8 ∧ nx .nightTestStart up = up := by decide +kernel
theorem test_nightTestDrillReturn : ((passed .running 1 (some 0)).drillAt.any fun x => decide (x + ms32 10000 ≤ (atNight (passed .running 1 (some 0))).time.dur)) = true
    ∧ (nx .nightTestDrillReturn (atNight (passed .running 1 (some 0)))).tnd.handover.isSome = true
    ∧ nx .nightTestDrillReturn (atNight (passed .running 2 (some 0))) = atNight (passed .running 2 (some 0)) ∧ nx .nightTestDrillReturn up = up := by decide +kernel
theorem test_nightTestEnd : (nx .nightTestEnd (atNight (passed .pass 2 none))).night.run = none
    ∧ ((nx .nightTestEnd (atNight (passed .pass 2 none))).flt.log.map fun r => bits r.1 23 16) = [0x85] ∧ nx .nightTestEnd up = up := by decide +kernel


/-! ### Core operations (R143–R168) -/

/-- The worked example of R165. -/
theorem test_decodeBundle_example : (decodeBundle 0x081400718A009420#64).map (bundleCommands 0) =
    some [.mac ⟨0, false⟩ ⟨0, 5, 0, false, 0⟩, .movd ⟨0, false⟩ .m0 6 5, .ldv ⟨0, true⟩ ⟨.m1, 0, 2⟩ 5] := by decide +kernel
theorem test_decodeBundle_illegal : decodeBundle 0xFC00000000000000#64 = none := by
  have h : (decodeBundle 0xFC00000000000000#64).isNone = true := by decide +kernel
  simpa using h
/-- Core 47 at work with registers of its own. -/
def core (c : CoreSt) : State := up.setCore 47 { c with running := true }
/-- The last operation of a bundle, and one before the last. -/
def fin : At := ⟨47, true⟩
def mid : At := ⟨47, false⟩
/-- Core 47 after a bundle of one operation. -/
def ran (i : Instr) (c : CoreSt) : CoreSt := (nx i (core c)).core 47
/-- The writes in flight after it. -/
def left (i : Instr) (c : CoreSt) : List CoreWrite := (ran i c).pend.map Pend.w
/-- D1 and D2 in every lane, D3 with its lane numbers. -/
def regs (x y : Int) : CoreSt :=
  { d := [(1, lanes fun _ => BitVec.ofInt 24 x), (2, lanes fun _ => BitVec.ofInt 24 y), (3, lanes fun i => BitVec.ofNat 24 i)] }
/-- Accumulators 1 and 2 in every lane. -/
def accs (x y : Int) : CoreSt :=
  { acc := [(1, lanes fun _ => BitVec.ofInt 56 x), (2, lanes fun _ => BitVec.ofInt 56 y)], accE := [(1, lanes fun _ => BitVec.ofInt 56 x), (2, lanes fun _ => BitVec.ofInt 56 y)] }
/-- The same with D1 and D2. -/
def both (a x y : Int) : CoreSt := { accs a 0 with d := (regs x y).d }
theorem test_coreRuns : (core {}).coreRuns 47 := by unfold State.coreRuns; decide +kernel
theorem test_not_running : nx (.add fin ⟨0, 1, 2, 0⟩) up = up ∧ (up.core 47).running = false
    ∧ nx (.fence mid) (core { faulted := true }) = core { faulted := true } ∧ nx (.done fin) (core { ended := true }) = core { ended := true } := by decide +kernel
theorem test_not_last : (ran (.add mid ⟨0, 1, 2, 0⟩) (regs 1 2)).d = (regs 1 2).d ∧ (ran (.add mid ⟨0, 1, 2, 0⟩) (regs 1 2)).inBundle = true
    ∧ (ran (.add mid ⟨0, 1, 2, 0⟩) (regs 1 2)).pc = 0 := by decide +kernel
theorem test_mul : (lane ((ran (.mul fin ⟨1, 1, 2, false, 0⟩) (regs (-8388608) (-8388608))).AE 1) 7).toInt = 2 ^ 46
    ∧ (ran (.mul fin ⟨1, 1, 2, false, 0⟩) (regs 3 4)).A 1 = zeroA ∧ (lane ((ran (.mul fin ⟨1, 1, 3, true, 5⟩) (regs 3 4)).AE 1) 0).toInt = 15 := by decide +kernel
theorem test_mac : (lane ((ran (.mac fin ⟨1, 1, 2, false, 0⟩) (both (2 ^ 55 - 3) 1 2)).AE 1) 0).toInt = 2 ^ 55 - 1
    ∧ (lane ((ran (.mac fin ⟨1, 1, 2, false, 0⟩) (both (2 ^ 55 - 2) 1 2)).AE 1) 0).toInt = 2 ^ 55 - 1 := by decide +kernel
theorem test_msu : (lane ((ran (.msu fin ⟨1, 1, 2, false, 0⟩) (both (-2 ^ 55 + 1) 1 2)).AE 1) 0).toInt = -2 ^ 55
    ∧ (lane ((ran (.msu fin ⟨1, 1, 2, false, 0⟩) (both 10 1 2)).AE 1) 0).toInt = 8 := by decide +kernel
/-- A double word 1.0 × 2⁻²³ in the pair of D4 times D1. -/
def pair (lo x : Int) (sys : KMap Word) : CoreSt :=
  { d := [(1, lanes fun _ => BitVec.ofInt 24 x), (4, lanes fun _ => 1), (5, lanes fun _ => BitVec.ofInt 24 lo)], sys := sys,
    accE := [(1, lanes fun _ => 10)] }
theorem test_mulx : (lane ((ran (.mulx fin ⟨1, 4, 1, false, 0⟩) (pair 0 6 [])).AE 1) 0).toInt = 6
    ∧ (lane ((ran (.macx fin ⟨1, 4, 1, false, 0⟩) (pair 0 6 [])).AE 1) 0).toInt = 16
    ∧ (lane ((ran (.msux fin ⟨1, 4, 1, false, 0⟩) (pair 0 6 [])).AE 1) 0).toInt = 4 := by decide +kernel
theorem test_lda : left (.lda fin ⟨1, 0, 1, 0⟩) (regs (-1) 0) = [] ∧ (lane ((ran (.lda fin ⟨1, 0, 1, 0⟩) (regs (-1) 0)).A 1) 7).toInt = -8388608
    ∧ (lane ((ran (.ldad fin ⟨1, 0, 4, 0⟩) (pair 2 0 [])).A 1) 0).toInt = 2 ^ 23 + 1 := by decide +kernel
theorem test_adda : (lane ((ran (.adda fin ⟨1, 2, 0, 0⟩) (accs (2 ^ 55 - 1) 1)).A 1) 0).toInt = 2 ^ 55 - 1
    ∧ (lane ((ran (.suba fin ⟨1, 2, 0, 0⟩) (accs 5 7)).A 1) 0).toInt = -2 ∧ (lane ((ran (.mova fin ⟨1, 2, 0, 0⟩) (accs 5 7)).A 1) 0).toInt = 7
    ∧ (lane ((ran (.clra fin ⟨1, 0, 0, 0⟩) (accs 5 7)).A 1) 0).toInt = 0 := by decide +kernel
theorem test_sha : (lane ((ran (.sha fin ⟨1, 2, 0, 4⟩) (accs 0 16)).A 1) 0).toInt = 1 ∧ (lane ((ran (.sha fin ⟨1, 2, 0, 3⟩) (accs 0 2)).A 1) 0).toInt = 16
    ∧ (lane ((ran (.nega fin ⟨1, 2, 0, 0⟩) (accs 0 (-2 ^ 55))).A 1) 0).toInt = 2 ^ 55 - 1 := by decide +kernel
theorem test_rda : left (.rda fin ⟨1, 0, 9, 0⟩) (accs (2 ^ 46) 0) = [.d 9 (lanes fun _ => 0x7FFFFF), .satOr 0xFF]
    ∧ left (.rda fin ⟨1, 0, 9, 0⟩) (accs (2 ^ 45) 0) = [.d 9 (lanes fun _ => 0x400000)]
    ∧ left (.rdad fin ⟨1, 0, 8, 7⟩) (accs (-1) 0) = [.d 8 (lanes fun _ => 0xFFFFFF), .d 9 (lanes fun _ => 0xFFFFFF)] := by decide +kernel

/-- Lane 0 of a register and the SAT flags after a lane operation on D1 and D2. -/
def res (i : At → VA → Instr) (f : Fin 8) (x y : Int) : Int × Nat :=
  let c := ran (i fin ⟨9, 1, 2, f⟩) (regs x y)
  ((lane (c.D 9) 0).toInt, bits (c.S 0x40) 7 0)
theorem test_add : res .add 0 8388607 1 = (8388607, 255) ∧ res .add 0 8388606 1 = (8388607, 0) ∧ res .sub 0 (-8388608) 1 = (-8388608, 255) := by decide +kernel
theorem test_abs : res .abs 0 (-8388608) 0 = (8388607, 255) ∧ res .abs 0 (-8388607) 0 = (8388607, 0) ∧ res .neg 0 (-8388608) 0 = (8388607, 255) := by decide +kernel
theorem test_minmax : res .min 0 (-1) 1 = (-1, 0) ∧ res .max 0 (-1) 1 = (1, 0) := by decide +kernel
theorem test_logic : res .and 0 0x0F0F0F 0x00FF00 = (0x000F00, 0) ∧ res .or 0 0x0F0F0F 0x00FF00 = (0x0FFF0F, 0) ∧ res .xor 0 (-1) 0x00FF00 = (-0xFF01, 0) := by decide +kernel
theorem test_shifts : res .shl 7 0x8000 0 = (8388607, 255) ∧ res .shl 7 0x7FFF 0 = (0x7FFF00, 0) ∧ res .shr 7 (-256) 0 = (-1, 0) ∧ res .shr 0 4 0 = (2, 0) := by decide +kernel
theorem test_sld : (ran (.sld fin ⟨9, 3, 1, 7⟩) (regs 5 0)).D 9 = [7, 5, 5, 5, 5, 5, 5, 5] ∧ (ran (.sld fin ⟨9, 3, 1, 0⟩) (regs 5 0)).D 9 = [0, 1, 2, 3, 4, 5, 6, 7] := by decide +kernel
theorem test_cmp : ((List.range 6).map fun f => bits ((ran (.cmp fin ⟨0, 1, 3, Fin.ofNat 8 f⟩) (regs 3 0)).S 0x40) 15 8)
    = [0x08, 0xF7, 0xF0, 0xF8, 0x07, 0x0F] ∧ (ran (.cmp fin ⟨0, 1, 3, 6⟩) (regs 3 0)).faulted = true := by decide +kernel
theorem test_sel : (ran (.sel fin ⟨9, 1, 3, 0⟩) { regs 9 0 with sys := [(0x40, 0x8100)] }).D 9 = [9, 1, 2, 3, 4, 5, 6, 9]
    ∧ (ran (.bcast fin ⟨9, 3, 0, 7⟩) (regs 9 0)).D 9 = lanes fun _ => 7 := by decide +kernel

/-- Eight words at the start of the core's own memory, and eight doubles; the pointers and registers of a store. -/
def memCore (ws : List Nat) (c : CoreSt) : State := (up.setBytes 0x22F40000 (ws.flatMap (natBytes 4))).setCore 47 { c with running := true }
def words8 : List Nat := [0x100, 0x200, 0x300, 0x400, 0x500, 0x600, 0x700, 0xFFFFFF00, 1, 2, 3, 4, 5, 6, 7, 8]
/-- Every address of an access local, and no poison. -/
theorem localAccess_of (s : State) (k : Nat) (x : Mem) (n c : Nat) (hp : s.memx.poison = [])
    (h : ((accessAddrs (s.core k) x n c).all fun a =>
      match s.coreTarget k (s.core k) a with | .localMem _ => true | _ => false) = true) : s.localAccess k x n c := by
  intro a ha
  have := List.all_eq_true.mp h a ha
  cases ht : s.coreTarget k (s.core k) a with
  | localMem y => exact ⟨y, rfl, fun i _ => by rw [hp]; exact List.not_mem_nil⟩
  | _ => simp [ht] at this
theorem test_localAccess : (memCore words8 {}).localAccess 47 ⟨.m0, 0, 2⟩ 4 8 ∧ (memCore words8 {}).localAccess 47 ⟨.m1, 0, 0⟩ 8 8
    ∧ (memCore words8 {}).localAccess 47 ⟨.m1, 0, 0⟩ 4 1 :=
  ⟨localAccess_of _ _ _ _ _ (by decide +kernel) (by decide +kernel), localAccess_of _ _ _ _ _ (by decide +kernel) (by decide +kernel),
    localAccess_of _ _ _ _ _ (by decide +kernel) (by decide +kernel)⟩
theorem test_ldv : ((nx (.ldv fin ⟨.m0, 0, 2⟩ 9) (memCore words8 {})).core 47).pend.map Pend.w = [.d 9 [1, 2, 3, 4, 5, 6, 7, 0xFFFFFF]]
    ∧ ((nx (.ldv fin ⟨.m0, 0, 2⟩ 9) (memCore words8 {})).core 47).P 0 = 32 ∧ ((nx (.ldv fin ⟨.m0, 0, 2⟩ 9) (memCore words8 { sys := [(0, 0), (0x10, 32)] })).core 47).P 0 = 0 := by
  decide +kernel
theorem test_ldb : ((nx (.ldb fin ⟨.m0, 0, 0⟩ 9) (memCore words8 { p := [(0, 28)] })).core 47).pend.map Pend.w = [.d 9 (lanes fun _ => 0xFFFFFF)]
    ∧ ((nx (.ldl fin ⟨.m0, 0, 0⟩ 9 7) (memCore words8 { p := [(0, 4)] })).core 47).pend.map Pend.w = [.dLane 9 7 2]
    ∧ ((nx (.ldw fin ⟨.m1, 0, 3⟩ 5) (memCore words8 { p := [(0, 28)] })).core 47).pend.map Pend.w = [.p 5 0xFFFFFF00]
    ∧ ((nx (.ldw fin ⟨.m1, 0, 3⟩ 5) (memCore words8 { p := [(0, 28)] })).core 47).P 0 = 24 := by decide +kernel
theorem test_ldvd : ((nx (.ldvd fin ⟨.m0, 0, 0⟩ 9) (memCore words8 {})).core 47).pend.map Pend.w
      = [.d 8 [2, 4, 6, 0xFFFFFF, 0, 0, 0, 0], .d 9 [0, 0, 0, 0, 0x20000, 0x40000, 0x60000, 0x80000]] := by decide +kernel
theorem test_stv : (nx (.stv fin ⟨.m1, 0, 0⟩ 3) (core { regs 0 0 with p := [(0, 64)] })).memWord (0x22F40000 + 64 + 28) = 0x700
    ∧ (nx (.stl fin ⟨.m1, 0, 0⟩ 3 5) (core { regs 0 0 with p := [(0, 64)] })).memWord (0x22F40000 + 64) = 0x500
    ∧ (nx (.stw fin ⟨.m1, 0, 0⟩ 0) (core { p := [(0, 64)] })).memWord (0x22F40000 + 64) = 64 := by decide +kernel
theorem test_sta : (nx (.sta fin ⟨.m0, 0, 0⟩ 1 0) (core (accs (2 ^ 46) 0))).memWord (0x22F40000 + 28) = 0x7FFFFF00
    ∧ bits (((nx (.sta fin ⟨.m0, 0, 0⟩ 1 0) (core (accs (2 ^ 46) 0))).core 47).S 0x40) 7 0 = 255
    ∧ (nx (.star fin ⟨.m0, 0, 0⟩ 1) (core (accs (-2) 0))).memWord (0x22F40000 + 60) = 0xFFFFFFFF
    ∧ (nx (.star fin ⟨.m0, 0, 0⟩ 1) (core (accs (-2) 0))).memWord (0x22F40000 + 56) = 0xFFFFFFFE := by decide +kernel
theorem test_stad : (nx (.stad fin ⟨.m0, 0, 0⟩ 1 7) (core (accs 3 0))).memWord 0x22F40000 = 0x00030000
    ∧ (nx (.stvd fin ⟨.m0, 0, 0⟩ 4) (core (pair 7 0 []))).memWord 0x22F40000 = 0x00070000
    ∧ (nx (.stvd fin ⟨.m0, 0, 0⟩ 4) (core (pair 7 0 []))).memWord 0x22F40004 = 0x00000100 := by decide +kernel
theorem test_ldar : ((nx (.ldar mid ⟨.m0, 0, 0⟩ 1) (memCore [5, 0, 0xFFFFFFFF, 0xFFFFFFFF] {})).core 47).pend.map (fun p => (p.due, p.rank)) = [(2, 1), (2, 1)] := by
  decide +kernel
theorem test_badAddress : ({} : CoreSt).fault = none ∧ (core { p := [(0, 0x80000)] }).coreTarget 47 { p := [(0, 0x80000)] } 0x80000 = .bad
    ∧ (ran (.ldv fin ⟨.m0, 0, 0⟩ 9) { p := [(0, 0x80000)] }).faulted = true
    ∧ (nx (.ldv fin ⟨.m0, 0, 0⟩ 9) (core { p := [(0, 0x80000)] })).bitAt (R.CLU_FAULT 5 7) 1 = true := by decide +kernel
theorem test_moves : (ran (.movd fin .m0 31 3) (regs 0 0)).D 31 = [0, 1, 2, 3, 4, 5, 6, 7] ∧ (ran (.movp fin .m0 15 1) { p := [(1, 9)] }).P 15 = 9
    ∧ (ran (.addpp fin .m1 0 1 2) { p := [(1, 0xFFFFFFFF), (2, 2)] }).P 0 = 1 ∧ (ran (.addp fin .m1 1 0x200) { p := [(1, 512)] }).P 1 = 0
    ∧ (ran (.movi fin .m1 1 0x3FF) {}).P 1 = 0xFFFFFFFF := by decide +kernel
theorem test_getl : (ran (.getl fin .m0 1 1 7) (regs (-1) 0)).P 1 = 0xFFFFFFFF ∧ (ran (.putl fin .m0 3 7 1) { regs 0 0 with p := [(1, 0xFF123456)] }).D 3 = [0, 1, 2, 3, 4, 5, 6, 0x123456] := by
  decide +kernel
theorem test_movs : sysMask 0x30 (0xFFFFFFFF : Word) = some 0xFFFF ∧ (ran (.movs fin .m0 1 0 0x4B) {}).P 1 = 47
    ∧ left (.movs fin .m0 1 1 0x30) { p := [(1, 0xFFFFFFFF)] } = [.sys 0x30 0xFFFF] ∧ sysMask 0x4B (5 : Word) = none
    ∧ left (.movs fin .m0 1 1 0x4B) { p := [(1, 5)] } = [] ∧ (ran (.movs fin .m0 1 3 0) {}).faulted = true := by decide +kernel


/-! ### Flow of control and interrupts of a core (R155–R157, R163–R165, R172–R181) -/

/-- The core at bundle 8 with its delay or set-up state. -/
def at64 (f : CoreSt → CoreSt) : CoreSt := f { pc := 64 }
theorem test_calm : (at64 id).calm := by unfold CoreSt.calm; decide +kernel
theorem test_br : (ran (.br mid 0 0x7FF) (at64 id)).ctl = .branch 56 ∧ (ran (.br mid 1 1) (at64 id)).ctl = .branch 88
    ∧ (ran (.br mid 4 1) (at64 fun c => { c with sys := [(0x40, 0x100)] })).ctl = .branch 72 ∧ (ran (.br mid 5 1) (at64 id)).ctl = .branch 72
    ∧ (ran (.br mid 6 1) (at64 id)).fault = some (.ill, 0) := by decide +kernel
theorem test_br_flags : ((List.range 6).map fun n => (ran (.br mid (Fin.ofNat 16 n) 1) (at64 fun c => { c with sys := [(0x40, 0x0200)] })).ctl)
    = [.branch 72, .branch 72, .branch 88, .branch 88, .branch 88, .branch 72] := by decide +kernel
theorem test_brz : (ran (.brz mid 1 1) (at64 id)).ctl = .branch 72 ∧ (ran (.brnz mid 1 1) (at64 id)).ctl = .branch 88
    ∧ (ran (.jr mid 1) (at64 fun c => { c with p := [(1, 47)] })).ctl = .branch 40 ∧ (ran (.loop mid 1 2) (at64 fun c => { c with p := [(1, 0x10003)] })).ctl = .loop 3 104 := by
  decide +kernel
theorem test_ctl : (ran (.loopi mid 0xFFFF 0xFFF) (at64 id)).ctl = .loop 65535 (88 + 8 * 4095) ∧ (ran (.done mid) {}).ctl = .done ∧ (ran (.reti mid) {}).ctl = .reti
    ∧ (ran (.brk mid) {}).ctl = .brk ∧ (ran (.lexit mid 7) {}).ctl = .lexit 8 ∧ (ran (.ljmp mid 0x3FFF) {}).ctl = .branch 0x1FFF8 := by decide +kernel
theorem test_setrnd : (ran (.setrnd fin 2) {}).S 0x40 = 0x20000 ∧ (ran (.clrsat fin) { sys := [(0x40, 0x1FF)] }).S 0x40 = 0x100
    ∧ (ran (.lmovi fin 1 0x8000000) {}).P 1 = 0xF8000000 ∧ (ran (.lmovu fin 1 0xFFFFFFF) {}).P 1 = 0xFFFFFFF0 := by decide +kernel
theorem test_call : (ran (.call fin 0x400) (at64 id)).P 15 = 88 ∧ (ran (.call fin 0x400) (at64 id)).after = some (2, .jump (BitVec.ofInt 32 (64 - 8192)))
    ∧ (ran (.lcall fin 5) (at64 id)).P 15 = 88 := by decide +kernel
theorem test_fence : (nx (.fence mid) (core {})).free = up.free + 1 := by decide +kernel
theorem test_bundleEnd : (ran (.movi fin .m0 1 5) (at64 id)).pc = 72 ∧ (ran (.movi fin .m0 1 5) (at64 id)).bn = 1
    ∧ (nx (.movi fin .m0 1 5) (core {})).reg (R.CLU_ISSUE 5 7) = 1 ∧ (nx (.cmp fin ⟨0, 0, 0, 7⟩) (core (at64 id))).get (F.CLU_FPC_FPC 5 7) = 64
    ∧ (nx (.cmp fin ⟨0, 0, 0, 7⟩) (core (at64 id))).bitAt (R.CLU_STAT 5) 15 = true ∧ (nx (.cmp fin ⟨0, 0, 0, 7⟩) (core (at64 id))).bitAt (R.EVT_PEND 1) 15 = true := by
  decide +kernel
theorem test_memory_bundle : (accessAddrs ((core { p := [(0, 64)] }).core 47) ⟨.m0, 0, 0⟩ 4 1).map ((core { p := [(0, 64)] }).coreMem 47) = [some 0x22F40040] := by
  decide +kernel
theorem test_jump : (ran (.ljmp fin 5) (at64 id)).after = some (2, .jump 40) ∧ (ran (.movi fin .m0 1 0) (at64 fun c => { c with after := some (2, .jump 40) })).after = some (1, .jump 40)
    ∧ (ran (.movi fin .m0 1 0) (at64 fun c => { c with after := some (1, .jump 40) })).pc = 40
    ∧ (ran (.movi fin .m0 1 0) (at64 fun c => { c with after := some (1, .skip 48) })).pc = 48
    ∧ (ran (.ljmp fin 5) (at64 fun c => { c with after := some (1, .jump 40) })).faulted = true := by decide +kernel
theorem test_done : (ran (.done fin) (at64 id)).after = some (2, .done) ∧ (ran (.movi fin .m0 1 0) (at64 fun c => { c with after := some (1, .done) })).ended = true
    ∧ (ran (.movi fin .m0 1 0) (at64 fun c => { c with after := some (1, .reti), sys := [(0x41, 800), (0x42, 0x300)], handler := some .debug })).pc = 800
    ∧ (ran (.movi fin .m0 1 0) (at64 fun c => { c with after := some (1, .reti), sys := [(0x41, 800), (0x42, 0x300)], handler := some .debug })).handler = none := by decide +kernel
/-- At the end of a loop's body, with iterations left. -/
def looped (n : Word) : CoreSt := { pc := 104, sys := [(0x30, n), (0x34, 88), (0x38, 104), (0x3C, 1)] }
theorem test_loop : (ran (.loopi fin 3 2) (at64 id)).S 0x38 = 104 ∧ (ran (.loopi fin 3 2) (at64 id)).depth = 1 ∧ (ran (.loopi fin 3 2) (at64 id)).setup = 2
    ∧ (ran (.loopi fin 0 2) (at64 id)).after = some (2, .skip 112) ∧ (ran (.movi fin .m0 1 0) (looped 2)).pc = 88 ∧ (ran (.movi fin .m0 1 0) (looped 2)).S 0x30 = 1
    ∧ (ran (.movi fin .m0 1 0) (looped 1)).pc = 112 ∧ (ran (.movi fin .m0 1 0) (looped 1)).depth = 0 ∧ (ran (.done fin) (looped 2)).faulted = true := by decide +kernel
theorem test_requests : ((nx (.coreDbgreq 47) (core {})).core 47).pendDebug = some 1 ∧ nx (.coreDbgreq 47) (core { pendDebug := some 3 }) = core { pendDebug := some 3 }
    ∧ ((nx (.coreUrgentRaise 47 200) (core {})).core 47).pendUrgent = some 200 := by decide +kernel
/-- Interrupts taken from IVEC 0x400. -/
def asks (f : CoreSt → CoreSt) : CoreSt := f { pc := 64, running := true, sys := [(0x44, 0x400)] }
theorem test_interruptEntry : (asks fun c => { c with pendUrgent := some 5 }).open = true
    ∧ (ran (.interruptEntry 47) (asks fun c => { c with pendUrgent := some 5, pendAbort := true })).pc = 0x480
    ∧ (ran (.interruptEntry 47) (asks fun c => { c with pendUrgent := some 5, pendAbort := true })).S 0x43 = 0x502
    ∧ (ran (.interruptEntry 47) (asks fun c => { c with pendAbort := true, pendDebug := some 1 })).pc = 0x440
    ∧ (ran (.interruptEntry 47) (asks fun c => { c with pendDebug := some 1 })).S 0x43 = 16
    ∧ (ran (.interruptEntry 47) (asks fun c => { c with pendDebug := some 1 })).S 0x41 = 64 := by decide +kernel
theorem test_interruptEntry_shut : (asks fun c => { c with pendDebug := some 1, after := some (1, .done) }).open = false
    ∧ nx (.interruptEntry 47) (core (asks id)) = core (asks id) := by decide +kernel
/-- Core 47 with its state, at T = 10 µs. -/
def at10us (c : CoreSt) : State := { core c with time := { up.time with ns := 10000 } }
theorem test_handlerTimeout : (0 : Nat) + 10 * 1000 * 2 ^ 32 ≤ (at10us {}).time.dur
    ∧ (nx (.handlerTimeout 47) (at10us { pendAbort := true })).bitAt (R.CLU_FAULT 5 7) 4 = true
    ∧ ((nx (.handlerTimeout 47) (at10us { handler := some .debug, outer := [.urgent] })).core 47).ended = true
    ∧ nx (.handlerTimeout 47) (core { pendAbort := true }) = core { pendAbort := true } ∧ nx (.handlerTimeout 47) (at10us {}) = at10us {} := by decide +kernel
theorem test_illegalBundle : (nx (.illegalBundle 47 0xFC00000000000000) (core (at64 id))).get (F.CLU_FPC_FPC 5 7) = 64
    ∧ (nx (.illegalBundle 47 0xFC00000000000000) (core {})).bitAt (R.CLU_FAULT 5 7) 0 = true
    ∧ nx (.illegalBundle 47 0x081400718A009420) (core {}) = core {} := by decide +kernel
/-- A bundle fetched from poisoned instruction memory. -/
def badFetch1 : State := { core (at64 id) with memx := { up.memx with poison := [0x22F00040] } }
theorem test_badFetch : badFetch1.badFetch 47 = true ∧ (core (at64 id)).badFetch 47 = false ∧ (badFetch1.core 47).inBundle = false
    ∧ (nx (.movi mid .m0 1 5) badFetch1).bitAt (R.CLU_FAULT 5 7) 3 = true ∧ ((nx (.movi mid .m0 1 5) badFetch1).core 47).running = false := by decide +kernel
theorem test_coreReady : (core {}).coreReady 47 ∧ badFetch1.coreRuns 47 := by unfold State.coreReady State.coreRuns; decide +kernel
theorem test_reti_nested : (ran (.movi fin .m0 1 0) (at64 fun c => { c with after := some (1, .reti), handler := some .debug, outer := [.urgent] })).handler = some .urgent := by
  decide +kernel
theorem test_loopi_none : (ran (.loopi fin 0 2) (at64 id)).depth = 0 ∧ (ran (.loopi fin 0 2) (at64 id)).S 0x38 = 104 := by decide +kernel


/-! ### The bus, PEEK, POKE, DMA, bulk data, datagrams (R8, R9, R110, R121, R391–R405, R446–R454, R467) -/

theorem test_registerWrite_reach : up.reaches 0x01 0x5FFFFFF = false ∧ up.reaches 0x01 0x6000000 = true ∧ nx (.registerWrite 0x01 0x5FFFFFF 1) up = up
    ∧ nx (.registerWrite 0x01 0x40040000 1) up = up ∧ nx (.registerWrite 0x08 0x6000000 1) (hangs 8) = hangs 8 := by decide +kernel
theorem test_registerWrite_memory : up.reaches 0x08 0xE040000 = true ∧ (nx (.registerWrite 0x08 0xE040000 1) up).memx.hung = [8] ∧ up.bankState 0xDFFFFFC ≠ 2
    ∧ (nx (.registerWrite 0x08 0xDFFFFFF 0x12345678) up).memWord 0xDFFFFFC = 0x12345678 ∧ (bankAt 13 2).bankState 0xDFFFFFC = 2
    ∧ (nx (.registerWrite 0x08 0xDFFFFFF 1) (bankAt 13 2)).mem = up.mem ∧ (nx (.registerWrite 0x08 0xDFFFFFF 1) (bankAt 13 2)).bitAt R.MEM_BANKEV 29 = true := by
  decide +kernel
theorem test_registerWrite_bks : inBks 0xE03FFFC = true ∧ up.bksAdmits 0x16 = false ∧ (nx (.registerWrite 0x16 0xE03FFFC 1) up).get F.MEM_SECSTAT_VMASTER = 0x16
    ∧ (nx (.registerWrite 0x16 0xE03FFFC 1) up).mem = up.mem := by decide +kernel
theorem test_registerWrite_register : (nx (.registerWrite 0x08 (BitVec.ofNat 40 R.EVT_GPEN) 5) up).reg R.EVT_GPEN = 5
    ∧ (nx (.registerWrite 0x08 (BitVec.ofNat 40 (R.EVT_ROUTE 184)) 0) up).get (F.EVT_ROUTE_DISP 184) = 1
    ∧ (kget (nx (.registerWrite 0x08 (BitVec.ofNat 40 (R.CLU_IVEC 5 7)) 0x1FFFF) up).held (R.CLU_IVEC 5 7)).map (fun w => bits w 16 6) = some 0x7FF
    ∧ nx (.registerWrite 0x08 (BitVec.ofNat 40 R.SYS_ID) 0) up = up := by decide +kernel
theorem test_spiWrite : nx (.spiWrite 0x1000 [1, 2, 3]) up = up ∧ nx (.spiWrite 0x2000 [1, 2, 3, 4]) up = up ∧ nx (.spiWrite 0 [1, 2, 3, 4]) up = up
    ∧ up.bound 0x02 4 false = true ∧ up.chan 4 = 0 ∧ (nx (.spiWrite 0x1FC [1, 2, 3, 4]) up) = up
    ∧ (nx (.spiWrite 0x10FC [1, 2, 3, 4, 5]) up).reg (R.MBX_BUF 4 63) = 0x04030201
    ∧ (nx (.spiWrite 0x1000 [1, 2, 3, 4]) (up.put (F.MBX_STAT_STATE 4) 1)).get (F.MBX_STAT_SEQERR 4) = 1 := by decide +kernel
theorem test_spiRead : nx (.spiRead 0 1) (asleep 4) = asleep 4 ∧ (asleep 4).asleep = true
    ∧ (nx (.spiRead 0x10FC 1) (up.setReg (R.MBX_BUF 4 63) 9)).mbx.spiOut = [9] ∧ (nx (.spiRead 0xFFC 1) up).mbx.spiOut = [0] := by decide +kernel
theorem test_peek : up.takes (msg [0xDFFFFFC, 0, 1]) 0x0F00 3 true = true ∧ up.wordsDecoded (pkAddr (msg [0xE03FFFC, 0, 2])) 2 = false
    ∧ rep (nx (.peek (msg [0xE03FFFC, 0, 2])) up) = some (rcRefused, [])
    ∧ rep (nx (.peek (msg [0x100, 0, 2])) ((up.setMemWord 0x100 7).setMemWord 0x104 8)) = some (rcDone, [7, 8]) := by decide +kernel
theorem test_poke : up.takes (msg [0x100, 0, 2, 7, 8]) 0x0F01 3 true = true ∧ rep (nx (.poke (msg [0x100, 0, 2, 7])) up) = some (rcMalformed, [])
    ∧ rep (nx (.poke (msg [0xE03FFFC, 0, 2, 7, 8])) up) = some (rcRefused, []) ∧ (nx (.poke (msg [0x100, 0, 2, 7, 8])) up).memWord 0x104 = 8
    ∧ (nx (.poke (msg [0x100, 0, 2, 7, 8])) (tnd 1)).tnd.pokes = [(0x100, [7, 8])] := by decide +kernel
theorem test_dmaDescriptor : nx (.dmaDescriptor 3 ⟨0, 8, 4⟩) (up.modMem fun x => { x with dmaErr := [3] }) = (up.modMem fun x => { x with dmaErr := [3] })
    ∧ nx (.dmaDescriptor 3 ⟨0, 8, 4⟩) (asleep 4) = asleep 4 ∧ up.decodedRange 0xE03FFFC 8 = false ∧ (nx (.dmaDescriptor 3 ⟨0, 0xE03FFFC, 8⟩) up).memx.dmaErr = [3]
    ∧ up.bankState 0x1000000 ≠ 2 ∧ (nx (.dmaDescriptor 3 ⟨0x100, 0x1000000, 4⟩) (up.setMemWord 0x100 7)).memWord 0x1000000 = 7 := by decide +kernel
/-- A poisoned word in BK0. -/
def poisoned : State := up.modMem fun x => { x with poison := [0x108] }
theorem test_dmaDescriptor_poison : poisoned.firstPoison 0x100 16 = some 0x108 ∧ poisoned.decodedRange 0x100 16 = true
    ∧ (nx (.dmaDescriptor 2 ⟨0x100, 0x2000, 16⟩) poisoned).memx.dmaErr = [2] ∧ (nx (.dmaDescriptor 2 ⟨0x100, 0x2000, 16⟩) poisoned).get F.MEM_ECCLOG0_VALID = 1 := by
  decide +kernel
/-- Bulk data of a FIR of two taps, outstanding for tag 7. -/
def bulky : State := nx (.setParam (msg [0x20600, 0x5001, 2, 0, 0x5002, 0, 0])) up
theorem test_bulkSegment : up.serving ∧ kget (up.outbox 1).bulk 7 = none ∧ up.bulkTurned (.master 1) = none
    ∧ ((kget (bulky.outbox 1).bulk 7).map fun b => (b.next, b.need)) = some (none, 8)
    ∧ nx (.bulkSegment (.master 1) 7 0 [1, 2]) up = up ∧ ((kget ((nx (.bulkSegment (.master 1) 7 0 [1]) bulky).outbox 1).bulk 7).map BulkRun.next) = some none
    ∧ kget ((nx (.bulkSegment (.master 1) 7 0 [1, 2]) bulky).outbox 1).bulk 7 = none := by unfold State.serving; decide +kernel
/-- The same with 300 bytes to come, and with its first segment taken. -/
def bulkier : State := nx (.loadModule (msg [1, 300, 0])) up
theorem test_bulkSegment_next : ((kget ((nx (.bulkSegment (.master 1) 7 0 (List.replicate 62 5)) bulkier).outbox 1).bulk 7).map fun b => (b.next, b.data.length)) = some (some 1, 248)
    ∧ ((kget ((nx (.bulkSegment (.master 1) 7 2 (List.replicate 13 5)) (nx (.bulkSegment (.master 1) 7 0 (List.replicate 62 5)) bulkier)).outbox 1).bulk 7).map BulkRun.next)
      = some (some 1) := by decide +kernel
/-- A bulk message on MB3 that is an orphan, and one of a stamp that is not the bound sender's. -/
def orphan3 : State := (up.setChan 3 1).put (F.MBX_STAT_ORPHAN 3) 1
theorem test_bulkTurned : orphan3.bulkTurned (.master 1) = some rcAborted ∧ cmdChan (.master 1) = some 0
    ∧ (nx (.bulkSegment (.master 1) 7 0 [1]) orphan3).reg (R.MBX_ACK 3) = word rcAborted
    ∧ ((up.setChan 3 1).put (F.MBX_STAMP_SENDER 3) 2).bulkTurned (.master 1) = some rcNotBound := by decide +kernel
theorem test_bulkTimeout : nx (.bulkTimeout (.master 1) 7) up = up ∧ rep (nx (.bulkTimeout (.master 1) 7) bulky) = some (rcMalformed, [])
    ∧ kget ((nx (.bulkTimeout (.master 1) 7) bulky).outbox 1).bulk 7 = none := by decide +kernel
theorem test_remoteDatagram_bad : up.datagramOk 5 1 (datagramBytes 5 1 0x0300 9 []) 0 = false ∧ (nx (.remoteDatagram 5 1 0x0300 9 [] 0) up).reg R.SEC_AUTHFAIL = 1
    ∧ nx (.remoteDatagram 5 1 0x0300 9 [] 0) (asleep 4) = asleep 4 := by decide +kernel
/-- A datagram with the tag its bytes have under a node key of zero words is one to execute. -/
theorem test_remoteDatagram_ok : ∃ mac : BitVec 128, keyed.datagramOk 5 1 (datagramBytes 5 1 0x0300 9 []) mac = true :=
  ⟨_, by unfold State.datagramOk; simp only [keyed]; exact (by simp [show up.sec.shut = false by decide +kernel, show up.sec.replay = [] by decide +kernel]; rfl)⟩


/-! ### How Silwen commands are taken (R104, R107, R113, R114, R351, R380, R441, R451) -/

theorem test_notServing : ¬ (asleep 4).serving ∧ nx (.getTime (msg [])) (asleep 4) = asleep 4 ∧ nx (.peek (msg [])) State.reset = State.reset := by
  unfold State.serving; decide +kernel
theorem test_ack_locked : ackCode (msg [0, 0, 1]) true (lcAt 2 up) = rcLocked
    ∧ ((nx (.peek (msg [0, 0, 1])) (lcAt 2 up)).outbox 1).lastAck = some (rcLocked, 0) ∧ rep (nx (.peek (msg [0, 0, 1])) (lcAt 2 up)) = none := by decide +kernel
theorem test_ack_malformed : ackCode (msg (List.replicate 63 0)) false up = rcMalformed
    ∧ ((nx (.getTime (msg (List.replicate 63 0))) up).outbox 1).lastAck = some (rcMalformed, 0) := by decide +kernel
/-- A command with tag 7 is at work. -/
theorem test_ack_tag : ackCode (msg []) false (nx (.setPace (msg [2])) up) = rcRefused
    ∧ ((nx (.getTime (msg [])) (nx (.setPace (msg [2])) up)).outbox 1).lastAck = some (rcRefused, 0) := by decide +kernel
theorem test_short : ackCode (msg [0]) false up = rcDone ∧ (msg [0]).words.length < 3 ∧ rep (nx (.route (msg [0])) up) = some (rcMalformed, [])
    ∧ ((nx (.route (msg [0])) up).outbox 1).lastAck.map (·.1) = some rcDone := by decide +kernel
theorem test_standby : (low 5).standby = true ∧ standbyTakes 0x0500 = false ∧ rep (nx (.route (msg [0, 5, 0])) (low 5)) = some (rcRefused, [])
    ∧ (nx (.route (msg [0, 5, 0])) (low 5)).hamp.plans = [] ∧ standbyTakes 0x0300 = true := by decide +kernel
theorem test_sleeping : (dozes false 1 0).sleeping = true ∧ sleepTakes 0x0500 = false ∧ rep (nx (.route (msg [0, 5, 0])) (dozes false 1 0)) = some (rcRefused, []) := by
  decide +kernel
theorem test_ack_channel : cmdChan (msg []).sender = none ∨ ∃ m, cmdChan (msg []).sender = some m ∧ up.chan m ≠ 1 := by
  right; exact ⟨0, by decide +kernel, by decide +kernel⟩


/-! ### What WellFormed refuses, and gains (R95, R103, R110, R124, R165) -/

theorem test_wf_words : (Instr.hello (msg (List.replicate 64 0))).wf = false ∧ (Instr.hello (msg (List.replicate 63 0))).wf = true
    ∧ (Instr.hello ⟨.master 0x08, 7, []⟩).wf = false ∧ (Instr.hello ⟨.node 9, 7, []⟩).wf = true := by decide +kernel
theorem test_wf_spi : (Instr.spiDownloadMessage (List.replicate 65 0)).wf = false ∧ (Instr.spiRead 0 0).wf = false ∧ (Instr.spiRead 0 1).wf = true := by decide +kernel
theorem test_wf_bulk : (Instr.bulkSegment (.master 1) 0 0 (List.replicate 63 0)).wf = false ∧ (Instr.remoteDatagram 0 0 0 0 (List.replicate 63 0) 0).wf = false
    ∧ (Instr.bulkSegment (.master 1) 0 0 (List.replicate 62 0)).wf = true := by decide +kernel
theorem test_wf_round : (Instr.roundTick ⟨[], []⟩).wf = false ∧ (Instr.roundTick ⟨List.replicate 32 0, List.replicate 4 0⟩).wf = true := by decide +kernel
theorem test_wf_core : (Instr.cmp fin ⟨0, 0, 0, 6⟩).wf = false ∧ (Instr.cmp fin ⟨0, 0, 0, 5⟩).wf = true ∧ (Instr.br fin 6 0).wf = false
    ∧ (Instr.br fin 5 0).wf = true ∧ (Instr.movs fin .m0 0 3 0).wf = false ∧ (Instr.movs fin .m0 0 2 0).wf = true := by decide +kernel
theorem test_wf_ports : (Instr.tdmFrame 0 { goodFrame with clocks := List.replicate 5000 ⟨true, true, true, true⟩ }).wf = false ∧ (Instr.tdmFrame 0 goodFrame).wf = true
    ∧ (Instr.netFrameRx 0 { frameOf (.other 0) with len := 63 }).wf = false ∧ (Instr.netFrameRx 0 { frameOf (.other 0) with len := 64 }).wf = true
    ∧ (Instr.refMeasure []).wf = false ∧ (Instr.refMeasure (seen 0)).wf = true ∧ (Instr.tandemInputRecord true [⟨8192, []⟩]).wf = false
    ∧ (Instr.tandemInputRecord true [⟨8191, []⟩]).wf = true := by decide +kernel
/-- The table of R124. -/
theorem test_gainCoef : [2400, 0, -600, -1000, -12000, -12100, -14400].map gainCoef = [0x7ECA9D, 0x080000, 0x04026F, 0x0287A3, 1, 0, 0] := by decide +kernel
theorem test_noWords : decodeTableWord 32 0 = none ∧ State.reset.withFetchWord 32 0 = State.reset := by decide +kernel

end Sys2Proof.Tests
end

section
/-! SUPPORT. Planning (R10, R72, R73): a plan that is put after others only moves later. -/

namespace Sys2Proof.Scope
open Sys2Proof.Machine Sys2Proof.Laws

theorem roundLenOf_pos (ncode : Nat) : 0 < roundLenOf ncode := by
  unfold roundLenOf
  split
  · exact Nat.two_pow_pos _
  · decide

/-- A round is at least one sample long. -/
theorem roundLen_pos (s : State) : 0 < s.roundLen := roundLenOf_pos _

/-- The round-start Stile from an MTI on is not before it. -/
theorem le_roundFrom (s : State) (m : Nat) : m ≤ s.roundFrom m := by
  have hpos := roundLen_pos s
  have hdiv := Nat.div_add_mod (m + s.roundLen - 1) s.roundLen
  have hlt := Nat.mod_lt (m + s.roundLen - 1) hpos
  unfold State.roundFrom
  rw [Nat.mul_comm]
  omega

/-- The planned Stile before conflicts leaves the lead time. -/
theorem lead_le_firstStile (s : State) (t lam c : Nat) : t + lam ≤ (s.firstStile t lam c).1 := by
  unfold State.firstStile
  split
  · rename_i h
    exact h.2
  · exact le_roundFrom s _

/-- The planned Stile before conflicts is not before the commit MTI. -/
theorem commit_le_firstStile (s : State) (t lam c : Nat) : c ≤ (s.firstStile t lam c).1 := by
  unfold State.firstStile
  split
  · exact Nat.le_refl c
  · rename_i h
    have hlead := le_roundFrom s (t + lam)
    dsimp only
    omega

/-- A running value that no element moves back ends no earlier than it began. -/
theorem le_foldl_of_le {α : Type} {f : Nat → α → Nat} (hf : ∀ p x, p ≤ f p x) (l : List α) (p : Nat) :
    p ≤ l.foldl f p := by
  induction l generalizing p with
  | nil => exact Nat.le_refl p
  | cons x l ih => exact Nat.le_trans (hf p x) (ih (f p x))

/-- A Stile raised to what each of several bounds asks for. -/
theorem le_foldl_max {α : Type} (g : α → Nat) (l : List α) (p : Nat) : p ≤ l.foldl (fun p x => max p (g x)) p :=
  le_foldl_of_le (fun p x => Nat.le_max_left p (g x)) l p

theorem le_afterAlarms (s : State) (lam : Nat) (us : List Nat) (p : Nat) : p ≤ s.afterAlarms lam us p := by
  unfold State.afterAlarms
  exact le_foldl_of_le (fun p a => le_foldl_max _ _ p) _ p

/-- The Trails of a plan are free at its Stile or later. -/
theorem le_trailsFrom (s : State) (uses : List TrailUse) (es : List Entry) (p : Nat) : p ≤ s.trailsFrom uses es p := by
  unfold State.trailsFrom
  split
  · exact Nat.le_refl p
  · cases hq : (((uses.map (·.ends)).filter fun q => p < q && s.trailsFree uses es q).min?) with
    | none => exact Nat.le_refl p
    | some q =>
      have hmem := List.min?_mem hq
      simp only [List.mem_filter, Bool.and_eq_true, decide_eq_true_eq] at hmem
      exact Nat.le_of_lt hmem.2.1

/-- A plan that is settled keeps at least its planned Stile before conflicts and the Stile it had. -/
theorem le_settle (s : State) (done : List Plan) (pl : Plan) :
    (s.firstStile pl.t pl.lam pl.s).1 ≤ (s.settle done pl).p ∧ pl.p ≤ (s.settle done pl).p := by
  have hrunning := le_foldl_max (s.runningUntil pl.lam) (s.unitsOf pl.entries) (s.firstStile pl.t pl.lam pl.s).1
  have hplans (p : Nat) := le_foldl_of_le (fun p (d : Plan) => le_foldl_max (s.after1 pl.lam d.p d.entries)
    ((s.unitsOf d.entries).filter (s.unitsOf pl.entries).contains) p) done p
  have hconflicts := Nat.le_trans (Nat.le_trans hrunning (hplans _)) (le_afterAlarms s pl.lam (s.unitsOf pl.entries) _)
  have htrails := le_trailsFrom s (s.trailsNow ++ done.flatMap s.trailsOf) pl.entries
  exact ⟨Nat.le_trans (Nat.le_trans hconflicts (Nat.le_max_right pl.p _)) (htrails _),
    Nat.le_trans (Nat.le_max_left pl.p _) (htrails _)⟩

/-- A lead time is at least four rounds. -/
theorem four_rounds_le_lead (s : State) (n : Nat) : 4 * s.roundLen ≤ s.lead n :=
  Nat.mul_le_mul_right _ (Nat.le_max_left 4 _)

/-- A lead time is whole rounds. -/
theorem lead_mod_roundLen (s : State) (n : Nat) : s.lead n % s.roundLen = 0 := Nat.mul_mod_left _ _

/-- Settles O27: every stage of planning takes the maximum with the Stile before it. -/
theorem plansNeverMoveEarlier : Obligations.PlansNeverMoveEarlier := by
  unfold Obligations.PlansNeverMoveEarlier
  intro s done pl
  obtain ⟨hfirst, hold⟩ := le_settle s done pl
  exact ⟨Nat.le_trans (commit_le_firstStile s pl.t pl.lam pl.s) hfirst, hold,
    Nat.le_trans (lead_le_firstStile s pl.t pl.lam pl.s) hfirst, rfl,
    fun n => ⟨four_rounds_le_lead s n, lead_mod_roundLen s n⟩⟩

end Sys2Proof.Scope
end

section
/-! SUPPORT. What a Silwen command sees of the state once it is acknowledged, and how one that is taken completes. -/

namespace Sys2Proof.Scope
open Sys2Proof.Machine Sys2Proof.Laws

/-! ### The acknowledged state -/

section
variable (c : Cmd) (code : Nat) (s : State)

@[simp] theorem accepted_mods : (accepted c code s).mods = s.mods := (accepted_agree c code s).same .mods rfl
@[simp] theorem accepted_boot : (accepted c code s).boot = s.boot := (accepted_agree c code s).same .boot rfl
@[simp] theorem accepted_sec : (accepted c code s).sec = s.sec := (accepted_agree c code s).same .sec rfl
@[simp] theorem accepted_mbx : (accepted c code s).mbx = s.mbx := (accepted_agree c code s).same .mbx rfl
@[simp] theorem accepted_net : (accepted c code s).net = s.net := (accepted_agree c code s).same .net rfl
@[simp] theorem accepted_mem : (accepted c code s).mem = s.mem := (accepted_agree c code s).same .mem rfl
@[simp] theorem accepted_free : (accepted c code s).free = s.free := (accepted_agree c code s).same .free rfl

@[simp] theorem accepted_bytes (a n : Nat) : (accepted c code s).bytes a n = s.bytes a n := by
  simp only [State.bytes, State.byte, accepted_mem]

theorem setChan_box (n st : Nat) : (s.setChan n st).box = s.box :=
  (setChan_agree (W := fun p => p == .regs || p == .disp || p == .ev) s n st Agree.refl rfl rfl rfl).same .box rfl

/-- An acknowledgement leaves the outstanding tags of its sender. -/
theorem ackCmd_tags (rc value : Nat) :
    ((ackCmd c rc value s).outbox (Sender.key c.sender)).tags = (s.outbox (Sender.key c.sender)).tags := by
  have hbox : (ackCmd c rc value s).box
      = (s.modBox (Sender.key c.sender) fun b => { b with lastAck := some (rc, value) }).box := by
    unfold ackCmd
    dsimp only
    split
    · split
      · rw [setChan_box]; rfl
      · rfl
    · rfl
  rw [outbox_of_box hbox, outbox_modBox]

/-- The tag of a command that is taken stands outstanding beside those that did before. -/
theorem accepted_tags : ((accepted c code s).outbox (Sender.key c.sender)).tags
    = kset (s.outbox (Sender.key c.sender)).tags c.tag.toNat code := by
  unfold accepted
  dsimp only
  rw [ackCmd_tags, outbox_modBox]

end

/-- Every other key stands as before a key is written. -/
theorem filter_key_ne_kset {α : Type} (m : KMap α) (k : Nat) (v : α) :
    (kset m k v).filter (fun x => x.1 != k) = m.filter fun x => x.1 != k := by
  induction m with
  | nil => simp [kset]
  | cons x m ih =>
    obtain ⟨j, w⟩ := x
    rw [kset]
    split
    · simp
    · split
      · rename_i hjk
        simp [hjk]
      · simp [List.filter_cons, ih]

/-! ### A command that completes -/

section
variable {i : Instr} {s t : State} {c : Cmd} {code minL : Nat} {x : Bool} {body : Cmd → State → State × Rep} {P : State → Prop}

/-- A command that is taken and answers at once completes: what its body leaves stands, but for the outbox and what
goes to the standby, and its reply is held last. -/
theorem completes_reply {rc value : Nat} {ws : List Word} (hi : exec i s = .next (silwen code minL x body c s))
    (ht : s.takes c code minL x = true) (hb : body c (accepted c code s) = (t, .reply rc value ws))
    (hP : ∀ u, Agree (fun p => p == .box || p == .link) t u → u.answered c code rc value ws → P u) :
    Completes i s P := by
  refine ⟨_, hi.trans (congrArg _ (silwen_takes body ht)), ?_⟩
  rw [hb]
  exact hP _ (answered_agree c code _ (t, .reply rc value ws)) (answered_reply _ rfl)

/-- A command that asks for bulk data waits for it in its sender's outbox. -/
theorem outbox_answered_bulk (before : State) (n : Nat) :
    (answered c code before (t, .bulk n)).outbox (Sender.key c.sender)
      = (holdReply c code (.bulk n) t).outbox (Sender.key c.sender) := by
  apply outbox_of_box
  unfold answered answerCmd State.when State.sendTags
  dsimp only
  split
  · rw [box_send]
  · rfl

/-- A command that is taken and asks for bulk data completes: what its body leaves stands, and it waits with no byte
of them received. -/
theorem completes_bulk {n : Nat} (hi : exec i s = .next (silwen code minL x body c s))
    (ht : s.takes c code minL x = true) (hb : body c (accepted c code s) = (t, .bulk n))
    (hP : ∀ u, Agree (fun p => p == .box || p == .link) t u →
      kget (u.outbox (Sender.key c.sender)).bulk c.tag.toNat = some { code := code, cmd := c, need := n } → P u) :
    Completes i s P := by
  refine ⟨_, hi.trans (congrArg _ (silwen_takes body ht)), ?_⟩
  rw [hb]
  refine hP _ (answered_agree c code _ (t, .bulk n)) ?_
  rw [outbox_answered_bulk, holdReply, outbox_modBox, kget_kset, if_pos rfl]

end

end Sys2Proof.Scope
end

section
/-! SUPPORT. Identity (R439, R455): what HELLO, GET_INFO and SET_NODE answer. -/

namespace Sys2Proof.Scope
open Sys2Proof.Machine Sys2Proof.Laws

variable {s : State} {c : Cmd}

/-! ### HELLO -/

/-- What HELLO changes: the first one is noted and raises the rollback floor. -/
def helloState (s : State) : State :=
  if s.boot.hello then s
  else fuseShow ((s.modBoot fun b => { b with hello := true }).modOtp fun o => { o with floor := max o.floor (min 64 s.boot.floor) })

/-- The epoch a sender is told, 0 for a node. -/
def senderEpoch (s : State) (sd : Sender) : Nat := match sd with | .master m => s.epoch m.toNat | .node _ => 0

/-- The two words HELLO answers to the sender of a command. -/
def helloWords (s : State) (c : Cmd) : List Word :=
  [word (Config.silwenLevel % 256 + s.boot.fwEpoch * 2 ^ 8 + senderEpoch s c.sender * 2 ^ 16 + s.sec.otp.lc * 2 ^ 24
      + s.tndState * 2 ^ 26),
    word (s.get F.SYS_BOOT_VERSION
      + (256 - ((s.outbox (Sender.key c.sender)).tags.filter fun x => x.1 != c.tag.toNat).length) * 65536)]

theorem helloBody_eq (c : Cmd) (s : State) : helloBody c s = (helloState s, .reply rcDone 0 (helloWords s c)) := rfl

theorem helloState_boot (s : State) : (helloState s).boot = { s.boot with hello := true } := by
  unfold helloState
  split
  · rename_i h
    rw [← h]
  · rfl

theorem helloState_floor (s : State) : (helloState s).sec.otp.floor
    = if s.boot.hello then s.sec.otp.floor else max s.sec.otp.floor (min 64 s.boot.floor) := by
  unfold helloState
  split <;> rfl

/-- The acknowledgement of a HELLO changes nothing it answers: its own tag is not counted. -/
theorem helloWords_accepted (c : Cmd) (code : Nat) (s : State) : helloWords (accepted c code s) c = helloWords s c := by
  have htnd : (accepted c code s).tndState = s.tndState := get_accepted _ _ _ _ (by unfold quiet; decide)
  have hver : (accepted c code s).get F.SYS_BOOT_VERSION = s.get F.SYS_BOOT_VERSION :=
    get_accepted _ _ _ _ (by unfold quiet; decide)
  have hepoch : senderEpoch (accepted c code s) c.sender = senderEpoch s c.sender := by
    simp only [senderEpoch, State.epoch, accepted_mbx]
  unfold helloWords
  rw [htnd, hver, hepoch, accepted_boot, accepted_sec, accepted_tags, filter_key_ne_kset]

theorem hello_completes (ht : s.takes c 0x0100 0 false = true) : Completes (.hello c) s fun t =>
    t.boot.hello = true
    ∧ t.sec.otp.floor = (if s.boot.hello then s.sec.otp.floor else max s.sec.otp.floor (min 64 s.boot.floor))
    ∧ t.answered c 0x0100 rcDone 0 (helloWords s c) := by
  refine completes_reply rfl ht (helloBody_eq c _) fun u hu ha => ⟨?_, ?_, ?_⟩
  · rw [show u.boot = _ from hu.same .boot rfl, helloState_boot]
  · rw [show u.sec = _ from hu.same .sec rfl, helloState_floor, accepted_boot, accepted_sec]
  · rwa [helloWords_accepted] at ha

/-! ### GET_INFO -/

/-- The identity page. -/
def identityWords (s : State) : List Word :=
  [s.reg R.SYS_ID] ++ s.sec.otp.devId ++ [s.reg R.SYS_BOOT, loWord s.ownMac.toNat, hiWord s.ownMac.toNat, word s.boot.nodeId]

/-- The declared costs of an OEM module. -/
def oemWords (m : OemModule) : List Word := ((List.range 5).flatMap fun nc => [m.c.getD nc 0, m.r.getD nc 0]).map word

theorem getInfoBody_identity (h : bits (cw c 1) 7 0 = 0) :
    getInfoBody c s = (s, .reply rcDone 0 (identityWords s)) := by
  simp only [getInfoBody, h, if_true]; rfl

theorem getInfoBody_capacities (h : bits (cw c 1) 7 0 = 1) :
    getInfoBody c s = (s, .reply rcDone 0 ((capacities s.rateClass).map word)) := by
  simp only [getInfoBody, h]; rfl

theorem getInfoBody_costs (h : bits (cw c 1) 7 0 = 2) :
    getInfoBody c s = (s.fresh, .reply rcDone 0 (((List.range 5).flatMap s.costRow).map word)) := by
  simp only [getInfoBody, h]; rfl

theorem getInfoBody_oem {m : OemModule} (h : 3 ≤ bits (cw c 1) 7 0) (hm : kget s.mods.oem (bits (cw c 1) 7 0 - 3) = some m) :
    getInfoBody c s = (s, .reply rcDone 0 (oemWords m)) := by
  unfold getInfoBody
  dsimp only
  rw [if_neg (by omega), if_neg (by omega), if_neg (by omega), hm]
  rfl

theorem getInfoBody_noOem (h : 3 ≤ bits (cw c 1) 7 0) (hm : kget s.mods.oem (bits (cw c 1) 7 0 - 3) = none) :
    getInfoBody c s = (s, .reply rcRefused 0 []) := by
  unfold getInfoBody
  dsimp only
  rw [if_neg (by omega), if_neg (by omega), if_neg (by omega), hm]
  rfl

theorem identityWords_accepted (code : Nat) : identityWords (accepted c code s) = identityWords s := by
  unfold identityWords State.ownMac
  rw [reg_accepted _ _ _ (by unfold quiet; decide), reg_accepted _ _ _ (by unfold quiet; decide), accepted_sec,
    accepted_net, accepted_boot]

theorem costRow_accepted (code : Nat) : (accepted c code s).costRow = s.costRow := by
  funext nc
  unfold State.costRow
  rw [accepted_free]

theorem getInfo_identity (ht : s.takes c 0x0101 1 false = true) (h : bits (cw c 1) 7 0 = 0) :
    Completes (.getInfo c) s fun t => t.answered c 0x0101 rcDone 0 (identityWords s) :=
  completes_reply rfl ht (getInfoBody_identity h) fun _ _ ha => by rwa [identityWords_accepted] at ha

theorem getInfo_capacities (ht : s.takes c 0x0101 1 false = true) (h : bits (cw c 1) 7 0 = 1) :
    Completes (.getInfo c) s fun t => t.answered c 0x0101 rcDone 0 ((capacities s.rateClass).map word) :=
  completes_reply rfl ht (getInfoBody_capacities h) fun _ _ ha => by
    rwa [rateClass_same (accepted_sameConfig c _ s)] at ha

theorem getInfo_costs (ht : s.takes c 0x0101 1 false = true) (h : bits (cw c 1) 7 0 = 2) :
    Completes (.getInfo c) s fun t => t.answered c 0x0101 rcDone 0 (((List.range 5).flatMap s.costRow).map word) :=
  completes_reply rfl ht (getInfoBody_costs h) fun _ _ ha => by rwa [costRow_accepted] at ha

theorem getInfo_oem {m : OemModule} (ht : s.takes c 0x0101 1 false = true) (h : 3 ≤ bits (cw c 1) 7 0)
    (hm : kget s.mods.oem (bits (cw c 1) 7 0 - 3) = some m) :
    Completes (.getInfo c) s fun t => t.answered c 0x0101 rcDone 0 (oemWords m) :=
  completes_reply rfl ht (getInfoBody_oem h (by simpa)) fun _ _ ha => ha

theorem getInfo_noOem (ht : s.takes c 0x0101 1 false = true) (h : 3 ≤ bits (cw c 1) 7 0)
    (hm : kget s.mods.oem (bits (cw c 1) 7 0 - 3) = none) :
    Completes (.getInfo c) s fun t => t.answered c 0x0101 rcRefused 0 [] :=
  completes_reply rfl ht (getInfoBody_noOem h (by simpa)) fun _ _ ha => ha

/-! ### SET_NODE -/

theorem setNode_completes (ht : s.takes c 0x0103 1 false = true) : Completes (.setNode c) s fun t =>
    t.boot.nodeId = bits (cw c 1) 8 0 ∧ t.repliedDone c 0x0103 := by
  refine completes_reply rfl ht (t := (accepted c 0x0103 s).modBoot fun b => { b with nodeId := bits (cw c 1) 8 0 }) rfl
    fun u hu ha => ⟨?_, ha⟩
  rw [show u.boot = _ from hu.same .boot rfl, modBoot_boot]

end Sys2Proof.Scope
end

section
/-! SUPPORT. The message store (R226, R410, R466): what CREATE, APPEND, DELETE and QUERY do and answer. -/

namespace Sys2Proof.Scope
open Sys2Proof.Machine Sys2Proof.Laws

section
variable {s : State} {c : Cmd}

/-! ### What the acknowledgement leaves of the store -/

section
variable (c : Cmd) (code : Nat) (s : State)

@[simp] theorem accepted_ddrBytes : (accepted c code s).ddrBytes = s.ddrBytes := by
  unfold State.ddrBytes
  rw [get_accepted _ _ _ _ (by unfold quiet; decide)]

@[simp] theorem accepted_freeStore : (accepted c code s).freeStore = s.freeStore := by
  simp only [State.freeStore, accepted_ddrBytes, accepted_mods]

@[simp] theorem accepted_family (r : Nat) : (accepted c code s).family r = s.family r := by
  simp only [State.family, rateCode_same (accepted_sameConfig c code s)]

@[simp] theorem accepted_msgInUse (m : Nat) : (accepted c code s).msgInUse m = s.msgInUse m := by
  simp only [State.msgInUse, accepted_mods]

@[simp] theorem appendCode_accepted (d : Cmd) : appendCode d (accepted c code s) = appendCode d s := by
  simp only [appendCode, accepted_ddrBytes, accepted_mods, accepted_family, accepted_msgInUse]

end

/-- The state with the stored messages replaced. -/
def withMsgs (s : State) (m : KMap Message) : State := { s with mods := { s.mods with msgs := m } }

/-- A command of the store that only answers a code changes none of the modules. -/
theorem completes_answer {i : Instr} {body : Cmd → State → State × Rep} {code minL rc value : Nat} {x : Bool} {ws : List Word}
    (hi : exec i s = .next (silwen code minL x body c s)) (ht : s.takes c code minL x = true)
    (hb : body c (accepted c code s) = (accepted c code s, .reply rc value ws)) :
    Completes i s fun t => t.mods = s.mods ∧ t.answered c code rc value ws :=
  completes_reply hi ht hb fun _ hu ha => ⟨(hu.same .mods rfl).trans (accepted_mods c code s), ha⟩

/-! ### CREATE -/

theorem msgCreateBody_noSpace (h : s.ddrBytes = 0) : msgCreateBody c s = (s, .reply rcNoSpace 0 []) := by
  simp only [msgCreateBody, h, if_true]; rfl

theorem msgCreateBody_refused (h : s.ddrBytes ≠ 0)
    (hx : (kget s.mods.msgs (msgNo c)).isSome = true ∨ s.family (bits (cw c 2) 2 0) = false
      ∨ s.freeStore < 3 * (cw c 3).toNat) : msgCreateBody c s = (s, .reply rcRefused 0 []) := by
  unfold msgCreateBody
  dsimp only
  rw [if_neg h, if_pos (by simpa [or_assoc] using hx)]
  rfl

theorem msgCreateBody_done (h : s.ddrBytes ≠ 0) (hm : kget s.mods.msgs (msgNo c) = none)
    (hf : s.family (bits (cw c 2) 2 0) = true) (hl : 3 * (cw c 3).toNat ≤ s.freeStore) :
    msgCreateBody c s
      = (withMsgs s (kset s.mods.msgs (msgNo c) ⟨bits (cw c 2) 2 0, (cw c 3).toNat, []⟩), .reply rcDone 0 []) := by
  unfold msgCreateBody
  dsimp only
  rw [if_neg h, if_neg (by simp [hm, hf, hl])]
  rfl

/-! ### APPEND -/

theorem msgAppendBody_refused (h : appendCode c s ≠ rcDone) :
    msgAppendBody c s = (s, .reply (appendCode c s) 0 []) := by
  unfold msgAppendBody
  dsimp only
  rw [if_pos h]
  rfl

theorem msgAppendBody_bulk (h : appendCode c s = rcDone) (hb : bit (cw c 2) 31 = true) (hn : cw c 3 ≠ 0) :
    msgAppendBody c s = (s, .bulk (cw c 3).toNat) := by
  have hn' : (cw c 3).toNat ≠ 0 := fun h0 => hn (BitVec.eq_of_toNat_eq h0)
  unfold msgAppendBody
  dsimp only
  rw [if_neg (by simpa using h), if_pos (by simp [hb, hn'])]

theorem msgAppendBody_outside (h : appendCode c s = rcDone) (hb : bit (cw c 2) 31 = false)
    (hn : 0x1000000 < bits (cw c 2) 23 0 + (cw c 3).toNat) : msgAppendBody c s = (s, .reply rcRefused 0 []) := by
  unfold msgAppendBody
  dsimp only
  rw [if_neg (by simpa using h), if_neg (by simp [hb]), if_pos hn]
  rfl

theorem msgAppendBody_done (h : appendCode c s = rcDone) (hb : bit (cw c 2) 31 = false)
    (hn : bits (cw c 2) 23 0 + (cw c 3).toNat ≤ 0x1000000) :
    msgAppendBody c s = (withMsgs s (kmod s.mods.msgs (msgNo c) fun x =>
      { x with data := x.data ++ s.bytes (bk6 (bits (cw c 2) 23 0)) (cw c 3).toNat }), .reply rcDone 0 []) := by
  unfold msgAppendBody msgAppendRun
  dsimp only
  rw [if_neg (by simpa using h), if_neg (by simp [hb]), if_neg (by omega), h]
  rfl

/-- What a key reads after it is rewritten where it stands. -/
theorem kget_kmod_same {α : Type} (m : KMap α) (k : Nat) (f : α → α) : kget (kmod m k f) k = (kget m k).map f := by
  unfold kmod
  cases h : kget m k with
  | none => exact h
  | some v => simp [kget_kset]

/-! ### DELETE -/

theorem msgDeleteBody_noSpace (h : s.ddrBytes = 0) : msgDeleteBody c s = (s, .reply rcNoSpace 0 []) := by
  simp only [msgDeleteBody, h, if_true]; rfl

theorem msgDeleteBody_refused (h : s.ddrBytes ≠ 0)
    (hx : kget s.mods.msgs (msgNo c) = none ∨ s.msgInUse (msgNo c) = true) :
    msgDeleteBody c s = (s, .reply rcRefused 0 []) := by
  unfold msgDeleteBody
  dsimp only
  rw [if_neg h, if_pos (by simpa using hx)]
  rfl

theorem msgDeleteBody_done {x : Message} (h : s.ddrBytes ≠ 0) (hm : kget s.mods.msgs (msgNo c) = some x)
    (hu : s.msgInUse (msgNo c) = false) :
    msgDeleteBody c s = (withMsgs s (kdel s.mods.msgs (msgNo c)), .reply rcDone 0 []) := by
  unfold msgDeleteBody
  dsimp only
  rw [if_neg h, if_neg (by simp [hm, hu])]
  rfl

/-! ### QUERY -/

theorem msgQueryBody_noSpace (h : s.ddrBytes = 0) : msgQueryBody c s = (s, .reply rcNoSpace 0 []) := by
  simp only [msgQueryBody, h, if_true]; rfl

theorem msgQueryBody_refused (h : s.ddrBytes ≠ 0) (hm : kget s.mods.msgs (msgNo c) = none) :
    msgQueryBody c s = (s, .reply rcRefused 0 []) := by
  unfold msgQueryBody
  rw [if_neg h, hm]
  rfl

theorem msgQueryBody_done {x : Message} (h : s.ddrBytes ≠ 0) (hm : kget s.mods.msgs (msgNo c) = some x) :
    msgQueryBody c s = (s, .reply rcDone 0
      [word (x.data.length / 3), word x.len, word x.rate, word (s.freeStore / 1024)]) := by
  unfold msgQueryBody
  rw [if_neg h, hm]
  rfl

/-! ### The store's commands -/

theorem msgStoreCreate_done (ht : s.takes c 0x0C01 3 false = true) (h : s.ddrBytes ≠ 0)
    (hm : kget s.mods.msgs (msgNo c) = none) (hf : s.family (bits (cw c 2) 2 0) = true)
    (hl : 3 * (cw c 3).toNat ≤ s.freeStore) : Completes (.msgStoreCreate c) s fun t =>
      kget t.mods.msgs (msgNo c) = some ⟨bits (cw c 2) 2 0, (cw c 3).toNat, []⟩ ∧ t.repliedDone c 0x0C01 := by
  refine completes_reply rfl ht (msgCreateBody_done (by simpa) (by simpa) (by simpa) (by simpa)) fun u hu ha => ⟨?_, ha⟩
  rw [show u.mods = _ from hu.same .mods rfl]
  simp [withMsgs, kget_kset]

theorem msgStoreAppend_done (ht : s.takes c 0x0C01 3 false = true) (h : appendCode c s = rcDone)
    (hb : bit (cw c 2) 31 = false) (hn : bits (cw c 2) 23 0 + (cw c 3).toNat ≤ 0x1000000) :
    Completes (.msgStoreAppend c) s fun t =>
      (kget t.mods.msgs (msgNo c) = (kget s.mods.msgs (msgNo c)).map fun x =>
        { x with data := x.data ++ s.bytes (bk6 (bits (cw c 2) 23 0)) (cw c 3).toNat })
      ∧ t.repliedDone c 0x0C01 := by
  refine completes_reply rfl ht (msgAppendBody_done (by simpa) hb hn) fun u hu ha => ⟨?_, ha⟩
  rw [show u.mods = _ from hu.same .mods rfl]
  simp only [withMsgs, kget_kmod_same, accepted_mods, accepted_bytes]

theorem msgStoreAppend_bulk (ht : s.takes c 0x0C01 3 false = true) (h : appendCode c s = rcDone)
    (hb : bit (cw c 2) 31 = true) (hn : cw c 3 ≠ 0) : Completes (.msgStoreAppend c) s fun t =>
      t.mods = s.mods ∧ ∃ r : BulkRun, kget (t.outbox (Sender.key c.sender)).bulk c.tag.toNat = some r
        ∧ r.need = (cw c 3).toNat ∧ r.data = [] ∧ r.cmd = c :=
  completes_bulk rfl ht (msgAppendBody_bulk (by simpa) hb hn) fun _ hu hk =>
    ⟨(hu.same .mods rfl).trans (accepted_mods c _ s), _, hk, rfl, rfl, rfl⟩

/-- Without LPDDR5 no operation of the store is done. -/
theorem msgStore_noSpace (h : s.ddrBytes = 0) {i : Instr}
    (hi : (i = .msgStoreCreate c ∧ s.takes c 0x0C01 3 false = true) ∨ (i = .msgStoreAppend c ∧ s.takes c 0x0C01 3 false = true)
      ∨ (i = .msgStoreDelete c ∧ s.takes c 0x0C01 1 false = true) ∨ (i = .msgStoreQuery c ∧ s.takes c 0x0C01 1 false = true)) :
    Completes i s fun t => t.mods = s.mods ∧ t.answered c 0x0C01 rcNoSpace 0 [] := by
  have h' : (accepted c 0x0C01 s).ddrBytes = 0 := by simpa
  rcases hi with ⟨rfl, ht⟩ | ⟨rfl, ht⟩ | ⟨rfl, ht⟩ | ⟨rfl, ht⟩
  · exact completes_answer rfl ht (msgCreateBody_noSpace h')
  · have hc : appendCode c (accepted c 0x0C01 s) = rcNoSpace := by simp only [appendCode, h', if_true]
    exact completes_answer rfl ht (hc ▸ msgAppendBody_refused (by rw [hc]; decide))
  · exact completes_answer rfl ht (msgDeleteBody_noSpace h')
  · exact completes_answer rfl ht (msgQueryBody_noSpace h')

theorem msgStoreAppend_refused (ht : s.takes c 0x0C01 3 false = true) (h : appendCode c s ≠ rcDone) :
    Completes (.msgStoreAppend c) s fun t => t.mods = s.mods ∧ t.answered c 0x0C01 (appendCode c s) 0 [] := by
  have hb := msgAppendBody_refused (s := accepted c 0x0C01 s) (c := c) (by simpa)
  rw [appendCode_accepted] at hb
  exact completes_answer rfl ht hb

theorem msgStoreDelete_done {x : Message} (ht : s.takes c 0x0C01 1 false = true) (h : s.ddrBytes ≠ 0)
    (hm : kget s.mods.msgs (msgNo c) = some x) (hu : s.msgInUse (msgNo c) = false) :
    Completes (.msgStoreDelete c) s fun t => kget t.mods.msgs (msgNo c) = none ∧ t.repliedDone c 0x0C01 := by
  refine completes_reply rfl ht (msgDeleteBody_done (x := x) (by simpa) (by simpa) (by simpa)) fun u hu ha => ⟨?_, ha⟩
  rw [show u.mods = _ from hu.same .mods rfl]
  simp [withMsgs, kget_kdel]

theorem msgStoreQuery_done {x : Message} (ht : s.takes c 0x0C01 1 false = true) (h : s.ddrBytes ≠ 0)
    (hm : kget s.mods.msgs (msgNo c) = some x) : Completes (.msgStoreQuery c) s fun t =>
      t.mods = s.mods ∧ t.answered c 0x0C01 rcDone 0
        [word (x.data.length / 3), word x.len, word x.rate, word (s.freeStore / 1024)] := by
  have hb := msgQueryBody_done (s := accepted c 0x0C01 s) (c := c) (x := x) (by simpa) (by simpa)
  rw [accepted_freeStore] at hb
  exact completes_answer rfl ht hb

end

/-- Settles O13: each command's body is evaluated on the acknowledged state, which differs from the state before only
in what the answers do not read. -/
theorem identityAndMessageStore : Obligations.IdentityAndMessageStore := by
  unfold Obligations.IdentityAndMessageStore
  refine ⟨fun s c => ⟨hello_completes, fun ht => ⟨getInfo_identity ht, getInfo_capacities ht, getInfo_costs ht,
    fun h => ?_⟩, setNode_completes⟩, fun s c => ⟨msgStoreCreate_done, fun ht h => ⟨msgStoreAppend_done ht h,
    msgStoreAppend_bulk ht h, fun hb hn => ?_⟩, msgStoreAppend_refused, fun ht h hx => ?_, fun h i => msgStore_noSpace h,
    fun ht h => ⟨fun hx => ?_, fun hm => ?_⟩,
    fun ht h x hm => ⟨msgStoreDelete_done ht h hm, msgStoreQuery_done ht h hm⟩⟩⟩
  · cases hm : kget s.mods.oem (bits (cw c 1) 7 0 - 3) with
    | some m => exact getInfo_oem ht h hm
    | none => exact getInfo_noOem ht h hm
  · exact completes_answer rfl ht (msgAppendBody_outside (by simpa) hb hn)
  · exact completes_answer rfl ht (msgCreateBody_refused (by simpa) (by simpa))
  · exact completes_answer rfl ht (msgDeleteBody_refused (by simpa) (by simpa))
  · exact completes_answer rfl ht (msgQueryBody_refused (by simpa) (by simpa))

end Sys2Proof.Scope
end

section
/-! SUPPORT. Memory as a master writes it (R400, R405), and the way a register write takes to its block (R8, R391). -/

namespace Sys2Proof.Scope
open Sys2Proof.Machine Sys2Proof.Laws

/-! ### Banks (R399, R400) -/

section
variable (s : State) (a : Nat)

/-- The state of a bank is the field of its number. -/
theorem bankState_of_bank {a : Nat} (h : a < 0xE000000) : s.bankState a = s.get (bankSt (a / 0x1000000)) := by
  unfold State.bankState
  rw [if_pos h]
  rfl

/-- An access to a bank writes only registers. -/
theorem touch_agree_regs : Agree (fun p => p == .regs) s (s.touch a) := touch_agree s a Agree.refl rfl

theorem touch_mem : (s.touch a).mem = s.mem := (touch_agree_regs s a).same .mem rfl

theorem touch_off (h : s.bankState a = 2) :
    s.touch a = s.put ⟨R.MEM_BANKEV, 16 + a / 0x1000000, 16 + a / 0x1000000⟩ 1 := by
  unfold State.touch
  simp only [h]

/-- A bank that is off stays off under an access. -/
theorem bankState_touch_off (h : s.bankState a = 2) : (s.touch a).bankState a = 2 := by
  rw [touch_off s a h, ← h]
  unfold State.bankState State.get
  rw [reg_put_other _ _ _ (show R.MEM_BANKEV ≠ R.MEM_BANKSTAT by decide)]

/-- A bank that is not off is not off after an access. -/
theorem bankState_touch_ne_off (h : s.bankState a ≠ 2) : (s.touch a).bankState a ≠ 2 := by
  unfold State.touch
  dsimp only
  split
  · rename_i h1
    have ha : a < 0xE000000 := by
      refine Nat.lt_of_not_le fun hn => ?_
      rw [State.bankState, if_neg (Nat.not_lt_of_le hn)] at h1
      cases h1
    change State.bankState ((s.put (bankSt (a / 0x1000000)) 0).put _ 1) a ≠ 2
    have hother := reg_put_other (s.put (bankSt (a / 0x1000000)) 0) ⟨R.MEM_BANKEV, a / 0x1000000, a / 0x1000000⟩ 1
      (show R.MEM_BANKEV ≠ R.MEM_BANKSTAT by decide)
    rw [bankState_of_bank _ ha, State.get, show (bankSt (a / 0x1000000)).addr = R.MEM_BANKSTAT from rfl, hother]
    change (s.put (bankSt (a / 0x1000000)) 0).get (bankSt (a / 0x1000000)) ≠ 2
    rw [get_put _ _ _ (Nat.le_succ _) (by simp only [bankSt]; omega), Nat.zero_mod]
    decide
  · contradiction
  · exact h

variable (vs : List Byte)

/-- Bytes stored in a bank that is off are lost. -/
theorem setBytes_off (h : s.bankState a = 2) : s.setBytes a vs = s.touch a := by
  unfold State.setBytes
  dsimp only
  rw [if_pos (bankState_touch_off s a h)]

/-- Bytes stored outside a bank that is off. -/
theorem setBytes_mem (h : s.bankState a ≠ 2) : (s.setBytes a vs).mem = memWrite s.mem a vs := by
  unfold State.setBytes
  dsimp only
  rw [if_neg (bankState_touch_ne_off s a h)]
  exact congrArg (memWrite · a vs) (touch_mem s a)

end

/-- Bytes read where they were written are the bytes written. -/
theorem bytes_of_mem_write {s t : State} {a : Nat} {vs : List Byte} (h : t.mem = memWrite s.mem a vs) :
    t.bytes a vs.length = vs := by
  apply List.ext_getElem
  · simp [State.bytes]
  · intro i hi _
    have hlt : i < vs.length := by simpa [State.bytes] using hi
    simp [State.bytes, State.byte, h, read_memWrite_inside _ _ _ _ hlt, hlt]

/-- Bytes outside the range written are as they were. -/
theorem byte_of_mem_write {s t : State} {a b : Nat} {vs : List Byte} (h : t.mem = memWrite s.mem a vs)
    (hb : b < a ∨ a + vs.length ≤ b) : t.byte b = s.byte b := by
  rw [State.byte, h, read_memWrite_outside _ _ _ _ hb, State.byte]

/-! ### A register write on its way (R121, R139, R393) -/

section
variable {s : State} {m : Master}

theorem viaPort_open (h : s.portOpen m = true) (f : State → State) : s.viaPort m f = f s := by
  simp only [State.portOpen, Bool.and_eq_true, Bool.not_eq_true', decide_eq_true_eq] at h
  unfold State.viaPort
  obtain ⟨hhung, hawake⟩ := h
  rw [hhung, if_neg (by simpa using hawake)]

theorem viaPort_closed (h : s.portOpen m = false) (f : State → State) : s.viaPort m f = s := by
  have hc : (s.memx.hung.contains m.toNat || decide (4 ≤ s.get F.PWR_STAT_STATE)) = true := by
    rcases Bool.and_eq_false_iff.1 h with h | h
    · rw [Bool.not_eq_false'] at h
      rw [h, Bool.true_or]
    · simp only [decide_eq_false_iff_not, Nat.not_lt] at h
      simp [h]
  unfold State.viaPort
  rw [if_pos hc]

variable {a : Nat} {v : Word}

theorem registerWriteOp_ignored (h : s.reaches m a = false ∨ s.portOpen m = false) : registerWriteOp m a v s = s := by
  unfold registerWriteOp
  rcases h with h | h
  · simp only [h, Bool.not_false, if_true]
  · rw [viaPort_closed h, viaPort_closed h, ite_self, ite_self]

theorem registerWriteOp_undecoded (hr : s.reaches m a = true) (hp : s.portOpen m = true) (hd : s.decoded a = false) :
    registerWriteOp m a v s = decodeErrorOp m.toNat a s := by
  unfold registerWriteOp
  simp only [hr, hd, viaPort_open hp, Bool.not_true, Bool.not_false, Bool.false_eq_true, if_false, if_true]

theorem registerWriteOp_decoded (hr : s.reaches m a = true) (hp : s.portOpen m = true) (hd : s.decoded a = true) :
    registerWriteOp m a v s = wordWrite m a v s := by
  unfold registerWriteOp
  simp only [hr, hd, viaPort_open hp, Bool.not_true, Bool.false_eq_true, if_false]

/-- The first part of the address space is memory (R391). -/
theorem decoded_of_mem (h : a < 0xE040000) : s.decoded a = true := by
  unfold State.decoded
  simp [h]

theorem decoded_of_isReg (h : isReg a = true) : s.decoded a = true := by
  unfold isReg at h
  unfold State.decoded
  simp only [h, Bool.or_true, Bool.true_or]

/-- A word written to the banks or BKS is stored as bytes. -/
theorem registerWriteOp_mem (hr : s.reaches m a = true) (hp : s.portOpen m = true) (h : a < 0xE040000) :
    registerWriteOp m a v s = memStore m.toNat (a / 4 * 4) (wordBytes v) s := by
  have hreg : isReg a = false := decide_eq_false (by omega)
  have himem : s.imemBusy (a / 4 * 4) = false := by
    unfold State.imemBusy
    rw [decide_eq_false (by omega), Bool.false_and]
  rw [registerWriteOp_decoded hr hp (decoded_of_mem h)]
  unfold wordWrite memPut
  rw [hreg, himem, if_neg (by decide), if_neg (by decide)]

theorem registerWriteOp_reg (hr : s.reaches m a = true) (hp : s.portOpen m = true) (h : isReg a = true) :
    registerWriteOp m a v s = regWriteOp m a v s := by
  rw [registerWriteOp_decoded hr hp (decoded_of_isReg h)]
  unfold wordWrite
  rw [if_pos h]

theorem memStore_bank {x : Nat} {vs : List Byte} (h : a < 0xE000000) : memStore x a vs s = s.setBytes a vs := by
  have hb : inBks a = false := decide_eq_false (by omega)
  unfold memStore
  rw [hb]
  rfl

theorem memStore_refused {x : Nat} {vs : List Byte} (hb : inBks a = true) (hx : s.bksAdmits x = false) :
    memStore x a vs s = bksViolation x s := by
  unfold memStore
  rw [hb, hx]
  rfl

/-- The host behind PCIe reaches the mailbox unit and BK6 alone (R121). -/
theorem reaches_pcie (h6 : a < 0x6000000 ∨ 0x7000000 ≤ a) (hm : a < 0x40030000 ∨ 0x40040000 ≤ a) :
    s.reaches 0x01 a = false := by
  unfold State.reaches
  dsimp only
  rw [if_pos rfl, decide_eq_false (by omega), decide_eq_false (by omega), Bool.or_self]

end

/-! ### Decode errors and the secure bank (R393, R405) -/

theorem get_raise (s : State) {e : Nat} {f : FieldRef} (he : e < 256) (hf : quiet f.addr) :
    (s.raise e).get f = s.get f := by
  rw [State.get, State.get, reg_raise s he hf]

theorem raise_agree_parts (s : State) (e : Nat) :
    Agree (fun p => p == .regs || p == .disp || p == .ev) s (s.raise e) := by
  apply raise_agree _ _ Agree.refl <;> rfl

/-- A field of one bit that is set reads 1. -/
theorem get_bit_of_on {s : State} {f : FieldRef} (hf : f.hi = f.lo) (h : s.on f = true) : s.get f = 1 := by
  have hlt := field_lt (s.reg f.addr).toNat f.hi f.lo
  have hw : f.hi + 1 - f.lo = 1 := by omega
  rw [hw, Nat.pow_one] at hlt
  unfold State.on at h
  have hne : s.get f ≠ 0 := by simpa using h
  change s.get f < 2 at hlt
  omega

section
variable {s : State} {m a : Nat} (hd : s.decoded a = false) (hm : s.memx.hung.contains m = false)
include hd hm

/-- An access that is not decoded hangs its master. -/
theorem decodeErrorOp_hangs : m ∈ (decodeErrorOp m a s).memx.hung := by
  unfold decodeErrorOp
  rw [hd, hm, Bool.or_self, if_neg (by decide)]
  dsimp only
  split
  · simp [State.modMem]
  · rw [show State.memx _ = _ from (raise_agree_parts _ 59).same .memx rfl]
    simp [State.modMem]

/-- Its address stands in MTX_DECERR, or an earlier one's does. -/
theorem decodeErrorOp_valid : (decodeErrorOp m a s).get F.MTX_DECERR_VALID = 1 := by
  unfold decodeErrorOp
  rw [hd, hm, Bool.or_self, if_neg (by decide)]
  dsimp only
  split
  · rename_i hv
    exact get_bit_of_on rfl hv
  · rw [get_raise _ (by decide) (by unfold quiet; decide),
      get_put_other _ _ _ _ (by decide) (by decide) (by decide) (.inl (by decide)),
      get_setReg_other _ _ _ (by decide),
      get_put_other _ _ _ _ (by decide) (by decide) (by decide) (.inr (.inr (by decide))),
      get_put _ _ _ (by decide) (by decide)]
    rfl

end

theorem decodeErrorOp_mem (m a : Nat) (s : State) : (decodeErrorOp m a s).mem = s.mem :=
  (decodeErrorOp_agree (W := fun p => p == .regs || p == .disp || p == .ev || p == .memx) m a s Agree.refl rfl rfl rfl rfl).same
    .mem rfl

/-- A refused access is recorded with its master. -/
theorem bksViolation_fields (s : State) (m : Master) : (bksViolation m.toNat s).mem = s.mem
    ∧ (bksViolation m.toNat s).get F.MEM_SECSTAT_VIOL = 1
    ∧ (bksViolation m.toNat s).get F.MEM_SECSTAT_VMASTER = m.toNat := by
  unfold bksViolation
  refine ⟨rfl, ?_, ?_⟩
  · rw [get_put_other _ _ _ _ (by decide) (by decide) (by decide) (.inr (.inl (by decide))),
      get_put _ _ _ (by decide) (by decide)]
    rfl
  · rw [get_put _ _ _ (by decide) (by decide)]
    exact Nat.mod_eq_of_lt m.isLt

/-! ### Registers by block (R8, R9, R392) -/

section
variable {s : State} {m : Master} {a : Nat} {v : Word}

theorem regWriteOp_evt (h4 : a % 4 = 0) (hlo : 0x40020000 ≤ a) (hhi : a < 0x40030000) :
    regWriteOp m a v s = evtRegWrite m (a - 0x40020000) v s := by
  have ha : a / 4 * 4 = a := by omega
  have hb : (a - 0x40000000) / 0x10000 = 2 := by omega
  have ho : a % 0x10000 = a - 0x40020000 := by omega
  unfold regWriteOp
  simp only [ha, hb, ho]

theorem regWriteOp_clu (h4 : a % 4 = 0) (hlo : 0x40A00000 ≤ a) (hhi : a < 0x40A60000) :
    regWriteOp m a v s = cluRegWrite ((a - 0x40000000) / 0x10000 - 0xA0) (a % 0x10000) v s := by
  have ha : a / 4 * 4 = a := by omega
  obtain ⟨b, hab⟩ : ∃ b, (a - 0x40000000) / 0x10000 = b := ⟨_, rfl⟩
  have hb : 0xA0 ≤ b ∧ b < 0xA6 := by omega
  unfold regWriteOp
  simp only [ha, hab]
  split
  case h_12 => rw [if_neg (by omega), if_neg (by omega), if_neg (by omega), if_pos hb]
  all_goals omega

/-- A register without behaviour of its own takes its fields one by one. -/
theorem writeReg_of_fields {fs : List FieldRow} (h : (regRow? a).map RegRow.fields = some fs) :
    s.writeReg a v = fs.foldl (fun s f => s.writeField a v f) s := by
  obtain ⟨r, hr, rfl⟩ := Option.map_eq_some_iff.1 h
  unfold State.writeReg
  rw [hr]

/-- A field of 32 bits is its register. -/
theorem reg_put_word : (s.put ⟨a, 31, 0⟩ (bits v 31 0)).reg a = v := by
  have hold := (s.reg a).isLt
  have hnew := v.isLt
  apply BitVec.eq_of_toNat_eq
  simp only [State.put, reg_setReg_same, word, BitVec.toNat_ofNat, setField, field, bits]
  omega

/-- An idle-only field is held, and reads as written once it is applied (R9). -/
theorem hold_field (hi lo : Nat) (hl : lo ≤ hi) (hh : hi < 32) :
    (kget (s.hold a (word (setField (s.heldReg a).toNat hi lo (bits v hi lo)))).held a).map (fun w => bits w hi lo)
      = some (bits v hi lo) := by
  have hfield : bits (word (setField (s.heldReg a).toNat hi lo (bits v hi lo))) hi lo = bits v hi lo % 2 ^ (hi + 1 - lo) := by
    rw [← field_setField (s.heldReg a).toNat hi lo _ hl, ← field_mod _ _ _ hh hl, ← BitVec.toNat_ofNat]
    rfl
  rw [State.hold, kget_kset, if_pos rfl, Option.map_some, hfield, bits, Nat.mod_mod]

theorem regRow_gpen : (regRow? R.EVT_GPEN).map RegRow.fields = some [⟨31, 0, .rw, .live, .any⟩] := by decide

theorem regRow_sysId : (regRow? R.SYS_ID).map RegRow.fields
    = some [⟨31, 16, .ro, .none, .any⟩, ⟨15, 8, .ro, .none, .any⟩, ⟨7, 0, .ro, .none, .any⟩] := by decide

theorem regRow_ivec (k : Fin 48) : (regRow? (R.CLU_IVEC (k / 8) (k % 8))).map RegRow.fields
    = some [⟨16, 6, .rw, .idle, .any⟩] := by
  revert k
  decide

theorem regWriteOp_gpen : regWriteOp m R.EVT_GPEN v s = s.put ⟨R.EVT_GPEN, 31, 0⟩ (bits v 31 0) := by
  have hw : evtRegWrite m (R.EVT_GPEN - 0x40020000) v s = s.writeReg R.EVT_GPEN v := rfl
  rw [regWriteOp_evt (by decide) (by decide) (by decide), hw, writeReg_of_fields regRow_gpen]
  rfl

theorem regWriteOp_route {e : Nat} (he : e < 256) : regWriteOp m (R.EVT_ROUTE e) v s = routeWrite e v true s := by
  have hoff : R.EVT_ROUTE e - 0x40020000 = 4 * e := by unfold R.EVT_ROUTE; omega
  rw [regWriteOp_evt (by unfold R.EVT_ROUTE; omega) (by unfold R.EVT_ROUTE; omega) (by unfold R.EVT_ROUTE; omega), hoff]
  unfold evtRegWrite
  rw [if_pos (by omega), Nat.mul_div_cancel_left e (by decide)]

/-- What a route reads after it is written: DISP stands where it is fixed (R423). -/
theorem routeWrite_fields (e : Nat) : (routeWrite e v true s).get (F.EVT_ROUTE_VEC e) = bits v 5 0
    ∧ (routeWrite e v true s).get (F.EVT_ROUTE_MSIX e) = bits v 6 6
    ∧ (routeWrite e v true s).get (F.EVT_ROUTE_IRQ e) = bits v 7 7
    ∧ (routeWrite e v true s).get (F.EVT_ROUTE_CC e) = bits v 8 8
    ∧ (e < 184 ∨ 188 ≤ e → (routeWrite e v true s).get (F.EVT_ROUTE_DISP e) = bits v 9 9) := by
  have hreg : (routeWrite e v true s).reg (R.EVT_ROUTE e)
      = word (bits v 7 0 + bits v 8 8 * 2 ^ 8 + (if 184 ≤ e ∧ e < 188 then 1 else bits v 9 9) * 2 ^ 9) :=
    reg_setReg_same _ _ _
  have hget (hi lo : Nat) : (routeWrite e v true s).get ⟨R.EVT_ROUTE e, hi, lo⟩
      = field ((bits v 7 0 + bits v 8 8 * 2 ^ 8 + (if 184 ≤ e ∧ e < 188 then 1 else bits v 9 9) * 2 ^ 9) % 2 ^ 32) hi lo := by
    rw [State.get, hreg, word, BitVec.toNat_ofNat]
  have hd : (if 184 ≤ e ∧ e < 188 then 1 else bits v 9 9) < 2 := by
    split
    · decide
    · exact Nat.mod_lt _ (by decide)
  refine ⟨(hget _ _).trans ?_, (hget _ _).trans ?_, (hget _ _).trans ?_, (hget _ _).trans ?_, fun he => (hget _ _).trans ?_⟩
  case refine_5 => rw [if_neg (by omega)]; simp only [field, bits]; omega
  all_goals
    generalize (if 184 ≤ e ∧ e < 188 then 1 else bits v 9 9) = d at hd ⊢
    simp only [field, bits]
    omega

theorem regWriteOp_ivec (k : Fin 48) : regWriteOp m (R.CLU_IVEC (k / 8) (k % 8)) v s
    = s.hold (R.CLU_IVEC (k / 8) (k % 8)) (word (setField (s.heldReg (R.CLU_IVEC (k / 8) (k % 8))).toNat 16 6 (bits v 16 6))) := by
  have hk := k.isLt
  have ha : R.CLU_IVEC (k / 8) (k % 8) = 0x40A00140 + 0x10000 * (k / 8) + 4 * (k % 8) := rfl
  have hcl : (R.CLU_IVEC (k / 8) (k % 8) - 0x40000000) / 0x10000 - 0xA0 = k / 8 := by omega
  have hoff : R.CLU_IVEC (k / 8) (k % 8) % 0x10000 = 0x140 + 4 * (k % 8) := by omega
  have haddr : 0x40A00000 + k / 8 * 0x10000 + (0x140 + 4 * (k % 8)) = R.CLU_IVEC (k / 8) (k % 8) := by omega
  rw [regWriteOp_clu (by omega) (by omega) (by omega), hcl, hoff]
  unfold cluRegWrite
  rw [if_neg (by omega), haddr, writeReg_of_fields (regRow_ivec k)]
  rfl

theorem regWriteOp_sysId : regWriteOp m R.SYS_ID v s = s := by
  have hw : regWriteOp m R.SYS_ID v s = s.writeReg R.SYS_ID v := rfl
  rw [hw, writeReg_of_fields regRow_sysId]
  rfl

end

end Sys2Proof.Scope
end

section
/-! SUPPORT. REGISTER_WRITE by what its address names (R8, R9, R391-R405). -/

namespace Sys2Proof.Scope
open Sys2Proof.Machine Sys2Proof.Laws

variable {s : State} {m : Master} {a : BitVec 40} {v : Word}

theorem exec_registerWrite {t : State} (h : registerWriteOp m a.toNat v s = t) :
    exec (.registerWrite m a v) s = .next t := congrArg _ h

theorem registerWrite_ignored (h : s.reaches m a.toNat = false ∨ s.portOpen m = false) :
    exec (.registerWrite m a v) s = .next s := exec_registerWrite (registerWriteOp_ignored h)

section
variable (hr : s.reaches m a.toNat = true) (hp : s.portOpen m = true)
include hr hp

theorem registerWrite_undecoded (hd : s.decoded a.toNat = false) : Completes (.registerWrite m a v) s fun t =>
    m.toNat ∈ t.memx.hung ∧ t.get F.MTX_DECERR_VALID = 1 ∧ t.mem = s.mem := by
  have hh : s.memx.hung.contains m.toNat = false := by
    unfold State.portOpen at hp
    simpa using (Bool.and_eq_true_iff.1 hp).1
  exact ⟨_, exec_registerWrite (registerWriteOp_undecoded hr hp hd), decodeErrorOp_hangs hd hh, decodeErrorOp_valid hd hh,
    decodeErrorOp_mem _ _ _⟩

theorem registerWrite_bankOn (ha : a.toNat < 0xE000000) (hb : s.bankState (a.toNat / 4 * 4) ≠ 2) :
    Completes (.registerWrite m a v) s fun t =>
      t.bytes (a.toNat / 4 * 4) 4 = wordBytes v ∧ ∀ b, b / 4 ≠ a.toNat / 4 → t.byte b = s.byte b := by
  have hw := (registerWriteOp_mem (v := v) hr hp (by omega)).trans (memStore_bank (by omega))
  have hmem := setBytes_mem s (a.toNat / 4 * 4) (wordBytes v) hb
  exact ⟨_, exec_registerWrite hw, bytes_of_mem_write hmem, fun b hne =>
    byte_of_mem_write hmem (by change b < _ ∨ _ + 4 ≤ b; omega)⟩

theorem registerWrite_bankOff (ha : a.toNat < 0xE000000) (hb : s.bankState (a.toNat / 4 * 4) = 2) :
    Completes (.registerWrite m a v) s fun t =>
      t.mem = s.mem ∧ t.bitAt R.MEM_BANKEV (16 + a.toNat / 0x1000000) = true := by
  have hw := (registerWriteOp_mem (v := v) hr hp (by omega)).trans (memStore_bank (by omega))
  have hbank : a.toNat / 4 * 4 / 0x1000000 = a.toNat / 0x1000000 := by omega
  refine ⟨_, exec_registerWrite hw, ?_⟩
  rw [setBytes_off s _ _ hb, touch_off s _ hb, hbank]
  refine ⟨rfl, ?_⟩
  unfold State.bitAt State.on
  rw [get_put _ _ _ (Nat.le_refl _) (by dsimp only; omega)]
  simp

theorem registerWrite_secure (hb : inBks (a.toNat / 4 * 4) = true) (hx : s.bksAdmits m.toNat = false) :
    Completes (.registerWrite m a v) s fun t =>
      t.mem = s.mem ∧ t.get F.MEM_SECSTAT_VIOL = 1 ∧ t.get F.MEM_SECSTAT_VMASTER = m.toNat := by
  have ha : a.toNat < 0xE040000 := by
    unfold inBks at hb
    have := of_decide_eq_true hb
    omega
  exact ⟨_, exec_registerWrite ((registerWriteOp_mem hr hp ha).trans (memStore_refused hb hx)), bksViolation_fields s m⟩

/-- A write to a block register is the block's. -/
theorem exec_registerWrite_reg {t : State} {r : Nat} (ha : a.toNat = r) (hreg : isReg r = true)
    (h : regWriteOp m r v s = t) : exec (.registerWrite m a v) s = .next t := by
  subst ha
  exact exec_registerWrite ((registerWriteOp_reg hr hp hreg).trans h)

theorem registerWrite_gpen (ha : a.toNat = R.EVT_GPEN) : Completes (.registerWrite m a v) s fun t =>
    t.reg R.EVT_GPEN = v ∧ t.mem = s.mem ∧ ∀ b, b ≠ R.EVT_GPEN → t.reg b = s.reg b :=
  ⟨_, exec_registerWrite_reg hr hp ha (by decide) regWriteOp_gpen, reg_put_word, rfl,
    fun _ hb => reg_put_other s _ _ hb.symm⟩

theorem registerWrite_route {e : Nat} (he : e < 256) (ha : a.toNat = R.EVT_ROUTE e) :
    Completes (.registerWrite m a v) s fun t =>
      t.get (F.EVT_ROUTE_VEC e) = bits v 5 0 ∧ t.get (F.EVT_ROUTE_MSIX e) = bits v 6 6 ∧ t.get (F.EVT_ROUTE_IRQ e) = bits v 7 7
      ∧ t.get (F.EVT_ROUTE_CC e) = bits v 8 8 ∧ (e < 184 ∨ 188 ≤ e → t.get (F.EVT_ROUTE_DISP e) = bits v 9 9) :=
  ⟨_, exec_registerWrite_reg hr hp ha (decide_eq_true (by unfold R.EVT_ROUTE; omega)) (regWriteOp_route he), routeWrite_fields e⟩

theorem registerWrite_ivec (k : Fin 48) (ha : a.toNat = R.CLU_IVEC (k / 8) (k % 8)) :
    Completes (.registerWrite m a v) s fun t =>
      t.regs = s.regs ∧ (kget t.held a.toNat).map (fun w => bits w 16 6) = some (bits v 16 6) := by
  refine ⟨_, exec_registerWrite_reg hr hp ha (decide_eq_true (by unfold R.CLU_IVEC; omega)) (regWriteOp_ivec k), rfl, ?_⟩
  rw [ha]
  exact hold_field 16 6 (by decide) (by decide)

theorem registerWrite_sysId (ha : a.toNat = R.SYS_ID) : exec (.registerWrite m a v) s = .next s :=
  exec_registerWrite_reg hr hp ha (by decide) regWriteOp_sysId

end

end Sys2Proof.Scope
end

section
/-! SUPPORT. The SPI target (R121), and the bus writes as a whole. -/

namespace Sys2Proof.Scope
open Sys2Proof.Machine Sys2Proof.Laws

section
variable {s : State}

/-! ### Writes -/

/-- Steps that each leave a state leave it in turn. -/
theorem each_eq_self {α : Type} {l : List α} {f : α → State → State} (h : ∀ x ∈ l, f x s = s) : s.each l f = s := by
  unfold State.each
  induction l with
  | nil => rfl
  | cons x l ih => rw [List.foldl_cons, h x List.mem_cons_self, ih fun y hy => h y (List.mem_cons_of_mem x hy)]

theorem bytesWords_length (bs : List Byte) : (bytesWords bs).length = (bs.length + 3) / 4 := by
  simp [bytesWords]

/-- Four bytes are one word. -/
theorem bytesWords_of_four {bs : List Byte} (h : bs.length = 4) : bytesWords bs = [word (bytesNat bs)] := by
  unfold bytesWords
  rw [h]
  change [word (bytesNat ((bs.drop 0).take 4))] = _
  rw [List.drop_zero, List.take_of_length_le (Nat.le_of_eq h)]

/-- A transaction from a closed port, without a whole word, or wholly outside MB4 to MB7 is discarded. -/
theorem spiWriteOp_ignored {a : Nat} {data : List Byte} (h : s.portOpen 0x02 = false ∨ data.length < 4 ∨ 0x2000 ≤ a
    ∨ a / 4 * 4 + data.length ≤ 0x1000) : spiWriteOp a data s = s := by
  refine each_eq_self fun x hx => ?_
  have hlt := List.snd_lt_of_mem_zipIdx hx
  rw [bytesWords_length, List.length_take] at hlt
  dsimp only
  split
  · have hp : s.portOpen 0x02 = false := by
      rcases h with h | h
      · exact h
      · omega
    exact viaPort_closed hp _
  · rfl

/-- A transaction of one whole word in MB4 to MB7 writes that word. -/
theorem spiWriteOp_word {a : Nat} {data : List Byte} (hp : s.portOpen 0x02 = true) (hlo : 0x1000 ≤ a / 4 * 4)
    (hhi : a / 4 * 4 < 0x2000) (h4 : 4 ≤ data.length) (h8 : data.length < 8) :
    spiWriteOp a data s = mbxRegWrite 0x02 (a / 4 * 4) (word (bytesNat (data.take 4))) s := by
  have hlen : data.length / 4 * 4 = 4 := by omega
  unfold spiWriteOp
  rw [hlen, bytesWords_of_four (by rw [List.length_take]; omega)]
  change (if 0x1000 ≤ a / 4 * 4 ∧ a / 4 * 4 < 0x2000 then _ else s) = _
  rw [if_pos ⟨hlo, hhi⟩, viaPort_open hp]
  rfl

/-- The words of a channel's buffer are the first of its registers. -/
theorem mbxRegWrite_buf (m : Master) (v : Word) {n w : Nat} (hn : n < 32) (hw : w < 64) :
    mbxRegWrite m (0x400 * n + 4 * w) v s = mbxBufWrite m n w v s := by
  have hch : (0x400 * n + 4 * w) / 0x400 = n := by omega
  have hreg : (0x400 * n + 4 * w) % 0x400 = 4 * w := by omega
  unfold mbxRegWrite
  rw [if_pos (by omega)]
  dsimp only
  rw [hch, hreg, if_pos (by omega), Nat.mul_div_cancel_left w (by decide)]

section
variable {m : Master} {n w : Nat} {v : Word}

theorem mbxBufWrite_done (hb : s.bound m n false = true) (hc : s.chan n = 0) :
    mbxBufWrite m n w v s = s.setReg (R.MBX_BUF n w) v := by
  unfold mbxBufWrite State.sideWrite
  simp [hb, hc]

theorem mbxBufWrite_unbound (hb : s.bound m n false = false) :
    mbxBufWrite m n w v s = s.put (F.MBX_STAT_BINDERR n) 1 := by
  unfold mbxBufWrite State.sideWrite
  simp [hb]

theorem mbxBufWrite_outOfPlace (hb : s.bound m n false = true) (hc : s.chan n ≠ 0) :
    mbxBufWrite m n w v s = s.put (F.MBX_STAT_SEQERR n) 1 := by
  unfold mbxBufWrite State.sideWrite
  simp [hb, hc]

/-- An error bit of a channel leaves its buffer. -/
theorem reg_buf_put_stat (f : FieldRef) (hf : f.addr = R.MBX_STAT n) (hw : w < 64) (x : Nat) :
    (s.put f x).reg (R.MBX_BUF n w) = s.reg (R.MBX_BUF n w) := by
  apply reg_put_other
  rw [hf]
  unfold R.MBX_STAT R.MBX_BUF
  omega

end

section
variable {a : BitVec 24} {data : List Byte} {n w : Nat}

theorem spiWrite_ignored (h : s.portOpen 0x02 = false ∨ data.length < 4 ∨ 0x2000 ≤ a.toNat
    ∨ a.toNat / 4 * 4 + data.length ≤ 0x1000) : exec (.spiWrite a data) s = .next s :=
  congrArg _ (spiWriteOp_ignored h)

variable (hp : s.portOpen 0x02 = true) (hn : 4 ≤ n) (hn' : n ≤ 7) (hw : w < 64) (ha : a.toNat / 4 * 4 = 0x400 * n + 4 * w)
  (h4 : 4 ≤ data.length) (h8 : data.length < 8)
include hp hn hn' hw ha h4 h8

/-- One word over SPI is a write to its buffer word by the SPI host. -/
theorem exec_spiWrite_buf : exec (.spiWrite a data) s = .next (mbxBufWrite 0x02 n w (word (bytesNat (data.take 4))) s) := by
  have hword := spiWriteOp_word (a := a.toNat) hp (by omega) (by omega) h4 h8
  rw [ha, mbxRegWrite_buf _ _ (by omega) hw] at hword
  exact congrArg _ hword

theorem spiWrite_done (hb : s.bound 0x02 n false = true) (hc : s.chan n = 0) : Completes (.spiWrite a data) s fun t =>
    t.reg (R.MBX_BUF n w) = word (bytesNat (data.take 4)) ∧ ∀ b, b ≠ R.MBX_BUF n w → t.reg b = s.reg b := by
  refine ⟨_, exec_spiWrite_buf hp hn hn' hw ha h4 h8, ?_⟩
  rw [mbxBufWrite_done hb hc]
  exact ⟨reg_setReg_same _ _ _, fun b hne => reg_setReg_other _ _ hne.symm⟩

theorem spiWrite_unbound (hb : s.bound 0x02 n false = false) : Completes (.spiWrite a data) s fun t =>
    t.get (F.MBX_STAT_BINDERR n) = 1 ∧ t.reg (R.MBX_BUF n w) = s.reg (R.MBX_BUF n w) := by
  refine ⟨_, exec_spiWrite_buf hp hn hn' hw ha h4 h8, ?_⟩
  rw [mbxBufWrite_unbound hb]
  exact ⟨get_put _ _ _ (Nat.le_refl 5) (by decide : 5 < 32), reg_buf_put_stat _ rfl hw _⟩

theorem spiWrite_outOfPlace (hb : s.bound 0x02 n false = true) (hc : s.chan n ≠ 0) :
    Completes (.spiWrite a data) s fun t =>
      t.get (F.MBX_STAT_SEQERR n) = 1 ∧ t.reg (R.MBX_BUF n w) = s.reg (R.MBX_BUF n w) := by
  refine ⟨_, exec_spiWrite_buf hp hn hn' hw ha h4 h8, ?_⟩
  rw [mbxBufWrite_outOfPlace hb hc]
  exact ⟨get_put _ _ _ (Nat.le_refl 4) (by decide : 4 < 32), reg_buf_put_stat _ rfl hw _⟩

end

/-! ### Reads -/

/-- Outside MB4 to MB7 and the global registers the SPI host reads zero. -/
theorem spiWord_outside {off : Nat} (h : off < 0x1000 ∨ 0x10000 ≤ off) : s.spiWord off = 0 := by
  unfold State.spiWord
  rw [if_neg (by omega)]

theorem spiWord_buf {n w : Nat} (hn : 4 ≤ n) (hn' : n ≤ 7) (hw : w < 64) :
    s.spiWord (0x400 * n + 4 * w) = s.reg (R.MBX_BUF n w) := by
  unfold State.spiWord State.mbxRead R.MBX_POSTED R.MBX_ACKED R.MBX_BUF
  rw [if_pos (by omega), if_neg (by omega), if_neg (by omega), Nat.add_assoc]

theorem spiRead_asleep {a : BitVec 24} {n : Nat} (h : s.asleep = true) : exec (.spiRead a n) s = .next s := by
  have hop : spiReadOp a.toNat n s = s := by unfold spiReadOp; rw [if_pos h]
  exact congrArg _ hop

/-- A read keeps the words it returns and changes nothing else. -/
theorem exec_spiRead {a : BitVec 24} {n : Nat} (h : s.asleep = false) : exec (.spiRead a n) s = .next { s with mbx :=
    { s.mbx with spiOut := (List.range n).map fun i => s.spiWord (a.toNat / 4 * 4 + 4 * i) } } := by
  have hop : spiReadOp a.toNat n s = { s with mbx :=
      { s.mbx with spiOut := (List.range n).map fun i => s.spiWord (a.toNat / 4 * 4 + 4 * i) } } := by
    unfold spiReadOp
    rw [h, if_neg (by decide)]
  exact congrArg _ hop

theorem spiRead_completes {a : BitVec 24} {n : Nat} (h : s.asleep = false) : Completes (.spiRead a n) s fun t =>
    t.regs = s.regs ∧ t.mbx.spiOut.length = n
    ∧ (∀ i, i < n → (a.toNat / 4 * 4 + 4 * i < 0x1000 ∨ 0x10000 ≤ a.toNat / 4 * 4 + 4 * i) → t.mbx.spiOut.getD i 1 = 0)
    ∧ (∀ (c : Nat) (w : Nat), 4 ≤ c → c ≤ 7 → w < 64 → a.toNat / 4 * 4 = 0x400 * c + 4 * w → 0 < n →
        t.mbx.spiOut.getD 0 0 = s.reg (R.MBX_BUF c w)) := by
  refine ⟨_, exec_spiRead h, rfl, by simp, fun i hi hout => ?_, fun c w hc hc' hw ha hn => ?_⟩
  · simp [hi, spiWord_outside hout]
  · simp [hn, ha, spiWord_buf hc hc' hw]

end

/-- Settles O56: each write is the one its address names, with the block's own effect. -/
theorem busWrites : Obligations.BusWrites := by
  unfold Obligations.BusWrites
  refine ⟨fun s m a v => ⟨registerWrite_ignored, fun hm h6 hmbx => ?_, fun hr hp => ⟨registerWrite_undecoded hr hp,
    registerWrite_bankOn hr hp, registerWrite_bankOff hr hp, registerWrite_secure hr hp, registerWrite_gpen hr hp,
    fun e => registerWrite_route hr hp, registerWrite_ivec hr hp, registerWrite_sysId hr hp⟩⟩,
    fun s => ⟨fun a data => spiWrite_ignored, fun a data n w hp hn hn' hw ha h4 h8 =>
      ⟨spiWrite_done hp hn hn' hw ha h4 h8, spiWrite_unbound hp hn hn' hw ha h4 h8,
        spiWrite_outOfPlace hp hn hn' hw ha h4 h8⟩, fun a n => ⟨spiRead_asleep, spiRead_completes⟩⟩⟩
  subst hm
  exact registerWrite_ignored (.inl (reaches_pcie h6 hmbx))

end Sys2Proof.Scope
end

section
/-! SUPPORT. Words of memory that a master reads and writes one after another (R394, R400, R404). -/

namespace Sys2Proof.Scope
open Sys2Proof.Machine Sys2Proof.Laws

theorem clampNat_eq {lo hi : Nat} (h : lo ≤ hi) (v : Nat) : clampNat lo hi v = max lo (min hi v) := by
  unfold clampNat
  split
  · omega
  · split <;> omega

/-- The number a word's bytes hold is the word. -/
theorem word_wordBytes (v : Word) : word (bytesNat (wordBytes v)) = v := by
  have hv := v.isLt
  apply BitVec.eq_of_toNat_eq
  simp only [word, wordBytes, bytesNat, BitVec.toNat_ofNat, BitVec.extractLsb'_toNat, Nat.shiftRight_eq_div_pow]
  omega

/-- The words of a command's payload from word 4 on. -/
theorem getElem_payload {c : Cmd} {n i : Nat} (hi : i < ((c.words.drop 3).take n).length) :
    ((c.words.drop 3).take n)[i] = cw c (4 + i) := by
  have hlen : 3 + i < c.words.length := by rw [List.length_take, List.length_drop] at hi; omega
  rw [List.getElem_take, List.getElem_drop, cw, show 4 + i - 1 = 3 + i by omega]
  simp [hlen]

section
variable {s t : State}

theorem byte_of_mem (h : t.mem = s.mem) (b : Nat) : t.byte b = s.byte b := by
  rw [State.byte, h, State.byte]

theorem memWord_of_mem (h : t.mem = s.mem) (a : Nat) : t.memWord a = s.memWord a := by
  simp only [State.memWord, State.bytes, byte_of_mem h]

/-- A word read where it was written is the word written. -/
theorem memWord_of_mem_write {a : Nat} {v : Word} (h : t.mem = memWrite s.mem a (wordBytes v)) : t.memWord a = v := by
  have hbytes : t.bytes a 4 = wordBytes v := bytes_of_mem_write h
  rw [State.memWord, hbytes, word_wordBytes]

/-- A word whose bytes are as they were is as it was. -/
theorem memWord_of_bytes {a : Nat} (h : ∀ i, i < 4 → t.byte (a + i) = s.byte (a + i)) : t.memWord a = s.memWord a := by
  have hbytes : t.bytes a 4 = s.bytes a 4 := List.map_congr_left fun i hi => h i (List.mem_range.1 hi)
  rw [State.memWord, hbytes, State.memWord]

end

/-! ### Banks under an access -/

section
variable {s : State} {a x : Nat}

/-- Addresses of one bank find it in one state. -/
theorem bankState_same_bank (ha : a < 0xE000000) (h : x / 0x1000000 = a / 0x1000000) : s.bankState x = s.bankState a := by
  rw [bankState_of_bank s (show x < 0xE000000 by omega), bankState_of_bank s ha, h]

/-- An access to one bank leaves the state of the others. -/
theorem get_touch_other_bank (hx : x < 14) (h : x ≠ a / 0x1000000) :
    (s.touch a).get (bankSt x) = s.get (bankSt x) := by
  have hev (u : State) (n : Nat) : (u.put ⟨R.MEM_BANKEV, n, n⟩ 1).get (bankSt x) = u.get (bankSt x) := by
    rw [State.get, State.get, reg_put_other _ _ _ (show R.MEM_BANKEV ≠ R.MEM_BANKSTAT by decide)]
  unfold State.touch
  dsimp only
  split
  · rw [hev]
    exact get_put_other s (bankSt (a / 0x1000000)) _ _ (by simp [bankSt]) (by simp [bankSt])
      (by simp only [bankSt]; omega) (.inr (by simp only [bankSt]; omega))
  · exact hev s _
  · rfl

/-- No access takes a bank off. -/
theorem bankState_touch_ne_off_of_bank (ha : a < 0xE000000) (hx : s.bankState x ≠ 2) : (s.touch a).bankState x ≠ 2 := by
  by_cases hlt : x < 0xE000000
  · by_cases h : x / 0x1000000 = a / 0x1000000
    · rw [bankState_same_bank ha h] at hx ⊢
      exact bankState_touch_ne_off s a hx
    · rwa [bankState_of_bank _ hlt, get_touch_other_bank (by omega) h, ← bankState_of_bank s hlt]
  · unfold State.bankState
    rw [if_neg hlt]
    decide

theorem setBytes_regs (s : State) (a : Nat) (vs : List Byte) : (s.setBytes a vs).regs = (s.touch a).regs := by
  unfold State.setBytes
  dsimp only
  split <;> rfl

theorem bankState_setBytes_ne_off {vs : List Byte} (ha : a < 0xE000000) (hx : s.bankState x ≠ 2) :
    (s.setBytes a vs).bankState x ≠ 2 := by
  have hsame : (s.setBytes a vs).bankState x = (s.touch a).bankState x := by
    unfold State.bankState State.get State.reg
    rw [setBytes_regs]
  rw [hsame]
  exact bankState_touch_ne_off_of_bank ha hx

/-- Bytes a master stores in a bank are stored, whatever master it is. -/
theorem memPut_bank {m : Nat} {vs : List Byte} (h : a < 0xE000000) : memPut m a vs s = s.setBytes a vs := by
  have himem : s.imemBusy a = false := by
    unfold State.imemBusy
    rw [decide_eq_false (by omega), Bool.false_and]
  unfold memPut
  rw [himem, memStore_bank h]
  rfl

theorem isReg_bank (h : a < 0x40000000) : isReg a = false := decide_eq_false (by omega)

end

/-! ### Words written -/

/-- Whole words in banks of which none is off. -/
structure WordsOn (s : State) (a n : Nat) : Prop where
  aligned : a % 4 = 0
  banks : a + 4 * n ≤ 0xE000000
  notOff : ∀ i, i < n → s.bankState (a + 4 * i) ≠ 2

theorem writeWords_cons (m : Master) (a : Nat) (v : Word) (vs : List Word) (s : State) :
    writeWords m a (v :: vs) s = writeWords m (a + 4) vs (wordWrite m a v s) := by
  unfold writeWords State.each
  rw [List.zipIdx_cons, List.foldl_cons, List.zipIdx_succ, List.foldl_map]
  simp only [Nat.mul_zero, Nat.add_zero, Nat.mul_add, Nat.mul_one, Nat.add_assoc, Nat.add_comm 4]

section
variable {s : State} {m : Master} {a n : Nat} {v : Word}

theorem wordWrite_bank (h : WordsOn s a (n + 1)) : wordWrite m a v s = s.setBytes a (wordBytes v) := by
  obtain ⟨h4, hlt, -⟩ := h
  have ha : a / 4 * 4 = a := by omega
  unfold wordWrite
  rw [isReg_bank (by omega), ha, memPut_bank (by omega)]
  rfl

theorem wordWrite_mem (h : WordsOn s a (n + 1)) : (wordWrite m a v s).mem = memWrite s.mem a (wordBytes v) := by
  rw [wordWrite_bank h, setBytes_mem s a _ (h.notOff 0 n.succ_pos)]

/-- After the first word the rest can be written too. -/
theorem WordsOn.tail (h : WordsOn s a (n + 1)) : WordsOn (wordWrite m a v s) (a + 4) n := by
  rw [wordWrite_bank h]
  obtain ⟨h4, hlt, hoff⟩ := h
  refine ⟨by omega, by omega, fun i hi => bankState_setBytes_ne_off (by omega) ?_⟩
  rw [show a + 4 + 4 * i = a + 4 * (i + 1) by omega]
  exact hoff (i + 1) (by omega)

/-- Words written leave every byte outside their range. -/
theorem byte_writeWords_outside {vs : List Word} {b : Nat} (h : WordsOn s a vs.length)
    (hb : b < a ∨ a + 4 * vs.length ≤ b) : (writeWords m a vs s).byte b = s.byte b := by
  induction vs generalizing s a with
  | nil => rfl
  | cons v vs ih =>
    rw [List.length_cons] at h hb
    rw [writeWords_cons, ih h.tail (by omega)]
    exact byte_of_mem_write (wordWrite_mem h) (by change b < a ∨ a + 4 ≤ b; omega)

/-- Each word written reads as written. -/
theorem memWord_writeWords {vs : List Word} (h : WordsOn s a vs.length) {i : Nat} (hi : i < vs.length) :
    (writeWords m a vs s).memWord (a + 4 * i) = vs[i] := by
  induction vs generalizing s a i with
  | nil => cases hi
  | cons v vs ih =>
    rw [List.length_cons] at h hi
    rw [writeWords_cons]
    cases i with
    | zero =>
      have hkept : (writeWords m (a + 4) vs (wordWrite m a v s)).memWord a = (wordWrite m a v s).memWord a :=
        memWord_of_bytes fun j hj => byte_writeWords_outside h.tail (by omega)
      exact hkept.trans (memWord_of_mem_write (wordWrite_mem h))
    | succ i =>
      rw [show a + 4 * (i + 1) = a + 4 + 4 * i by omega]
      exact ih h.tail (Nat.lt_of_succ_lt_succ hi)

end

/-! ### Words read -/

/-- Whole words in banks, none in the sample buffers of the stage jobs and none poisoned. -/
structure WordsPlain (s : State) (a n : Nat) : Prop where
  aligned : a % 4 = 0
  outside : a + 4 * n ≤ 0x600000 ∨ (0x800000 ≤ a ∧ a + 4 * n ≤ 0xE000000)
  clean : ∀ w ∈ s.memx.poison, w + 8 ≤ a ∨ a + 4 * n ≤ w

/-- A read changes neither memory nor what is poisoned. -/
theorem wordRead_agree_parts (m : Master) (a : Nat) (s : State) :
    Agree (fun p => p == .regs || p == .time || p == .disp || p == .ev || p == .free) s (wordRead m a s).1 := by
  apply wordRead_agree m a s Agree.refl <;> rfl

theorem readWords_mem (m : Master) (a n : Nat) (s : State) : (readWords m a n s).1.mem = s.mem := by
  have h : Agree (fun p => p == .regs || p == .time || p == .disp || p == .ev || p == .free) s (readWords m a n s).1 := by
    apply readWords_agree m a n s Agree.refl <;> rfl
  exact h.same .mem rfl

theorem readWords_length (m : Master) (a n : Nat) (s : State) : (readWords m a n s).2.length = n := by
  induction n generalizing a s with
  | zero => rfl
  | succ n ih => rw [readWords, List.length_cons, ih]

section
variable {s : State} {a n : Nat}

/-- Outside the sample buffers a master finds the bytes as they stand. -/
theorem found_eq_bytes (h : a + n ≤ 0x600000 ∨ 0x800000 ≤ a) : s.found a n = s.bytes a n := by
  refine List.map_congr_left fun i hi => ?_
  have hin : i < n := List.mem_range.1 hi
  have hbuf : inBuffers (a + i) = false := decide_eq_false (by omega)
  rw [hbuf]
  rfl

theorem memLoad_bank {x : Nat} (h : a < 0xE000000) : memLoad x a n s = ((s.touch a).foundAt a n, s.found a n) := by
  have hb : inBks a = false := decide_eq_false (by omega)
  unfold memLoad
  rw [hb]
  rfl

theorem wordRead_plain {m : Master} (h : WordsPlain s a (n + 1)) : (wordRead m a s).2 = s.memWord a := by
  obtain ⟨h4, hout, hclean⟩ := h
  have ha : a / 4 * 4 = a := by omega
  have hpoison : s.memx.poison.contains (a / 8 * 8) = false := by
    refine Bool.eq_false_iff.2 fun hmem => ?_
    have := hclean _ (List.contains_iff_mem.1 hmem)
    omega
  unfold wordRead
  rw [isReg_bank (by omega), hpoison, ha, memLoad_bank (by omega)]
  change word (bytesNat (s.found a 4)) = _
  rw [found_eq_bytes (by omega), State.memWord]

theorem WordsPlain.tail {m : Master} (h : WordsPlain s a (n + 1)) : WordsPlain (wordRead m a s).1 (a + 4) n := by
  obtain ⟨h4, hout, hclean⟩ := h
  refine ⟨by omega, by omega, fun w hw => ?_⟩
  rw [show (wordRead m a s).1.memx = s.memx from (wordRead_agree_parts m a s).same .memx rfl] at hw
  have := hclean w hw
  omega

theorem readWords_plain {m : Master} (h : WordsPlain s a n) :
    (readWords m a n s).2 = (List.range n).map fun i => s.memWord (a + 4 * i) := by
  induction n generalizing s a with
  | zero => rfl
  | succ n ih =>
    rw [readWords, ih h.tail, wordRead_plain h, List.range_succ_eq_map, List.map_cons, List.map_map]
    refine congrArg (s.memWord a :: ·) (List.map_congr_left fun i _ => ?_)
    rw [memWord_of_mem ((wordRead_agree_parts m a s).same .mem rfl), show a + 4 + 4 * i = a + 4 * (i + 1) by omega]
    rfl

/-- Every word of the banks is decoded. -/
theorem wordsDecoded_of_banks (h : a + 4 * n ≤ 0xE000000) : s.wordsDecoded a n = true :=
  List.all_eq_true.2 fun i hi => decoded_of_mem (by have := List.mem_range.1 hi; omega)

end

end Sys2Proof.Scope
end

section
/-! SUPPORT. PEEK and POKE (R351, R357, R394, R467): what each does and answers. -/

namespace Sys2Proof.Scope
open Sys2Proof.Machine Sys2Proof.Laws

/-! ### What the acknowledgement leaves of memory -/

section
variable (c : Cmd) (code : Nat) (s : State)

@[simp] theorem accepted_memx : (accepted c code s).memx = s.memx := (accepted_agree c code s).same .memx rfl
@[simp] theorem accepted_tnd : (accepted c code s).tnd = s.tnd := (accepted_agree c code s).same .tnd rfl

@[simp] theorem accepted_wordsDecoded (a n : Nat) : (accepted c code s).wordsDecoded a n = s.wordsDecoded a n := by
  simp only [State.wordsDecoded, State.decoded, accepted_ddrBytes]

@[simp] theorem accepted_bankState (a : Nat) : (accepted c code s).bankState a = s.bankState a := by
  unfold State.bankState
  rw [get_accepted _ _ _ _ (.inr (.inr (by decide : 0x40040000 ≤ R.MEM_BANKSTAT)))]

/-- The acknowledgement leaves whether the chip is one of a pair, and its link. -/
theorem accepted_tndOn : (accepted c code s).on F.TND_CTL_EN = s.on F.TND_CTL_EN := by
  unfold State.on
  rw [get_accepted _ _ _ _ (by unfold quiet; decide)]

theorem accepted_tndLanes : (accepted c code s).get F.TND_LINK_LANES = s.get F.TND_LINK_LANES :=
  get_accepted _ _ _ _ (by unfold quiet; decide)

theorem pkAddr_aligned : pkAddr c % 4 = 0 := Nat.mul_mod_left _ 4

end

variable {s : State} {c : Cmd} {n : Nat}

/-- A command that only answers a code leaves memory. -/
theorem completes_answer_mem {i : Instr} {body : Cmd → State → State × Rep} {code minL rc : Nat} {x : Bool}
    (hi : exec i s = .next (silwen code minL x body c s)) (ht : s.takes c code minL x = true)
    (hb : body c (accepted c code s) = (accepted c code s, .rc rc)) :
    Completes i s fun t => t.answered c code rc 0 [] ∧ t.mem = s.mem :=
  completes_reply hi ht hb fun _ hu ha => ⟨ha, (hu.same .mem rfl).trans (accepted_mem c code s)⟩

/-! ### PEEK -/

section
variable (hn : n = max 1 (min 60 (cw c 3).toNat))
include hn

theorem peekBody_refused (h : s.wordsDecoded (pkAddr c) n = false) : peekBody c s = (s, .rc rcRefused) := by
  unfold peekBody
  dsimp only
  rw [clampNat_eq (by decide), ← hn, h]
  rfl

theorem peekBody_done (h : s.wordsDecoded (pkAddr c) n = true) : peekBody c s
    = ((readWords (ccOf c.sender) (pkAddr c) n s).1, .ok (readWords (ccOf c.sender) (pkAddr c) n s).2) := by
  unfold peekBody
  dsimp only
  rw [clampNat_eq (by decide), ← hn, h]
  rfl

variable (ht : s.takes c 0x0F00 3 true = true)
include ht

theorem peek_refused (h : s.wordsDecoded (pkAddr c) n = false) : Completes (.peek c) s fun t =>
    t.answered c 0x0F00 rcRefused 0 [] ∧ t.mem = s.mem :=
  completes_answer_mem rfl ht (peekBody_refused hn (by simpa))

/-- PEEK answers the words read in the acknowledged state, and leaves memory. -/
theorem peek_reads (h : s.wordsDecoded (pkAddr c) n = true) : Completes (.peek c) s fun t => t.mem = s.mem
    ∧ t.answered c 0x0F00 rcDone 0 (readWords (ccOf c.sender) (pkAddr c) n (accepted c 0x0F00 s)).2 :=
  completes_reply rfl ht (peekBody_done hn (by simpa)) fun _ hu ha =>
    ⟨(hu.same .mem rfl).trans ((readWords_mem _ _ _ _).trans (accepted_mem c _ s)), ha⟩

theorem peek_done (h : s.wordsDecoded (pkAddr c) n = true) : Completes (.peek c) s fun t => t.mem = s.mem
    ∧ ∃ ws : List Word, ws.length = n ∧ t.answered c 0x0F00 rcDone 0 ws := by
  obtain ⟨t, hexec, hmem, ha⟩ := peek_reads hn ht h
  exact ⟨t, hexec, hmem, _, readWords_length _ _ _ _, ha⟩

theorem peek_plain (hout : pkAddr c + 4 * n ≤ 0x600000 ∨ (0x800000 ≤ pkAddr c ∧ pkAddr c + 4 * n ≤ 0xE000000))
    (hclean : ∀ w ∈ s.memx.poison, w + 8 ≤ pkAddr c ∨ pkAddr c + 4 * n ≤ w) : Completes (.peek c) s fun t =>
      t.mem = s.mem ∧ t.answered c 0x0F00 rcDone 0 ((List.range n).map fun i => s.memWord (pkAddr c + 4 * i)) := by
  have hplain : WordsPlain (accepted c 0x0F00 s) (pkAddr c) n := ⟨pkAddr_aligned c, hout, by simpa⟩
  have hwords : (readWords (ccOf c.sender) (pkAddr c) n (accepted c 0x0F00 s)).2
      = (List.range n).map fun i => s.memWord (pkAddr c + 4 * i) := by
    simp only [readWords_plain hplain, State.memWord, accepted_bytes]
  rw [← hwords]
  exact peek_reads hn ht (wordsDecoded_of_banks (by omega))

end

/-! ### POKE -/

section
variable (hn : n = max 1 (min 59 (cw c 3).toNat))
include hn

theorem pokeBody_malformed (h : c.words.length < 3 + n) : pokeBody c s = (s, .rc rcMalformed) := by
  unfold pokeBody
  dsimp only
  rw [clampNat_eq (by decide), ← hn, if_pos h]

theorem pokeBody_refused (hl : 3 + n ≤ c.words.length) (h : s.wordsDecoded (pkAddr c) n = false) :
    pokeBody c s = (s, .rc rcRefused) := by
  unfold pokeBody
  dsimp only
  rw [clampNat_eq (by decide), ← hn, if_neg (by omega), h]
  rfl

/-- In a linked pair a POKE is held for the next round-start Stile. -/
theorem pokeBody_pair (hl : 3 + n ≤ c.words.length) (h : s.wordsDecoded (pkAddr c) n = true)
    (hen : s.on F.TND_CTL_EN = true) (hlanes : s.get F.TND_LINK_LANES ≠ 0) : pokeBody c s
      = (s.modTnd fun t => { t with pokes := t.pokes ++ [(pkAddr c, (c.words.drop 3).take n)] }, .rc rcDone) := by
  unfold pokeBody
  dsimp only
  rw [clampNat_eq (by decide), ← hn, if_neg (by omega), h, if_neg (by decide), hen, if_pos (by simpa using hlanes)]

theorem pokeBody_alone (hl : 3 + n ≤ c.words.length) (h : s.wordsDecoded (pkAddr c) n = true)
    (hen : s.on F.TND_CTL_EN = false) : pokeBody c s
      = (writeWords (ccOf c.sender) (pkAddr c) ((c.words.drop 3).take n) s, .rc rcDone) := by
  unfold pokeBody
  dsimp only
  rw [clampNat_eq (by decide), ← hn, if_neg (by omega), h, if_neg (by decide), hen, Bool.false_and, if_neg (by decide)]

variable (ht : s.takes c 0x0F01 3 true = true)
include ht

theorem poke_malformed (h : c.words.length < 3 + n) : Completes (.poke c) s fun t =>
    t.answered c 0x0F01 rcMalformed 0 [] ∧ t.mem = s.mem :=
  completes_answer_mem rfl ht (pokeBody_malformed hn h)

variable (hl : 3 + n ≤ c.words.length)
include hl

theorem poke_refused (h : s.wordsDecoded (pkAddr c) n = false) : Completes (.poke c) s fun t =>
    t.answered c 0x0F01 rcRefused 0 [] ∧ t.mem = s.mem :=
  completes_answer_mem rfl ht (pokeBody_refused hn hl (by simpa))

theorem poke_pair (h : s.wordsDecoded (pkAddr c) n = true) (hen : s.on F.TND_CTL_EN = true)
    (hlanes : s.get F.TND_LINK_LANES ≠ 0) : Completes (.poke c) s fun t =>
      t.tnd.pokes = s.tnd.pokes ++ [(pkAddr c, (c.words.drop 3).take n)] ∧ t.mem = s.mem ∧ t.repliedDone c 0x0F01 := by
  have hb := pokeBody_pair (s := accepted c 0x0F01 s) hn hl (by simpa) ((accepted_tndOn c _ s).trans hen)
    (by rwa [accepted_tndLanes])
  refine completes_reply rfl ht hb fun u hu ha => ⟨?_, (hu.same .mem rfl).trans (accepted_mem c _ s), ha⟩
  rw [show u.tnd = _ from hu.same .tnd rfl]
  simp

theorem poke_alone (hbanks : pkAddr c + 4 * n ≤ 0xE000000) (hen : s.on F.TND_CTL_EN = false)
    (hoff : ∀ i, i < n → s.bankState (pkAddr c + 4 * i) ≠ 2) : Completes (.poke c) s fun t =>
      (∀ i, i < n → t.memWord (pkAddr c + 4 * i) = cw c (4 + i))
      ∧ (∀ b, b < pkAddr c ∨ pkAddr c + 4 * n ≤ b → t.byte b = s.byte b) ∧ t.repliedDone c 0x0F01 := by
  have hlen : ((c.words.drop 3).take n).length = n := by rw [List.length_take, List.length_drop]; omega
  have hon : WordsOn (accepted c 0x0F01 s) (pkAddr c) ((c.words.drop 3).take n).length := by
    rw [hlen]
    exact ⟨pkAddr_aligned c, hbanks, by simpa⟩
  have hb := pokeBody_alone (s := accepted c 0x0F01 s) hn hl (wordsDecoded_of_banks hbanks)
    ((accepted_tndOn c _ s).trans hen)
  refine completes_reply rfl ht hb fun u hu ha => ⟨fun i hi => ?_, fun b hout => ?_, ha⟩
  · have hi' : i < ((c.words.drop 3).take n).length := by omega
    rw [memWord_of_mem (hu.same .mem rfl), memWord_writeWords hon hi', getElem_payload hi']
  · rw [byte_of_mem (hu.same .mem rfl), byte_writeWords_outside hon (by rwa [hlen]), byte_of_mem (accepted_mem c _ s)]

end

end Sys2Proof.Scope
end

section
/-! SUPPORT. DMA (R394, R404): what a channel does with a descriptor, and PEEK, POKE and DMA as a whole. -/

namespace Sys2Proof.Scope
open Sys2Proof.Machine Sys2Proof.Laws

/-- A channel stopped with an error. -/
def dmaStopped (ch : Nat) (s : State) : State := s.modMem fun x => { x with dmaErr := x.dmaErr ++ [ch] }

theorem get_dmaStopped (ch : Nat) (s : State) (f : FieldRef) : (dmaStopped ch s).get f = s.get f := rfl

/-- The first poisoned read since the log was cleared stands in it. -/
theorem poisonLog_valid (m a : Nat) (s : State) : (poisonLog m a s).get F.MEM_ECCLOG0_VALID = 1 := by
  unfold poisonLog
  rw [get_raise _ (by decide) (by unfold quiet; decide)]
  unfold State.when
  split
  · rw [get_put_other _ _ _ _ (by decide) (by decide) (by decide) (.inl (by decide)),
      get_setReg_other _ _ _ (by decide),
      get_put_other _ _ _ _ (by decide) (by decide) (by decide) (.inr (.inr (by decide))),
      get_put _ _ _ (by decide) (by decide)]
    rfl
  · rename_i hv
    exact get_bit_of_on rfl (by simpa using hv)

section
variable {s : State} {a n : Nat}

theorem firstPoison_none (h : ∀ w ∈ s.memx.poison, w + 8 ≤ a ∨ a + n ≤ w) : s.firstPoison a n = none := by
  have hnil : (s.memx.poison.filter fun w => decide (a < w + 8 ∧ w < a + n)) = [] := by
    rw [List.filter_eq_nil_iff]
    intro w hw
    have := h w hw
    simp only [decide_eq_true_eq]
    omega
  unfold State.firstPoison
  rw [hnil]
  rfl

theorem decodedRange_of_banks (h : a + n ≤ 0xE000000) (hn : 0 < n) : s.decodedRange a n = true := by
  unfold State.decodedRange
  rw [decoded_of_mem (show a < 0xE040000 by omega), decoded_of_mem (show a + n - 1 < 0xE040000 by omega),
    decide_eq_true (show a + n ≤ 0xE040000 by omega)]
  simp

/-- What a master's load leaves: registers of the bank reached, free values taken. -/
theorem load_agree (s : State) (a n : Nat) : Agree (fun p => p == .regs || p == .free) s ((s.touch a).foundAt a n) := by
  apply foundAt_agree _ _ _ (touch_agree s a Agree.refl rfl)
  rfl

theorem bankState_load_ne_off {x : Nat} (ha : a < 0xE000000) (hx : s.bankState x ≠ 2) :
    ((s.touch a).foundAt a n).bankState x ≠ 2 := by
  have hsame : ((s.touch a).foundAt a n).bankState x = (s.touch a).bankState x := by
    unfold State.foundAt
    split <;> rfl
  rw [hsame]
  exact bankState_touch_ne_off_of_bank ha hx

theorem setBytes_dmaErr (s : State) (a : Nat) (vs : List Byte) : (s.setBytes a vs).memx.dmaErr = s.memx.dmaErr := by
  have htouch : (s.touch a).memx = s.memx := (touch_agree_regs s a).same .memx rfl
  unfold State.setBytes
  dsimp only
  split
  · rw [htouch]
  · change (s.touch a).memx.dmaErr = _
    rw [htouch]

end

section
variable {s : State} {ch : Fin 4} {d : DmaDesc}

theorem exec_dmaDescriptor {t : State} (h : dmaOp ch d s = t) : exec (.dmaDescriptor ch d) s = .next t := congrArg _ h

theorem mem_dmaStopped (u : State) : ch.val ∈ (dmaStopped ch u).memx.dmaErr :=
  List.mem_append_right _ List.mem_cons_self

theorem dmaDescriptor_idle (h : ch.val ∈ s.memx.dmaErr ∨ s.readerRuns = false) :
    exec (.dmaDescriptor ch d) s = .next s := by
  have hop : dmaOp ch d s = s := by
    unfold dmaOp
    dsimp only
    rw [if_pos (by simpa using h)]
  exact exec_dmaDescriptor hop

variable (he : ch.val ∉ s.memx.dmaErr) (hr : s.readerRuns = true)
include he hr

theorem dmaOp_undecoded (h : s.decodedRange d.src.toNat d.len = false ∨ s.decodedRange d.dst.toNat d.len = false) :
    dmaOp ch d s = dmaStopped ch s := by
  unfold dmaOp
  dsimp only
  rw [if_neg (by simp [he, hr]), if_pos (by simpa using h)]
  rfl

theorem dmaDescriptor_undecoded
    (h : s.decodedRange d.src.toNat d.len = false ∨ s.decodedRange d.dst.toNat d.len = false) :
    Completes (.dmaDescriptor ch d) s fun t => ch.val ∈ t.memx.dmaErr ∧ t.mem = s.mem ∧ t.regs = s.regs :=
  ⟨_, exec_dmaDescriptor (dmaOp_undecoded he hr h), mem_dmaStopped _, rfl, rfl⟩

/-- Without poison the bytes found at the source are stored at the destination. -/
theorem dmaOp_moves (hs : d.src.toNat + d.len ≤ 0xE000000) (hd : d.dst.toNat + d.len ≤ 0xE000000) (hl : 0 < d.len)
    (hclean : ∀ w ∈ s.memx.poison, w + 8 ≤ d.src.toNat ∨ d.src.toNat + d.len ≤ w) :
    dmaOp ch d s = ((s.touch d.src.toNat).foundAt d.src.toNat d.len).setBytes d.dst.toNat (s.found d.src.toNat d.len) := by
  unfold dmaOp
  dsimp only
  rw [if_neg (by simp [he, hr]), decodedRange_of_banks hs hl, decodedRange_of_banks hd hl,
    isReg_bank (show d.src.toNat < 0x40000000 by omega), isReg_bank (show d.dst.toNat < 0x40000000 by omega),
    memLoad_bank (show d.src.toNat < 0xE000000 by omega)]
  simp only [Bool.not_true, Bool.or_self, Bool.false_eq_true, if_false, firstPoison_none hclean,
    memPut_bank (show d.dst.toNat < 0xE000000 by omega)]

theorem dmaDescriptor_moves (hs : d.src.toNat + d.len ≤ 0xE000000) (hd : d.dst.toNat + d.len ≤ 0xE000000) (hl : 0 < d.len)
    (hclean : ∀ w ∈ s.memx.poison, w + 8 ≤ d.src.toNat ∨ d.src.toNat + d.len ≤ w) (hoff : s.bankState d.dst.toNat ≠ 2) :
    Completes (.dmaDescriptor ch d) s fun t =>
      (d.src.toNat + d.len ≤ 0x600000 ∨ 0x800000 ≤ d.src.toNat →
        ∀ i, i < d.len → t.byte (d.dst.toNat + i) = s.byte (d.src.toNat + i))
      ∧ (∀ b, b < d.dst.toNat ∨ d.dst.toNat + d.len ≤ b → t.byte b = s.byte b) ∧ t.memx.dmaErr = s.memx.dmaErr := by
  have hload := load_agree s d.src.toNat d.len
  have hlen : (s.found d.src.toNat d.len).length = d.len := by simp [State.found]
  have hmem := (setBytes_mem _ d.dst.toNat (s.found d.src.toNat d.len)
    (bankState_load_ne_off (n := d.len) (a := d.src.toNat) (by omega) hoff)).trans
      (congrArg (memWrite · d.dst.toNat _) (hload.same .mem rfl))
  refine ⟨_, exec_dmaDescriptor (dmaOp_moves he hr hs hd hl hclean), fun hplain i hi => ?_, fun b hb => ?_, ?_⟩
  · rw [State.byte, hmem, read_memWrite_inside _ _ _ _ (by omega), found_eq_bytes hplain]
    simp [State.bytes, hi]
  · exact byte_of_mem_write hmem (by omega)
  · rw [setBytes_dmaErr]
    exact congrArg MemSt.dmaErr (hload.same .memx rfl)

/-- At the first poisoned word the channel logs it and stops. -/
theorem dmaOp_poisoned {w : Nat} (hw : s.firstPoison d.src.toNat d.len = some w)
    (hs : s.decodedRange d.src.toNat d.len = true) (hd : s.decodedRange d.dst.toNat d.len = true)
    (hsrc : d.src.toNat < 0x40000000) :
    ∃ u, dmaOp ch d s = dmaStopped ch (poisonLog (BitVec.ofNat 6 (0x20 + ch)).toNat w u) := by
  unfold dmaOp
  dsimp only
  rw [if_neg (by simp [he, hr]), hs, hd, isReg_bank hsrc]
  simp only [Bool.not_true, Bool.or_self, Bool.false_eq_true, if_false, hw]
  exact ⟨_, rfl⟩

theorem dmaDescriptor_poisoned {w : Nat} (hw : s.firstPoison d.src.toNat d.len = some w)
    (hs : s.decodedRange d.src.toNat d.len = true) (hd : s.decodedRange d.dst.toNat d.len = true)
    (hsrc : d.src.toNat < 0x40000000) : Completes (.dmaDescriptor ch d) s fun t =>
      ch.val ∈ t.memx.dmaErr ∧ t.get F.MEM_ECCLOG0_VALID = 1 := by
  obtain ⟨u, hu⟩ := dmaOp_poisoned he hr hw hs hd hsrc
  exact ⟨_, exec_dmaDescriptor hu, mem_dmaStopped _, (get_dmaStopped _ _ _).trans (poisonLog_valid _ _ _)⟩

end

/-- Settles O57: PEEK and POKE run word by word on the acknowledged state, and a DMA channel moves the bytes it finds
at its source. -/
theorem peekPokeAndDma : Obligations.PeekPokeAndDma := by
  unfold Obligations.PeekPokeAndDma
  exact fun s => ⟨fun c n ht hn => ⟨peek_refused hn ht, peek_done hn ht, peek_plain hn ht⟩,
    fun c n ht hn => ⟨poke_malformed hn ht, poke_refused hn ht, poke_pair hn ht, poke_alone hn ht⟩,
    fun ch d => ⟨dmaDescriptor_idle, fun he hr => ⟨dmaDescriptor_undecoded he hr, dmaDescriptor_moves he hr,
      fun _ hw hs hd hsrc _ => dmaDescriptor_poisoned he hr hw hs hd hsrc⟩⟩⟩

end Sys2Proof.Scope
end
